-- ==== Sys2Proof/Word.lean ====
section
/-! DEFINITION. The plainest types of the model: a byte, a byte string, a device-time tick. -/
namespace Sys2Proof

/-- One byte as it travels on a port or stands in a memory (R9). -/
abbrev Byte := BitVec 8

/-- A byte string, first byte first (R9: multi-byte fields are little-endian within it). -/
abbrev Bytes := List Byte

/-- A device-time tick of 10 ns (R13). -/
abbrev Tick := Nat

end Sys2Proof
end

