-- ==== Sys2Proof/Syntax.lean ====
section
/-! DEFINITION. The commands of the block: one constructor of `Instr` per row of the operation table, with the operands
the row's rule gives it, and the small types those operands use. Every constructor's first operand `t` is the device-time
stamp (R41) of the command. A row of the opcode set (R113) carries its source, its SEQ and its payload bytes. -/
namespace Sys2Proof

/-- The four command sources (R103). -/
inductive Source | host | alcia | app | service
deriving DecidableEq, Repr

/-- The internal rails of R69. -/
inductive Rail | vaon | vpre | vkp | vcore | vap | vio18 | vio33 | vafe | vddq | vtt
deriving DecidableEq, Repr

/-- The memory that does not respond in BOOT (R51, R123 step 3). -/
inductive MemFault | dram | flash
deriving DecidableEq, Repr

/-- What step 3 of BOOT finds (R51, R123): `none` where DRAM and flash respond. -/
abbrev MemFound := Option MemFault

/-- Why a program ended by a fault (R445): a program fault, or an uncorrectable error at an address it owns. -/
inductive ProgramFaultKind | program | uncorrectable
deriving DecidableEq, Repr

/-- Why the 32.768 kHz crystal failed (R71, R435). -/
inductive XtalFailure | notQualified | stopped
deriving DecidableEq, Repr

/-- The PLLs other than PLL A (R80). -/
inductive SidePll | pllB | ddr
deriving DecidableEq, Repr

/-- The wake sources (R83, R435). -/
inductive WakeSource | hcs | safetyInput | al0 | al1 | sref
deriving DecidableEq, Repr

/-- What the main decimators of a stack filter for one sample (R175, R176): per slot of R197 the 3 × OSR_MAIN − 2 captured bits of the window, bit 0
the first of them. -/
structure MainSample where
  u   : Nat
  v   : Nat
  w   : Nat
  idc : Nat
  udc : Nat
  gen : Nat
deriving DecidableEq, Repr

/-- One reconstruction window (R178, R180): the commanded edge that begins the vector with dead time included, the switching state U V W (bit 0 U), how long
the vector lasts in ticks, and the 3 × OSR_REC − 2 captured bits of the three phase inputs and of the DC-link current, bit 0 the first. -/
structure RecSample where
  start : Tick
  vec   : BitVec 3
  lasts : Nat
  u     : Nat
  v     : Nat
  w     : Nat
  idc   : Nat
deriving DecidableEq, Repr

/-- What a calibration period belongs to (R188, R193). -/
inductive CalTarget | stack (s : Fin 4) | axis (n : Fin 4)
deriving DecidableEq, Repr

/-- The SAR converters (R194). -/
inductive SarConverter | a | b
deriving DecidableEq, Repr

/-- The condition under which a stack in SELECT moves (R332, R343). -/
inductive StopChangeCause | backEmf | reverseLink | phaseCurrent | crossings | quiet
deriving DecidableEq, Repr

/-- How an open chopper showed (R327). -/
inductive ChopperOpenCause | notConducting | rising
deriving DecidableEq, Repr

/-- The detected form of an SREF wire break (R223, R229). -/
inductive WireBreakKind | lowLevel | testCurrent | noEdge | periodRange
deriving DecidableEq, Repr

/-- The two supplies of a gate channel (R161). -/
inductive GateRail | vpos | vneg
deriving DecidableEq, Repr

/-- What the booster monitor was expected to show (R150, R173). -/
inductive BoosterExpect | on | off | softOff
deriving DecidableEq, Repr

/-- The kind of a switching transition (R147). -/
inductive SwitchEdge | on | off
deriving DecidableEq, Repr

/-- The carrier counter of a stack crossing a compare value (R203): the phase, the counter in fine steps just after the
crossing, and whether the counter is in its rising half-period. -/
structure PwmEdgeInput where
  phase   : Fin 3
  counter : Nat
  rising  : Bool
deriving DecidableEq, Repr

/-- The internal conversions one thermal evaluation uses (R550): the die sensors D0 to D5 in 0.1 °C, none for a reported sensor fault. -/
structure ThermalInput where
  die : Vector (Option Int) 6
deriving DecidableEq, Repr

/-- What a feedback port's edge logic saw (R234, R235): a qualified edge of A or B with the level it leads to, both in one capture, a quadrant change of
the sin/cos comparators, a level of Z or of the reference mark, or a rejected pulse. Times are in 5 ns. -/
inductive FbEdge
  | edgeA (a : Bool) (t5 : Nat) | edgeB (b : Bool) (t5 : Nat) | edgeBoth (a b : Bool) (t5 : Nat) | quadrant (up : Bool) (t5 : Nat)
  | levelZ (level : Bool) | rejected
deriving DecidableEq, Repr

/-- How a BiSS-C or SSI frame ended (R237): no start bit, or the position word, the further status bits, the bits nE and nW (true = the bit reads 1) and
the CRC received. -/
inductive SerialResult
  | noStart
  | frame (position extra crc : Nat) (nE nW : Bool)
deriving DecidableEq, Repr

/-- The pairs of a feedback port (R56). -/
inductive FbPair | a | b | c
deriving DecidableEq, Repr

/-- The failures of FBnV (R251). -/
inductive FbSupplyCause | undervoltage | currentLimit
deriving DecidableEq, Repr

/-- The switch inputs of an axis (R362). -/
inductive AxisSwitch | home | limP | limN
deriving DecidableEq, Repr

/-- What became of the ROLL frame of an arbitration (R481). -/
inductive RollReturn | partnerSeen | partnerUnseen | timeout
deriving DecidableEq, Repr

/-- A CAN frame on an Alcia port (R495, R500): identifier, whether it has 29 bits, remote, FDF, BRS, data, and the stamp of
its start-of-frame bit (R514). -/
structure CanFrame where
  ident    : Nat
  extended : Bool
  remote   : Bool
  fdf      : Bool
  brs      : Bool
  data     : Bytes
  sof      : Tick
deriving DecidableEq, Repr

/-- An error a port detects (R496, R517 to R519): no acknowledgement (and whether a dominant bit was seen during the passive
error flag), a bit error after arbitration, another transmit error, or a receive error. -/
inductive CanError
  | acknowledgement (dominantSeen : Bool) | bitAfterArbitration | transmit | receive (dominantAfterFlag : Bool)
deriving DecidableEq, Repr

/-- The two switches of a brake output (R385). -/
inductive BrakeSwitch | high | low
deriving DecidableEq, Repr

/-- The kinds of channel discrepancy (R390, R408). -/
inductive DiscrepancyKind | speed | noSpeed | function
deriving DecidableEq, Repr

/-- The causes of a Kingpost position fault (R391). -/
inductive KpPositionCause | signalLoss | edgeRate
deriving DecidableEq, Repr

/-- The engines that run in lock-step (R409). -/
inductive Engine | drivePair | linkPair | field (s : Fin 4)
deriving DecidableEq, Repr

/-- The regions of the memory integrity chapter (R421, R426). -/
inductive MemRegion | tcm (p : Fin 2) | fieldLocal (s : Fin 4) | appL2 | systemSram | commSram | tableSram | dram
deriving DecidableEq, Repr

/-- What the check bits say of one 64-bit word (R419 to R424). -/
inductive WordCheck | clean | corrected (syndrome : BitVec 8) | uncorrectable
deriving DecidableEq, Repr

/-- The two contacts of a safety input pair (R376). -/
inductive Contact | a | b
deriving DecidableEq, Repr

/-- The two safety channels (R375, R408). -/
inductive Channel | drivePair | kingpost
deriving DecidableEq, Repr

/-- The stamp of a window of the host port: its end `t`, and `fall`, at which HCS_N fell and it began (R89, R90). -/
structure WindowAt where
  t    : Tick
  fall : Tick
deriving DecidableEq, Repr

/-- The stamp of an event that the Kingpost times: device time, and its own 25 ns tick `kt` (R43, R370). -/
structure KpStamp where
  t  : Tick
  kt : Nat
deriving DecidableEq, Repr

/-- The end of the hold of VINOV, with the verdict of the self-tests of the power-up sequence (R65, R70). -/
structure VinOvrEnd where
  t          : Tick
  selfTestOk : Bool
deriving DecidableEq, Repr

/-- The end of a reset, with the memory that step 3 of BOOT will find not to respond (R51, R70). -/
structure ResetEnd where
  t   : Tick
  mem : MemFound
deriving DecidableEq, Repr

/-- An outer-loop cycle: its start, and its duration in 10 ns up to the swap of the references (R28, R219, R229). -/
structure OuterCycle where
  t    : Tick
  took : Nat
deriving DecidableEq, Repr

/-- A code of the Hall inputs with the time of its change in 5 ns ticks (R238, R245). -/
structure HallEdge where
  code : Fin 8
  t5   : Nat
deriving DecidableEq, Repr

/-- An error of an Alcia port and the start of frame of the frame it struck (R37, R496). -/
structure TxErrorAt where
  error : CanError
  sof   : Tick
deriving DecidableEq, Repr

/-- A level that a contact of a safety input has read, and since when on its channel's clock (R377). -/
structure ContactLevel where
  closed : Bool
  since  : Nat
deriving DecidableEq, Repr

/-- A supply of a gate channel that is back, and whether it had been absent (R60, R161). -/
structure RailBack where
  rail : GateRail
  lost : Bool
deriving DecidableEq, Repr

/-- The commands: one constructor per row of the operation table, in the table's order; the rule is the row's own. -/
inductive Instr
  /-- PACKET_WINDOW (R89). -/
  | packetWindow (t : WindowAt) (rest : Bytes) (cutByte : Bool)
  /-- POLL_WINDOW (R89). -/
  | pollWindow (t : WindowAt) (len : Nat)
  /-- REPEAT_WINDOW (R91). -/
  | repeatWindow (t : WindowAt) (len : Nat)
  /-- DISCARDED_WINDOW (R89). -/
  | discardedWindow (t : WindowAt) (first : Byte) (len : Nat)
  /-- SERVICE_PORT_PACKET (R537). -/
  | servicePortPacket (t : Tick) (rest : Bytes)
  /-- SERVICE_PACKET_GAP (R537). -/
  | servicePacketGap (t : Tick) (rest : Bytes)
  /-- SILL_RECOVERY_FRAME (R546). -/
  | sillRecoveryFrame (t : Tick) (rest : Bytes)
  /-- CMD_DOORBELL (R447). -/
  | cmdDoorbell (t : Tick) (value : BitVec 32)
  /-- REPLY_DONE (R447). -/
  | replyDone (t : Tick) (value : BitVec 32)
  /-- CYCLIC (R108). -/
  | cyclic (t : Tick) (src : Source) (seq : Nat) (payload : Bytes)
  /-- CYCLIC_LATCH (R108). -/
  | cyclicLatch (t : Tick) (src : Source)
  /-- NOP (R113). -/
  | nop (t : Tick) (src : Source) (seq : Nat) (payload : Bytes)
  /-- IDENTIFY (R115). -/
  | identify (t : Tick) (src : Source) (seq : Nat) (payload : Bytes)
  /-- RESET_DEVICE (R102). -/
  | resetDevice (t : Tick) (src : Source) (seq : Nat) (payload : Bytes)
  /-- TAKE_OWNERSHIP (R104). -/
  | takeOwnership (t : Tick) (src : Source) (seq : Nat) (payload : Bytes)
  /-- RELEASE_OWNERSHIP (R104). -/
  | releaseOwnership (t : Tick) (src : Source) (seq : Nat) (payload : Bytes)
  /-- READ_EVENTS (R120). -/
  | readEvents (t : Tick) (src : Source) (seq : Nat) (payload : Bytes)
  /-- ACK_EVENTS (R120). -/
  | ackEvents (t : Tick) (src : Source) (seq : Nat) (payload : Bytes)
  /-- ENTER_WATCH (R81). -/
  | enterWatch (t : Tick) (src : Source) (seq : Nat) (payload : Bytes)
  /-- WATCH_ENTRY_COMPLETE (R82). -/
  | watchEntryComplete (t : Tick)
  /-- SET_CYCLIC (R108). -/
  | setCyclic (t : Tick) (src : Source) (seq : Nat) (payload : Bytes)
  /-- GET_TIME (R113). -/
  | getTime (t : Tick) (src : Source) (seq : Nat) (payload : Bytes)
  /-- WRITE_BLOCK (R128). -/
  | writeBlock (t : Tick) (src : Source) (seq : Nat) (payload : Bytes)
  /-- READ_BLOCK (R131). -/
  | readBlock (t : Tick) (src : Source) (seq : Nat) (payload : Bytes)
  /-- CHECK (R133). -/
  | check (t : Tick) (src : Source) (seq : Nat) (payload : Bytes)
  /-- SEAL (R134). -/
  | sealConfig (t : Tick) (src : Source) (seq : Nat) (payload : Bytes)
  /-- UNSEAL (R139). -/
  | unsealConfig (t : Tick) (src : Source) (seq : Nat) (payload : Bytes)
  /-- GET_FINGERPRINT (R136). -/
  | getFingerprint (t : Tick) (src : Source) (seq : Nat) (payload : Bytes)
  /-- ENABLE (R138). -/
  | enable (t : Tick) (src : Source) (seq : Nat) (payload : Bytes)
  /-- DISABLE (R334). -/
  | disable (t : Tick) (src : Source) (seq : Nat) (payload : Bytes)
  /-- SET_MODE (R221). -/
  | setMode (t : Tick) (src : Source) (seq : Nat) (payload : Bytes)
  /-- SET_TORQUE (R222). -/
  | setTorque (t : Tick) (src : Source) (seq : Nat) (payload : Bytes)
  /-- SET_SPEED (R222). -/
  | setSpeed (t : Tick) (src : Source) (seq : Nat) (payload : Bytes)
  /-- SET_POSITION (R222). -/
  | setPosition (t : Tick) (src : Source) (seq : Nat) (payload : Bytes)
  /-- SET_LIMITS (R220). -/
  | setLimits (t : Tick) (src : Source) (seq : Nat) (payload : Bytes)
  /-- CLEAR_FAULT (R432). -/
  | clearFault (t : Tick) (src : Source) (seq : Nat) (payload : Bytes)
  /-- CALIBRATION_STOP (R198). -/
  | calibrationStop (t : Tick) (src : Source) (seq : Nat) (payload : Bytes)
  /-- CALIBRATION_START (R198). -/
  | calibrationStart (t : Tick) (src : Source) (seq : Nat) (payload : Bytes)
  /-- CALIBRATION_RESTORE (R198). -/
  | calibrationRestore (t : Tick) (src : Source) (seq : Nat) (payload : Bytes)
  /-- GET_STATE (R116). -/
  | getState (t : Tick) (src : Source) (seq : Nat) (payload : Bytes)
  /-- GET_MEASUREMENTS (R228). -/
  | getMeasurements (t : Tick) (src : Source) (seq : Nat) (payload : Bytes)
  /-- GET_FAULTS (R439). -/
  | getFaults (t : Tick) (src : Source) (seq : Nat) (payload : Bytes)
  /-- READ_FAULT_HISTORY (R437). -/
  | readFaultHistory (t : Tick) (src : Source) (seq : Nat) (payload : Bytes)
  /-- GET_COUNTERS (R113). -/
  | getCounters (t : Tick) (src : Source) (seq : Nat) (payload : Bytes)
  /-- GET_TEMPERATURES (R560). -/
  | getTemperatures (t : Tick) (src : Source) (seq : Nat) (payload : Bytes)
  /-- SAFETY_LOGIN (R397). -/
  | safetyLogin (t : Tick) (src : Source) (seq : Nat) (payload : Bytes)
  /-- SAFETY_LOGOUT (R397). -/
  | safetyLogout (t : Tick) (src : Source) (seq : Nat) (payload : Bytes)
  /-- WRITE_SAFETY_BLOCK (R397). -/
  | writeSafetyBlock (t : Tick) (src : Source) (seq : Nat) (payload : Bytes)
  /-- READ_SAFETY_LOG (R400). -/
  | readSafetyLog (t : Tick) (src : Source) (seq : Nat) (payload : Bytes)
  /-- ACK_SAFETY_LOG (R400). -/
  | ackSafetyLog (t : Tick) (src : Source) (seq : Nat) (payload : Bytes)
  /-- GET_SAFETY_STATUS (R407). -/
  | getSafetyStatus (t : Tick) (src : Source) (seq : Nat) (payload : Bytes)
  /-- REQUEST_SAFETY_FUNCTION (R406). -/
  | requestSafetyFunction (t : Tick) (src : Source) (seq : Nat) (payload : Bytes)
  /-- CHANGE_PASSWORD (R398). -/
  | changePassword (t : Tick) (src : Source) (seq : Nat) (payload : Bytes)
  /-- AXIS_MOVE (R354). -/
  | axisMove (t : Tick) (src : Source) (seq : Nat) (payload : Bytes)
  /-- AXIS_STOP (R355). -/
  | axisStop (t : Tick) (src : Source) (seq : Nat) (payload : Bytes)
  /-- AXIS_HOME (R364). -/
  | axisHome (t : Tick) (src : Source) (seq : Nat) (payload : Bytes)
  /-- GEAR_ENGAGE (R357). -/
  | gearEngage (t : Tick) (src : Source) (seq : Nat) (payload : Bytes)
  /-- GEAR_DISENGAGE (R357). -/
  | gearDisengage (t : Tick) (src : Source) (seq : Nat) (payload : Bytes)
  /-- GEAR_SET_RATIO_NOW (R357). -/
  | gearSetRatioNow (t : Tick) (src : Source) (seq : Nat) (payload : Bytes)
  /-- GEAR_EVENT (R358). -/
  | gearEvent (t : Tick) (src : Source) (seq : Nat) (payload : Bytes)
  /-- AXIS_STATUS (R368). -/
  | axisStatus (t : Tick) (src : Source) (seq : Nat) (payload : Bytes)
  /-- RECORDER_SETUP (R462). -/
  | recorderSetup (t : Tick) (src : Source) (seq : Nat) (payload : Bytes)
  /-- RECORDER_ARM (R464). -/
  | recorderArm (t : Tick) (src : Source) (seq : Nat) (payload : Bytes)
  /-- RECORDER_READ (R466). -/
  | recorderRead (t : Tick) (src : Source) (seq : Nat) (payload : Bytes)
  /-- RECORDER_TRIGGER (R464). -/
  | recorderTrigger (t : Tick) (src : Source) (seq : Nat) (payload : Bytes)
  /-- APP_START (R443). -/
  | appStart (t : Tick) (src : Source) (seq : Nat) (payload : Bytes)
  /-- APP_STOP (R443). -/
  | appStop (t : Tick) (src : Source) (seq : Nat) (payload : Bytes)
  /-- APP_SUSPEND (R443). -/
  | appSuspend (t : Tick) (src : Source) (seq : Nat) (payload : Bytes)
  /-- SUSPEND_COMPLETE (R443). -/
  | suspendComplete (t : Tick)
  /-- APP_MESSAGE (R449). -/
  | appMessage (t : Tick) (src : Source) (seq : Nat) (payload : Bytes)
  /-- COLONNADE_JOIN (R303). -/
  | colonnadeJoin (t : Tick) (src : Source) (seq : Nat) (payload : Bytes)
  /-- COLONNADE_LEAVE (R316). -/
  | colonnadeLeave (t : Tick) (src : Source) (seq : Nat) (payload : Bytes)
  /-- COLONNADE_STATUS (R320). -/
  | colonnadeStatus (t : Tick) (src : Source) (seq : Nat) (payload : Bytes)
  /-- PAIR_STATUS (R493). -/
  | pairStatus (t : Tick) (src : Source) (seq : Nat) (payload : Bytes)
  /-- NETWORK_STATUS (R526). -/
  | networkStatus (t : Tick) (src : Source) (seq : Nat) (payload : Bytes)
  /-- ALCIA_SEND (R504). -/
  | alciaSend (t : Tick) (src : Source) (seq : Nat) (payload : Bytes)
  /-- UPDATE_STATUS (R547). -/
  | updateStatus (t : Tick) (src : Source) (seq : Nat) (payload : Bytes)
  /-- UPDATE_CONFIRM (R542). -/
  | updateConfirm (t : Tick) (src : Source) (seq : Nat) (payload : Bytes)
  /-- UPDATE_OFFER (R539). -/
  | updateOffer (t : Tick) (src : Source) (seq : Nat) (payload : Bytes)
  /-- UPDATE_DATA (R540). -/
  | updateData (t : Tick) (src : Source) (seq : Nat) (payload : Bytes)
  /-- UPDATE_VERIFY (R540). -/
  | updateVerify (t : Tick) (src : Source) (seq : Nat) (payload : Bytes)
  /-- UPDATE_ACTIVATE (R541). -/
  | updateActivate (t : Tick) (src : Source) (seq : Nat) (payload : Bytes)
  /-- UPDATE_ABORT (R538). -/
  | updateAbort (t : Tick) (src : Source) (seq : Nat) (payload : Bytes)
  /-- UPDATE_SESSION_TIMEOUT (R540). -/
  | updateSessionTimeout (t : Tick)
  /-- RELAY_TIMEOUT (R544). -/
  | relayTimeout (t : Tick)
  /-- SLOT_ERASE_SECTOR (R548). -/
  | slotEraseSector (t : Tick)
  /-- REGISTER_WRITE (R16). -/
  | registerWrite (t : Tick) (addr : Nat) (data : Bytes)
  /-- DMA_CMD_START (R457). -/
  | dmaCmdStart (t : Tick) (ch : Fin 16)
  /-- DMA_CMD_RESUME (R459). -/
  | dmaCmdResume (t : Tick) (ch : Fin 16)
  /-- DMA_CMD_ABORT (R457). -/
  | dmaCmdAbort (t : Tick) (ch : Fin 16)
  /-- DTU_INVAL (R453). -/
  | dtuInval (t : Tick) (value : BitVec 32)
  /-- DTU_INVAL_COMPLETE (R453). -/
  | dtuInvalComplete (t : Tick)
  /-- DMA_SLOT_GRANT (R455). -/
  | dmaSlotGrant (t : Tick)
  /-- DMA_DESCRIPTOR_FETCH (R458). -/
  | dmaDescriptorFetch (t : Tick) (ch : Fin 16)
  /-- DMA_BEAT (R456). -/
  | dmaBeat (t : Tick) (ch : Fin 16)
  /-- FAULT_RECORD_POST (R460). -/
  | faultRecordPost (t : Tick) (ch : Fin 16)
  /-- DRIVE_MESSAGE_INTERRUPT (R450). -/
  | driveMessageInterrupt (t : Tick)
  /-- THROTTLE_PERIOD (R451). -/
  | throttlePeriod (t : Tick)
  /-- APP_WATCHDOG_EXPIRY (R445). -/
  | appWatchdogExpiry (t : Tick)
  /-- PROGRAM_FAULT (R445). -/
  | programFault (t : Tick) (addr : Nat) (cause : ProgramFaultKind)
  /-- PROGRAM_EXIT (R442). -/
  | programExit (t : Tick)
  /-- RECORDER_FLUSH (R465). -/
  | recorderFlush (t : Tick)
  /-- VIN_ON (R65). -/
  | vinOn (t : Tick) (selfTestOk : Bool)
  /-- VIN_LOW (R65). -/
  | vinLow (t : Tick) (vin : Nat)
  /-- POWER_FAIL (R66). -/
  | powerFail (t : Tick) (vin : Nat)
  /-- VIN_RESET (R65). -/
  | vinReset (t : Tick)
  /-- AON_MIN (R65). -/
  | aonMin (t : Tick)
  /-- VIN_HIGH (R65). -/
  | vinHigh (t : Tick) (vin : Nat)
  /-- VIN_HIGH_LASTING (R438). -/
  | vinHighLasting (t : Tick)
  /-- VIN_OVR (R65). -/
  | vinOvr (t : Tick)
  /-- VIN_OVR_RELEASE (R65). -/
  | vinOvrRelease (t : VinOvrEnd)
  /-- RAIL_FAULT (R69). -/
  | railFault (t : Tick) (rail : Rail)
  /-- RESET_EXIT (R70). -/
  | resetExit (t : ResetEnd)
  /-- XTAL32_QUALIFIED (R71). -/
  | xtal32Qualified (t : Tick)
  /-- XTAL32_FAIL (R71). -/
  | xtal32Fail (t : Tick) (cause : XtalFailure)
  /-- XTAL32_RETRY (R71). -/
  | xtal32Retry (t : Tick)
  /-- RESET_N_LOW (R72). -/
  | resetNLow (t : Tick) (lowNs : Nat)
  /-- RESET_N_RELEASE (R72). -/
  | resetNRelease (t : Tick) (lowMs : Nat)
  /-- KP_RESET_HOLD_END (R74). -/
  | kpResetHoldEnd (t : Tick) (selfTestOk : Bool)
  /-- CLOCK_FAULT (R31). -/
  | clockFault (t : Tick)
  /-- PLL_LOCK_LOSS (R80). -/
  | pllLockLoss (t : Tick) (pll : SidePll)
  /-- BOOT_COMPLETE (R123). -/
  | bootComplete (t : Tick)
  /-- DRAM_CLEAR_COMPLETE (R124). -/
  | dramClearComplete (t : Tick)
  /-- WAKE_EVENT (R83). -/
  | wakeEvent (t : Tick) (source : WakeSource)
  /-- WATCH_SREF_SAMPLE (R83). -/
  | watchSrefSample (t : Tick) (mv : Int) (edges : Nat)
  /-- WAKE_COMPLETE (R84). -/
  | wakeComplete (t : Tick) (sleepCycles : Nat)
  /-- WAKE_TIMEOUT (R84). -/
  | wakeTimeout (t : Tick)
  /-- WATCHDOG_SERVICE (R373). -/
  | watchdogService (t : KpStamp) (word : BitVec 16)
  /-- WATCHDOG_EXPIRY (R373). -/
  | watchdogExpiry (t : KpStamp)
  /-- OWN_TIMEOUT_EXPIRY (R105). -/
  | ownTimeoutExpiry (t : Tick) (src : Source)
  /-- CARRIER_ZERO (R206). -/
  | carrierZero (t : Tick) (stack : Fin 4)
  /-- DECIMATED_SAMPLE (R176). -/
  | decimatedSample (t : Tick) (stack : Fin 4) (sample : MainSample)
  /-- DS_STUCK (R179). -/
  | dsStuck (t : Tick) (input : Fin 24) (bit : Bool)
  /-- FIELD_ENGINE_CYCLE (R218). -/
  | fieldEngineCycle (t : Tick) (stack : Fin 4)
  /-- CHOPPER_OPEN (R327). -/
  | chopperOpen (t : Tick) (stack : Fin 4) (cause : ChopperOpenCause)
  /-- CHOPPER_SHORT (R328). -/
  | chopperShort (t : Tick) (stack : Fin 4)
  /-- DC_UNDERVOLTAGE (R324). -/
  | dcUndervoltage (t : Tick) (stack : Fin 4)
  /-- DC_UNDERVOLTAGE_CLEAR (R324). -/
  | dcUndervoltageClear (t : Tick) (stack : Fin 4)
  /-- OV3_TRIP (R325). -/
  | ov3Trip (t : Tick) (stack : Fin 4)
  /-- RECONSTRUCTION_SAMPLE (R180). -/
  | reconstructionSample (t : Tick) (stack : Fin 4) (sample : RecSample)
  /-- CAL_PERIOD_END (R188). -/
  | calPeriodEnd (t : Tick) (target : CalTarget)
  /-- SAR_SLOT (R194). -/
  | sarSlot (t : Tick) (conv : SarConverter) (value : Int)
  /-- OUTER_LOOP_CYCLE (R219). -/
  | outerLoopCycle (t : OuterCycle)
  /-- STOP_CHANGE (R332). -/
  | stopChange (t : Tick) (stack : Fin 4) (cause : StopChangeCause)
  /-- STOP_STANDSTILL (R334). -/
  | stopStandstill (t : Tick)
  /-- STOP_TIMEOUT (R334). -/
  | stopTimeout (t : Tick)
  /-- SREF_TEST_CURRENT (R223). -/
  | srefTestCurrent (t : Tick) (uStartMv uEndMv : Int)
  /-- SREF_WIRE_BREAK (R224). -/
  | srefWireBreak (t : Tick) (kind : WireBreakKind)
  /-- SREF_WIRE_BREAK_END (R224). -/
  | srefWireBreakEnd (t : Tick)
  /-- SHORT_CIRCUIT (R158). -/
  | shortCircuit (t : Tick) (ch : Fin 28) (sinceT0 : Nat)
  /-- GATE_SUPPLY_UV (R161). -/
  | gateSupplyUv (t : Tick) (ch : Fin 28) (rail : GateRail)
  /-- NO_COMMAND_TIMEOUT (R60). -/
  | noCommandTimeout (t : Tick) (ch : Fin 28)
  /-- BOOSTER_FAULT (R150). -/
  | boosterFault (t : Tick) (ch : Fin 28) (expected : BoosterExpect)
  /-- PLATEAU_TIMEOUT (R144). -/
  | plateauTimeout (t : Tick) (ch : Fin 28)
  /-- TRANSITION_MEASURED (R147). -/
  | transitionMeasured (t : Tick) (ch : Fin 28) (edge : SwitchEdge) (ns : Nat)
  /-- MILLER_CLAMP_ENGAGE (R144). -/
  | millerClampEngage (t : Tick) (ch : Fin 28)
  /-- SHOOT_THROUGH_ATTEMPT (R155). -/
  | shootThroughAttempt (t : KpStamp) (leg : Fin 12)
  /-- THERMAL_EVALUATION (R550). -/
  | thermalEvaluation (t : Tick) (readings : ThermalInput)
  /-- FEEDBACK_EDGE (R234). -/
  | feedbackEdge (t : Tick) (port : Fin 6) (edge : FbEdge)
  /-- HALL_CHANGE (R238). -/
  | hallChange (t : Tick) (port : Fin 6) (code : HallEdge)
  /-- TOOTH_EDGE (R239). -/
  | toothEdge (t : Tick) (port : Fin 6) (t5 : Nat)
  /-- SERIAL_FRAME (R237). -/
  | serialFrame (t : Tick) (port : Fin 6) (frame : SerialResult)
  /-- INDEX_LATCH (R240). -/
  | indexLatch (t : Tick) (port : Fin 6)
  /-- FB_SIGNAL_LOSS (R251). -/
  | fbSignalLoss (t : Tick) (port : Fin 6) (pair : FbPair)
  /-- FB_SUPPLY (R251). -/
  | fbSupply (t : Tick) (port : Fin 6) (cause : FbSupplyCause)
  /-- ENC_PUP_END (R233). -/
  | encPupEnd (t : Tick) (port : Fin 6)
  /-- PROBE_END (R260). -/
  | probeEnd (t : Tick) (m : Fin 4)
  /-- START_EVALUATION (R262). -/
  | startEvaluation (t : Tick) (m : Fin 4)
  /-- HANDOVER_TIMEOUT (R267). -/
  | handoverTimeout (t : Tick) (m : Fin 4)
  /-- CATCH_ATTEMPT (R271). -/
  | catchAttempt (t : Tick) (m : Fin 4)
  /-- OBS_LOSS_LASTING (R272). -/
  | obsLossLasting (t : Tick) (m : Fin 4)
  /-- SNAP_SBC_REQUEST (R291). -/
  | snapSbcRequest (t : Tick)
  /-- AXIS_CYCLE (R345). -/
  | axisCycle (t : Tick)
  /-- HOLD_CURRENT_TIMEOUT (R347). -/
  | holdCurrentTimeout (t : Tick) (ax : Fin 4)
  /-- STEPPER_CHOP_TRIP (R348). -/
  | stepperChopTrip (t : Tick) (ax : Fin 4) (bridge : Fin 2)
  /-- STEPPER_TOFF_END (R348). -/
  | stepperToffEnd (t : Tick) (ax : Fin 4) (bridge : Fin 2)
  /-- REFRESH_SEQUENCE (R168). -/
  | refreshSequence (t : Tick) (hb : Fin 16)
  /-- PRECHARGE_DONE (R169). -/
  | prechargeDone (t : Tick) (ax : Fin 4) (bootMv : Nat)
  /-- BOOTSTRAP_UV (R169). -/
  | bootstrapUv (t : Tick) (hb : Fin 16)
  /-- AUX_BUS_OV (R170). -/
  | auxBusOv (t : Tick) (volt : Nat)
  /-- AUX_SHOOT_THROUGH_ATTEMPT (R167). -/
  | auxShootThroughAttempt (t : Tick) (hb : Fin 16)
  /-- AX_OVERCURRENT (R349). -/
  | axOvercurrent (t : Tick) (shunt : Fin 8)
  /-- SWITCH_CHANGE (R362). -/
  | switchChange (t : Tick) (ax : Fin 4) (input : AxisSwitch) (level : Bool) (stable : Bool) (since : Tick)
  /-- SHARING_CYCLE (R310). -/
  | sharingCycle (t : Tick)
  /-- SHARE_FRAME (R311). -/
  | shareFrame (t : Tick) (frame : Bytes)
  /-- REPLY_FRAME (R301). -/
  | replyFrame (t : Tick) (frame : Bytes)
  /-- REPLY_DEADLINE (R313). -/
  | replyDeadline (t : Tick)
  /-- ROLL_SEND (R304). -/
  | rollSend (t : Tick)
  /-- ROLL_FRAME (R302). -/
  | rollFrame (t : Tick) (frame : Bytes)
  /-- FORMATION_TIMEOUT (R304). -/
  | formationTimeout (t : Tick)
  /-- COL_DETACHED (R314). -/
  | colDetached (t : Tick)
  /-- HEARTBEAT_SEND (R472). -/
  | heartbeatSend (t : Tick)
  /-- HEARTBEAT (R474). -/
  | heartbeat (t : Tick) (frame : Bytes)
  /-- MIRROR_FRAME (R478). -/
  | mirrorFrame (t : Tick) (frame : Bytes)
  /-- PAIR_CHECK_SEND (R476). -/
  | pairCheckSend (t : Tick)
  /-- MIRROR_ACK (R478). -/
  | mirrorAck (t : Tick) (frame : Bytes)
  /-- BULK_FRAME (R544). -/
  | bulkFrame (t : Tick) (frame : Bytes)
  /-- BRIDLE_LINK_UP (R471). -/
  | bridleLinkUp (t : Tick)
  /-- BRIDLE_LINK_DOWN (R471). -/
  | bridleLinkDown (t : Tick)
  /-- HEARTBEAT_LOSS (R480). -/
  | heartbeatLoss (t : Tick)
  /-- ARBITRATION_OUTCOME (R481). -/
  | arbitrationOutcome (t : Tick) (roll : RollReturn)
  /-- PAIR_QUERY_TIMEOUT (R481). -/
  | pairQueryTimeout (t : Tick)
  /-- ALCIA_FRAME_RX (R512). -/
  | alciaFrameRx (t : Tick) (port : Fin 2) (frame : CanFrame)
  /-- ALCIA_FRAME_TX_DONE (R505). -/
  | alciaFrameTxDone (t : Tick) (port : Fin 2) (sof : Tick)
  /-- ALCIA_TX_ERROR (R496). -/
  | alciaTxError (t : Tick) (port : Fin 2) (error : TxErrorAt)
  /-- BUS_OFF_RECOVERY (R518). -/
  | busOffRecovery (t : Tick) (port : Fin 2)
  /-- PROBE_SEND (R517). -/
  | probeSend (t : Tick) (port : Fin 2)
  /-- ADDR_CLAIM_SEND (R520). -/
  | addrClaimSend (t : Tick)
  /-- ADDR_CLAIM_DECISION (R520). -/
  | addrClaimDecision (t : Tick)
  /-- SYNC_SEND (R516). -/
  | syncSend (t : Tick) (port : Fin 2)
  /-- FOLLOW_UP_SEND (R516). -/
  | followUpSend (t : Tick) (port : Fin 2)
  /-- SYNC_TIMEOUT (R516). -/
  | syncTimeout (t : Tick) (port : Fin 2)
  /-- SYNC_CANDIDATE_START (R515). -/
  | syncCandidateStart (t : Tick) (port : Fin 2)
  /-- BRIDGE_ANNOUNCE_SEND (R521). -/
  | bridgeAnnounceSend (t : Tick)
  /-- ANNOUNCE_SEND (R521). -/
  | announceSend (t : Tick)
  /-- ROUTE_SUMMARY_SEND (R522). -/
  | routeSummarySend (t : Tick)
  /-- SEGMENT_TIMEOUT (R522). -/
  | segmentTimeout (t : Tick) (segment : Fin 64)
  /-- CMD_TRANSFER_TIMEOUT (R508). -/
  | cmdTransferTimeout (t : Tick) (node : Nat)
  /-- BIND_TIMEOUT (R509). -/
  | bindTimeout (t : Tick)
  /-- TEST_PULSE_WINDOW (R376). -/
  | testPulseWindow (t : KpStamp) (tp : Fin 4) (high : BitVec 16)
  /-- SAFETY_INPUT_CHANGE (R377). -/
  | safetyInputChange (t : Tick) (kt : Nat) (channel : Channel) (pair : Fin 8) (contact : Contact) (level : ContactLevel)
  /-- SI_DISCREPANCY (R379). -/
  | siDiscrepancy (t : Tick) (kt : Nat) (channel : Channel) (pair : Fin 8)
  /-- SS1_ENVELOPE_CHECK (R383). -/
  | ss1EnvelopeCheck (t : Tick) (kt : Nat) (channel : Channel)
  /-- SS1_END (R384). -/
  | ss1End (t : Tick) (kt : Nat) (channel : Channel)
  /-- BRAKE_SET_TIME_END (R384). -/
  | brakeSetTimeEnd (t : KpStamp) (channel : Channel) (brake : Fin 2)
  /-- SS1_TIMEOUT (R384). -/
  | ss1Timeout (t : Tick) (kt : Nat)
  /-- BRAKE_RELEASE_REQUEST (R386). -/
  | brakeReleaseRequest (t : Tick) (brake : Fin 2)
  /-- BRAKE_RELEASE_COMPLETE (R386). -/
  | brakeReleaseComplete (t : Tick) (brake : Fin 2)
  /-- BRAKE_TEST_PULSE (R387). -/
  | brakeTestPulse (t : Tick) (brake : Fin 2) (switch : BrakeSwitch) (readsOff : Bool)
  /-- BRAKE_OVERCURRENT (R387). -/
  | brakeOvercurrent (t : Tick) (brake : Fin 2)
  /-- KP_POSITION_EDGE (R389). -/
  | kpPositionEdge (t : Tick) (kt : Nat)
  /-- KP_SPEED_TIMEOUT (R389). -/
  | kpSpeedTimeout (t : Tick) (kt : Nat)
  /-- SAFETY_CHANNEL_DISCREPANCY (R390). -/
  | safetyChannelDiscrepancy (t : Tick) (kt : Nat) (kind : DiscrepancyKind)
  /-- KP_POSITION_FAULT (R391). -/
  | kpPositionFault (t : Tick) (kt : Nat) (cause : KpPositionCause)
  /-- SAFE_ACK_PRESS (R392). -/
  | safeAckPress (t : Tick) (kt : Nat)
  /-- SAFE_ACK_RELEASE (R393). -/
  | safeAckRelease (t : Tick) (kt : Nat)
  /-- SAFE_ACK_STUCK (R392). -/
  | safeAckStuck (t : Tick) (kt : Nat)
  /-- COMMISSIONING_GRANT_EXPIRY (R395). -/
  | commissioningGrantExpiry (t : Tick) (kt : Nat)
  /-- READBACK_MISMATCH (R372). -/
  | readbackMismatch (t : Tick) (kt : Nat)
  /-- LOGIN_LOCKOUT_END (R397). -/
  | loginLockoutEnd (t : Tick)
  /-- LOCKSTEP_MISMATCH (R414). -/
  | lockstepMismatch (t : Tick) (engine : Engine) (pc : BitVec 32)
  /-- DEBUG_ATTACHED (R418). -/
  | debugAttached (t : Tick)
  /-- SCRUB_BURST (R421). -/
  | scrubBurst (t : Tick) (region : MemRegion) (burst : Nat) (words : List WordCheck) (rewritten : Bool)
  /-- ALERT_N (R425). -/
  | alertN (t : Tick) (addr : Nat) (repeated : Bool)
  /-- FAULT_HISTORY_APPEND (R433). -/
  | faultHistoryAppend (t : Tick)
  /-- PWM_EDGE (R203). -/
  | pwmEdge (t : Tick) (stack : Fin 4) (edge : PwmEdgeInput)
  /-- HOLD_SWITCH_ENGAGE (R144). -/
  | holdSwitchEngage (t : Tick) (ch : Fin 28)
  /-- BOOST_SOFT_END (R158). -/
  | boostSoftEnd (t : Tick) (ch : Fin 28)
  /-- GATE_SUPPLY_UV_END (R161). -/
  | gateSupplyUvEnd (t : Tick) (ch : Fin 28) (rail : RailBack)
  /-- FB_SIGNAL_LOSS_END (R251). -/
  | fbSignalLossEnd (t : Tick) (port : Fin 6) (pair : FbPair)
  /-- VBRK_LOW (R387). -/
  | vbrkLow (t : Tick) (brake : Fin 2)
  /-- BRAKE_COIL_CURRENT_LOW (R387). -/
  | brakeCoilCurrentLow (t : Tick) (brake : Fin 2)
  /-- SREF_EDGE (R223). -/
  | srefEdge (t : Tick) (high : Bool)
  /-- AXIS_PWM_PERIOD (R350). -/
  | axisPwmPeriod (t : Tick) (ax : Fin 4)
  /-- COMMAND_RESET_DUE (R102). -/
  | commandResetDue (t : Tick)
  /-- SERVICE_REPLY_SENT (R537). -/
  | serviceReplySent (t : Tick)
  /-- SERVICE_BYTE_OUTSIDE_PACKET (R537). -/
  | serviceByteOutsidePacket (t : Tick)
deriving DecidableEq, Repr

end Sys2Proof
end

