-- ==== Sys2Proof/Decode.lean ====
section
/-! DEFINITION. Decoding of the table's words. The operation table gives no row any bits (every row is read as a command with
operands, not as a word), so no word spells a command. -/
namespace Sys2Proof

/-- The command a word of `nbits` bits spells by the table: none, since no row of the table has bits (assumption 2). -/
def decodeTableWord (_nbits _w : Nat) : Option Instr := none

end Sys2Proof
end

