-- ==== Sys2Proof/Config.lean ====
section
/-! DEFINITION. What one module fixes and the manual leaves to it, and the free values: constants without a body, so that no
statement can rest on a number the manual does not give. -/
namespace Sys2Proof.Config

/-- A free value: the k-th value the machine draws where the manual leaves one open (DESIGN CHOICE, assumption 3). -/
opaque freeValue : Nat → Nat

/-! Real functions that the manual's formulas use without an internal precision (assumption 4). -/

/-- The square root of a non-negative fraction. (DESIGN CHOICE, assumption 4.) -/
opaque sqrt : Rat → Rat
/-- The sine of an angle in turns. (DESIGN CHOICE, assumption 4.) -/
opaque sinTurn : Rat → Rat
/-- The cosine of an angle in turns. (DESIGN CHOICE, assumption 4.) -/
opaque cosTurn : Rat → Rat
/-- The angle of the vector (x, y) in turns, as `atanTurn y x`. (DESIGN CHOICE, assumption 4.) -/
opaque atanTurn : Rat → Rat → Rat
/-- The circle number. (DESIGN CHOICE, assumption 4.) -/
opaque pi : Rat
/-- The exponential function. (DESIGN CHOICE, assumption 4.) -/
opaque exp : Rat → Rat
/-- The natural logarithm. (DESIGN CHOICE, assumption 4.) -/
opaque ln : Rat → Rat

/-- A quotient whose divisor is 0, as a function of the dividend (DESIGN CHOICE, assumption 4). -/
opaque divZero : Rat → Rat
/-- Overmodulation (R213): the raised magnitude for an index up to 0.9517, the hold angle in turns from there to 1, and the angle on
the hexagon between two holds, from the index and the angle in the sector. (DESIGN CHOICE, assumption 4.) -/
opaque ovmScale : Rat → Rat
/-- The hold angle of R213. (DESIGN CHOICE, assumption 4.) -/
opaque ovmHold : Rat → Rat
/-- The angle between two holds of R213. (DESIGN CHOICE, assumption 4.) -/
opaque ovmFollow : Rat → Rat → Rat

/-- The second-order high-pass filter of R285, whose damping and form the manual does not give: the corner times the cycle in turns,
the input, its last two values and the last two outputs. (DESIGN CHOICE, assumption 4.) -/
opaque highPass : Rat → Rat → Rat → Rat → Rat → Rat → Rat

/-- The link pair's system page table of the DMA channels 8 to 15 (R455), which the manual does not give: physical by virtual address. (DESIGN CHOICE, assumption 85.) -/
opaque systemTable : Nat → Nat

/-- The temperature in °C of a PT1000 below 1000 Ω by the Callendar–Van Dusen equation (R551), whose inverse has no closed form there. (DESIGN CHOICE, assumption 4.) (PRESUMED, assumption 86.) -/
opaque ptCold : Rat → Rat

/-! The mirror of a redundant pair (R477), whose segments' content the manual lists without their layout. -/

/-- Field `f` of a received segment `seg` with the data given. (DESIGN CHOICE, assumption 93.) -/
opaque mirrorField : Nat → Nat → Bytes → Int
/-- The data of a segment `seg` with its fields. (DESIGN CHOICE, assumption 93.) -/
opaque mirrorPack : Nat → List Int → Bytes

/-! What manufacture writes into OTP and a random source gives (assumption 5). -/

/-- The digest of the public key in key slot 0 to 3 (R530). (PRESUMED, assumption 5.) -/
opaque keyDigest : Nat → Vector Byte 32
/-- Whether a key slot is revoked (R530). (PRESUMED, assumption 5.) -/
opaque keyRevoked : Nat → Bool
/-- The salt drawn for the k-th password change (R397). (PRESUMED, assumption 5.) -/
opaque salt : Nat → Vector Byte 16

/-! The module's identity (R115, R529) and fit. -/

/-- The header of the image of kind `k` that the module was delivered with (R529). (DEDUCED, assumption 6.) -/
opaque deliveredHeader : Nat → Bytes
/-- HWREV of R115. (DEDUCED, assumption 6.) -/
opaque hwRev : Byte
/-- SERIAL of R115. (DEDUCED, assumption 6.) -/
opaque serial : Vector Byte 8
/-- Which of the three DRAM fits the module has (R51). (DEDUCED, assumption 6.) -/
opaque dramFit : Fin 3
/-- DRAM_MB of R115: 2, 4 or 8 GB (R51). (DEDUCED, assumption 6.) -/
def dramMb : Nat := 2048 * 2 ^ dramFit.val
/-- The flash of the module in MB above the least of 32 MB (R528). (DEDUCED, assumption 6.) -/
opaque flashExtra : Nat
/-- FLASH_MB of R115. (DEDUCED, assumption 6.) -/
def flashMb : Nat := flashExtra + 32

end Sys2Proof.Config
end

