-- ==== Sys2Proof/Machine/State.lean ====
section
/-! DEFINITION. The state of the LTB-4820 as plain data: every register, queue, counter, mode and latch the manual gives the
block, grouped by the chapter that names it, and the queue of waiting commands. A default in a structure is the value after
reset; the assumption log names the ones the manual does not give. -/
namespace Sys2Proof.Machine

/-- The device states (R19). -/
inductive DevState
  | off | inReset | sill | boot | unconfigured | ready | run | safeStop | fault | shelter | watch
deriving DecidableEq, Repr

/-- One event record (R119). `data` holds its 8 DATA bytes as one little-endian number per byte list. -/
structure EventRec where
  code  : Nat
  eseq  : Nat
  state : Nat
  level : Nat
  obj   : Nat
  cls   : Nat
  stamp : Tick
  data  : Bytes
deriving DecidableEq, Repr

/-- A queued reply (R96): its flags, status, echoed SEQ and data, when it was queued, and the class and TAG of the transfer it answers and
the Alcia port that one came on (R507, R510); `sill` marks the answer to a recovery frame (R546). -/
structure Reply where
  cyc    : Bool := false
  nc     : Bool := false
  status : Nat := 0
  seq    : Nat := 0
  data   : Bytes := []
  queued : Tick := 0
  cls    : Nat := 0
  tag    : Nat := 0
  net    : Nat := 0
  sill   : Bool := false
deriving DecidableEq, Repr

/-- The cyclic exchange of one source (R107 to R112). `applied` is the payload last applied, `rejected` SEQ and status of a packet of the interval that
failed a check, `replyPrev` the cyclic reply before the newest. -/
structure CyclicX where
  enabled    : Bool := false
  missMax    : Nat := 3
  offset     : Nat := 0
  held       : Option (Tick × Nat × Bytes) := none
  rejected   : Option (Nat × Nat) := none
  superseded : Nat := 0
  missed     : Nat := 0
  applied    : Option Bytes := none
  lastSeq    : Nat := 0
  reply      : Option Reply := none
  replyPrev  : Option Reply := none
  fresh      : Bool := false
  lastLatch  : Tick := 0
  offSince   : Tick := 0
deriving DecidableEq, Repr

/-- One command source (R98, R103, R119, R120): its credits, reply queue and event queue. `ownLate` says that OWN_TIMEOUT passed before the last
packet came (R40), `tookAt` when it last took ownership and with which SEQ (R104). -/
structure Port where
  credits   : Nat := 8
  replies   : List Reply := []
  delivered : Option Reply := none
  events    : List EventRec := []
  eseqNext  : Nat := 0
  lost      : Nat := 0
  lastCode  : Nat := 0
  lastEseq  : Nat := 0
  lastOk    : Tick := 0
  ownLate   : Bool := false
  tookAt    : Option (Tick × Nat) := none
  ownMs     : Nat := 0
  cyclic    : CyclicX := {}
deriving DecidableEq, Repr

/-- The GET_COUNTERS values (R113); `rejections` counts rejections by check. -/
structure Counters where
  packets    : Nat := 0
  rejections : Nat := 0
  overCredit : Nat := 0
  hostSync   : Nat := 0
  missed     : Nat := 0
  superseded : Nat := 0
  overflow   : Nat := 0
deriving DecidableEq, Repr

/-- Why the Kingpost holds the logic die in reset (R74). -/
inductive KpHold | clock | wdog | rail
deriving DecidableEq, Repr

/-- Supplies, reset and the always-on domain (R65 to R79). `rstPin` is RESET_N as recognised low, `late` holds what the always-on domain found while
no firmware ran to report it (event code and DATA), `memFail` the memory that did not respond in this BOOT (R51), `bootFault` a fault record of a
BOOT that stopped, not yet appended. -/
structure Power where
  vinHigh    : Bool := false
  powerFail  : Bool := false
  vin        : Nat := 240
  cause      : BitVec 32 := 1
  nextCause  : BitVec 32 := 0
  rstPin     : Bool := false
  vinHold    : Bool := false
  kpHold     : Option KpHold := none
  xtalOk     : Bool := false
  resetDue   : List (Source × Tick × Option Tick) := []
  dramBusy   : Bool := true
  ovrHold    : Bool := false
  pllBLost   : Bool := false
  ddrLost    : Bool := false
  late       : List (Nat × Bytes) := []
  memFail    : Option MemFault := none
  bootFault  : Bool := false
deriving DecidableEq, Repr

/-- The sleep and wake sequences (R81 to R85). `entry` is the acceptance of ENTER_WATCH, `waking` the wake source seen; a window that began before
`listenFrom`, step 5 of the last wake, is discarded. -/
structure Watch where
  entry     : Option Tick := none
  waking    : Option WakeSource := none
  srefEntry : Int := 0
  srefMv    : Int := 0
  listenFrom : Tick := 0
deriving DecidableEq, Repr

/-- Pins that commands drive and no other field holds (R49 to R55); the levels that follow from the device state are `State.pinLevels`. `miso` is what
HMISO carried in the last window, `tpAt` when a test-pulse output last pulsed low (R378). -/
structure Pins where
  rstoN : Bool := true
  drstN : Bool := true
  dsck  : Bool := true
  fbSup : Vector Bool 6 := Vector.replicate 6 false
  alStb : Vector Bool 2 := Vector.replicate 2 true
  tpOn  : Vector Bool 4 := Vector.replicate 4 true
  tpAt  : Vector (Option Tick) 4 := Vector.replicate 4 none
  miso  : Bytes := []
  svtx  : Bytes := []
deriving DecidableEq, Repr

/-- A sealed configuration: its two fingerprints (R136) and the tick T0 at which the carriers started (R206). -/
structure Sealed where
  fingerprint : Bytes
  safetyFp    : Bytes
  t0          : Tick
deriving DecidableEq, Repr

/-- The output of a gate channel as its switch sees it (R26, R158): undriven is row 1. -/
inductive GateOut | undriven | off | on | softOff
deriving DecidableEq, Repr

/-- Where a transition stands (R144). -/
inductive GatePhase | rest | onPlateau | onTail | offPlateau | offTail
deriving DecidableEq, Repr

/-- One gate channel (R57 to R60, R142 to R161). `pwm` is the request of the PWM unit, `onAt` when an on command that waits for the dead time reaches the
secondary side (R154, R155), `lastOff` the tick of its last off command, `ghAt` of the last change of GH (R150); `band` and `step` are the band and the
adapted step of the transition in progress (R153); `onLo` to `offHi` whether TT_AT_LIMIT was raised at TT_MIN or TT_MAX (R148). -/
structure GateCh where
  mode     : Nat := 0
  pwm      : Bool := false
  out      : GateOut := .off
  phase    : GatePhase := .rest
  clamp    : Bool := true
  hold     : Bool := false
  t0       : Tick := 0
  onAt     : Option Tick := none
  lastOff  : Option Tick := none
  ghAt     : Tick := 0
  noCmd    : Bool := true
  uvPos    : Bool := false
  uvNeg    : Bool := false
  softT0   : Tick := 0
  band     : Nat := 0
  step     : Nat := 0
  stepOn   : Nat := 0
  stepOff  : Nat := 0
  onLo     : Bool := false
  onHi     : Bool := false
  offLo    : Bool := false
  offHi    : Bool := false
  measOn   : Nat := 0
  measOff  : Nat := 0
deriving DecidableEq, Repr

/-- The firmware command of R26 row 5. -/
inductive FwGate | none | pulseOff | asc
deriving DecidableEq, Repr

/-- Kinds of stop reaction (R330). -/
inductive StopKind | none | select | pulseOff | asc | quick | ss1
deriving DecidableEq, Repr

/-- The running sums of one calibration fit (R188). -/
structure CalSums where
  n   : Nat := 0
  sx  : Rat := 0
  sxx : Rat := 0
  sd  : Rat := 0
  sxd : Rat := 0
  hi  : Nat := 0
  lo  : Nat := 0
deriving DecidableEq, Repr

/-- One calibrated input (R177, R187 to R190): corrections and targets in 2⁻³¹, remainders carried forward by the slew, the
sums of the running period, and which kinds run. `ofsOld` and `gainOld` are the corrections before the last slew (R190). -/
structure CalInput where
  ofs      : Int := 0
  gain     : Int := 0
  ofsOld   : Int := 0
  gainOld  : Int := 0
  ofsTgt   : Int := 0
  gainTgt  : Int := 0
  ofsRem   : Rat := 0
  gainRem  : Rat := 0
  sums     : CalSums := {}
  rest     : CalSums := {}
  ofsRun   : Bool := false
  gainRun  : Bool := false
  restore  : Nat := 0
deriving DecidableEq, Repr

/-- Sensing of one stack (R174 to R198): the last delivered sample in mA and mV, the checks and the degraded modes. `decide` is a
decision of R184 due at the next carrier zero with the verdict of its occurrence, `pending` a change of current source due there;
`recPrev` is the last reconstructed phase value with its window centre and its half-period, `recSet` the last complete set with its midpoint. `fresh`: the
sample waits for its field-engine cycle; `stuck`: since when an input has not changed its bit; `pairMax` and `sumMax`: the largest difference of the
checks in a row that fail; `cmpFrom`: since when the stack switches; `calFrom`: the start of the calibration period. -/
structure Sense where
  fresh     : Bool := false
  tc        : Tick := 0
  ts        : Tick := 0
  iU        : Rat := 0
  iV        : Rat := 0
  iW        : Rat := 0
  iDc       : Rat := 0
  uDc       : Rat := 0
  gen       : Rat := 0
  stuck     : Vector (Option (Tick × Bool)) 6 := Vector.replicate 6 none
  udcLost   : Bool := false
  pairBad   : Vector Nat 3 := Vector.replicate 3 0
  pairMax   : Vector Rat 3 := Vector.replicate 3 0
  sumBad    : Nat := 0
  sumMax    : Rat := 0
  suspect   : BitVec 3 := 0
  signs     : Vector Int 3 := Vector.replicate 3 0
  exposed   : Vector (Option Tick) 3 := Vector.replicate 3 none
  sumFailed : Bool := false
  decide    : Bool := false
  failed    : Option (Fin 3) := none
  dcFailed  : Bool := false
  undecided : Bool := false
  pending   : Option Nat := none
  decidePart : Bool := false
  udcOver   : Bool := false
  cmpFrom   : Tick := 0
  calFrom   : Tick := 0
  recPrev   : Option (Nat × Rat × Tick × Int) := none
  recSet    : Option (Rat × Rat × Rat × Tick) := none
  cal       : Vector CalInput 4 := Vector.replicate 4 {}
  idcCal    : Bool := false
  lastZero  : Tick := 0
deriving DecidableEq, Repr

/-- A reference set of R28: r_s in Q8.24 of T_RATED, the switching flag and T_LIM. -/
structure RefSet where
  r      : Int := 0
  switch : Bool := false
  tLim   : Int := 0
deriving DecidableEq, Repr

/-- An exchange set of R29: rotor-frame currents (A) and controller voltages (V), angle and speed of the set. -/
structure XchgSet where
  upid  : Rat := 0
  upiq  : Rat := 0
  id    : Rat := 0
  iq    : Rat := 0
  theta : Rat := 0
  omega : Rat := 0
  ts    : Tick := 0
deriving DecidableEq, Repr

/-- The GET_MEASUREMENTS record of the last completed field-engine cycle (R228). -/
structure Meas where
  flags : Nat := 0
  tc    : Tick := 0
  iU    : Int := 0
  iV    : Int := 0
  iW    : Int := 0
  id    : Int := 0
  iq    : Int := 0
  vd    : Int := 0
  vq    : Int := 0
  udc   : Nat := 0
  mi    : Nat := 0
  theta : Nat := 0
  fe    : Int := 0
  tq    : Int := 0
  gamma : Nat := 0
deriving DecidableEq, Repr

/-- What governs one half-period of the carrier (R203, R181): the compare values, the edge shift already contained in them, and whether the half-period
gives a reconstruction (R181, R207). -/
structure HalfSet where
  c   : Vector Nat 3 := Vector.replicate 3 0
  sh  : Vector Int 3 := Vector.replicate 3 0
  gives : Bool := true
deriving DecidableEq, Repr

/-- A compare set that waits for the tick from which it governs (R205): what it changes of the rising and of the falling half-period. -/
structure CmpSet where
  act  : Tick
  rise : Option HalfSet := none
  fall : Option HalfSet := none
deriving DecidableEq, Repr

/-- One field engine (R208 to R218): its references with those of a swap to come (R28), its exchange set with the tick it is complete at and the one before
(R29), integrators, previous values, and what governs the rising and the falling half-period; `cmpNext` are the compare sets that wait (R205), `judged` the last
update point looked at and `cycles` the cycles since. `clampD` and `clampQ` say that the operating point lies outside the flux map. -/
structure FieldEng where
  refs     : RefSet := {}
  refsNext : Option (RefSet × Tick) := none
  xchg     : XchgSet := {}
  xchgAt   : Tick := 0
  xchgOld  : XchgSet := {}
  zd       : Rat := 0
  zq       : Rat := 0
  dGamma   : Rat := 0
  iNewton  : Rat := 0
  first    : Bool := true
  vReqMag  : Rat := 0
  vd       : Rat := 0
  vq       : Rat := 0
  clampD   : Bool := false
  clampQ   : Bool := false
  rise     : HalfSet := {}
  fall     : HalfSet := {}
  cmpNext  : List CmpSet := []
  judged   : Option Nat := none
  cycles   : Nat := 0
  overruns : Nat := 0
  angleSrc : Nat := 0
  torqLim  : Bool := false
  eLL      : Rat := 0
  fe       : Rat := 0
  meas     : Meas := {}
deriving DecidableEq, Repr

/-- The observer of one set (R266, R270): estimated angle and speed in turns and turns per second, the back-EMF in its rotor frame and
in the stationary frame with its last millisecond, the previous currents and applied voltage, the tests its last cycle failed (R268) and
since which t_s every cycle has failed one; `thc` and `tc` are the angle and the instant of the last cycle's sample, `live` says that it ran in the stack's last
cycle. -/
structure ObsSet where
  theta    : Rat := 0
  omega    : Rat := 0
  sgn      : Int := 1
  ed       : Rat := 0
  eq       : Rat := 0
  ea       : Rat := 0
  eb       : Rat := 0
  ab       : List (Tick × Rat × Rat) := []
  idPrev   : Rat := 0
  iqPrev   : Rat := 0
  va       : Rat := 0
  vb       : Rat := 0
  bits     : Nat := 0
  badSince : Option Tick := none
  badAt    : Tick := 0
  thc      : Rat := 0
  tc       : Tick := 0
  live     : Bool := false
  signs    : Vector Int 3 := Vector.replicate 3 0
deriving DecidableEq, Repr

/-- The brake chopper of one stack (R326 to R329) and the supervision of its link (R323, R324): `below` since when U_DC is below UV2, `above` since when it is at
or above UV1, `hist` the samples since the command is active, newest first, in mV. -/
structure Chopper where
  cmd      : Bool := false
  since    : Tick := 0
  isOpen   : Bool := false
  ov1      : Bool := false
  uv       : Bool := false
  below    : Option Tick := none
  above    : Option Tick := none
  hist     : List Rat := []
deriving DecidableEq, Repr

/-- What R332 watches on a stack whose stop reaction may change its state: since when each of the conditions of pulse-off to ASC holds and the currents are quiet,
the signs of the phase currents, their last zero crossing, and the crossings in a row below the threshold. -/
structure StopWatch where
  emf     : Option Tick := none
  rev     : Option Tick := none
  phase   : Option Tick := none
  quiet   : Option Tick := none
  signs   : Vector Int 3 := Vector.replicate 3 0
  crossAt : Option Tick := none
  low     : Nat := 0
deriving DecidableEq, Repr

/-- A stop reaction in force on a stack (R330 to R333), with the code of the event that caused it (0 for none). -/
structure StopR where
  kind  : StopKind := .none
  cause : Nat := 0
deriving DecidableEq, Repr

/-- One stack: bands (R152), gate commands (R26), stop reaction, sensing, field engine and chopper. `sc` counts
SHOOT_THROUGH_ATTEMPT stamps of the last second at the Kingpost (R374). -/
structure Stack where
  band     : Nat := 0
  bandNext : Option Nat := none
  fw       : FwGate := .none
  kpOff    : Bool := true
  kpAsc    : Bool := false
  ov3      : Bool := false
  ov3Act   : Option Bool := none
  stLimit  : Bool := false
  stStamps : List Nat := []
  stop     : StopR := {}
  watch    : StopWatch := {}
  release  : Bool := false
  switching : Bool := false
  sense    : Sense := {}
  fe       : FieldEng := {}
  obs      : ObsSet := {}
  chop     : Chopper := {}
deriving DecidableEq, Repr

/-- A latch record of a port or an observer (R232). Angle in 2⁻³² turn, speed in 2⁻³² rev/s. -/
structure LatchRec where
  count    : Int := 0
  aperture : Tick := 0
  angle    : Nat := 0
  speed    : Int := 0
  state    : Nat := 0
  flags    : Nat := 0
  drift    : Int := 0
deriving DecidableEq, Repr

/-- A speed edge of a feedback port (R245): count after the edge, and its time in 5 ns. -/
structure SpdEdge where
  count : Int
  t5    : Nat
  up    : Bool
deriving DecidableEq, Repr

/-- One feedback port (R230 to R252). States 0 OFF, 1 UNREF, 2 VALID, 3 DEGRADED, 4 FAILED. `edges` are the speed edges of one
direction, newest first; `refNext` an extra tooth was seen, `refDue` a reference edge waits for its latch; `serial` the verdict on
the frame since the last latch, `serialSeen` a good frame since SEAL, `serialAny` a wake since the last good frame, `serialGood` the verdict on the last frame;
`base` and `baseAt` the record and the t_s of the present control cycle
(R345), `sarTick` the aperture of the last sin/cos pair, `qcSlot` and `qcAp` the quadrant counter at the start of its slot and at that aperture, `synced` the verdict on
it; `turned` a reversal since the last speed edge; `gapHi` the count above the gap of a toothed wheel. -/
structure FbPort where
  state    : Nat := 0
  count    : Int := 0
  lvA      : Bool := false
  lvB      : Bool := false
  lvZ      : Bool := false
  qc       : Int := 0
  qcPreset : Bool := false
  qcSlot   : Int := 0
  qcAp     : Int := 0
  turned   : Bool := false
  gapHi    : Option Int := none
  synced   : Bool := true
  edges    : List SpdEdge := []
  lastEdge : Option SpdEdge := none
  lastUp   : Bool := true
  tRef     : Option Rat := none
  refNext  : Bool := false
  refDue   : Option Int := none
  idxFirst : Option Int := none
  angBase  : Int := 0
  provBase : Bool := false
  lastIdx  : Int := 0
  drift    : Int := 0
  prevDelta : Int := 0
  rejects  : List Tick := []
  rejCount : Nat := 0
  quadErrs : Nat := 0
  quadBad  : Bool := false
  badRun   : Nat := 0
  good     : Option LatchRec := none
  goodAt   : Tick := 0
  goods    : List LatchRec := []
  serial   : Option Bool := none
  serialSeen : Bool := false
  serialAny  : Bool := false
  serialGood : Bool := false
  hall     : Option Nat := none
  hallBad  : Bool := false
  hallTurn : Int := 0
  loss     : Vector Bool 3 := Vector.replicate 3 false
  pup      : Bool := false
  sinMv    : Int := 0
  cosMv    : Int := 0
  sarTick  : Option Tick := none
  latchAt  : Option Tick := none
  latch    : LatchRec := {}
  base     : LatchRec := {}
  baseAt   : Tick := 0
deriving DecidableEq, Repr

/-- The observer of one machine (R256 to R274), supervised by the drive pair. `acc` is the accumulated electrical angle in turns, `thLs`
and `wls` the imposed angle and speed of LOWSPEED, `wlsAt` when ω_ls reached its end value, `eHist` the back-EMF of a PROBE, `begun`
whether its catch has begun, `rises` the current rises of START, `crossAt` the last zero crossing under ASC, `overAt` since when the
applied voltage calls for ASC, `handed` angle, speed and stamp that a standby takes over (R486), `fLast` and `uLast`
the frequency and the link voltage in V of the last cycle that passed every test, `zeroFrom` when zero-current control was last asked for, `along` that it
runs beside a port that gives the angle. -/
structure Observer where
  state    : Nat := 0
  lead     : Nat := 0
  acc      : Rat := 0
  wls      : Rat := 0
  thLs     : Rat := 0
  wlsAt    : Option Tick := none
  since    : Tick := 0
  repeated : Bool := false
  begun    : Bool := false
  eHist    : List (Tick × Rat) := []
  okSince  : Option Tick := none
  slowSince : Option Tick := none
  step     : Nat := 0
  rises    : List Rat := []
  iStart   : Rat := 0
  axis     : Option Rat := none
  contrast : Rat := 0
  lossAt   : Tick := 0
  fLast    : Rat := 0
  uLast    : Rat := 0
  asc      : Bool := false
  zeroFrom : Tick := 0
  along    : Bool := false
  crossings : Nat := 0
  crossAt  : Option Tick := none
  overAt   : Option Tick := none
  handed   : Option (Rat × Rat × Tick) := none
  attempts : Nat := 0
  tryAt    : Tick := 0
  rampAt   : Option Tick := none
  differs  : Option Tick := none
  disagreed : Bool := false
  latch    : LatchRec := { flags := 8 }
deriving DecidableEq, Repr

/-- A pending SAR request (R195): class 0 sin/cos of P1, 1 other P1, 2 P2, 3 P3; the input (a number of the request list). -/
structure SarReq where
  cls   : Nat
  input : Nat
  at_   : Tick
deriving DecidableEq, Repr

/-- One SAR converter (R194); `doneTo` is its last slot boundary. -/
structure Sar where
  pending : List SarReq := []
  doneTo  : Tick := 0
  slot    : Option SarReq := none
  results : List (Nat × Int × Tick) := []
deriving DecidableEq, Repr

/-- The SREF input (R223, R224). -/
structure Sref where
  mv       : Int := 0
  filt     : Rat := 0
  cmd      : Rat := 0
  broken   : Bool := false
  rises    : Nat := 0
  holdTo   : Tick := 0
  high     : Bool := false
  lastRise : Option Tick := none
  lastFall : Option Tick := none
  period   : Option (Nat × Nat) := none
  lastEdge : Tick := 0
  lowSince : Option Tick := none
  badSince : Option Tick := none
  quiet    : Option Tick := none
deriving DecidableEq, Repr

/-- One torsion mode (R285, R286): modal speed and twist, frequency in Hz, the frequencies of the settling window newest first, since
when the frequency stands at a bound and since when the mode is quiet, and when its damping begins to rise. -/
structure TorsMode where
  v      : Rat := 0
  q      : Rat := 0
  f      : Rat := 0
  state  : Nat := 0
  win    : List (Tick × Rat) := []
  bound  : Option Tick := none
  quiet  : Option Tick := none
  rampAt : Option Tick := none
deriving DecidableEq, Repr

/-- Shock loads and torsion (R278 to R292). `hist` holds the load estimate of the last cycles newest first, `shock` how many cycles the
condition of LOAD_SHOCK must still be false, `hp` the last two inputs and outputs of the high-pass filter; `limCyc` to `winAt` are the
interval of R289 with the larger amplitude squared at its start. -/
structure Torsion where
  nHat    : Rat := 0
  tlHat   : Rat := 0
  hist    : List Rat := []
  lff     : Rat := 0
  damp    : Rat := 0
  inj     : Rat := 0
  injAt   : Option Tick := none
  shock   : Nat := 0
  frozen  : Bool := true
  frozenAt : Tick := 0
  hp      : List Rat := [0, 0, 0, 0]
  modes   : Vector TorsMode 2 := Vector.replicate 2 {}
  limCyc  : Nat := 0
  allCyc  : Nat := 0
  ampAt   : Rat := 0
  winAt   : Tick := 0
  dampOff : Option Tick := none
  snap    : Bool := false
  snapSlow : Option Tick := none
  overN   : Nat := 0
deriving DecidableEq, Repr

/-- A drive-wide stop in progress (R334): its kind, when its ramp began, and since when the speed is below STANDSTILL. -/
structure DriveStop where
  quick  : Bool
  began  : Option Tick := none
  slow   : Option Tick := none
  brakeAt : Option Tick := none
deriving DecidableEq, Repr

/-- The motion channel (R219 to R222, R278, R334, R337). Speeds and torques in Q8.24 units as exact fractions of rated. `internal` is the
internal path in force: 0 none, 1 stop, 2 SS1, 3 snap hold, 4 brake release; `brakeHold` the start of the sequence of R386; `posOfs` the
offset of a successor's position (R484); `preset` asks the next cycle for the integrator preset of R221, `tdAtLim` says that
T_d stood at a limit in force, `outerAt` is the start of the next outer-loop cycle and `outerRec` the latch record of POS_PORT it reads (R219). -/
structure Motion where
  mode     : Nat := 0
  path     : Nat := 0
  tqSet    : Int := 0
  spdSet   : Int := 0
  accSet   : Int := 0
  posSet   : Option Int := none
  spdLimSet : Int := 0
  limP     : Int := 0
  limN     : Int := 0
  limS     : Int := 0
  integ    : Rat := 0
  nRef     : Rat := 0
  nFilt    : Rat := 0
  posCmd   : Int := 0
  tLoop    : Rat := 0
  td       : Int := 0
  limited  : Bool := false
  spdLimited : Bool := false
  avail    : BitVec 4 := 0
  short    : Int := 0
  modeNext : Option (Nat × Nat) := none
  n        : Rat := 0
  pos      : Int := 0
  stamp    : Tick := 0
  posPort  : Nat := 0
  stop     : Option DriveStop := none
  ss1Ramp  : Bool := false
  shRef    : Option Rat := none
  shLimits : Bool := false
  shelterAt : Tick := 0
  regain   : Bool := false
  ownLost  : Option Nat := none
  brakeHold : Option Tick := none
  standTq  : Rat := 0
  internal : Nat := 0
  tqAct    : Int := 0
  posOfs   : Int := 0
  preset   : Bool := false
  tdAtLim  : Bool := false
  outerAt  : Option Tick := none
  outerRec : Option LatchRec := none
deriving DecidableEq, Repr

/-- A member as the leader sees it (R307, R311, R313): `rejoin` counts its cycles with REJOIN, `rolled` says that its ROLL frame passed, `misses`
counts consecutive misses, `dropped` is its DROP bit of the next frame. -/
structure Member where
  avail   : Bool := false
  limited : Bool := false
  leaving : Bool := false
  rejoin  : Nat := 0
  rolled  : Bool := false
  degr    : Bool := false
  tq      : Int := 0
  capP    : Int := 0
  capN    : Int := 0
  weight  : Nat := 0
  carry   : Int := 0
  replied : Bool := false
  misses  : Nat := 0
  dropped : Bool := false
deriving DecidableEq, Repr

/-- The colonnade (R297 to R320). States 0 NONE, 1 FORMING, 2 LEADER, 3 MEMBER, 4 DETACHED. `sk` is the stamp of the last bit of the leader's
last SHARE frame, `judged` says that its replies are judged, `forming0` that the frame of CYCLE 0 is on the ring, `lastFrame` is s_last of a
member, `rem` the remainder of R311, `rollAt` when the next
ROLL frame is due, `shareT` the own share in own units, `te` t_e of R310, `suspend` a transient stop of R314 in force, `out`
what the last ring command put on CLO. -/
structure Colonnade where
  state    : Nat := 0
  leader   : Nat := 255
  cycle    : Nat := 0
  drop     : BitVec 8 := 0
  present  : BitVec 8 := 0
  frPrev   : BitVec 8 := 0
  demandV  : Bool := false
  demand   : Int := 0
  short    : Int := 0
  shares   : Vector Int 8 := Vector.replicate 8 0
  members  : Vector Member 8 := Vector.replicate 8 {}
  limited  : Bool := false
  slow     : Bool := false
  formAt   : Tick := 0
  formT    : Nat := 0
  minPres  : Nat := 0
  seen     : BitVec 8 := 0
  elig     : BitVec 8 := 0
  forming0 : Bool := false
  lastFrame : Tick := 0
  sk       : Tick := 0
  judged   : Bool := true
  tLast    : Nat := 0
  rem      : Int := 0
  leaveDue : Bool := false
  shareT   : Int := 0
  te       : Int := 0
  rollAt   : Tick := 0
  suspend  : Bool := false
  out      : List Bytes := []
  frameErr : Nat := 0
  misses   : Nat := 0
deriving DecidableEq, Repr

/-- A queued gear event (R358). -/
structure GearEv where
  point : Int
  ratio : Int
  ramp  : Nat
  dir   : Int
deriving DecidableEq, Repr

/-- One switch input of an axis (R362, R363). -/
structure SwitchIn where
  active  : Bool := false
  latched : Int := 0
  stamp   : Tick := 0
  chatter : List Tick := []
  faulty  : Bool := false
deriving DecidableEq, Repr

/-- Where the chopper of a stepper bridge stands (R348). -/
structure Bridge where
  onPhase : Bool := false
  onAt    : Tick := 0
  blankAt : Tick := 0
  offAt   : Tick := 0
  set     : Rat := 0
deriving DecidableEq, Repr

/-- One auxiliary axis (R344 to R368). States 0 OFF to 6 FAULT. Profile position in 2⁻³² count. `next` is the state to enter after
precharge, `imm` the immediate gear events the next axis cycle fires with their lateness, `conv` the shunt conversions of the running
PWM period, newest first, `rawLog` the changes of the raw count with their times, newest first, `held` a period whose integrators are held by a refresh (R352). -/
structure Axis where
  state   : Nat := 0
  next    : Option Nat := none
  raw     : Int := 0
  refOfs  : Int := 0
  homed   : Bool := false
  ppos    : Int := 0
  speed   : Rat := 0
  acc     : Rat := 0
  kind    : Nat := 0
  target  : Int := 0
  vlim    : Nat := 0
  alim    : Nat := 0
  release : Bool := false
  ra      : Int := 0
  rb      : Int := 0
  p0      : Int := 0
  l       : Nat := 0
  d       : Int := 1
  gacc    : Int := 0
  gnum    : Int := 0
  queue   : List GearEv := []
  mLast   : Int := 0
  mDir    : Int := 1
  homeRes : Nat := 0
  behind  : Nat := 0
  method  : Nat := 0
  hphase  : Nat := 0
  hrev    : Bool := false
  sw      : Vector SwitchIn 3 := Vector.replicate 3 {}
  lastChg : Tick := 0
  hold    : Bool := false
  bridges : Vector Bridge 2 := Vector.replicate 2 {}
  measure : Nat := 0
  calFrom : Tick := 0
  plan    : List (Nat × Int) := []
  planMid : Nat := 0
  ph      : Vector Rat 3 := Vector.replicate 3 0
  shift   : Vector Int 3 := Vector.replicate 3 0
  spdInt  : Rat := 0
  curInt  : Rat := 0
  iRef    : Rat := 0
  iMeas   : Rat := 0
  duties  : Vector Rat 3 := Vector.replicate 3 0
  precharge : Bool := false
  cal     : Vector CalInput 2 := Vector.replicate 2 {}
  lastCal : Tick := 0
  imm     : List (GearEv × Int) := []
  curIntD : Rat := 0
  conv    : List Int := []
  rawLog  : List (Tick × Int) := []
  held    : Bool := false
deriving DecidableEq, Repr

/-- One auxiliary half-bridge (R167 to R171). `plan` holds the changes of its switches that wait for their time, as time, high side, low side; `loSince`
is the start of the present low-side conduction, `lastLo` the end of the last one of at least REFRESH_W, `hiOff` and `loOff` the last off commands. -/
structure HalfBridge where
  hi      : Bool := false
  lo      : Bool := false
  plan    : List (Tick × Bool × Bool) := []
  hiOff   : Option Tick := none
  loOff   : Option Tick := none
  loSince : Tick := 0
  boot    : Bool := false
  lastLo  : Tick := 0
deriving DecidableEq, Repr

/-- The auxiliary drivers as a whole. -/
structure Aux where
  axes     : Vector Axis 4 := Vector.replicate 4 {}
  hb       : Vector HalfBridge 16 := Vector.replicate 16 {}
  busOv    : Bool := false
  disabled : Bool := false
  stCount  : Nat := 0
  cycleAt  : Option Tick := none
deriving DecidableEq, Repr

/-- One contact as one channel qualified it (R377 to R379): the level, when it changed, and the verdicts of its last three test windows,
newest first. -/
structure ContactSt where
  closed : Bool := true
  at_    : Nat := 0
  tests  : List Bool := []
deriving DecidableEq, Repr

/-- One safety pair as one channel sees it. `mate` is the first contact of a change still waiting for the other. -/
structure PairSt where
  a       : ContactSt := {}
  b       : ContactSt := {}
  demand  : Bool := false
  latched : Bool := false
  discr   : Bool := false
  tpulse  : Bool := false
  mate    : Option (Contact × Bool × Nat) := none
  bothLow : Bool := false
deriving DecidableEq, Repr

/-- A safety function in force in one channel (R381 to R384): source 0 to 7 a pair, 8 a request, 9 internal. Phase 0 running,
1 ended and its brakes being set, 2 complete. `t0` is the start on the channel's clock, `tKp` on the Kingpost's; `sto` the stacks whose torque
it has withdrawn while its brakes are being set. -/
structure SafeFn where
  fn      : Nat
  mask    : BitVec 4
  source  : Nat
  channel : Channel
  phase   : Nat := 0
  t0      : Nat := 0
  tKp     : Nat := 0
  n0      : Rat := 0
  slow    : Option Nat := none
  sto     : BitVec 4 := 0
  tmaxOnly : Bool := false
deriving DecidableEq, Repr

/-- A holding brake (R384 to R387). `badHigh` and `badLow`: the last readback of that switch was not off; `testAt` and `testHigh`: the last test
pulse and whether it was of the high side. -/
structure Brake where
  high    : Bool := false
  low     : Bool := false
  setAtDp : Option Nat := none
  setAtKp : Option Nat := none
  request : Bool := false
  relAt   : Option Tick := none
  fault   : Bool := false
  badHigh : Bool := false
  badLow  : Bool := false
  testAt  : Option Tick := none
  testHigh : Bool := false
deriving DecidableEq, Repr

/-- One entry of the safety change log (R399, R400). -/
structure LogEntry where
  index   : Nat
  reason  : Nat
  source  : Nat
  node    : Nat
  arch    : Nat
  devTime : Tick
  netTime : Nat
  session : Nat
  fp      : Bytes
  acked   : Bool := false
deriving DecidableEq, Repr

/-- A password slot (R397): salt and PBKDF2 digest of the stored password, held here as what the device compares with. -/
structure PwSlot where
  salt   : Bytes
  digest : Bytes
deriving DecidableEq, Repr

/-- The Kingpost and the safety functions (R370 to R407). Kingpost times are Kingpost ticks of 25 ns; `kpTick` is the last one a report named
and `kpAt` its device time. -/
structure Safety where
  kpState   : Nat := 0
  cause     : Nat := 0
  kpTick    : Nat := 0
  kpAt      : Tick := 0
  challenge : BitVec 16 := 0xFFFF
  wdLast    : Nat := 0
  wdServed  : Bool := false
  granted   : BitVec 4 := 0
  request   : BitVec 4 := 0
  dpPairs   : Vector PairSt 8 := Vector.replicate 8 {}
  kpPairs   : Vector PairSt 8 := Vector.replicate 8 {}
  fns       : List SafeFn := []
  brakes    : Vector Brake 2 := Vector.replicate 2 {}
  discr     : Bool := false
  posFault  : Bool := false
  posGoodAt : Nat := 0
  kpEdges   : Option (Nat × Nat) := none
  kpLast    : Option Nat := none
  kpSpeed   : Rat := 0
  dpSpeed   : Rat := 0
  dpSpeedAt : Tick := 0
  xcSince   : Option Tick := none
  pressAt   : Option Nat := none
  stuck     : Bool := false
  ackNeeded : Bool := false
  ackOwed   : Bool := false
  commUntil : Option Nat := none
  commMask  : BitVec 4 := 0
  stCount   : Nat := 0
  debug     : Bool := false
  session   : Option Source := none
  pwLen     : Nat := 0
  logins    : Nat := 0
  failures  : Nat := 0
  lockedTo  : Option Tick := none
  stored    : Option PwSlot := none
  altSlot   : Bool := false
  pwWrites  : Nat := 0
  log       : List LogEntry := []
  logNext   : Nat := 0
deriving DecidableEq, Repr

/-- A fault object (R427): class, LEVEL and OBJ as GET_FAULTS shows them. -/
structure FaultKey where
  cls   : Nat
  level : Nat
  obj   : Nat
deriving DecidableEq, Repr

/-- What the device keeps of a fault object (R427 to R431): newest stamps first, the number of occurrences, the held faults
as event code and stamp of the occurrence that made it held, and the last FAULT_LASTING. -/
structure FaultObj where
  key     : FaultKey
  stamps  : List Tick := []
  total   : Nat := 0
  held    : List (Nat × Tick) := []
  lastMsg : Option Tick := none
deriving DecidableEq, Repr

/-- A fault history record (R436). -/
structure HistRec where
  recNo  : Nat
  format : Nat
  flags  : Nat
  event  : EventRec
deriving DecidableEq, Repr

/-- Fault management (R427 to R439): objects, occurrences per class, withdrawn guarantees, the staging queue, whether the
SELECT of an entry into FAULT is in force (R431), the two history regions of R528 with their next record numbers. -/
structure Faults where
  objs    : List FaultObj := []
  occ     : Vector Nat 15 := Vector.replicate 15 0
  lapsed  : BitVec 6 := 0
  staging : List (EventRec × Nat) := []
  entry   : Bool := false
  hist    : Vector (List HistRec) 2 := Vector.replicate 2 []
  histNext : Vector Nat 2 := Vector.replicate 2 0
deriving DecidableEq, Repr

/-- Lock-step and memory integrity (R409 to R425). `marks` are the words corrected on the last pass with their syndromes,
`bad` the uncorrectable words, both as (region code, byte offset). -/
structure Integrity where
  halted   : Vector Bool 6 := Vector.replicate 6 false
  counts   : Vector Nat 11 := Vector.replicate 11 0
  lastMsg  : Vector (Option Tick) 11 := Vector.replicate 11 none
  marks    : List (Nat × Nat × BitVec 8) := []
  bad      : List (Nat × Nat) := []
  scrub    : Vector Nat 11 := Vector.replicate 11 0
  scrubAt  : Vector (Option Tick) 11 := Vector.replicate 11 none
  alert    : Option Nat := none
deriving DecidableEq, Repr

/-- The application program (R442 to R450) and the internal port (R446, R447). `memFault` is the physical address of the last memory fault that was
delivered to the runtime (R424). -/
structure AppSt where
  state    : Nat := 1
  stopCause : Nat := 0
  suspendReq : Bool := false
  wdLast   : Tick := 0
  appMb    : Nat := 512
  inbound  : List Bytes := []
  standing : Bytes := []
  irq      : Bool := false
  memFault : Option Nat := none
  reserved : Bool := false
  slots    : Vector Bytes 9 := Vector.replicate 9 []
  replySlot : Nat := 0
  replyMem : Vector Bytes 9 := Vector.replicate 9 []
  cycReply : Bytes := []
  cycCount : Nat := 0
  appBytes : Bytes := []
  throttle : Nat := 0
  throttleNext : Nat := 0
deriving DecidableEq, Repr

/-- A DMA channel (R455 to R459). States 0 IDLE, 1 QUEUED, 2 ACTIVE, 3 FAULTED. -/
structure DmaCh where
  atp     : Nat := 0
  head    : Nat := 0
  state   : Nat := 0
  point   : Nat := 0
  done    : Nat := 0
  desc    : Nat := 0
  completed : Nat := 0
  fetched : Bool := false
  ctrl    : Nat := 0
  prio    : Nat := 0
  len     : Nat := 0
  src     : Nat := 0
  dst     : Nat := 0
  nextD   : Nat := 0
  queuedAt : Nat := 0
  record  : Option Bytes := none
  resumeAt : Nat := 0
  saving  : Bool := false
deriving DecidableEq, Repr

/-- The DMA engine (R452 to R460). `slots` hold the channel of each transfer slot with its grant order. -/
structure Dma where
  ch      : Vector DmaCh 16 := Vector.replicate 16 {}
  slots   : Vector (Option (Nat × Nat)) 4 := Vector.replicate 4 none
  order   : Nat := 0
  fqWrite : Nat := 0
  fqRead  : Nat := 0
  fqSeq   : Nat := 0
  fq      : Vector Bytes 64 := Vector.replicate 64 []
  invalVa : Nat := 0
  inval   : Nat := 0
  tlb     : List (Nat × Nat × Nat × Nat) := []
  irq     : BitVec 16 := 0
  irqFq   : Bool := false
deriving DecidableEq, Repr

/-- The recorder (R462 to R466). States 0 IDLE, 1 RUNNING, 2 TRIGGERED, 3 STOPPED. `ring` holds the frames written, oldest first,
of which the last `staged` bytes wait in the staging buffer; `base` counts base cycles, `invalid` names spoiled frames by number. -/
structure Recorder where
  state    : Nat := 0
  setup    : Option Bytes := none
  frame    : Nat := 0
  base     : Nat := 0
  staged   : Nat := 0
  ring     : List Bytes := []
  dropped  : Nat := 0
  dropMark : Bool := false
  trigAt   : Option Tick := none
  trigDue  : Bool := false
  postLeft : Nat := 0
  preKept  : Nat := 0
  prevSig  : Option Int := none
  invalid  : List Nat := []
deriving DecidableEq, Repr

/-- The redundant pair and the bridle link (R469 to R493). States 0 NONE to 6 YIELDED. `lastHb` is the last valid heartbeat with its stamp, `seqs`
the next SEQ of HEARTBEAT, MIRROR, ACK and BULK, `part` the record being built, `held` the held one, `queues` the held gear queues, `slowDue` the
axes whose gear queue is still to be acknowledged with the SEQ last sent, `sentQ` the queues as last noted, `failSeen` the cause of the mismatch
already raised, `rollAt` the last bit of the ROLL frame of an arbitration, `query` the stamp of a pending network query, `standby` a stack held
by R469, `out` what the last bridle command sent. -/
structure Pair where
  state     : Nat := 0
  link      : Bool := false
  lastHb    : Option (Tick × Bytes) := none
  hbLate    : Bool := false
  delay     : Nat := 0
  offset    : Int := 0
  seqs      : Vector Nat 4 := Vector.replicate 4 0
  part      : List (Nat × Bytes) := []
  partCyc   : Nat := 0
  held      : List (Nat × Bytes) := []
  heldAt    : Option Tick := none
  queues    : Vector Bytes 4 := Vector.replicate 4 []
  slowDue   : List (Nat × Option Nat) := []
  delta     : Int := 0
  deltaM    : Vector Int 4 := Vector.replicate 4 0
  failSeen  : Option Nat := none
  checkAt   : Option Tick := none
  leaving   : Bool := false
  rollAt    : Tick := 0
  query     : Option Tick := none
  standby   : Bool := false
  sentQ     : Vector (List GearEv) 4 := Vector.replicate 4 []
  provides  : Bytes := []
  relayIn   : Bytes := []
  bulkQ     : List (Nat × Bytes) := []
  out       : List Bytes := []
  hbRx      : Nat := 0
  frameErr  : Nat := 0
  recRx     : Nat := 0
  recDisc   : Nat := 0
  takeovers : Nat := 0
  lastCause : Nat := 0
  lastAt    : Tick := 0
deriving DecidableEq, Repr

/-- A frame waiting in a transmit buffer (R505): kind 0 user, 1 system, 2 reply, 3 forwarded. -/
structure TxFrame where
  ident    : Nat
  kind     : Nat
  src      : Option Source := none
  handle   : Nat := 0
  fdf      : Bool := true
  brs      : Bool := false
  data     : Bytes := []
  attempts : Nat := 0
  last     : Bool := false
  putAt    : Tick := 0
  acks     : Nat := 0
deriving DecidableEq, Repr

/-- A remote-command transfer being assembled (R508). -/
structure Transfer where
  node  : Nat
  port  : Nat
  tag   : Nat
  next  : Nat
  cls   : Nat
  first : Tick
  bytes : Bytes
deriving DecidableEq, Repr

/-- One Alcia port (R495 to R526). States 0 OFF to 5 SILENT. -/
structure AlPort where
  state    : Nat := 0
  tec      : Nat := 0
  rxErr    : Nat := 0
  tx       : List TxFrame := []
  busOffs  : Nat := 0
  activeAt : Tick := 0
  sender   : Option (Nat × Nat) := none
  sending  : Bool := false
  heardAt  : Tick := 0
  syncSeq  : Nat := 0
  syncHops : Nat := 0
  syncAt   : Option (Nat × Tick) := none
  followAt : Tick := 0
  followLate : Bool := false
  heardLate : Bool := false
  bridgeAt : Option Tick := none
  annBase  : Option Tick := none
  annDone  : Bool := false
  brgCount : Nat := 0
  brgAt    : Option Tick := none
  annAt    : Option Tick := none
  probeAt  : Tick := 0
  busOffAt : Tick := 0
  syncSentAt : Option Tick := none
  ofs      : Int := 0
  txN      : Nat := 0
  rxN      : Nat := 0
  returned : Nat := 0
  fwdDrop  : Nat := 0
  errors   : Nat := 0
  ignored  : Nat := 0
  filtered : Nat := 0
  rxDrop   : Nat := 0
  tdc      : Nat := 0
deriving DecidableEq, Repr

/-- The Alcia node (R500 to R527). Network time is device time + `tOfs` + rate (ppb) since `tBase`. -/
structure Alcia where
  ports    : Vector AlPort 2 := Vector.replicate 2 {}
  handle   : Nat := 0
  bound    : Option (Nat × Nat × Tick) := none
  bindLate : Bool := false
  xfers    : List Transfer := []
  appQ     : List CanFrame := []
  rplPos   : Nat := 0
  tOfs     : Int := 0
  ratePpb  : Int := 0
  tBase    : Tick := 0
  valid    : Bool := false
  goodRun  : Nat := 0
  dupErrs  : List Tick := []
  claimK   : Nat := 0
  claimAt  : Tick := 0
  claimSent : Option Tick := none
  claimLow : Bool := false
  claiming : Bool := false
  conflict : Bool := false
  segMap   : BitVec 64 := 0
  segMiss  : Vector Nat 64 := Vector.replicate 64 0
  netMap   : Vector (BitVec 64) 64 := Vector.replicate 64 0
  segSeen  : Vector (Option Tick) 64 := Vector.replicate 64 none
  segLate  : BitVec 64 := 0
  brgFirst : Option Tick := none
  sumAt    : Option Tick := none
  sumMap   : BitVec 64 := 0
deriving DecidableEq, Repr

/-- A boot record (R535), none of its fields meaningful when `valid` is false. -/
structure BootRec where
  valid : Bool := false
  seq   : Nat := 0
  slots : BitVec 4 := 0
  trial : Nat := 255
  tries : Nat := 0
  hist  : BitVec 2 := 0
deriving DecidableEq, Repr

/-- The content of an image slot (R528, R529): the header and body downloaded into it, or the image the module was delivered
with, whose header is the module's (`Config.deliveredHeader`). -/
structure Image where
  header    : Bytes := []
  body      : Bytes := []
  delivered : Bool := false
deriving DecidableEq, Repr

/-- Firmware update (R528 to R547). `slots` are the two slots of the four kinds, kind k slot b at index 2 k + b; `loaded` the
kinds the last BOOT started, `inUse` the slot bits they were started from, `baudNext` a rate and when the reply it follows was queued, `relayOps`
opcode and SEQ of the packets forwarded over a relay that wait for their replies, `offerAt` stamp and SEQ of the relayed offer that opened the session
(R543), `late` that a packet came after the deadline of R540 or R544, `fallback` the IMG_FALLBACK events still to raise: cause, kind, slot. -/
structure Update where
  session  : Nat := 0
  holder   : Nat := 0
  kind     : Nat := 255
  header   : Bytes := []
  body     : Bytes := []
  erased   : Nat := 0
  lastAt   : Tick := 0
  lastRes  : Nat := 0
  baud     : Nat := 1
  baudNext : Option (Nat × Option Tick) := none
  relayOps : List (Nat × Nat) := []
  offerAt  : Option (Tick × Nat) := none
  late     : Bool := false
  sillMask : BitVec 4 := 0
  counter  : Nat := 0
  recs     : Vector BootRec 2 := #v[{ valid := true }, {}]
  inUse    : BitVec 4 := 0
  loaded   : BitVec 4 := 0xF
  slots    : Vector (Option Image) 8 :=
    #v[some { delivered := true }, none, some { delivered := true }, none, some { delivered := true }, none,
       some { delivered := true }, none]
  trialBoot : Bool := false
  fallback : List (Nat × Nat × Nat) := []
deriving DecidableEq, Repr

/-- One temperature reading (R550 to R552) in 0.1 °C. -/
structure Reading where
  value  : Int := 0
  broken : Bool := false
  good   : Nat := 0
deriving DecidableEq, Repr

/-- The conversions of a temperature input (R550): sum and number since the last evaluation, the mean of the last evaluation that had any, and when the last
one completed. -/
structure TempAcc where
  sum  : Int := 0
  n    : Nat := 0
  mean : Option Int := none
  last : Tick := 0
deriving DecidableEq, Repr

/-- Thermal management (R550 to R557): D0 to D5, NTC0 to NTC3, PT0 to PT3; derating factors and trip counts per stack; `acc` are the conversions of NTC0 to
NTC3 in µV and of PT0 to PT3 in mΩ. -/
structure Thermal where
  acc   : Vector TempAcc 8 := Vector.replicate 8 {}
  die   : Vector Reading 6 := Vector.replicate 6 {}
  ntc   : Vector Reading 4 := Vector.replicate 4 {}
  pt    : Vector Reading 4 := Vector.replicate 4 {}
  k     : Vector Rat 4 := Vector.replicate 4 1
  hot   : Vector Nat 4 := Vector.replicate 4 0
  cool  : Vector Nat 4 := Vector.replicate 4 2
  crit  : Nat := 0
  level : Nat := 0
deriving DecidableEq, Repr

/-- The whole machine. `stamp` is the stamp of the command being carried out (R41), `pending` is the queue of commands that wait, first in, first out; `fresh` counts the free values the
model has drawn (the model's own field, not the manual's). -/
structure State where
  dev      : DevState := .boot
  time     : Tick := 0
  stamp    : Tick := 0
  ports    : Vector Port 4 := Vector.replicate 4 {}
  owner    : Option Source := none
  counters : Counters := {}
  power    : Power := {}
  watch    : Watch := {}
  pins     : Pins := {}
  blocks   : List (Nat × Bytes) := []
  sealedCfg : Option Sealed := none
  gates    : Vector GateCh 28 := Vector.replicate 28 {}
  legLock  : Vector Bool 12 := Vector.replicate 12 false
  bkLock   : Vector Bool 4 := Vector.replicate 4 false
  stCount  : Nat := 0
  stk      : Vector Stack 4 := Vector.replicate 4 {}
  fb       : Vector FbPort 6 := Vector.replicate 6 {}
  obs      : Vector Observer 4 := Vector.replicate 4 {}
  sarA     : Sar := {}
  sarB     : Sar := {}
  sref     : Sref := {}
  motion   : Motion := {}
  torsion  : Torsion := {}
  col      : Colonnade := {}
  aux      : Aux := {}
  safety   : Safety := {}
  faults   : Faults := {}
  integ    : Integrity := {}
  app      : AppSt := {}
  dma      : Dma := {}
  recorder : Recorder := {}
  mem      : List Host.Cell := []
  pair     : Pair := {}
  alcia    : Alcia := {}
  upd      : Update := {}
  thermal  : Thermal := {}
  fresh    : Nat := 0
  pending  : List Instr := []
deriving DecidableEq, Repr

/-- The device as it enters BOOT from RESET (R17): every field at its value after reset. (DESIGN CHOICE, assumption 7.) (DESIGN CHOICE, assumption 41.) (DESIGN CHOICE, assumption 62.) -/
def State.reset : State := {}

/-- Why the machine stops. -/
inductive Fault
  /-- Raised by no command of this model: kept so that a fault can be named. Safe. -/
  | none
deriving DecidableEq, Repr

/-- Why a command is turned away by the model. -/
inductive Refusal
  /-- Raised by the dispatch for a command that has no meaning yet. Safe. -/
  | notModelled (mnemonic : String)
deriving DecidableEq, Repr

end Sys2Proof.Machine
end

