-- ==== Sys2Proof/Machine/Ops.lean ====
section
/-! DEFINITION. The named operations over the state: byte strings and numbers (R9, R10), the check codes, vectors, memory in
its canonical form, device time, credits and replies (R98), event queues (R119, R120) and the recorder's event trigger. -/
namespace Sys2Proof.Machine

/-! ### Byte strings and numbers -/

/-- The `n` bytes of a number, least significant first (R9). -/
def le : Nat → Nat → Bytes
  | 0, _ => []
  | n + 1, v => BitVec.ofNat 8 v :: le n (v / 256)

/-- The `n` bytes of a two's-complement number, least significant first (R9). -/
def leI (n : Nat) (v : Int) : Bytes := le n (v % (2 ^ (8 * n) : Nat)).toNat

/-- The number a byte string holds, least significant byte first (R9). -/
def natOf : Bytes → Nat
  | [] => 0
  | b :: r => b.toNat + 256 * natOf r

/-- The unsigned field of `n` bytes at byte `off`; bytes past the end read 0. -/
def getN (b : Bytes) (off n : Nat) : Nat := natOf ((b.drop off).take n)

/-- The two's-complement field of `n` bytes at byte `off`. -/
def getI (b : Bytes) (off n : Nat) : Int :=
  let v := getN b off n
  if 2 ^ (8 * n) ≤ 2 * v then (v : Int) - (2 ^ (8 * n) : Nat) else v

/-- The bits [hi:lo] of a number. -/
def bitsN (v hi lo : Nat) : Nat := v / 2 ^ lo % 2 ^ (hi + 1 - lo)

/-- A number as a bit: 1 for true. -/
def b2n (b : Bool) : Nat := if b then 1 else 0

/-- `n` bytes of 0. -/
def zeros (n : Nat) : Bytes := List.replicate n 0

/-- A byte string cut or filled with zeros to `n` bytes. -/
def fit (n : Nat) (b : Bytes) : Bytes := (b ++ zeros n).take n

/-- A byte string with the bytes `v` written at byte `off`. -/
def putB (b : Bytes) (off : Nat) (v : Bytes) : Bytes := b.take off ++ v ++ b.drop (off + v.length)

/-- A value kept within a range: the saturation of R10. -/
def clampI (lo hi v : Int) : Int := if v < lo then lo else if hi < v then hi else v

/-- A fraction kept within a range. -/
def clampR (lo hi v : Rat) : Rat := if v < lo then lo else if hi < v then hi else v

/-- The magnitude of a fraction. -/
def absR (v : Rat) : Rat := if v < 0 then -v else v

/-- The larger of two fractions. -/
def maxR (a b : Rat) : Rat := if a < b then b else a

/-- The smaller of two fractions. -/
def minR (a b : Rat) : Rat := if b < a then b else a

/-- The sign of a fraction, 0 for 0. -/
def sgnR (v : Rat) : Int := if v < 0 then -1 else if v = 0 then 0 else 1

/-- Rounding to nearest, a value exactly halfway towards zero (R10). -/
def roundR (r : Rat) : Int := if r < 0 then -((-r - 1 / 2).ceil) else (r - 1 / 2).ceil

/-- A fraction as a signed fixed-point number of `bits` bits with `frac` fraction bits: rounded, saturated (R10). -/
def toFix (bits frac : Nat) (r : Rat) : Int :=
  clampI (-(2 ^ (bits - 1) : Nat)) ((2 ^ (bits - 1) : Nat) - 1) (roundR (r * (2 ^ frac : Nat)))

/-- A fraction as an unsigned fixed-point number of `bits` bits with `frac` fraction bits: rounded, saturated (R10). -/
def toUfix (bits frac : Nat) (r : Rat) : Nat := (clampI 0 ((2 ^ bits : Nat) - 1) (roundR (r * (2 ^ frac : Nat)))).toNat

/-- The fraction a Q8.24 number stands for (R11). -/
def ofQ24 (v : Int) : Rat := (v : Rat) / 16777216

/-- A fraction as Q8.24 in 32 bits (R10, R11). -/
def toQ24 (r : Rat) : Int := toFix 32 24 r

/-- An integer saturated to `n` bytes of two's complement (R10). -/
def satI (n : Nat) (v : Int) : Int := clampI (-(2 ^ (8 * n - 1) : Nat)) ((2 ^ (8 * n - 1) : Nat) - 1) v

/-- A natural number saturated to `n` bytes. -/
def satN (n v : Nat) : Nat := min v (2 ^ (8 * n) - 1)

/-- The part of a turn an angle stands for, in [0, 1). -/
def fracTurn (r : Rat) : Rat := r - r.floor

/-- The angle in (−1/2, 1/2] turn. -/
def wrapTurn (r : Rat) : Rat := let f := fracTurn r; if 1 / 2 < f then f - 1 else f

/-- An angle as UQ0.32 (R12): the nearest step, modulo one turn. -/
def turn32 (r : Rat) : Nat := (roundR (r * 4294967296) % 4294967296).toNat

/-- The signed 32-bit reading of an angle difference. -/
def sturn32 (n : Nat) : Int := if 2147483648 ≤ n % 4294967296 then (n % 4294967296 : Int) - 4294967296 else (n % 4294967296 : Int)

/-- A quotient of data: a divisor of 0 gives a free value (DESIGN CHOICE, assumption 4). -/
def quot (a b : Rat) : Rat := if b = 0 then Config.divZero a else a / b

/-! ### Check codes -/

/-- One byte into a reflected CRC register. -/
def crcByteR {w : Nat} (poly c : BitVec w) (b : Byte) : BitVec w :=
  let step := fun (c : BitVec w) => if c.toNat % 2 = 1 then (c >>> 1) ^^^ poly else c >>> 1
  step (step (step (step (step (step (step (step (c ^^^ b.setWidth w))))))))

/-- CRC-32C (R95). -/
def crc32c (b : Bytes) : BitVec 32 := (b.foldl (crcByteR 0x82F63B78#32) 0xFFFFFFFF#32) ^^^ 0xFFFFFFFF#32

/-- One byte into an unreflected CRC register of 16 bits. -/
def crcByte16 (poly c : BitVec 16) (b : Byte) : BitVec 16 :=
  let step := fun (c : BitVec 16) => if c.msb then (c <<< 1) ^^^ poly else c <<< 1
  step (step (step (step (step (step (step (step (c ^^^ (b.setWidth 16 <<< 8)))))))))

/-! ### Vectors -/

/-- A vector with element `i` changed by `f`; nothing where there is no such element. -/
def vmod {α : Type} {n : Nat} (v : Vector α n) (i : Nat) (f : α → α) : Vector α n :=
  if h : i < n then v.set i (f (v[i]'h)) h else v

/-- Element `i` of a vector, or a default. -/
def vget {α : Type} {n : Nat} (v : Vector α n) (i : Nat) (d : α) : α := if h : i < n then v[i]'h else d

/-! ### Memory (R440): the listed bytes, addresses rising, none 0; an unlisted byte reads 0 (R77, R124) -/

/-- The byte at an address. -/
def Memory.read : List Host.Cell → Nat → Byte
  | [], _ => 0
  | (a, v) :: r, x => if x = a then v else Memory.read r x

/-- The memory with one byte written, in canonical form. -/
def Memory.write : List Host.Cell → Nat → Byte → List Host.Cell
  | [], x, v => if v = 0 then [] else [(x, v)]
  | (a, w) :: r, x, v =>
    if x < a then (if v = 0 then (a, w) :: r else (x, v) :: (a, w) :: r)
    else if x = a then (if v = 0 then r else (x, v) :: r)
    else (a, w) :: Memory.write r x v

/-- Every address is above `lo`, they rise strictly, and no byte is 0. -/
def Memory.wfFrom : Nat → List Host.Cell → Bool
  | _, [] => true
  | lo, (a, v) :: r => decide (lo ≤ a) && decide (v ≠ 0) && Memory.wfFrom (a + 1) r

/-- The canonical form of a memory. -/
def Memory.wf (m : List Host.Cell) : Bool := Memory.wfFrom 0 m

/-- `n` bytes from an address up. -/
def Memory.readN (m : List Host.Cell) : Nat → Nat → Bytes
  | _, 0 => []
  | a, n + 1 => Memory.read m a :: Memory.readN m (a + 1) n

/-- A byte string written from an address up. -/
def Memory.writeN (m : List Host.Cell) : Nat → Bytes → List Host.Cell
  | _, [] => m
  | a, b :: r => Memory.writeN (Memory.write m a b) (a + 1) r

/-! ### The machine's parts -/

/-! Each part of the state changed by a function, the other parts as they were. -/
/-- The state with `counters` changed. -/
def State.modCounters (s : State) (f : Counters → Counters) : State := { s with counters := f s.counters }
/-- The state with `power` changed. -/
def State.modPower (s : State) (f : Power → Power) : State := { s with power := f s.power }
/-- The state with `watch` changed. -/
def State.modWatch (s : State) (f : Watch → Watch) : State := { s with watch := f s.watch }
/-- The state with `pins` changed. -/
def State.modPins (s : State) (f : Pins → Pins) : State := { s with pins := f s.pins }
/-- The state with `sref` changed. -/
def State.modSref (s : State) (f : Sref → Sref) : State := { s with sref := f s.sref }
/-- The state with `motion` changed. -/
def State.modMotion (s : State) (f : Motion → Motion) : State := { s with motion := f s.motion }
/-- The state with `torsion` changed. -/
def State.modTorsion (s : State) (f : Torsion → Torsion) : State := { s with torsion := f s.torsion }
/-- The state with `col` changed. -/
def State.modCol (s : State) (f : Colonnade → Colonnade) : State := { s with col := f s.col }
/-- The state with `aux` changed. -/
def State.modAux (s : State) (f : Aux → Aux) : State := { s with aux := f s.aux }
/-- The state with `safety` changed. -/
def State.modSafety (s : State) (f : Safety → Safety) : State := { s with safety := f s.safety }
/-- The state with `faults` changed. -/
def State.modFaults (s : State) (f : Faults → Faults) : State := { s with faults := f s.faults }
/-- The state with `integ` changed. -/
def State.modInteg (s : State) (f : Integrity → Integrity) : State := { s with integ := f s.integ }
/-- The state with `app` changed. -/
def State.modApp (s : State) (f : AppSt → AppSt) : State := { s with app := f s.app }
/-- The state with `dma` changed. -/
def State.modDma (s : State) (f : Dma → Dma) : State := { s with dma := f s.dma }
/-- The state with `recorder` changed. -/
def State.modRecorder (s : State) (f : Recorder → Recorder) : State := { s with recorder := f s.recorder }
/-- The state with `pair` changed. -/
def State.modPair (s : State) (f : Pair → Pair) : State := { s with pair := f s.pair }
/-- The state with `alcia` changed. -/
def State.modAlcia (s : State) (f : Alcia → Alcia) : State := { s with alcia := f s.alcia }
/-- The state with `upd` changed. -/
def State.modUpd (s : State) (f : Update → Update) : State := { s with upd := f s.upd }
/-- The state with `thermal` changed. -/
def State.modThermal (s : State) (f : Thermal → Thermal) : State := { s with thermal := f s.thermal }

/-- The source ID of R103. -/
def sourceId : Source → Nat
  | .host => 1 | .alcia => 2 | .app => 3 | .service => 4

/-- The place of a source in the vector of ports. -/
def portIx (s : Source) : Nat := sourceId s - 1

/-- The state code of R19; OFF and RESET have the codes 0 and 1, which no reply shows. -/
def DevState.code : DevState → Nat
  | .off => 0 | .inReset => 1 | .sill => 2 | .boot => 3 | .unconfigured => 4 | .ready => 5 | .run => 6
  | .safeStop => 7 | .fault => 8 | .shelter => 9 | .watch => 10

/-- The port of a source. -/
def State.port (s : State) (c : Source) : Port := vget s.ports (portIx c) {}

/-- The state with the port of a source changed. -/
def State.modPort (s : State) (c : Source) (f : Port → Port) : State := { s with ports := vmod s.ports (portIx c) f }

/-- Stack `k`. -/
def State.stack (s : State) (k : Nat) : Stack := vget s.stk k {}

/-- The state with stack `k` changed. -/
def State.modStack (s : State) (k : Nat) (f : Stack → Stack) : State := { s with stk := vmod s.stk k f }

/-- Feedback port `n`. -/
def State.fbPort (s : State) (n : Nat) : FbPort := vget s.fb n {}

/-- The state with feedback port `n` changed. -/
def State.modFb (s : State) (n : Nat) (f : FbPort → FbPort) : State := { s with fb := vmod s.fb n f }

/-- The observer of the machine whose lowest stack is `m`. -/
def State.observer (s : State) (m : Nat) : Observer := vget s.obs m {}

/-- The state with one observer changed. -/
def State.modObs (s : State) (m : Nat) (f : Observer → Observer) : State := { s with obs := vmod s.obs m f }

/-- The turn-on of a channel at a tick: a transition with its t0 (R144, R146). -/
def GateCh.turnOn (g : GateCh) (u : Tick) : GateCh :=
  { g with out := .on, phase := if g.mode = 2 then .rest else .onPlateau, clamp := false, hold := false, t0 := u, ghAt := u, step := g.stepOn, onAt := none }

/-- A half-bridge whose switches go to a state at a tick, `w` being REFRESH_W (R168). -/
def HalfBridge.set (h : HalfBridge) (w u : Tick) (hi lo : Bool) : HalfBridge :=
  { h with hi := hi, lo := lo, hiOff := if h.hi && !hi then some u else h.hiOff, loOff := if h.lo && !lo then some u else h.loOff,
           loSince := if lo && !h.lo then u else h.loSince,
           lastLo := if h.lo && !lo && decide (h.loSince + w ≤ u) then u else h.lastLo }

/-- A half-bridge at a tick: what was planned up to then has happened. -/
def HalfBridge.at (h : HalfBridge) (w now : Tick) : HalfBridge :=
  { (h.plan.filter fun x => decide (x.1 ≤ now)).foldl (fun h x => h.set w x.1 x.2.1 x.2.2) h with plan := h.plan.filter fun x => decide (now < x.1) }

/-- A half-bridge told to take a state now: what turns off does so at once, what turns on waits `dead` after its partner's off command (R167). -/
def HalfBridge.command (h : HalfBridge) (w dead now : Tick) (hi lo : Bool) : HalfBridge :=
  let h := { (h.at w now).set w now (h.hi && hi) (h.lo && lo) with plan := [] }
  let off := if hi then h.loOff else h.hiOff
  let u := match off with | some v => max now (v + dead) | none => now
  if (hi == h.hi) && (lo == h.lo) then h else if u = now then h.set w now hi lo else { h with plan := [(u, hi, lo)] }

/-- A later change is planned behind what the half-bridge does now: off at `u`, the new state `dead` after it. -/
def HalfBridge.later (h : HalfBridge) (dead u : Tick) (hi lo : Bool) : HalfBridge :=
  { h with plan := (h.plan.filter fun x => decide (x.1 < u)) ++ [(u, false, false), (u + dead, hi, lo)] }

/-- A channel at a tick: an on command that waited for the dead time has reached it by then (R154). -/
def GateCh.at (g : GateCh) (now : Tick) : GateCh := match g.onAt with
  | some u => if u ≤ now then g.turnOn u else g
  | none => g

/-- Gate channel `ch`. -/
def State.gate (s : State) (ch : Nat) : GateCh := (vget s.gates ch {}).at s.time

/-- The state with one gate channel changed. -/
def State.modGate (s : State) (ch : Nat) (f : GateCh → GateCh) : State := { s with gates := vmod s.gates ch fun g => f (g.at s.time) }

/-- Axis `n`. -/
def State.axis (s : State) (n : Nat) : Axis := vget s.aux.axes n {}

/-- The state with axis `n` changed. -/
def State.modAxis (s : State) (n : Nat) (f : Axis → Axis) : State :=
  s.modAux fun a => { a with axes := vmod a.axes n f }

/-- Alcia port `p`. -/
def State.alPort (s : State) (p : Nat) : AlPort := vget s.alcia.ports p {}

/-- The state with Alcia port `p` changed. -/
def State.modAl (s : State) (p : Nat) (f : AlPort → AlPort) : State :=
  s.modAlcia fun a => { a with ports := vmod a.ports p f }

/-- The state with DMA channel `n` changed. -/
def State.modCh (s : State) (n : Nat) (f : DmaCh → DmaCh) : State := s.modDma fun d => { d with ch := vmod d.ch n f }

/-! ### Device time -/

/-- Whether the fast clocks run (R80): in every state except OFF and WATCH; device time restarts at 0 on leaving RESET (R13). (DEDUCED, assumption 8.) -/
def State.clockRuns (s : State) : Bool := match s.dev with
  | .off | .inReset | .watch => false
  | _ => true

/-- The state at device time `t`: device time never decreases (R32), and a command that comes late keeps its own stamp (R41). (DEDUCED, assumption 8.) -/
def State.upTo (s : State) (t : Tick) : State := if s.clockRuns then { s with time := max s.time t, stamp := t } else s

/-- Ticks in a number of milliseconds (R13). -/
def msTicks (n : Nat) : Nat := n * 100000

/-- Ticks in a number of microseconds (R13). -/
def usTicks (n : Nat) : Nat := n * 100

/-- The timeout test of R40 and R42: a deadline `d` is declared missed no earlier than 1 µs after it. (DEDUCED, assumption 14.) -/
def due (d now : Nat) : Bool := decide (d + 100 ≤ now)

/-- Kingpost ticks of 25 ns in a number of milliseconds (R43). -/
def msKt (n : Nat) : Nat := n * 40000

/-- The Kingpost reports a tick of its own (R43). (DESIGN CHOICE, assumption 17.) -/
def State.upKt (s : State) (kt : Nat) : State := s.modSafety fun x => { x with kpTick := max x.kpTick kt, kpAt := s.time }

/-- The Kingpost tick now: that of its last report and the device time since (R43). (DESIGN CHOICE, assumption 17.) -/
def State.kpNow (s : State) : Nat := s.safety.kpTick + (s.time - s.safety.kpAt) * 2 / 5

/-- Draw a free value (DESIGN CHOICE, assumption 3). -/
def State.draw (s : State) : Nat × State := (Config.freeValue s.fresh, { s with fresh := s.fresh + 1 })

/-! ### Event queues (R119, R120) -/

/-- Store a record in a port's queue, or count it as lost when the queue is full (R120). -/
def Port.store (p : Port) (e : EventRec) : Port :=
  if p.events.length < 512 then
    { p with events := p.events ++ [{ e with eseq := p.eseqNext }], eseqNext := (p.eseqNext + 1) % 65536,
             lastCode := e.code, lastEseq := p.eseqNext }
  else { p with lost := satN 4 (p.lost + 1) }

/-- The record of an event of the row in progress (R41). -/
def State.mkEvent (s : State) (code cls level obj : Nat) (data : Bytes) : EventRec :=
  { code := code, eseq := 0, state := s.dev.code, level := level, obj := obj, cls := cls, stamp := s.stamp,
    data := fit 8 data }

/-- Store a record for one source. -/
def State.storeFor (s : State) (c : Source) (e : EventRec) : State :=
  let full := decide (512 ≤ (s.port c).events.length)
  let s := s.modPort c (·.store e)
  if full then s.modCounters fun c => { c with overflow := satN 4 (c.overflow + 1) } else s

/-- Store a record for every source. -/
def State.storeAll (s : State) (e : EventRec) : State :=
  (((s.storeFor .host e).storeFor .alcia e).storeFor .app e).storeFor .service e

/-- A change of the recorder state with its event REC_STATE (R464, R468). -/
def State.recState (s : State) (new cause : Nat) : State :=
  let old := s.recorder.state
  let s := s.modRecorder fun r => { r with state := new }
  s.storeAll (s.mkEvent 0x8703 0 2 0 (le 1 new ++ le 1 old ++ le 1 cause))

/-- The recorder is triggered now (R464). -/
def State.recTrigger (s : State) (cause : Nat) : State :=
  let s := s.recState 2 cause
  s.modRecorder fun r => { r with trigAt := some s.stamp, trigDue := true }

/-- What an event of a code and class does to the recorder (R464). -/
def State.recEvent (s : State) (code cls : Nat) : State :=
  let setup := s.recorder.setup.getD []
  let kind := getN setup 4 1
  let hit := (kind == 1 && code == getN setup 6 2) || (kind == 2 && cls != 0 && decide (getN setup 6 1 ≤ cls))
  let s := if s.recorder.state == 1 && (hit || cls == 14) then s.recTrigger 1 else s
  if s.recorder.state == 2 && cls == 14 then s.recState 3 3 else s

/-- Raise an event of any class as a record in every source's queue (R118, R119), with the recorder's trigger. -/
def State.post (s : State) (code cls level obj : Nat) (data : Bytes) : State :=
  (s.storeAll (s.mkEvent code cls level obj data)).recEvent code cls

/-- Raise an information event (class 0, R430). -/
def State.info (s : State) (code level obj : Nat) (data : Bytes) : State := s.post code 0 level obj data

/-! ### Credits and replies (R96, R98, R99) -/

/-- Queue a reply for a source. -/
def State.queueReply (s : State) (c : Source) (r : Reply) : State :=
  s.modPort c fun p => { p with replies := p.replies ++ [{ r with queued := s.time }] }

/-- Take one credit of a source. -/
def State.takeCredit (s : State) (c : Source) : State := s.modPort c fun p => { p with credits := p.credits - 1 }

/-- Deliver the oldest queued reply of a source (R91, R98): it leaves the queue, and a reply with NC = 0 returns one credit.
A RESET_DEVICE reply starts the 10 µs of R102. -/
def State.deliver (s : State) (c : Source) : State :=
  match (s.port c).replies with
  | [] => s
  | r :: rest =>
    let s := s.modPort c fun p =>
      { p with replies := rest, delivered := some r, credits := if r.nc then p.credits else min 8 (p.credits + 1) }
    s.modPower fun p => { p with resetDue := p.resetDue.map fun x =>
      if x.1 = c ∧ r.queued = x.2.1 ∧ x.2.2.isNone then (x.1, x.2.1, some s.time) else x }

/-- The bytes of a reply on a port (R96). -/
def Reply.bytes (r : Reply) : Bytes :=
  let body := [if r.sill then 0x5A#8 else 0x5B#8] ++ le 1 (b2n r.cyc + 2 * b2n r.nc) ++ le 2 r.status ++ le 2 r.seq ++ le 2 r.data.length ++ r.data
  body ++ le 4 (crc32c body).toNat

/-- The bytes of an event record (R119). -/
def EventRec.bytes (e : EventRec) : Bytes :=
  le 2 e.code ++ le 2 e.eseq ++ le 1 e.state ++ le 1 e.level ++ le 1 e.obj ++ le 1 e.cls ++ le 8 e.stamp ++ fit 8 e.data

/-- The outcome of a command: its status and reply data with the state it leaves (R117: other than OK leaves it unchanged). -/
structure Rep where
  status : Nat
  data   : Bytes
  st     : State

/-- Accepted and carried out. -/
def Rep.ok (s : State) (d : Bytes := []) : Rep := ⟨0x0000, d, s⟩
/-- Rejected with a status, nothing changed. -/
def Rep.no (s : State) (code : Nat) (d : Bytes := []) : Rep := ⟨code, d, s⟩

/-! Status codes (R117). -/
abbrev eOpcode : Nat := 0x0101
abbrev eLength : Nat := 0x0102
abbrev eFrame  : Nat := 0x0103
abbrev eCrc    : Nat := 0x0104
abbrev eRange  : Nat := 0x0105
abbrev eState  : Nat := 0x0106
abbrev eCredit : Nat := 0x0107
abbrev eBusy   : Nat := 0x0108
abbrev eLocked : Nat := 0x0109
abbrev eBehind : Nat := 0x010A
abbrev eSealed : Nat := 0x010B
abbrev eCompat : Nat := 0x010C
abbrev eRollback : Nat := 0x010D
abbrev eAuth   : Nat := 0x010E
abbrev eHomeLimit : Nat := 0x010F
abbrev eSource : Nat := 0x0110

end Sys2Proof.Machine
end

