-- ==== Sys2Proof/Machine/Operands.lean ====
section
/-! DEFINITION. The operand forms: the configuration blocks (R125) with the range of every field, every reserved bit and every
rule inside a block (R128), the values after reset, and the configuration in force. -/
namespace Sys2Proof.Machine

/-- A field of a block: a number of `size` bytes with its range, or a byte whose bits outside `mask` are reserved. -/
inductive FieldD
  | num (off size : Nat) (signed : Bool) (lo hi dflt : Int)
  | bits (off mask dflt : Nat)
deriving DecidableEq, Repr

/-- The layout of a block: its size, its fields, and the offsets at which its rules fail. Bytes of no field are reserved. -/
structure Layout where
  size   : Nat
  fields : List FieldD
  rules  : Bytes → List Nat := fun _ => []

/-- An unsigned field. -/
def fu (off size : Nat) (lo hi dflt : Int) : FieldD := .num off size false lo hi dflt
/-- A signed field. -/
def fi (off size : Nat) (lo hi dflt : Int) : FieldD := .num off size true lo hi dflt
/-- A field that takes any value. -/
def fa (off size : Nat) (dflt : Int := 0) : FieldD := .num off size false 0 ((2 ^ (8 * size) : Nat) - 1) dflt
/-- A signed field that takes any value. -/
def fs (off size : Nat) (dflt : Int := 0) : FieldD :=
  .num off size true (-(2 ^ (8 * size - 1) : Nat)) ((2 ^ (8 * size - 1) : Nat) - 1) dflt

/-- The bytes a field covers, as first byte and size. -/
def FieldD.span : FieldD → Nat × Nat
  | .num off size _ _ _ _ => (off, size)
  | .bits off _ _ => (off, 1)

/-- The offset at which a field of the data fails, if it does (R128). -/
def FieldD.fails (d : Bytes) : FieldD → List Nat
  | .num off size signed lo hi _ =>
    let v : Int := if signed then getI d off size else getN d off size
    if lo ≤ v ∧ v ≤ hi then [] else [off]
  | .bits off mask _ => if getN d off 1 &&& (255 - mask) = 0 then [] else [off]

/-- The value after reset of a field, written into the data. -/
def FieldD.putDflt (d : Bytes) : FieldD → Bytes
  | .num off size _ _ _ v => putB d off (leI size v)
  | .bits off _ v => putB d off (le 1 v)

/-- The reserved bytes that are not 0. -/
def Layout.reservedFails (l : Layout) (d : Bytes) : List Nat :=
  (List.range l.size).filter fun i =>
    getN d i 1 != 0 && !(l.fields.any fun f => decide (f.span.1 ≤ i) && decide (i < f.span.1 + f.span.2))

/-- The lowest offset at which the data fail, none when they pass (R128). -/
def Layout.check (l : Layout) (d : Bytes) : Option Nat :=
  (l.fields.flatMap (·.fails d) ++ l.reservedFails d ++ l.rules d).min?

/-- The values after reset. -/
def Layout.defaults (l : Layout) : Bytes := l.fields.foldl (fun d f => f.putDflt d) (zeros l.size)

/-- A rule: the offset where it fails unless it holds. -/
def rl (off : Nat) (ok : Bool) : List Nat := if ok then [] else [off]

/-- The counts per revolution of a feedback port from its block (R230). -/
def cprOf (d : Bytes) : Nat := match getN d 0 1 with
  | 1 => 4 * getN d 4 4
  | 2 => 16384 * getN d 4 4
  | 3 | 4 => 2 ^ getN d 16 1
  | 5 => 6 * getN d 4 4
  | 6 => getN d 4 4
  | _ => 0

/-- DEVICE (R137). -/
def lDevice : Layout where
  size := 64
  fields := [.bits 0 0x0F 0, fu 1 1 0 3 0, fu 2 1 0 2 0, .bits 4 0x07 7, fu 5 1 2 40 10, .bits 8 0x0F 0, .bits 9 0x3F 0,
    .bits 10 0x03 0, .bits 11 0x03 0, .bits 12 0x01 0, fa 16 16]

/-- STACK s (R225, R227). -/
def lStack (s : Nat) : Layout where
  size := 128
  fields := [.bits 0 0x03 1, fa 1 1, fu 2 2 1 256 1, fu 4 4 2500 100000 5000, fa 8 4, fa 12 4, fu 16 4 1 4000000 1000,
    fu 20 4 1000 100000000 100000, fu 24 4 1000 100000000 150000, fu 28 4 1 10000000 10000,
    fs 32 4 (-100000), fi 36 4 0 0x7FFFFFFF 100000, fs 40 4 (-100000), fs 44 4 100000,
    fu 48 2 10 4000 500, fu 50 2 10 2000 150, fu 52 2 29718 32768 29718, fu 54 2 52429 65535 62259, fu 56 2 1 500 50,
    fu 58 2 10 60000 1000, fu 60 2 0 16000 0, fu 62 2 0 16000 12500, fu 64 4 0 0x40000000 0x15555555,
    fu 68 4 0 0x04000000 0x01000000, fs 72 4, fs 76 4, fs 80 4, fs 84 4, fs 88 2, fs 90 2, fs 92 2, fs 94 2,
    fu 96 2 0 1000 0, fa 98 1, fu 99 1 1 2 1]
  rules d :=
    let imax : Int := getN d 20 4
    rl 1 (decide (getN d 1 1 ≤ 5) || getN d 1 1 == 0x10) ++ rl 8 (decide (getN d 8 4 < getN d 4 4)) ++
    rl 24 (decide (getN d 20 4 < getN d 24 4)) ++ rl 32 (decide (getI d 32 4 ≤ -imax)) ++
    rl 40 (decide (getI d 40 4 ≤ -imax)) ++ rl 44 (decide (imax ≤ getI d 44 4)) ++
    rl 62 (decide (getN d 60 2 < getN d 62 2)) ++
    rl (72 + 4 * s) (getN d (72 + 4 * s) 4 == 0) ++ rl (88 + 2 * s) (getN d (88 + 2 * s) 2 == 0)

/-- MOTION (R226, R227). -/
def lMotion : Layout where
  size := 128
  fields := [fu 0 1 0 2 0, fu 1 1 0 2 0, fu 2 1 1 16 1, fa 3 1, fu 4 4 1 10000000 150000, fa 8 4 0x000A0000,
    fu 12 4 100 10000000 50000, fu 16 4 1 0x7FFFFFFF 0x01000000, fu 20 4 1 100000 1000, fu 24 4 0 100000 500,
    fu 28 4 0 0x04000000 0x01000000, fi 32 4 (-0x04000000) 0 (-0x01000000), fu 36 4 0 0x02000000 0x01000000,
    fu 40 1 0 4 0, fu 41 1 0 1 0, fu 42 2 50 500 100, fu 44 4 0 0x04000000 0x01000000, fu 48 2 0 6554 328,
    fu 50 2 0 1000 20, fu 52 2 100 10000 100, fu 54 2 100 20000 10000, fu 56 2 2 1000 10, fu 58 2 10 2000 500]
  rules d := rl 3 (decide (getN d 3 1 ≤ 5) || getN d 3 1 == 0x10) ++ rl 54 (decide (getN d 52 2 < getN d 54 2)) ++
    rl 56 (decide (getN d 56 2 < getN d 54 2))

/-- The fields of a band record at byte `o` of a GATE block (R164). -/
def bandFields (o : Nat) : List FieldD :=
  [.bits o 31 3, .bits (o + 1) 31 3, .bits (o + 2) 31 3, .bits (o + 3) 31 3, .bits (o + 4) 31 3, .bits (o + 5) 31 3,
   .bits (o + 6) 31 3, .bits (o + 7) 31 3, fu (o + 8) 2 10 1000 100, fu (o + 10) 2 10 1000 100, fu (o + 12) 2 10 2550 200,
   fu (o + 14) 2 10 2550 200, .bits (o + 16) 31 0, .bits (o + 17) 31 31, fa (o + 18) 1 10]

/-- GATE s (R163 to R165). -/
def lGate : Layout where
  size := 256
  fields := [.bits 0 0x0F 0, fu 2 2 1 20000 100, fu 4 2 1 20000 100, fu 6 1 150 200 150, fu 7 1 0 80 0, fu 8 1 120 170 130,
    fu 9 1 0 75 0, .bits 10 0x3F 63, fu 11 1 2 32 10, .bits 12 0x3F 63, fu 13 1 2 32 10, fu 14 1 4 240 20, fu 15 1 4 240 160,
    fu 16 1 1 255 100, fi 18 2 (-400) 1500 0, fi 20 2 (-400) 1500 400, fi 22 2 (-400) 1500 800, fu 24 2 5 155 20,
    fu 26 1 10 255 50] ++ bandFields 32 ++ bandFields 64 ++ bandFields 96 ++ bandFields 128
  rules d :=
    let m := getN d 0 1
    rl 0 (decide (m % 4 < 3) && decide (m / 4 % 4 < 3)) ++ rl 20 (decide (getI d 18 2 + 50 ≤ getI d 20 2)) ++
    rl 22 (decide (getI d 20 2 + 50 ≤ getI d 22 2)) ++ rl 15 (decide (getN d 14 1 + 8 ≤ getN d 15 1)) ++
    ([0, 1, 2, 3].flatMap fun k => rl (49 + 32 * k) (decide (getN d (48 + 32 * k) 1 ≤ getN d (49 + 32 * k) 1))) ++
    rl 8 (decide (getN d 8 1 + 10 ≤ getN d 6 1)) ++ rl 9 (getN d 9 1 == 0 || decide (getN d 9 1 + 5 ≤ getN d 7 1)) ++
    rl 7 ((m % 4 != 2 && m / 4 % 4 != 2) || decide (40 ≤ getN d 7 1))

/-- AUXDRV (R172). -/
def lAuxdrv : Layout where
  size := 64
  fields := ([0, 8, 16, 24].flatMap fun o => [.bits o 0x0F 7, .bits (o + 1) 0x0F 7, fu (o + 2) 1 10 255 20,
    fu (o + 3) 1 30 255 50, fu (o + 4) 1 1 100 20, fu (o + 6) 2 1 2000 100]) ++ [fu 32 2 200 1600 1600]

/-- SENSE s (R197). -/
def lSense : Layout where
  size := 128
  fields := [.bits 0 0x3F 0x1F, .bits 1 0x01 0, fu 2 1 0 19 0, fu 3 1 0 19 0, fu 4 1 0 19 0, fu 5 1 0 19 0, fu 6 1 0 19 0,
    fu 7 1 0 19 0, fu 8 2 16 256 64, fu 10 2 16 64 16, fu 12 2 20 500 100, fu 14 1 0 2 2, fu 15 1 1 100 10,
    fu 16 4 1000 100000000 1000000, fu 20 4 1000 100000000 1000000, fu 24 4 1000 100000000 1600000,
    fu 28 4 1000 100000000 1000000, fs 32 4, fs 36 4, fs 40 4, fs 44 4, fs 48 4, fs 52 4, fs 56 4, fs 60 4,
    fu 64 2 1 3277 655, fu 66 2 1 3277 1311, fu 68 2 1 65535 66, fu 70 2 1 65535 328, .bits 72 0x0F 0x0F, fu 73 1 1 60 2,
    fu 74 2 100 60000 1000, fu 76 1 1 128 16, fu 77 1 1 16 4, fu 78 2 66 16384 1311, fu 80 2 66 16384 1311,
    .bits 82 0x03 3, fu 84 2 1 3277 655, fu 86 2 1 65535 66]
  rules d :=
    let inWin := fun (off win : Nat) => decide ((getI d off 4).natAbs ≤ getN d win 2 * 32768)
    rl 10 (decide (getN d 10 2 ≤ getN d 8 2)) ++ rl 64 (inWin 32 64 && inWin 36 64 && inWin 40 64 && inWin 44 64) ++
    rl 66 (inWin 48 66 && inWin 52 66 && inWin 56 66)

/-- FEEDBACK n (R254, R255). -/
def lFeedback : Layout where
  size := 64
  fields := [fu 0 1 0 6 0, .bits 1 0x1F 4, fa 2 1 2, .bits 3 0x03 3, fa 4 4 1024, fa 8 4, fu 12 2 100 1000 500, fu 14 1 10 99 70,
    fu 15 1 101 250 130, fu 16 1 1 32 17, fu 17 1 0 32 0, fu 18 1 0 8 0, fu 19 1 0 16 6, fa 20 2 0x43, fu 22 2 8 1000 100,
    fu 24 2 5 2000 200, fu 26 2 0 10000 0, fu 28 2 0 1000 20, fu 30 2 1 32768 8192, fu 32 1 0 2 2, fu 33 1 0 3 0, fu 34 1 0 5 0,
    fu 35 1 0 2 0, fu 36 1 0 5 0, fu 37 1 0 100 20, fu 38 1 0 8 2, fa 40 4, fa 44 4, fu 48 4 100 10000000 100000,
    fu 52 2 5 10000 250, fu 54 2 0 500 50]
  rules d :=
    let l := getN d 4 4
    rl 4 (match getN d 0 1 with
      | 1 => decide (1 ≤ l ∧ l ≤ 16777216)
      | 2 => decide (1 ≤ l ∧ l ≤ 65536)
      | 5 => decide (1 ≤ l ∧ l ≤ 64)
      | 6 => decide (8 ≤ l ∧ l ≤ 1024)
      | _ => true) ++
    rl 17 (decide (getN d 16 1 + getN d 17 1 ≤ 48)) ++
    rl (if getN d 0 1 == 3 || getN d 0 1 == 4 then 16 else 8) (getN d 0 1 == 0 || decide (4 * getN d 8 4 ≤ cprOf d))

/-- SENSORLESS s (R275, R276). -/
def lSensorless : Layout where
  size := 128
  fields := [.bits 0 0x03 2, fa 1 1 12, fu 2 1 1 8 1, fu 3 1 1 16 2, fu 4 2 655 32767 3277, fu 6 2 0 32767 6554,
    fu 8 4 1000 100000000 50000, fu 12 1 1 50 3, fu 13 1 1 50 5, fu 16 2 10 2000 200, fu 18 2 1 500 30, fu 20 2 5 10000 50,
    fu 22 2 1 65535 100, fu 24 4 0 100000000 10000, fu 28 2 1 65535 500, fu 30 1 10 99 70, fu 31 1 101 250 130,
    fu 32 2 10 190 50, fu 36 4 0 0x20000000 0x071C71C7, fu 40 1 5 50 20, fu 41 1 2 20 5, fu 42 2 1 10000 50,
    fu 44 2 50 1000 300, fu 46 1 1 3 3, fa 47 1 0xFF]
  rules d := rl 1 (getN d 1 1 == 12 || getN d 1 1 == 24) ++ rl 6 (decide (getN d 4 2 ≤ getN d 6 2)) ++
    rl 41 (decide (getN d 41 1 < getN d 40 1)) ++ rl 47 (decide (getN d 47 1 ≤ 5) || getN d 47 1 == 0xFF)

/-- TORSION (R294, R295). -/
def lTorsion : Layout where
  size := 64
  fields := [.bits 0 0x1F 0, fu 1 1 0 3 0, .bits 2 0x01 0, fu 4 4 10 6000000 10000, fu 8 2 1 500 10, fu 10 2 0 32768 32768,
    fu 12 4 0 0x04000000 0, fu 16 2 20 2000 20, fu 18 2 20 2000 2000, fa 20 2, fa 22 2, fu 24 2 1 200 20, fu 26 2 50 10000 2000,
    fu 28 2 1 65535 66, fu 30 2 0 1311 0, fa 32 4, fa 36 4, fu 40 4 0 0x00333333 0x00333333, fu 44 2 0 5000 0,
    fu 48 4 1 0x01000000 0x00028F5C, fu 52 4 0 0x04000000 0x00333333, fu 56 2 100 50000 10000, fu 58 1 1 100 100,
    fu 60 4 1 0x02800000 0x01333333]
  rules d :=
    let en := getN d 0 1
    let init := fun (o : Nat) => getN d o 2 == 0 || (decide (getN d 16 2 ≤ getN d o 2) && decide (getN d o 2 ≤ getN d 18 2))
    rl 0 (!(en.testBit 1 || en.testBit 4) || en.testBit 0) ++ rl 18 (decide (getN d 16 2 < getN d 18 2)) ++
    rl 20 (init 20) ++ rl 22 (init 22)

/-- DCLINK s (R341). -/
def lDclink : Layout where
  size := 64
  fields := [.bits 0 0x03 0, fu 2 2 500 16000 11600, fu 4 2 500 16000 11800, fu 6 2 500 16000 12000, fu 8 2 500 16000 12200,
    fu 10 2 500 16000 12500, fu 12 2 1 1000 650, fu 14 2 500 16000 8000, fu 16 2 500 16000 7000, fu 18 2 10 2000 100,
    fu 20 2 20 10000 100, fu 22 2 10 10000 50, fu 24 1 80 100 95, fu 25 1 1 20 2, fu 26 2 1 65535 20]
  rules d :=
    let g := fun (o : Nat) => getN d o 2
    rl 16 (decide (g 16 < g 14)) ++ rl 14 (decide (g 14 < g 2)) ++ rl 4 (decide (g 2 + 50 ≤ g 4)) ++
    rl 6 (decide (g 4 ≤ g 6)) ++ rl 8 (decide (g 6 < g 8)) ++ rl 10 (decide (g 8 ≤ g 10)) ++
    rl 12 (decide (g 10 + 200 ≤ 20 * g 12))

/-- EMERGENCY (R342). -/
def lEmergency : Layout where
  size := 64
  fields := [.bits 0 0x03 0, fu 4 4 0 0x01000000 0x00400000, fu 8 4 0 0x01000000 0x00800000, fu 12 4 1 0x7FFFFFFF 0x00200000,
    fu 16 4 1 0x7FFFFFFF 0x01000000, fu 20 4 1 0x7FFFFFFF 0x04000000, fu 24 4 100 600000 10000, fu 28 4 1 0x01000000 0x00028F5C,
    fu 32 2 1 1000 10, fu 36 4 0 0x04000000 0x01000000]

/-- AXIS n (R366, R367). -/
def lAxis : Layout where
  size := 128
  fields := [fu 0 1 0 2 0, .bits 1 0x3F 0, fa 2 1 0xFF, fa 3 1 0xFF, fa 4 1 0xFF, fu 5 1 0 8 8, fu 6 1 1 16 2, fu 7 1 1 64 4,
    fu 8 4 1000 1000000 10000, fu 12 2 0 30000 1000, fa 14 2 500, fu 16 2 1 60000 2000, fu 18 2 1 10000 500, fu 20 1 1 64 8,
    fu 21 1 0 16 4, fu 22 1 5 40 10, fu 23 1 5 100 30, fu 24 1 5 100 10, fu 25 1 10 200 20, fu 26 2 50 4000 500,
    fu 28 4 1 1000000 1000, fu 32 4 1 100000000 1000000, fa 36 4 0x00010000, fu 40 4 100 10000000 20000,
    fu 44 4 1 100000 5000, fu 48 4 1 2147483647 100000, fu 52 4 1 2147483647 100000, fu 56 4 1 2147483647 1000000,
    fu 60 4 1 2147483647 1000000, fa 64 4, fu 68 4 1 2147483647 10000, fs 72 8, fu 80 1 5 200 20, fu 81 1 1 255 8,
    fu 82 2 10 60000 1000, fu 84 4 1 2147483647 1024, fu 88 2 10 60000 5000]
  rules d :=
    let port := fun (o : Nat) => rl o (decide (getN d o 1 ≤ 5) || getN d o 1 == 0xFF)
    port 2 ++ port 3 ++ port 4 ++ rl 14 (decide (getN d 14 2 ≤ getN d 12 2)) ++ rl 16 (decide (getN d 12 2 < getN d 16 2)) ++
    rl 25 (decide (getN d 24 1 + 5 ≤ getN d 25 1)) ++ rl 68 (decide (getN d 68 4 ≤ getN d 52 4))

/-- COLONNADE (R318, R319). -/
def lColonnade : Layout where
  size := 32
  fields := [fu 0 1 0 7 0, fu 1 1 2 8 2, .bits 2 0x01 0, fu 3 1 1 4 1, fu 4 4 2 32000000 2000, fu 8 2 1 65535 256, fu 10 1 2 8 3,
    fa 11 1 10, fa 12 4, fu 16 1 0 1 0]
  rules d := rl 1 (decide (getN d 0 1 < getN d 1 1))

/-- PAIR (R492): each address has a node number from 1 to 63 (R5). -/
def lPair : Layout where
  size := 32
  fields := [fu 0 1 0 2 0, .bits 1 0x0F 0, fu 2 1 1 100 10, fa 4 1, .bits 5 0x0F 0, fa 6 1, .bits 7 0x0F 0]
  rules d := rl 4 (getN d 4 1 % 64 != 0) ++ rl 6 (getN d 6 1 % 64 != 0)

/-- ALCIA p (R524, with the SJW limits of R498). -/
def lAlcia : Layout where
  size := 32
  fields := [.bits 0 0x07 4, fu 2 2 1 32 2, fu 4 1 1 64 31, fu 5 1 1 64 32, fu 6 1 2 32 16, fu 7 1 1 32 16, fu 8 1 1 8 1,
    fu 9 1 1 32 31, fu 10 1 2 16 8, fu 11 1 1 16 8, fu 12 1 0 127 32]
  rules d := rl 7 (decide (getN d 7 1 ≤ getN d 5 1) && decide (getN d 7 1 ≤ getN d 6 1)) ++
    rl 11 (decide (getN d 11 1 ≤ getN d 9 1) && decide (getN d 11 1 ≤ getN d 10 1))

/-- ALCIA_NODE (R525). -/
def lAlciaNode : Layout where
  size := 64
  fields := [fa 0 1, .bits 1 0x0F 0, fa 2 1, fu 4 2 1 1000 10, fa 6 2, fu 8 2 100 60000 5000]
  rules d := rl 0 (getN d 0 1 % 64 != 0)

/-- THERMAL (R559). -/
def lThermal : Layout where
  size := 64
  fields := [fu 0 4 100 1000000 10000, fu 4 2 1000 10000 3435, fa 6 1, fu 8 2 0 50000 0, fi 10 2 (-400) 1500 900,
    fi 12 2 (-400) 1500 1100, fi 14 2 (-400) 1500 1150, fi 16 2 (-400) 2500 1300, fi 18 2 (-400) 2500 1550,
    fi 20 2 (-400) 2500 1600, fi 22 2 700 1150 950, fu 24 1 5 50 10, fi 26 2 1050 1250 1250]
  rules d :=
    let g := fun (o : Nat) => getI d o 2
    rl 12 (decide (g 10 + 50 ≤ g 12)) ++ rl 14 (decide (g 12 ≤ g 14)) ++ rl 18 (decide (g 16 + 50 ≤ g 18)) ++
    rl 20 (decide (g 18 ≤ g 20)) ++ rl 26 (decide (g 22 + 15 * (getN d 24 1 : Int) ≤ g 26))

/-- N and W of a fault class (R429): lowest, highest and value after reset of each, none for the classes of fixed count 1. -/
def classNW : Nat → Option (Nat × Nat × Nat × Nat × Nat × Nat)
  | 1 => some (2, 255, 16, 10, 60000, 1000)
  | 2 => some (2, 64, 4, 1, 10000, 100)
  | 3 => some (2, 64, 3, 100, 600000, 10000)
  | 5 => some (2, 16, 3, 10, 60000, 1000)
  | 6 => some (2, 16, 3, 100, 600000, 10000)
  | 7 => some (2, 64, 4, 10, 60000, 1000)
  | 8 => some (2, 16, 3, 100, 600000, 10000)
  | 9 => some (2, 16, 3, 1000, 600000, 60000)
  | 10 => some (2, 64, 3, 10, 60000, 1000)
  | 11 => some (2, 16, 3, 100, 600000, 10000)
  | 12 => some (2, 16, 3, 1000, 600000, 60000)
  | _ => none

/-- FAULT (R434). -/
def lFault : Layout where
  size := 512
  fields := (List.range 14).flatMap fun i => match classNW (i + 1) with
    | some (nl, nh, n, wl, wh, w) => [fu (8 * i) 1 nl nh n, fu (8 * i + 4) 4 wl wh w]
    | none => [fu (8 * i) 1 0 0 0, fu (8 * i + 4) 4 0 0 0]

/-- APP (R444). -/
def lApp : Layout where
  size := 64
  fields := [fu 0 4 128 (Config.dramMb - 192) 512, .bits 4 0x01 0, fa 8 2, fa 16 48]
  rules d := rl 8 (getN d 8 2 == 0 || (decide (10 ≤ getN d 8 2) && decide (getN d 8 2 ≤ 10000)))

/-- SAFETY_MAIN (R401). -/
def lSafetyMain : Layout where
  size := 64
  fields := [fu 0 1 0 1 0, fu 1 1 0 3 0, .bits 2 0x03 1, .bits 3 0x0F 0, fu 4 4 1 16777216 1024, fu 8 2 1 100 10,
    fu 10 1 1 255 16, fu 12 4 10 1000000 1000, fu 16 4 0 1000000 5000, fu 20 2 2 1000 20, fu 22 2 1 600 60,
    fu 24 4 1 1000000 2000, fu 28 2 10 10000 1000]
  rules d := rl 16 (decide (getN d 12 4 ≤ getN d 16 4))

/-- SAFETY_INPUTS (R402): a record of KIND 0 is checked for KIND and its reserved bytes only. -/
def lSafetyInputs : Layout where
  size := 64
  fields := (List.range 8).flatMap fun n =>
    [fu (8 * n) 1 0 2 0, fa (8 * n + 1) 1 1, fa (8 * n + 2) 1, fa (8 * n + 3) 1 10, fa (8 * n + 4) 2 50]
  rules d := (List.range 8).flatMap fun n =>
    let o := 8 * n
    let kind := getN d o 1
    let filt := getN d (o + 3) 1
    if kind = 0 then [] else
      rl (o + 1) (decide (1 ≤ getN d (o + 1) 1) && decide (getN d (o + 1) 1 ≤ 3)) ++ rl (o + 2) (decide (getN d (o + 2) 1 < 16)) ++
      rl (o + 3) (decide (1 ≤ filt) && decide (filt ≤ 100) && (kind != 2 || decide (12 ≤ filt))) ++
      rl (o + 4) (decide (5 ≤ getN d (o + 4) 2) && decide (getN d (o + 4) 2 ≤ 500))

/-- SS1 (R403). -/
def lSs1 : Layout where
  size := 32
  fields := [fu 0 4 1 10000000 10000, fu 4 4 1 10000000 8000, fu 8 4 1 1000000 1000, fu 12 2 0 10000 100, fu 14 2 10 60000 5000,
    fu 16 4 1 100000 500, fu 20 2 1 1000 50]
  rules d := rl 4 (decide (getN d 4 4 ≤ getN d 0 4))

/-- BRAKES (R404). -/
def lBrakes : Layout where
  size := 32
  fields := [0, 16].flatMap fun o => [.bits o 0x0F 0, .bits (o + 1) 0x01 0, fu (o + 2) 2 10 5000 200, fu (o + 4) 2 10 5000 200,
    fu (o + 6) 2 0 5000 50, fu (o + 8) 2 20 1500 100]

/-- A flux-map or advance-table segment (R126): any content. -/
def lTable : Layout where
  size := 2048
  fields := [fa 0 2048]

/-- The phase-advance table of an axis (R126): the first 128 bytes, the others reserved. -/
def lAxTable : Layout where
  size := 2048
  fields := [fa 0 128]

/-- ROUTE k (R513): bits 31 to 23 of an entry are reserved, DSEG is 0 to 64 or 127. -/
def lRoute : Layout where
  size := 2048
  fields := [fa 0 2048]
  rules d := (List.range 512).flatMap fun i =>
    let e := getN d (4 * i) 4
    let dseg := bitsN e 18 12
    rl (4 * i + 1) (decide (dseg ≤ 64) || dseg == 127) ++ rl (4 * i + 2) (bitsN e 23 23 == 0) ++ rl (4 * i + 3) (bitsN e 31 24 == 0)

/-- The layout of a block that WRITE_BLOCK may write (R125, R126). -/
def ordinaryLayout (id : Nat) : Option Layout :=
  if id = 0x0001 then some lDevice
  else if 0x0010 ≤ id ∧ id ≤ 0x0013 then some (lStack (id - 0x0010))
  else if id = 0x0014 then some lMotion
  else if 0x0020 ≤ id ∧ id ≤ 0x0023 then some lGate
  else if id = 0x0024 then some lAuxdrv
  else if 0x0030 ≤ id ∧ id ≤ 0x0033 then some lSense
  else if 0x0040 ≤ id ∧ id ≤ 0x0045 then some lFeedback
  else if 0x0050 ≤ id ∧ id ≤ 0x0053 then some lSensorless
  else if id = 0x0058 then some lTorsion
  else if 0x0060 ≤ id ∧ id ≤ 0x0063 then some lDclink
  else if id = 0x0068 then some lEmergency
  else if 0x0070 ≤ id ∧ id ≤ 0x0073 then some lAxis
  else if id = 0x0080 then some lColonnade
  else if id = 0x0081 then some lPair
  else if id = 0x0090 ∨ id = 0x0091 then some lAlcia
  else if id = 0x0092 then some lAlciaNode
  else if id = 0x00A0 then some lThermal
  else if id = 0x00B0 then some lFault
  else if id = 0x00C0 then some lApp
  else if 0x1000 ≤ id ∧ id < 0x1080 ∧ id % 16 < 8 then some lTable
  else if 0x1080 ≤ id ∧ id < 0x10C0 ∧ id % 16 = 0 then some lTable
  else if 0x10C0 ≤ id ∧ id < 0x1100 ∧ id % 16 = 0 then some lAxTable
  else if 0x2000 ≤ id ∧ id ≤ 0x201F then some lRoute
  else none

/-- The layout of a safety block (R401 to R404). -/
def safetyLayout (id : Nat) : Option Layout :=
  if id = 0x0F00 then some lSafetyMain else if id = 0x0F01 then some lSafetyInputs
  else if id = 0x0F02 then some lSs1 else if id = 0x0F03 then some lBrakes else none

/-- The layout of any block. -/
def blockLayout (id : Nat) : Option Layout := match safetyLayout id with
  | some l => some l
  | none => ordinaryLayout id

/-- The values after reset of a block. -/
def blockDefaults (id : Nat) : Bytes := match blockLayout id with
  | some l => l.defaults
  | none => []

/-- A block as last written, if present. -/
def State.block (s : State) (id : Nat) : Option Bytes := s.blocks.lookup id

/-- A block as last written, or its values after reset. -/
def State.blockOr (s : State) (id : Nat) : Bytes := (s.block id).getD (blockDefaults id)

/-- A block of the configuration in force: as sealed, or the values after reset (R125, R128, R163, R197). -/
def State.cfg (s : State) (id : Nat) : Bytes := if s.sealedCfg.isSome then s.blockOr id else blockDefaults id

/-- An unsigned field of the configuration in force. -/
def State.cu (s : State) (id off n : Nat) : Nat := getN (s.cfg id) off n

/-- A signed field of the configuration in force. -/
def State.ci (s : State) (id off n : Nat) : Int := getI (s.cfg id) off n

/-- The list of blocks with one written, in ascending ID order (R136). -/
def blockInsert (id : Nat) (d : Bytes) : List (Nat × Bytes) → List (Nat × Bytes)
  | [] => [(id, d)]
  | (i, e) :: r => if id < i then (id, d) :: (i, e) :: r else if id = i then (id, d) :: r else (i, e) :: blockInsert id d r

/-! ### Fields of the configuration in force that many rules use -/

/-- STACK_EN as a mask; 0 without a sealed configuration. -/
def State.stackEn (s : State) : Nat := s.cu 0x0001 0 1
/-- Whether stack `k` is enabled. -/
def State.enabled (s : State) (k : Nat) : Bool := s.stackEn.testBit k
/-- The enabled stacks in ascending order. -/
def State.enStacks (s : State) : List Nat := [0, 1, 2, 3].filter s.enabled
/-- The time-base stack. -/
def State.timeBase (s : State) : Nat := s.cu 0x0001 1 1
/-- The carrier period of stack `k` in ticks. -/
def State.carrierP (s : State) (k : Nat) : Nat := s.cu (0x10 + k) 4 4
/-- Double sampling (R204). -/
def State.double (s : State) (k : Nat) : Bool := (s.cu (0x10 + k) 0 1).testBit 0
/-- The ticks from the first carrier zero of stack `k` to `t` (R206): T0 + PHASE_OFS, negative before. -/
def State.sinceZero (s : State) (k t : Nat) : Int :=
  let t0 := match s.sealedCfg with | some x => x.t0 | none => 0
  (t : Int) - t0 - s.cu (0x10 + k) 8 4
/-- The tick in the carrier period of stack `k` that `t` falls on (R206). -/
def State.carrierPhase (s : State) (k t : Nat) : Nat := (s.sinceZero k t % s.carrierP k).toNat
/-- Whether `t` lies in the falling half-period of stack `k` (R204): the peak lies ⌊CARRIER_P / 2⌋ ticks after the zero. -/
def State.falling (s : State) (k t : Nat) : Bool := decide (s.carrierP k / 2 ≤ s.carrierPhase k t)
/-- The number of the half-period of stack `k` that `t` lies in. -/
def State.halfIndex (s : State) (k t : Nat) : Int := 2 * (s.sinceZero k t / s.carrierP k) + if s.falling k t then 1 else 0
/-- Whether `t` is a carrier zero of stack `k` (R206). -/
def State.zeroAt (s : State) (k t : Nat) : Bool := decide (0 ≤ s.sinceZero k t) && s.carrierPhase k t == 0
/-- Whether `t` is a sample centre of stack `k` (R204): a carrier zero, with double sampling a peak too. -/
def State.centreAt (s : State) (k t : Nat) : Bool :=
  s.zeroAt k t || (s.double k && decide (0 ≤ s.sinceZero k t) && s.carrierPhase k t == s.carrierP k / 2)
/-- The sample centres of stack `k` up to `t` (R204). -/
def State.centres (s : State) (k t : Nat) : Nat :=
  if s.sinceZero k t < 0 then 0
  else 1 + (if s.double k then s.halfIndex k t else s.sinceZero k t / s.carrierP k).toNat
/-- T_u in ticks from the sample centre `tc` to the next one (R204): with an odd carrier period the two halves differ by a tick. -/
def State.tuFrom (s : State) (k tc : Nat) : Nat :=
  let p := s.carrierP k
  if !s.double k then p else if s.carrierPhase k tc = 0 then p / 2 else p - p / 2
/-- The control cycle in ticks (R14). -/
def State.ctrlCycle (s : State) : Nat := s.carrierP s.timeBase
/-- ARRANGE (R200). -/
def State.arrange (s : State) : Nat := s.cu 0x0001 2 1
/-- Whether axis `n` is enabled. -/
def State.axEn (s : State) (n : Nat) : Bool := (s.cu 0x0001 8 1).testBit n
/-- Whether feedback port `n` is enabled. -/
def State.fbEn (s : State) (n : Nat) : Bool := (s.cu 0x0001 9 1).testBit n
/-- The lowest stack of the machine that stack `k` belongs to (R200). -/
def machineOf (arrange k : Nat) : Nat := if arrange = 2 then 0 else if arrange = 1 then k / 2 * 2 else k
/-- The stacks of the machine whose lowest stack is `m` (R200). -/
def machineStacks (arrange m : Nat) : List Nat :=
  if arrange = 2 then [0, 1, 2, 3] else if arrange = 1 then [m / 2 * 2, m / 2 * 2 + 1] else [m]
/-- The enabled stacks of machine `m`. -/
def State.machine (s : State) (m : Nat) : List Nat := (machineStacks s.arrange m).filter s.enabled
/-- ANG_SRC of stack `k` as configured. -/
def State.angSrcCfg (s : State) (k : Nat) : Nat := s.cu (0x10 + k) 1 1
/-- Architecture B (R375). -/
def State.archB (s : State) : Bool := s.cu 0x0F00 0 1 == 1
/-- The sum of T_RATED of the enabled sets, R_en in N·m (R202). -/
def State.rEn (s : State) : Nat := (s.enStacks.map fun k => s.cu (0x10 + k) 16 4).sum

end Sys2Proof.Machine
end

