-- ==== Sys2Proof/Machine/Gates.lean ====
section
/-! DEFINITION. The gate-drive array: which source decides a channel (R26), what its output then does (R144, R158, R160), and the
Kingpost lines of a stack (R25, R382). -/
namespace Sys2Proof.Machine

/-- The stack a gate channel belongs to (R1). -/
def chStack (ch : Nat) : Nat := if ch < 24 then ch / 6 else ch - 24

/-- Whether a channel is a chopper channel (R1). -/
def isBk (ch : Nat) : Bool := decide (24 ≤ ch)

/-- Whether a phase channel is a high side (R1). -/
def isHigh (ch : Nat) : Bool := ch % 2 == 0

/-- The other switch of a leg. -/
def partner (ch : Nat) : Nat := if ch % 2 = 0 then ch + 1 else ch - 1

/-- Whether a channel is locked out (R159, R162). -/
def State.locked (s : State) (ch : Nat) : Bool :=
  if isBk ch then vget s.bkLock (ch - 24) false else vget s.legLock (ch / 2) false

/-- Whether a leg of stack `k` is locked out. -/
def State.legLocked (s : State) (k : Nat) : Bool := [0, 1, 2].any fun x => vget s.legLock (3 * k + x) false

/-- Lock out the leg or the chopper of a channel (R159, R162). -/
def State.lockOut (s : State) (ch : Nat) : State :=
  if isBk ch then { s with bkLock := vmod s.bkLock (ch - 24) fun _ => true }
  else { s with legLock := vmod s.legLock (ch / 2) fun _ => true }

/-- The request of the PWM unit for a channel: a phase channel while its stack switches, the chopper command where the stack
switches or stands under ASC (R162, R203, R326). -/
def State.request (s : State) (ch : Nat) : Bool :=
  let k := s.stack (chStack ch)
  if isBk ch then k.chop.cmd && (k.switching || k.fw == .asc || k.kpAsc) else k.switching && (s.gate ch).pwm

/-- The output the sources call for, by the rows of R26; a soft turn-off in progress goes on (R158). -/
def State.gateTarget (s : State) (ch : Nat) : GateOut :=
  let g := s.gate ch
  let k := s.stack (chStack ch)
  let asc : GateOut := if isHigh ch then .off else .on
  if g.uvPos || g.uvNeg then .undriven
  else if g.out = .softOff then .softOff
  else if g.noCmd || k.kpOff || s.locked ch then .off
  else if k.kpAsc && !isBk ch then asc
  else if k.fw = .pulseOff then .off
  else if k.fw = .asc && !isBk ch then asc
  else if s.request ch && !(!isBk ch && s.request (partner ch)) then .on else .off

/-- A channel whose output goes to a target at a tick: an on command waits until `free` (R154, R155); a turn-off, a soft turn-off (R158) and the
undriven state (R60) begin at once. A transition keeps the band in force at its start (R153). -/
def GateCh.drive (g : GateCh) (o : GateOut) (now : Tick) (free : Tick := 0) (band : Nat := 0) : GateCh :=
  match o with
  | .on => if g.out = .on ∨ g.onAt.isSome then g else { g with onAt := some (max now free), band := band }.at now
  | .undriven =>
    if g.out = .undriven then g else
    { g with out := .undriven, phase := .rest, clamp := false, hold := false, onAt := none, ghAt := now,
             lastOff := if g.out = .on then some now else g.lastOff }
  | .softOff =>
    if g.out = .softOff then g else
    { g with out := .softOff, phase := .rest, clamp := false, hold := false, onAt := none, softT0 := now, ghAt := now, lastOff := some now }
  | .off =>
    match g.out with
    | .off => { g with onAt := none }
    | .on =>
      { g with out := .off, phase := if g.mode = 2 then .rest else .offPlateau, clamp := false, hold := false, onAt := none, t0 := now, ghAt := now,
               lastOff := some now, band := band, step := g.stepOff }
    | _ => { g with out := .off, phase := .rest, clamp := g.mode != 2, hold := false, onAt := none, ghAt := now }

/-- A channel without a command (R60, R160): off at once with the clamp engaged, in mode 2 GH at VNEG. -/
def GateCh.noCommand (g : GateCh) (now : Tick) : GateCh :=
  match g.out with
  | .on => { g.drive .off now with noCmd := true, phase := .rest, clamp := g.mode != 2 }
  | .off => { g with noCmd := true, phase := .rest, clamp := g.mode != 2, onAt := none }
  | _ => { g with noCmd := true }

/-- The place of a band record in the GATE block (R163). -/
def bandAt (band : Nat) : Nat := 32 + 32 * band

/-- The least time from the off command of its partner to the on command of a channel (R154, R155, R160): DT_HL for a low side, DT_LH for a high side, of
the band in force, and never less than 100 ns. -/
def State.deadTicks (s : State) (ch : Nat) : Nat :=
  let k := chStack ch
  max 10 (s.cu (0x20 + k) (bandAt (s.stack k).band + if isHigh ch then 10 else 8) 2)

/-- The tick of a channel's last off command, an off command now included. -/
def State.offCmd (s : State) (ch : Nat) : Option Tick :=
  let g := s.gate ch
  if g.out = .on ∧ s.gateTarget ch ≠ .on then some s.time else g.lastOff

/-- The tick from which an on command of a channel may be passed (R154, R155, R162). -/
def State.freeAt (s : State) (ch : Nat) : Tick :=
  if isBk ch then 0 else match s.offCmd (partner ch) with
    | some u => u + s.deadTicks ch
    | none => 0

/-- A channel driven to the output its sources call for. -/
def State.driven (s : State) (ch : Nat) : GateCh := (s.gate ch).drive (s.gateTarget ch) s.time (s.freeAt ch) (s.stack (chStack ch)).band

/-! ### What a channel drives (R144, R149, R158) -/

/-- What the pins GH and GL of a channel do: a step code c stands for (c + 1) × 0.25 A (R143). -/
inductive GateDrive
  | undriven | source (step : Nat) | holdOn | sink (step : Nat) | clamp | soft | boostOn | boostSoft | boostOff
deriving DecidableEq, Repr

/-- The plateau and tail steps of a transition (R144, R147, R164): of the band in force at its start, or the adapted step. -/
def State.stepsOf (s : State) (ch : Nat) (on : Bool) : Nat × Nat :=
  let g := s.gate ch
  let o := bandAt g.band + (if on then 0 else 2) + if isBk ch then 4 else 0
  if g.mode = 1 then (g.step, g.step) else (s.cu (0x20 + chStack ch) o 1 % 32, s.cu (0x20 + chStack ch) (o + 1) 1 % 32)

/-- What a channel drives now (R144, R145, R149, R158). -/
def State.gateDrive (s : State) (ch : Nat) : GateDrive :=
  let g := s.gate ch
  match g.out, g.phase with
  | .undriven, _ => .undriven
  | .softOff, _ => if g.mode = 2 then .boostSoft else .soft
  | .on, .onPlateau => .source (s.stepsOf ch true).1
  | .on, _ => if g.mode = 2 then .boostOn else if g.hold then .holdOn else .source (s.stepsOf ch true).2
  | .off, .offPlateau => .sink (s.stepsOf ch false).1
  | .off, _ => if g.mode = 2 then .boostOff else if g.clamp then .clamp else .sink (s.stepsOf ch false).2

/-- The stacks of BRK_MASK of the brakes that meet a mask (R381, SBC). -/
def State.brakeStacks (s : State) (mask : BitVec 4) : BitVec 4 :=
  [0, 1].foldl (fun m n =>
    let b := BitVec.ofNat 4 (s.cu 0x0F03 (16 * n) 1)
    if b &&& mask = 0 then m else m ||| b) 0

/-- Whether a safety function has withdrawn the torque of stack `k`: STO at once, SS1 and SBC once complete (R381, R384). -/
def State.stoOn (s : State) (k : Nat) : Bool :=
  s.safety.fns.any fun f =>
    f.sto.getLsbD k || (f.fn == 1 && f.mask.getLsbD k) || (f.fn == 2 && f.phase == 2 && f.mask.getLsbD k) ||
    (f.fn == 3 && f.phase == 2 && (s.brakeStacks f.mask).getLsbD k)

/-- Whether the commissioning limits permit stack `k` (R395). -/
def State.commOk (s : State) (k : Nat) : Bool :=
  !s.safety.debug || ((s.cu 0x0F00 2 1).testBit 1 && (s.cu 0x0F00 3 1).testBit k && s.safety.commMask.getLsbD k)

/-- Whether the Kingpost grants gate enable on stack `k` (R371, R374, R382, R393 to R395, R325). -/
def State.kpGrants (s : State) (k : Nat) : Bool :=
  let x := s.stack k
  s.safety.kpState == 2 && !x.stLimit && !s.stoOn k && s.commOk k && !(x.ov3 && x.ov3Act == some true)

/-- Whether anything keeps stack `k` from switching: a firmware reaction, a Kingpost line, a leg lockout or a gate-supply
undervoltage (R201). -/
def State.blocked (s : State) (k : Nat) : Bool :=
  let x := s.stack k
  x.fw != .none || x.kpOff || x.kpAsc || s.legLocked k ||
    (List.range 6).any (fun c => (s.gate (6 * k + c)).uvPos || (s.gate (6 * k + c)).uvNeg)

/-- The Kingpost lines of stack `k` from what the Kingpost holds (R25, R325): the pulse-off line is low without a requested
grant, the ASC line is high for a latched OV3 trip with ASC as its action. -/
def State.kpLines (s : State) (k : Nat) : State :=
  let off := !(s.kpGrants k && s.safety.request.getLsbD k)
  s.modStack k fun x => { x with kpOff := off || (x.ov3 && x.ov3Act == none), kpAsc := x.ov3 && x.ov3Act == some false }

/-- The switching flag of stack `k` where something blocks it. -/
def State.unswitch (s : State) (k : Nat) : State :=
  if s.blocked k then s.modStack k fun x => { x with switching := false } else s

/-- Every channel driven to the output its sources call for. -/
def State.driveGates (s : State) : State :=
  { s with gates := Vector.ofFn fun ch : Fin 28 => s.driven ch }

/-- The array settles: Kingpost lines, switching flags, channel outputs (R26). -/
def State.settleGates (s : State) : State :=
  let s := [0, 1, 2, 3].foldl (fun s k => (s.kpLines k).unswitch k) s
  s.driveGates

/-- Whether stack `k` stands in pulse-off: it does not switch and no ASC acts on it (R330). -/
def State.inPulseOff (s : State) (k : Nat) : Bool :=
  let x := s.stack k
  !x.switching && (x.kpOff || (x.fw != .asc && !x.kpAsc))

/-- Whether every enabled stack is in pulse-off. -/
def State.allPulseOff (s : State) : Bool := s.enStacks.all s.inPulseOff

end Sys2Proof.Machine
end

