-- ==== Sys2Proof/Machine/Faults.lean ====
section
/-! DEFINITION. Fault classes (R427 to R439): the class of every event, the fault object it counts on, occurrences and windows,
FAULT_LASTING, the staging queue of the fault history and the conservation guarantees. -/
namespace Sys2Proof.Machine

/-- The class of an event by its code (R429, R430), with the device state and the DATA bytes where the table names them. -/
def evClass (code : Nat) (dev : DevState) (data : Bytes) : Nat :=
  let d0 := getN data 0 1
  if code ∈ [0x8104, 0x8105, 0x8120, 0x8122, 0x8123, 0x8316, 0x8111, 0x8324, 0x8325, 0x8346, 0x8351, 0x8354, 0x8802, 0x8806,
      0x8807, 0x8808, 0x8804, 0x8809, 0x850C, 0x8401, 0x8702, 0x8704, 0x8811, 0x8812, 0x8814, 0x8815, 0x8821, 0x8822, 0x8823,
      0x8824, 0x8827, 0x8904, 0x8905] then 1
  else if code = 0x8314 then (if 16 ≤ d0 ∧ d0 ≤ 19 then 5 else 1)
  else if code = 0x8112 then (if d0 = 6 ∨ d0 = 10 then 1 else 14)
  else if code ∈ [0x8331, 0x8332, 0x8333, 0x8334, 0x8335, 0x8336, 0x8337, 0x8338, 0x833A, 0x833B, 0x833F] then 2
  else if code ∈ [0x833D, 0x833E] then 3
  else if code ∈ [0x8301, 0x8304, 0x8320, 0x8365, 0x8361, 0x850B, 0x8403] then 4
  else if code = 0x8303 then (if dev = .run ∨ dev = .shelter ∨ dev = .safeStop then 4 else 0)
  else if code ∈ [0x8310, 0x8311, 0x8312, 0x8313] then 5
  else if code ∈ [0x8363, 0x8364] then 6
  else if code = 0x8302 then 7
  else if code ∈ [0x8352, 0x8369, 0x8323] then 8
  else if code ∈ [0x8343, 0x8342] then 9
  else if code ∈ [0x8601, 0x8602, 0x8603, 0x8607, 0x8609, 0x860A, 0x860B] then 10
  else if code = 0x8805 then 11
  else if code ∈ [0x8502, 0x8503, 0x8504, 0x8505, 0x8507, 0x8508, 0x8509, 0x8362] then 12
  else if code ∈ [0x836A, 0x8121, 0x8405, 0x8813] then 13
  else if code ∈ [0x8113, 0x850A, 0x8125] then 14
  else 0

/-- Whether an event is marked in the class table as lasting at its first occurrence (R428, R429). -/
def evStar (code : Nat) : Bool := code ∈ [0x833F, 0x8352, 0x8369, 0x860A, 0x860B, 0x8603, 0x8607]

/-- Whether a class has a fixed count of 1 (R429). -/
def fixedOne (cls : Nat) : Bool := cls == 4 || cls == 13 || cls == 14

/-- Whether a class holds its lasting faults (R429). -/
def holdsClass (cls : Nat) : Bool := (decide (2 ≤ cls) && decide (cls ≤ 11)) || cls == 13 || cls == 14

/-- The fault object of an event (R427). -/
def faultKey (code cls level obj : Nat) (data : Bytes) : FaultKey :=
  if cls = 2 ∨ cls = 3 then ⟨cls, 2, getN data 0 1⟩
  else if cls = 10 then
    ⟨10, 2, if code = 0x8602 then getN data 1 1 else if code = 0x8601 then getN data 0 1 / 4
      else if code = 0x8603 then 255 else getN data 0 1⟩
  else if cls = 7 then ⟨7, 1, obj / 6⟩
  else ⟨cls, level, obj⟩

/-- What is kept of a fault object. -/
def State.faultObj (s : State) (k : FaultKey) : FaultObj := (s.faults.objs.find? fun o => o.key == k).getD { key := k }

/-- The list with one fault object replaced or added. -/
def putObj (o : FaultObj) : List FaultObj → List FaultObj
  | [] => [o]
  | x :: r => if x.key = o.key then o :: r else x :: putObj o r

/-- The state with what is kept of a fault object replaced. -/
def State.setFaultObj (s : State) (o : FaultObj) : State := s.modFaults fun f => { f with objs := putObj o f.objs }

/-- N and W in ticks of a class in force (R428, R434). -/
def State.nw (s : State) (cls : Nat) : Nat × Nat := (s.cu 0x00B0 (8 * (cls - 1)) 1, msTicks (s.cu 0x00B0 (8 * (cls - 1) + 4) 4))

/-- One more occurrence of a class in OCC (R439). -/
def State.bumpOcc (s : State) (cls : Nat) : State :=
  s.modFaults fun f => { f with occ := vmod f.occ cls fun n => satN 4 (n + 1) }

/-- Whether the link pair is halted after a mismatch (R415). -/
def State.linkHalted (s : State) : Bool := vget s.integ.halted 1 false

/-- A record staged where the queue has room (R433). The ESEQ of a history record is open (DESIGN CHOICE, assumption 9). -/
def State.stageRoom (s : State) (e : EventRec) (flags : Nat) : State :=
  if s.faults.staging.length < 1024 then
    let (q, s) := s.draw
    s.modFaults fun f => { f with staging := f.staging ++ [({ e with eseq := q % 65536 }, flags)] }
  else s

/-- Withdraw guarantees (R438): GUARANTEE_LAPSED with the full mask where a new bit is withdrawn, itself an occurrence of class
14 that is held and lasting, with its FAULT_LASTING (R429, R435). Their history records are staged where the queue has room; where it has not,
FAULT_COUNTS is withdrawn with them (R433). (DESIGN CHOICE, assumption 9.) -/
def State.lapse (s : State) (bits : BitVec 6) (code : Nat) : State :=
  let all := s.faults.lapsed ||| bits ||| (if s.faults.staging.length < 1023 then 0 else 0x20)
  if all = s.faults.lapsed then s else
  let s := s.modFaults fun f => { f with lapsed := all }
  let data := le 1 all.toNat ++ le 1 0 ++ le 2 code
  let e := s.mkEvent 0x8125 14 2 0 data
  let s := (s.post 0x8125 14 2 0 data).bumpOcc 14
  let o := s.faultObj ⟨14, 2, 0⟩
  let s := s.setFaultObj { o with stamps := s.stamp :: o.stamps.take 254, total := o.total + 1, held := if o.held.any (·.1 == 0x8125) then o.held else o.held ++ [(0x8125, s.stamp)] }
  let last := le 1 14 ++ le 1 0 ++ le 2 0x8125 ++ le 4 (satN 4 (o.total + 1))
  let m := s.mkEvent 0x8126 14 2 0 last
  ((s.stageRoom e 2).post 0x8126 14 2 0 last).stageRoom m 2

/-- Stage a record for the fault history (R433, R436): flags bit 1 a lasting occurrence. A full
queue withdraws FAULT_COUNTS. -/
def State.stage (s : State) (e : EventRec) (lasting : Bool) : State :=
  if s.faults.staging.length < 1024 then s.stageRoom e (2 * b2n lasting) else s.lapse 0x20 e.code

/-- Whether FAULT_LASTING is due for an object: once per window for classes 1 and 12 (R435). -/
def State.lastingDue (s : State) (o : FaultObj) : Bool :=
  if o.key.cls = 1 ∨ o.key.cls = 12 then
    match o.lastMsg with
    | none => true
    | some t => decide ((s.nw o.key.cls).2 < s.stamp - t)
  else true

/-- FAULT_LASTING of an object for an event code (R435): not itself an occurrence, written to the fault history. -/
def State.faultLasting (s : State) (k : FaultKey) (code level obj : Nat) : State :=
  let o := s.faultObj k
  if s.lastingDue o then
    let data := le 1 k.cls ++ le 1 0 ++ le 2 code ++ le 4 (satN 4 o.total)
    let e := s.mkEvent 0x8126 k.cls level obj data
    let s := s.setFaultObj { o with lastMsg := some s.stamp }
    (s.post 0x8126 k.cls level obj data).stage e true
  else s

/-- Hold a fault of an object under an event code (R431). -/
def State.hold (s : State) (k : FaultKey) (code : Nat) : State :=
  let o := s.faultObj k
  if o.held.any (·.1 == code) then s else s.setFaultObj { o with held := o.held ++ [(code, s.stamp)] }

/-- The held faults with their objects, in ascending order of class, LEVEL and OBJ (R439). -/
def State.heldFaults (s : State) : List (FaultKey × Nat) :=
  let l := s.faults.objs.filterMap fun o => match (o.held.map Prod.snd).min? with
    | some t => some (o.key, t)
    | none => none
  l.mergeSort fun a b => decide ((a.1.cls * 65536 + a.1.level * 256 + a.1.obj) ≤ (b.1.cls * 65536 + b.1.level * 256 + b.1.obj))

/-- Whether a fault of class 2 to 11 or 13 is held (R431). -/
def State.blocking (s : State) : Bool := s.faults.objs.any fun o => !o.held.isEmpty && o.key.cls != 14 && holdsClass o.key.cls

/-- Whether a fault of class 14 is held (R432). -/
def State.fatal (s : State) : Bool := s.faults.objs.any fun o => !o.held.isEmpty && o.key.cls == 14

/-- What raising an event came to: whether its record was raised, whether it is lasting, and the state. -/
structure Occ where
  raised  : Bool
  lasting : Bool
  st      : State

/-- Raise an event and count its occurrence (R427, R428, R431), without its reaction: an event of class 0 is only recorded; one
of a code whose fault is held is only counted in OCC; `part` gives the verdict of the occurrence this event is part of. -/
def State.occur (s : State) (code level obj : Nat) (data : Bytes) (part : Option Bool := none) : Occ :=
  let cls := evClass code s.dev data
  if cls = 0 then ⟨true, false, s.post code 0 level obj data⟩ else
  let k := faultKey code cls level obj data
  let o := s.faultObj k
  if decide (2 ≤ cls) && decide (cls ≤ 11) && o.held.any (·.1 == code) then ⟨false, false, s.bumpOcc cls⟩ else
  let (n, w) := s.nw cls
  let star := fixedOne cls || evStar code
  let same := o.stamps.contains s.stamp
  let fresh := part.isNone && !same
  let o' := if fresh then { o with stamps := s.stamp :: o.stamps.take 254, total := o.total + 1 } else o
  let far := match o'.stamps[n - 1]? with
    | some t => decide (n ≤ o'.total) && decide (s.stamp - t ≤ w)
    | none => false
  let lasting := part.getD (star || far)
  let e := s.mkEvent code cls level obj data
  let s := s.setFaultObj o'
  let s := if fresh then s.bumpOcc cls else s
  let s := (s.post code cls level obj data).stage e lasting
  if lasting then
    let s := s.faultLasting k code level obj
    ⟨true, true, if holdsClass cls then s.hold k code else s⟩
  else ⟨true, false, s⟩

end Sys2Proof.Machine
end

