-- ==== Sys2Proof/Machine/Stops.lean ====
section
/-! DEFINITION. Reactions: stop reactions (R330 to R335), safety functions as each channel starts them (R381 to R388), the
device state with the rules on entering it (R19, R20, R431), and `raise`, which raises an event with the reaction of its class
(R429). -/
namespace Sys2Proof.Machine

/-! ### Ports, axes and observers change state -/

/-- A change of a feedback port's state with FB_STATE (R249, R253). -/
def State.setFb (s : State) (n new cause : Nat) (step : Int := 0) : State :=
  let old := (s.fbPort n).state
  if old = new then s else
  (s.modFb n fun p => { p with state := new }).info 0x8330 2 0 (le 1 n ++ le 1 new ++ le 1 old ++ le 1 cause ++ leI 4 step)

/-- A change of an axis's state with AX_STATE (R346): a stepper that passes through OFF or FAULT clears HOMED. -/
def State.setAx (s : State) (n new : Nat) : State :=
  let a := s.axis n
  if a.state = new then s else
  let unref := (new == 0 || new == 6) && s.cu (0x70 + n) 0 1 == 0
  (s.modAxis n fun x => { x with state := new, homed := x.homed && !unref }).info 0x8604 2 0
    (le 1 n ++ le 1 new ++ le 1 a.state)

/-- AX_HOME_DONE with a result (R364, R369). -/
def State.homeDone (s : State) (n res : Nat) (raw : Int) : State :=
  (s.modAxis n fun x => { x with homeRes := res }).info 0x8605 2 0 (le 1 n ++ le 1 0 ++ le 2 res ++ leI 4 raw)

/-- An axis is stopped (R355): STOPPING from any state but OFF and FAULT, its gearing disengaged, its queue cleared, a homing
aborted; released at standstill where asked. -/
def State.stopAxis (s : State) (n : Nat) (release : Bool) : State :=
  let a := s.axis n
  if a.state = 0 ∨ a.state = 6 then s.modAxis n fun x => { x with next := none, precharge := false, measure := 0 } else
  let s := if a.state = 4 then s.homeDone n 0xFFFF a.raw else s
  (s.modAxis n fun x => { x with queue := [], next := none, hold := false, release := x.release || release }).setAx n 5

/-- Every axis stopped and released (R355). -/
def State.releaseAxes (s : State) : State := [0, 1, 2, 3].foldl (fun s n => s.stopAxis n true) s

/-- The STATE of an observer's latch record (R257). -/
def obsLatchState (st : Nat) : Nat := if st ≤ 2 then 1 else if st ≤ 4 then 2 else 4

/-- A change of an observer's state with OBS_STATE (R258, R277); its latch record shows it (R257). -/
def State.setObs (s : State) (m new : Nat) (step : Int := 0) : State :=
  let o := s.observer m
  if o.state = new then s else
  (s.modObs m fun x =>
    { x with state := new, since := s.time,
             latch := { x.latch with state := obsLatchState new, flags := 8 + b2n (new == 5 || new == 6) } }).info 0x8340 1 o.lead
    (le 1 new ++ le 1 o.state ++ le 2 0 ++ leI 4 step)

/-! ### The device state -/

/-- The device state changes (R19): leaving SHELTER other than into RUN raises SHELTER_EXIT; on entry into READY, SAFE_STOP or
FAULT every axis is stopped and released (R355). -/
def State.setDev (s : State) (new : DevState) : State :=
  if s.dev = new then s else
  let old := s.dev
  let s := { s with dev := new }
  let s := if old = .shelter ∧ new ≠ .run then
    (s.modMotion fun m => { m with shLimits := false }).info 0x836C 2 0 [] else s
  if new = .ready ∨ new = .safeStop ∨ new = .fault then s.releaseAxes else s

/-- Whether a machine takes its angle from its observer (R256, R274). -/
def State.obsAngle (s : State) (m : Nat) : Bool := (s.machine m).any fun k => (s.stack k).fe.angleSrc == 16

/-- Whether the observer holds its machine at zero current, in test pulses or in ASC: PROBE, START, LOST and CATCH (R259); beside a port that gives the angle
it holds nothing. (DEDUCED, assumption 57.) -/
def State.obsBusy (s : State) (m : Nat) : Bool :=
  let o := s.observer m
  !o.along && (o.state == 1 || o.state == 2 || o.state == 5 || o.state == 6)

/-- A sequence of an observer that its machine's pulse-off or another stop reaction interrupts (R258, R273): the observer enters IDLE;
an interrupted START raises START_FAILED with cause 3. -/
def State.obsSettle (s : State) (m : Nat) : State :=
  let o := s.observer m
  let stopped := (s.machine m).any fun k => (s.stack k).stop.kind != .none
  if o.state = 0 ∨ o.state = 7 then s
  else if (s.machine m).any fun k => (s.stack k).switching then s
  else if o.state = 5 ∧ o.asc ∧ !stopped then s
  else
    let s := if o.state = 2 then (s.occur 0x8342 1 o.lead (le 1 3)).st else s
    (s.modObs m fun x => { x with asc := false }).setObs m 0

/-- The brakes whose BRK_MASK meets a mask (R381). -/
def State.brakesOf (s : State) (mask : BitVec 4) : List Nat :=
  [0, 1].filter fun n => BitVec.ofNat 4 (s.cu 0x0F03 (16 * n) 1) &&& mask != 0

/-- STACK_EN as a mask. -/
def State.enMask (s : State) : BitVec 4 := BitVec.ofNat 4 s.stackEn

/-- The state with brake `n` changed. -/
def State.modBrake (s : State) (n : Nat) (f : Brake → Brake) : State :=
  s.modSafety fun x => { x with brakes := vmod x.brakes n f }

/-- A brake is set: either switch open sets it (R385). -/
def State.setBrake (s : State) (n : Nat) : State :=
  s.modBrake n fun b => { b with high := false, low := false, request := false, relAt := none,
                                 setAtDp := if b.setAtDp.isSome then b.setAtDp else some s.time,
                                 setAtKp := if b.setAtKp.isSome then b.setAtKp else some s.kpNow }

/-- Whether the Kingpost grants gate enable on every stack of a brake's mask (R385). -/
def State.brakeGranted (s : State) (n : Nat) : Bool :=
  let m := s.cu 0x0F03 (16 * n) 1
  [0, 1, 2, 3].all fun k => !m.testBit k || s.kpGrants k

/-- Whether no function holds a brake (R385). -/
def State.brakeFree (s : State) (n : Nat) : Bool :=
  s.safety.fns.all fun f => f.mask &&& BitVec.ofNat 4 (s.cu 0x0F03 (16 * n) 1) == 0

/-- Both switches of a brake close: it is released (R385). -/
def State.openBrake (s : State) (n : Nat) : State :=
  s.modBrake n fun b => { b with high := true, low := true, relAt := some s.time, setAtDp := none, setAtKp := none, testAt := none, testHigh := false }

/-- What the conditions of R385 make of brake `n`: a released one is set when the Kingpost no longer grants gate enable on every stack of its mask; one
whose release is requested is released once they hold, and the request lapses when the drive no longer runs. -/
def State.settleBrake (s : State) (n : Nat) : State :=
  let b := vget s.safety.brakes n {}
  if b.high || b.low then (if s.brakeGranted n then s else s.setBrake n)
  else if !b.request then s
  else if s.dev != .run && s.dev != .shelter then s.modBrake n fun b => { b with request := false }
  else if s.brakeGranted n && s.brakeFree n then s.openBrake n
  else s

/-- Both brakes settle (R385). -/
def State.settleBrakes (s : State) : State := (s.settleBrake 0).settleBrake 1

/-- Lines, switching flags, channel outputs, brakes and observers settle after a change of a source (R26, R258, R385). -/
def State.settle (s : State) : State :=
  [0, 1, 2, 3].foldl (fun s m => s.obsSettle m) s.settleGates.settleBrakes

/-! ### Stop reactions -/

/-- The strength of a stop reaction (R333). -/
def StopKind.rank : StopKind → Nat
  | .none => 0 | .quick => 1 | .ss1 => 1 | .select => 2 | .pulseOff => 3 | .asc => 4

/-- The code of a stop reaction (R330). -/
def StopKind.code : StopKind → Nat
  | .none => 0 | .select => 1 | .pulseOff => 2 | .asc => 3 | .quick => 4 | .ss1 => 5

/-- Whether an angle source is usable (R331): a port in VALID or DEGRADED, or an observer in LOWSPEED or TRACKING. -/
def State.angleOk (s : State) (k : Nat) : Bool :=
  let src := (s.stack k).fe.angleSrc
  if src ≤ 5 then (s.fbPort src).state == 2 || (s.fbPort src).state == 3
  else let o := s.observer (machineOf s.arrange k); o.state == 3 || o.state == 4

/-- ASC_RATIO / 100 × U_DC of a stack, in V. -/
def State.ascLevel (s : State) (k : Nat) : Rat := (s.cu (0x60 + k) 24 1 : Rat) / 100 * ((s.stack k).sense.uDc / 1000)

/-- Whether SELECT chooses ASC on a stack (R331). -/
def State.selectAsc (s : State) (k : Nat) : Bool :=
  decide (s.ascLevel k ≤ (s.stack k).fe.eLL) || !s.angleOk k || (s.stack k).sense.udcLost

/-- The state a stack's stop reaction has taken: 0 pulse-off, 1 ASC, 2 ramp (R343). -/
def Stack.taken (x : Stack) : Nat := match x.fw with
  | .none => 2 | .pulseOff => 0 | .asc => 1

/-- U_DC of a stack in 0.1 V, as events carry it. -/
def Stack.udc01 (x : Stack) : Nat := toUfix 16 0 (x.sense.uDc / 100)

/-- STOP_REACTION of a stack (R343). -/
def State.stopEvent (s : State) (k : Nat) (kind : StopKind) (cause : Nat) : State :=
  let x := s.stack k
  s.info 0x8366 1 k (le 1 kind.code ++ le 1 x.taken ++ le 2 cause ++ le 2 (toUfix 16 0 x.fe.eLL) ++ le 2 x.udc01)

/-- SELECT, PULSE_OFF or ASC on a stack (R330, R331, R333): a reaction that is not stronger than the one in force is only
recorded. -/
def State.stopReact (s : State) (k : Nat) (kind : StopKind) (cause : Nat) : State :=
  let x := s.stack k
  if kind.rank ≤ x.stop.kind.rank then s.stopEvent k kind cause else
  let asc := kind == .asc || (kind == .select && s.selectAsc k)
  let s := s.modStack k fun x =>
    { x with stop := { kind := kind, cause := cause }, fw := if asc then .asc else .pulseOff, watch := {}, release := false }
  (s.stopEvent k kind cause).settle

/-- A stop reaction on several stacks. -/
def State.stopAll (s : State) (ks : List Nat) (kind : StopKind) (cause : Nat) : State :=
  ks.foldl (fun s k => s.stopReact k kind cause) s

/-- Whether a stack can ramp (R335). -/
def State.canRamp (s : State) (k : Nat) : Bool :=
  let x := s.stack k
  x.switching && s.angleOk k && !s.legLocked k && !x.sense.undecided && !x.chop.isOpen &&
    (s.faultObj ⟨4, 1, k⟩).held.all (·.1 != 0x8365) && decide (x.sense.uDc < (s.cu (0x60 + k) 10 2 : Rat) * 100)

/-- The stop of the whole drive begins (R334): a normal stop or QUICK, from RUN and SHELTER; a normal stop does not weaken a
QUICK in force; a stack that cannot ramp takes SELECT (R335). (DESIGN CHOICE, assumption 54.) -/
def State.startStop (s : State) (quick : Bool) (cause : Nat) : State :=
  if s.dev ≠ .run ∧ s.dev ≠ .shelter then s else
  let s := match s.motion.stop with
    | some d => s.modMotion fun m => { m with stop := some { d with quick := d.quick || quick } }
    | none => s.modMotion fun m => { m with stop := some { quick := quick } }
  s.enStacks.foldl (fun s k =>
    if s.canRamp k then (if quick then s.stopEvent k .quick cause else s)
    else if (s.stack k).stop.kind = .none then s.stopReact k .select cause else s) s

/-- The device enters FAULT (R431): a stack still switching without a stop reaction of its own takes SELECT. -/
def State.enterFault (s : State) (cause : Nat) : State :=
  match s.dev with
  | .unconfigured | .ready | .run | .safeStop | .shelter =>
    let s := (s.setDev .fault).modMotion fun m => { m with stop := none, ss1Ramp := false }
    s.enStacks.foldl (fun s k =>
      if (s.stack k).switching ∧ (s.stack k).stop.kind = .none then
        (s.stopReact k .select cause).modFaults fun f => { f with entry := true }
      else s) s
  | _ => s

/-- A device that would enter READY enters FAULT while a fault of class 2 to 11, 13 or 14 is held (R19, R431). In READY every stack stands in firmware
pulse-off without a stop reaction (R19). (DESIGN CHOICE, assumption 76.) -/
def State.toReady (s : State) : State :=
  if s.blocking ∨ s.fatal then s.enterFault 0 else
  let s := s.modMotion fun m => { m with stop := none, ss1Ramp := false, brakeHold := none }
  let s := s.enStacks.foldl (fun s k => s.modStack k fun x => { x with stop := {}, fw := .pulseOff, release := false }) s
  (s.setDev .ready).settle

/-! ### Safety functions as a channel starts them -/

/-- A channel sets a brake by its own switch; in architecture A the Kingpost executes what the drive pair requests (R380, R382, R384). -/
def State.setBrakeCh (s : State) (ch : Channel) (n : Nat) : State :=
  if !s.archB then s.setBrake n else
  s.modBrake n fun b => match ch with
    | .drivePair => { b with low := false, request := false, relAt := none, setAtDp := if b.setAtDp.isSome then b.setAtDp else some s.time }
    | .kingpost => { b with high := false, request := false, relAt := none, setAtKp := if b.setAtKp.isSome then b.setAtKp else some s.kpNow }

/-- Several brakes are set. -/
def State.setBrakes (s : State) (ns : List Nat) : State := ns.foldl (fun s n => s.setBrake n) s

/-- Several brakes are set by a channel. (DESIGN CHOICE, assumption 54.) -/
def State.setBrakesCh (s : State) (ch : Channel) (ns : List Nat) : State := ns.foldl (fun s n => s.setBrakeCh ch n) s

/-- The Kingpost speed at one of its ticks (R389): bounded by the time since the last edge. -/
def State.kpSpeedAt (s : State) (kt : Nat) : Rat :=
  let v := s.safety.kpSpeed
  match s.safety.kpLast with
  | some l => if kt ≤ l then v else minR v (quot 40000000000 ((s.cu 0x0F00 4 4 : Rat) * ((kt - l : Nat) : Rat)))
  | none => v

/-- SAFETY_FUNCTION (R408). (DESIGN CHOICE, assumption 77.) -/
def State.fnEvent (s : State) (f : SafeFn) (stage : Nat) : State :=
  s.info 0x8501 2 0 (le 1 f.fn ++ le 1 f.mask.toNat ++ le 1 f.source ++ le 1 stage ++
    le 1 (match f.channel with | .drivePair => 0 | .kingpost => 1))

/-- Whether the active functions cover every enabled stack (R388). -/
def State.fnsCover (s : State) : Bool :=
  let m := s.safety.fns.foldl (fun (m : BitVec 4) f => m ||| (if f.fn = 3 then s.brakeStacks f.mask else f.mask)) 0
  s.enStacks.all fun k => m.getLsbD k

/-- The device state by the functions active (R388). -/
def State.safetyDev (s : State) : State :=
  if s.safety.fns.isEmpty then s
  else if s.dev = .ready then s.setDev .safeStop
  else if (s.dev = .run ∨ s.dev = .shelter) ∧ s.fnsCover then s.setDev .safeStop
  else s

/-- Whether two functions are the same request of one channel. -/
def SafeFn.same (a b : SafeFn) : Bool := a.fn == b.fn && a.mask == b.mask && a.source == b.source && a.channel == b.channel

/-- The state with the functions equal to `f` replaced by `g f`. -/
def State.modFn (s : State) (f : SafeFn) (g : SafeFn → SafeFn) : State :=
  s.modSafety fun y => { y with fns := y.fns.map fun x => if x.same f then g x else x }

/-- A function is complete in its channel (R381, R384). -/
def State.completeFn (s : State) (f : SafeFn) : State := ((s.modFn f fun x => { x with phase := 2 }).fnEvent f 1).settle

/-- A channel starts a function (R381 to R384, R388): STO at once with the brakes of its stacks; SS1 as a ramp of every enabled
stack, on a colonnade member as STO; SBC by setting its brakes, complete at once where it meets none. -/
def State.startFn (s : State) (fn : Nat) (mask : BitVec 4) (source : Nat) (ch : Channel) : State :=
  let mask := if fn = 2 then s.enMask else mask
  let f : SafeFn :=
    { fn := fn, mask := mask, source := source, channel := ch,
      t0 := match ch with | .drivePair => s.time | .kingpost => s.kpNow,
      tKp := s.kpNow,
      n0 := match ch with | .drivePair => absR s.safety.dpSpeed | .kingpost => s.kpSpeedAt s.kpNow }
  if s.safety.fns.any (·.same f) then s else
  let s := (s.modSafety fun y => { y with fns := y.fns ++ [f] }).fnEvent f 0
  let s :=
    if fn = 1 then (s.setBrakesCh ch (s.brakesOf mask)).completeFn f
    else if fn = 2 then
      if s.col.state = 3 then (s.setBrakesCh ch (s.brakesOf mask)).completeFn f
      else s.modMotion fun m => { m with ss1Ramp := true }
    else
      let ns := s.brakesOf mask
      if ns = [] then s.completeFn f else (s.setBrakesCh ch ns).modFn f fun x => { x with phase := 1 }
  s.settle.safetyDev

/-- A function for a request that the drive pair carries (R380, R406): on the drive-pair channel, in architecture B on both. -/
def State.requestFn (s : State) (fn : Nat) (mask : BitVec 4) (source : Nat) : State :=
  let s := s.startFn fn mask source .drivePair
  if s.archB then s.startFn fn mask source .kingpost else s

/-- STO on every stack and every brake set at once (R383, R390): an internal request. -/
def State.stoAll (s : State) : State := (s.setBrakes [0, 1]).requestFn 1 s.enMask 9

/-! ### Class reactions -/

/-- The stack a fault object is on (R1, R427). -/
def FaultKey.stack (k : FaultKey) : Nat := if k.level = 0 then chStack k.obj else k.obj

/-- What follows for the machines whose angle source is a failed port (R274, R429): the observer takes over where it may, else
SELECT. -/
def State.angleLost (s : State) (n cause : Nat) : State :=
  [0, 1, 2, 3].foldl (fun s m =>
    let ks := (s.machine m).filter fun k => (s.stack k).fe.angleSrc == n
    if ks = [] ∨ machineOf s.arrange m ≠ m then s else
    if (s.machine m).all (fun k => (s.cu (0x50 + k) 0 1).testBit 0) ∧ (s.observer m).state = 4 ∧ s.motion.mode ≠ 2 then
      let s := ks.foldl (fun s k => s.modStack k fun x => { x with fe := { x.fe with angleSrc := 0x10 } }) s
      let s := if s.motion.posPort = n then s.modMotion fun m => { m with posPort := 0x10 } else s
      s.info 0x8345 1 (s.observer m).lead (le 1 n ++ le 1 0x10)
    else s.stopAll ks .select cause) s

/-- A feedback port enters FAILED (R248, R249, R251) with what follows for its stacks. -/
def State.fbFail (s : State) (n why cause : Nat) : State :=
  if (s.fbPort n).state = 4 ∨ (s.fbPort n).state = 0 then s else (s.setFb n 4 why).angleLost n cause

/-- The reaction to a lasting observer loss (R272): SS1 with a working BRAKE_PORT, otherwise ASC or pulse-off by the back-EMF, under ASC by the last crossing;
the observer enters FAILED. -/
def State.obsLasting (s : State) (m cause : Nat) : State :=
  let o := s.observer m
  let bp := s.cu (0x50 + (s.machine m).headD m) 47 1
  let x := s.stack o.lead
  let high := if o.asc then o.crossings == 0 else decide (x.sense.uDc / 1000 * (95 / 100) ≤ x.fe.eLL)
  let s := (s.modObs m fun y => { y with asc := false }).setObs m 7
  let s := if o.asc then (s.machine m).foldl (fun s k =>
      if (s.stack k).stop.kind = .none then s.modStack k fun x => { x with fw := .none } else s) s else s
  if bp ≤ 5 ∧ ((s.fbPort bp).state = 2 ∨ (s.fbPort bp).state = 3) then
    let s := (s.machine m).foldl (fun s k => s.modStack k fun x => { x with fe := { x.fe with angleSrc := bp } }) s
    (if s.motion.posPort = 16 then s.modMotion fun y => { y with posPort := bp } else s).requestFn 2 s.enMask 9
  else if high then s.stopAll (s.machine m) .asc cause
  else s.stopAll (s.machine m) .pulseOff cause

/-- The guarantees an event withdraws (R438). -/
def lapseBits (code : Nat) (data : Bytes) : BitVec 6 :=
  let d := getN data 0 1
  if code = 0x8113 then (if d = 0 then 0x38 else if d = 1 then 0x07 else 0x08)
  else if code = 0x8112 then (if d = 0 ∨ d = 7 then 0x38 else if d = 1 ∨ d = 8 then 0x07
    else if (2 ≤ d ∧ d ≤ 5) ∨ d = 9 then 0x08 else 0)
  else if code = 0x8405 then 0x3F else 0

/-- The reaction of the class of a raised event (R429). -/
def State.react (s : State) (code cls : Nat) (lasting : Bool) (k : FaultKey) (data : Bytes) : State :=
  match cls with
  | 2 => if lasting then s.fbFail k.obj (if code = 0x833F then 3 else 2) code else s
  | 3 => if lasting ∧ (s.fbPort k.obj).state = 2 then s.setFb k.obj 3 2 else s
  | 4 => s.stopReact k.stack .select code
  | 5 | 6 => if lasting then s.stopReact k.stack .select code else s
  | 7 => if lasting then s.stopReact k.obj .pulseOff code else s
  | 8 => if lasting then (if code = 0x8323 then s.startStop true code else s.stopAll s.enStacks .select code) else s
  | 9 =>
    let m := machineOf s.arrange k.obj
    if lasting then s.obsLasting m code
    else if code = 0x8342 then (s.setObs m 7).stopAll (s.machine m) .pulseOff code else s
  | 10 => if lasting then ([0, 1, 2, 3].filter fun n => k.obj == 255 || k.obj == n).foldl (fun s n =>
      if s.axEn n then s.setAx n 6 else s) s else s
  | 11 => if lasting then s.stopAll s.enStacks .select code else s
  | 13 =>
    let s := if code = 0x8813 then s.stopAll s.enStacks .pulseOff code else s
    (s.lapse (lapseBits code data) code).enterFault code
  | 14 => (s.lapse (lapseBits code data) code).enterFault code
  | _ => s

/-- Raise an event: its record, its occurrence and the reaction of its class (R118, R427 to R431); with the verdict whether it is
lasting, none where a held fault keeps it from being raised. -/
def State.raiseV (s : State) (code level obj : Nat) (data : Bytes) (part : Option Bool := none) : Option Bool × State :=
  let cls := evClass code s.dev data
  let old := s.faults.lapsed
  let r := s.occur code level obj data part
  if !r.raised then (none, r.st) else
  let s := r.st.react code cls r.lasting (faultKey code cls level obj data) data
  (some r.lasting, if s.faults.lapsed = old then s else s.enterFault 0x8125)

/-- Raise an event with the reaction of its class. -/
def State.raise (s : State) (code level obj : Nat) (data : Bytes) (part : Option Bool := none) : State :=
  (s.raiseV code level obj data part).2

/-- Withdraw guarantees and enter FAULT (R438). -/
def State.lapseFault (s : State) (bits : BitVec 6) (code : Nat) : State :=
  let s' := s.lapse bits code
  if s'.faults.lapsed = s.faults.lapsed then s else s'.enterFault 0x8125

end Sys2Proof.Machine
end

