-- ==== Sys2Proof/Machine/Flags.lean ====
section
/-! DEFINITION. The status words: STAT (R112, R116), the port status word (R90) with HIRQ_N (R92), and the cyclic input data. -/
namespace Sys2Proof.Machine

/-- Whether a brake with an assigned stack is applied (R112): either of its switches is open (R385). -/
def State.brakeApplied (s : State) : Bool :=
  [0, 1].any fun n =>
    let b := vget s.safety.brakes n {}
    s.cu 0x0F03 (16 * n) 1 != 0 && !(b.high && b.low)

/-- Whether a set is available (R201). An ASC of its observer's loss leaves it available (R259); so does SAFE_STOP while an SS1 ramp
runs on it (R383). -/
def State.setAvailable (s : State) (k : Nat) : Bool :=
  let x := s.stack k
  let free := x.fw == .none || (x.stop.kind == .none && x.fw == .asc && (s.observer (machineOf s.arrange k)).asc)
  (s.dev == .run || s.dev == .shelter || (s.dev == .safeStop && s.motion.ss1Ramp && x.switching)) && s.enabled k && free && !x.kpOff && !x.kpAsc && !s.legLocked k && s.kpGrants k &&
    !(List.range 6).any (fun c => (s.gate (6 * k + c)).uvPos || (s.gate (6 * k + c)).uvNeg)

/-- Whether a degraded mode is active (R340): a failed sensor, a replaced angle source, a lost stack, an open chopper, a dropped
colonnade member; and while an observer holds its machine (R259). -/
def State.degraded (s : State) : Bool :=
  s.enStacks.any (fun k =>
    let x := s.stack k
    s.obsBusy (machineOf s.arrange k) || x.sense.failed.isSome || x.sense.dcFailed || x.fe.angleSrc != s.angSrcCfg k || x.chop.isOpen ||
      ((s.dev == .run || s.dev == .shelter) && !s.setAvailable k)) ||
  (s.col.state == 2 && s.col.drop != 0)

/-- The STAT word without bit 7 (R112). (DESIGN CHOICE, assumption 52.) -/
def State.stat (s : State) : Nat :=
  b2n (s.enStacks.any fun k => (s.stack k).switching) + 2 * b2n s.motion.limited + 4 * b2n s.motion.spdLimited +
  8 * b2n s.degraded + 16 * b2n (s.col.short != 0) + 32 * b2n (!s.safety.fns.isEmpty) + 64 * b2n s.brakeApplied

/-- The source ID of the owner, 0 if none. -/
def State.ownerId (s : State) : Nat := match s.owner with
  | some c => sourceId c
  | none => 0

/-- The port status word of a source (R90), without the meaning of R89: RLEN, RPEND, EVT, CYCRDY, OWN, STATE. -/
def State.statusWord (s : State) (c : Source) : Nat :=
  let p := s.port c
  let rlen := match p.replies with | [] => 0 | r :: _ => 12 + r.data.length
  rlen + 65536 * p.replies.length + 1048576 * b2n (!p.events.isEmpty) + 2097152 * b2n p.cyclic.fresh +
    4194304 * b2n (s.owner == some c) + 16777216 * s.dev.code

/-- The state as a source's window that began at `b` sees it: without the replies and records that came after (R90). -/
def State.asOf (s : State) (c : Source) (b : Tick) : State :=
  s.modPort c fun p => { p with replies := p.replies.filter fun r => decide (r.queued ≤ b), events := p.events.filter fun e => decide (e.stamp ≤ b) }

/-- HIRQ_N is low while RPEND is not 0 or EVT is 1 (R92). -/
def State.hirqLow (s : State) : Bool := !(s.port .host).replies.isEmpty || !(s.port .host).events.isEmpty

/-- The cyclic input data of a source (R112); `done` is STAT[7]. -/
def State.cyclicData (s : State) (c : Source) (done : Bool) : Bytes :=
  let p := s.port c
  let m := s.motion
  le 1 s.dev.code ++ le 1 s.ownerId ++ le 2 (s.stat + 128 * b2n done) ++ leI 4 m.tqAct ++ leI 4 (toQ24 m.n) ++
  leI 8 m.pos ++ le 8 m.stamp ++ (([0, 1, 2, 3].map fun k => le 2 (s.stack k).udc01).flatten) ++ le 2 p.lastCode ++ le 2 p.lastEseq ++
  leI 4 (if s.col.state = 2 ∨ s.col.state = 3 then s.col.shareT else 0) ++
  (([0, 1, 2, 3].map fun n => leI 4 ((s.axis n).raw + (s.axis n).refOfs)).flatten) ++
  le 1 (satN 1 p.cyclic.missed) ++ le 1 (satN 1 p.cyclic.superseded) ++ zeros 2

/-! ### Pin levels that follow from the state (R50 to R56, R73, R82) -/

/-- Whether the module's drivers are on: not in OFF, RESET and WATCH. -/
def State.driving (s : State) : Bool := match s.dev with
  | .off | .inReset | .watch => false
  | _ => true

/-- The memory pins that RESET and WATCH fix (R50); true is high or on, none a level that the accesses decide. -/
structure MemPins where
  cke      : Option Bool
  odt      : Option Bool
  csN      : Option Bool
  drstN    : Bool
  address  : Option Bool
  vddqVpp  : Bool
  vttVref  : Bool
  ospiRstN : Bool
  ocsN     : Option Bool
  flashDown : Bool
  alertSeen : Bool
deriving DecidableEq, Repr

/-- The memory pins (R50, R73, R82): with VIN below VIN_ON every supply is off. -/
def State.memPins (s : State) : MemPins := match s.dev with
  | .off => ⟨some false, some false, some false, false, some false, false, false, false, some false, false, false⟩
  | .inReset => ⟨some false, some false, some true, s.pins.drstN, some false, true, false, false, none, false, false⟩
  | .watch => ⟨some false, some false, none, s.pins.drstN, some false, true, false, true, some true, true, false⟩
  | _ => ⟨none, none, none, s.pins.drstN, none, true, true, true, none, false, true⟩

/-- The driven pins of the ports and links (R52, R53, R55, R73): `none` is a driver that is off. -/
structure LinkPins where
  xi25     : Bool
  misoOn   : Bool
  svtxOn   : Bool
  tdoOn    : Bool
  alTxd    : Option Bool
  bridleOn : Bool
  ringOn   : Bool
  safeStat : Bool
deriving DecidableEq, Repr

/-- SAFE_STAT (R55, R74): high while the Kingpost permits gate enable on at least one stack; off in RESET. -/
def State.safeStat (s : State) : Bool := s.dev != .off && s.dev != .inReset && [0, 1, 2, 3].any s.kpGrants

/-- The pins of the ports and links while no window and no frame is under way: HMISO is driven only while HCS_N is low, which no command leaves behind;
TXD is recessive, which is high. -/
def State.linkPins (s : State) : LinkPins :=
  { xi25 := s.dev != .off && s.dev != .watch, misoOn := false, svtxOn := s.driving, tdoOn := s.driving,
    alTxd := if s.dev = .off then none else some true, bridleOn := s.driving, ringOn := s.driving, safeStat := s.safeStat }

/-- FBnV in volts (R56): 5 V or 12 V by VSUP, 0 where the supply is off. -/
def State.fbVolts (s : State) (n : Nat) : Nat :=
  if !vget s.pins.fbSup n false then 0 else if (s.cu (0x40 + n) 1 1).testBit 1 then 12 else 5

end Sys2Proof.Machine
end

