-- ==== Sys2Proof/Machine/Sha256.lean ====
section
/-! DEFINITION. The cryptography the manual names: SHA-256 (R136), PBKDF2-HMAC-SHA256 (R397) and ECDSA over P-256 (R529, R530), as the public
standards FIPS 180-4, RFC 2104, RFC 8018 and FIPS 186-4 define them (PRESUMED, assumption 5). -/
namespace Sys2Proof.Machine

/-! ### SHA-256 -/

/-- A 32-bit word of the digest algorithm. -/
abbrev ShaWord := BitVec 32

/-- The 64 round constants: the first 32 bits of the fractions of the cube roots of the first 64 primes. -/
def shaK : List Nat :=
  [0x428A2F98, 0x71374491, 0xB5C0FBCF, 0xE9B5DBA5, 0x3956C25B, 0x59F111F1, 0x923F82A4, 0xAB1C5ED5,
   0xD807AA98, 0x12835B01, 0x243185BE, 0x550C7DC3, 0x72BE5D74, 0x80DEB1FE, 0x9BDC06A7, 0xC19BF174] ++
  [0xE49B69C1, 0xEFBE4786, 0x0FC19DC6, 0x240CA1CC, 0x2DE92C6F, 0x4A7484AA, 0x5CB0A9DC, 0x76F988DA,
   0x983E5152, 0xA831C66D, 0xB00327C8, 0xBF597FC7, 0xC6E00BF3, 0xD5A79147, 0x06CA6351, 0x14292967] ++
  [0x27B70A85, 0x2E1B2138, 0x4D2C6DFC, 0x53380D13, 0x650A7354, 0x766A0ABB, 0x81C2C92E, 0x92722C85,
   0xA2BFE8A1, 0xA81A664B, 0xC24B8B70, 0xC76C51A3, 0xD192E819, 0xD6990624, 0xF40E3585, 0x106AA070] ++
  [0x19A4C116, 0x1E376C08, 0x2748774C, 0x34B0BCB5, 0x391C0CB3, 0x4ED8AA4A, 0x5B9CCA4F, 0x682E6FF3,
   0x748F82EE, 0x78A5636F, 0x84C87814, 0x8CC70208, 0x90BEFFFA, 0xA4506CEB, 0xBEF9A3F7, 0xC67178F2]

/-- The initial digest words: the first 32 bits of the fractions of the square roots of the first eight primes. -/
def shaInit : Vector ShaWord 8 :=
  #v[0x6A09E667, 0xBB67AE85, 0x3C6EF372, 0xA54FF53A,
    0x510E527F, 0x9B05688C, 0x1F83D9AB, 0x5BE0CD19]

/-- Four bytes as a word, most significant byte first. -/
def beWord (b : Bytes) : ShaWord := BitVec.ofNat 32 (natOf (b.take 4).reverse)

/-- A message padded to whole blocks of 64 bytes: 0x80, zeros, and its length in bits as 8 bytes, most significant first. -/
def shaPad (m : Bytes) : Bytes := m ++ [0x80#8] ++ zeros ((119 - m.length % 64) % 64) ++ (le 8 (8 * m.length)).reverse

/-- One more word of the message schedule in front of the words so far, the latest first. -/
def shaExtend (w : List ShaWord) : List ShaWord :=
  let x := w.getD 1 0
  let y := w.getD 14 0
  ((x.rotateRight 17 ^^^ x.rotateRight 19 ^^^ (x >>> 10)) + w.getD 6 0 +
    (y.rotateRight 7 ^^^ y.rotateRight 18 ^^^ (y >>> 3)) + w.getD 15 0) :: w

/-- The message schedule of a block, in order. -/
def shaSchedule (block : Bytes) : List ShaWord :=
  (Nat.repeat shaExtend 48 ((List.range 16).map fun i => beWord (block.drop (4 * i))).reverse).reverse

/-- One round on the working words with a round constant and a schedule word. -/
def shaRound (v : Vector ShaWord 8) (kw : Nat × ShaWord) : Vector ShaWord 8 :=
  let a := v[0]
  let e := v[4]
  let t1 := v[7] + (e.rotateRight 6 ^^^ e.rotateRight 11 ^^^ e.rotateRight 25) + ((e &&& v[5]) ^^^ (~~~e &&& v[6])) +
    BitVec.ofNat 32 kw.1 + kw.2
  let t2 := (a.rotateRight 2 ^^^ a.rotateRight 13 ^^^ a.rotateRight 22) + ((a &&& v[1]) ^^^ (a &&& v[2]) ^^^ (v[1] &&& v[2]))
  #v[t1 + t2, a, v[1], v[2], v[3] + t1, e, v[5], v[6]]

/-- The digest words after one more block. -/
def shaBlock (h : Vector ShaWord 8) (block : Bytes) : Vector ShaWord 8 :=
  let v := (shaK.zip (shaSchedule block)).foldl shaRound h
  Vector.ofFn fun i => h[i] + v[i]

/-- SHA-256 as 32 bytes, each word most significant byte first. (PRESUMED, assumption 5.) -/
def sha256 (m : Bytes) : Vector Byte 32 :=
  let p := shaPad m
  let h := (List.range (p.length / 64)).foldl (fun h i => shaBlock h ((p.drop (64 * i)).take 64)) shaInit
  Vector.ofFn fun i => BitVec.ofNat 8 ((h[i.val / 4]'(by omega)).toNat >>> (8 * (3 - i.val % 4)))

/-! ### PBKDF2-HMAC-SHA256 -/

/-- A key as one block: hashed where it is longer. -/
def hmacKey (k : Bytes) : Bytes := fit 64 (if 64 < k.length then (sha256 k).toList else k)

/-- HMAC-SHA256. -/
def hmac (k m : Bytes) : Vector Byte 32 :=
  sha256 ((hmacKey k).map (· ^^^ 0x5C#8) ++ (sha256 ((hmacKey k).map (· ^^^ 0x36#8) ++ m)).toList)

/-- One more iteration: the last value and the exclusive or of all. -/
def pbkdfStep (pw : Bytes) (x : Vector Byte 32 × Vector Byte 32) : Vector Byte 32 × Vector Byte 32 :=
  let u := hmac pw x.1.toList
  (u, Vector.zipWith (· ^^^ ·) x.2 u)

/-- The salted password digest of R397: the first block of PBKDF2 with 4,096 iterations. (PRESUMED, assumption 5.) -/
def passwordDigest (salt pw : Bytes) : Vector Byte 32 :=
  let u := hmac pw (salt ++ [0, 0, 0, 1])
  (Nat.repeat (pbkdfStep pw) 4095 (u, u)).2

/-! ### ECDSA over P-256 -/

/-- The field prime. -/
def p256p : Nat := 2 ^ 256 - 2 ^ 224 + 2 ^ 192 + 2 ^ 96 - 1
/-- The group order. -/
def p256n : Nat := 0xFFFFFFFF00000000FFFFFFFFFFFFFFFFBCE6FAADA7179E84F3B9CAC2FC632551
/-- The constant term of the curve. -/
def p256b : Nat := 0x5AC635D8AA3A93E7B3EBBD55769886BC651D06B0CC53B0F63BCE3C3E27D2604B

/-- `a` to the `k` modulo `m`, over the lowest `bits` bits of `k`. -/
def powMod (m : Nat) : Nat → Nat → Nat → Nat
  | 0, _, _ => 1 % m
  | bits + 1, a, k => (if k % 2 = 1 then a else 1) * powMod m bits (a * a % m) (k / 2) % m

/-- The inverse modulo a prime below 2^256. -/
def invMod (m a : Nat) : Nat := powMod m 256 (a % m) (m - 2)

/-- A point of the curve; none is the point at infinity. -/
abbrev EcPoint := Option (Nat × Nat)

/-- The generator. -/
def p256g : EcPoint :=
  some (0x6B17D1F2E12C4247F8BCE6E563A440F277037D812DEB33A0F4A13945D898C296, 0x4FE342E2FE1A7F9B8EE7EB4A7C0F9E162BCE33576B315ECECBB6406837BF51F5)

/-- The third point of the line of slope `l` through (x, y) and a point with abscissa `x2`, mirrored. -/
def ecThird (l x y x2 : Nat) : EcPoint :=
  let x3 := (l * l + 2 * p256p - x - x2) % p256p
  some (x3, (l * (x + p256p - x3) + p256p - y) % p256p)

/-- The sum of two points. -/
def ecAdd (a b : EcPoint) : EcPoint := match a, b with
  | none, _ => b
  | _, none => a
  | some (x, y), some (x', y') =>
    if x ≠ x' then ecThird ((y' + p256p - y) * invMod p256p (x' + p256p - x) % p256p) x y x'
    else if y = y' ∧ y ≠ 0 then ecThird ((3 * x * x + p256p - 3) * invMod p256p (2 * y) % p256p) x y x
    else none

/-- `k` times a point, over the lowest `bits` bits of `k`. -/
def ecMul : Nat → Nat → EcPoint → EcPoint
  | 0, _, _ => none
  | bits + 1, k, a => ecAdd (if k % 2 = 1 then a else none) (ecMul bits (k / 2) (ecAdd a a))

/-- Whether a pair of numbers is a point of the curve. -/
def onCurve (x y : Nat) : Bool :=
  decide (x < p256p) && decide (y < p256p) && decide (y * y % p256p = (x * x * x + (p256p - 3) * x + p256b) % p256p)

/-- Thirty-two bytes as a number, most significant byte first. -/
def beNum (b : Bytes) : Nat := natOf (fit 32 b).reverse

/-- ECDSA verification of a digest: public key X then Y, signature r then s (R529). (PRESUMED, assumption 5.) -/
def ecdsaOk (key digest sig : Bytes) : Bool :=
  let x := beNum key
  let y := beNum (key.drop 32)
  let r := beNum sig
  let w := beNum (sig.drop 32)
  onCurve x y && decide (0 < r) && decide (r < p256n) && decide (0 < w) && decide (w < p256n) &&
    (let i := invMod p256n w
     match ecAdd (ecMul 256 (beNum digest * i % p256n) p256g) (ecMul 256 (r * i % p256n) (some (x, y))) with
     | some (x', _) => x' % p256n == r
     | none => false)

end Sys2Proof.Machine
end

