-- ==== Sys2Proof/Machine/Images.lean ====
section
/-! DEFINITION. Images, boot records and the fault history in flash (R433, R436, R437, R528 to R536, R545). -/
namespace Sys2Proof.Machine

/-! ### Image headers (R529) -/

/-- The 512-byte header of the image of kind `k` in a slot. -/
def Image.hdr (k : Nat) (i : Image) : Bytes := if i.delivered then Config.deliveredHeader k else i.header

/-- VERSION of a header. -/
def hdrVersion (h : Bytes) : Bytes := fit 4 (h.drop 8)
/-- SVN of a header. -/
def hdrSvn (h : Bytes) : Nat := getN h 12 2
/-- SIZE of a header. -/
def hdrSize (h : Bytes) : Nat := getN h 16 4

/-- `n` interface entries at a byte: ID, major, minor; ID 0 is unused. -/
def entriesAt (n : Nat) (h : Bytes) (off : Nat) : List (Nat × Nat × Nat) :=
  ((List.range n).map fun i => (getN h (off + 4 * i) 2, getN h (off + 4 * i + 2) 1, getN h (off + 4 * i + 3) 1)).filter
    fun e => e.1 != 0

/-- The 16 interface entries at a byte of a header. -/
def hdrEntries (h : Bytes) (off : Nat) : List (Nat × Nat × Nat) := entriesAt 16 h off

/-- Whether a requirement is met by a PROVIDES list (R531). -/
def metBy (prov : List (Nat × Nat × Nat)) (r : Nat × Nat × Nat) : Bool :=
  prov.any fun e => e.1 == r.1 && e.2.1 == r.2.1 && decide (r.2.2 ≤ e.2.2)

/-- Slot `b` of kind `k`. -/
def State.slot (s : State) (k b : Nat) : Option Image := vget s.upd.slots (2 * k + b) none

/-- Whether a header is signed (R529, R530): by a key whose digest a key slot that is not revoked holds. (PRESUMED, assumption 5.) -/
def signed (h : Bytes) : Bool :=
  let key := fit 64 (h.drop 192)
  let id := getN h 6 1
  decide (id ≤ 3) && (sha256 key).toList == (Config.keyDigest id).toList && !Config.keyRevoked id &&
    ecdsaOk key (sha256 (fit 448 h)).toList (fit 64 (h.drop 448))

/-- Whether an image is authentic (R530): the delivered images are; a downloaded one by its signature and body digest. -/
def authentic (i : Image) : Bool := i.delivered || (signed i.header && (sha256 i.body).toList == fit 32 (i.header.drop 32))

/-- Whether the boot ROM accepts an image (R530, R534). -/
def State.usable (s : State) (k : Nat) (i : Image) : Bool := authentic i && decide (s.upd.counter ≤ hdrSvn (i.hdr k))

/-- A set of headers, one per kind that is present. -/
abbrev ImageSet := Nat → Option Bytes

/-- The peer requirements (R531): met without a sealed configuration with LINKS[1] = 1, else by the partner's PROVIDES. -/
def State.peerMet (s : State) (r : Nat × Nat × Nat) : Bool :=
  !(s.sealedCfg.isSome && (s.cu 0x0001 11 1).testBit 1) || metBy (entriesAt 64 s.pair.provides 0) r

/-- The requirements of the image of kind `k` (R529, R531): for kind 2 the history format of kind 0 is one more. -/
def requirements (k : Nat) (h : Bytes) : List (Nat × Nat × Nat) :=
  hdrEntries h 128 ++ if k = 2 then [(0x0100 + getN h 14 1, 1, 0)] else []

/-- Whether every requirement of the image of kind `k` in a set is met (R531); an absent image has none. -/
def State.kindOk (s : State) (set : ImageSet) (k : Nat) : Bool := match set k with
  | none => true
  | some h => (requirements k h).all fun r =>
    if r.1 < 32768 then ((List.range k).any fun j => match set j with
      | some g => metBy (hdrEntries g 64) r
      | none => false)
    else s.peerMet r

/-- Whether a set with the candidate of kind `k` is compatible (R532): the candidate's own requirements and those of later kinds. -/
def State.compatible (s : State) (set : ImageSet) (k : Nat) (h : Bytes) : Bool :=
  let set' : ImageSet := fun j => if j = k then some h else set j
  ([0, 1, 2, 3].filter fun j => decide (k ≤ j)).all fun j => s.kindOk set' j

/-! ### Boot records (R535) -/

/-- The index of the record in use: the valid one with the higher SEQ. -/
def Update.recIx (u : Update) : Nat :=
  let a := vget u.recs 0 {}
  let b := vget u.recs 1 {}
  if a.valid && b.valid then (if a.seq < b.seq then 1 else 0) else if b.valid then 1 else 0

/-- The index of the record in use. -/
def State.recIx (s : State) : Nat := s.upd.recIx

/-- The record in use. -/
def State.bootRec (s : State) : BootRec := vget s.upd.recs s.recIx {}

/-- A new record one SEQ above the record in use, in the other sector. -/
def State.writeRec (s : State) (f : BootRec → BootRec) : State :=
  let cur := s.bootRec
  let at' := 1 - s.recIx
  s.modUpd fun u => { u with recs := vmod u.recs at' fun _ => { f cur with valid := true, seq := (cur.seq + 1) % 4294967296 } }

/-- The active slot bit of kind `k`. -/
def BootRec.bit (r : BootRec) (k : Nat) : Nat := b2n (r.slots.getLsbD k)

/-- The slots with the inactive one of the session's kind empty (R539, R540). -/
def Update.emptied (u : Update) : Vector (Option Image) 8 :=
  vmod u.slots (2 * u.kind + (1 - (vget u.recs u.recIx {}).bit u.kind)) fun _ => none

/-- The active image of kind `k` by the record in use. -/
def State.active (s : State) (k : Nat) : Option Image := s.slot k (s.bootRec.bit k)

/-- The headers of the active images. -/
def State.activeSet (s : State) : ImageSet := fun k => (s.active k).map (·.hdr k)

/-- The image of kind `k` the last BOOT started. -/
def State.running (s : State) (k : Nat) : Option Image :=
  if s.upd.loaded.getLsbD k then s.slot k (b2n (s.upd.inUse.getLsbD k)) else none

/-- VERSIONS of IDENTIFY (R115): 0 where no valid image of the kind runs. -/
def State.versions (s : State) : Bytes :=
  ([0, 1, 2, 3].map fun k => match s.running k with
    | some i => hdrVersion (i.hdr k)
    | none => zeros 4).flatten

/-- The target of the anti-rollback counter (R534): the lowest SVN of the confirmed images; of a kind on trial the confirmed image
is the one in the other slot. -/
def State.svnTarget (s : State) : Nat :=
  let r := s.bootRec
  let svns := [0, 1, 2, 3].filterMap fun k =>
    let b := if r.trial = k then 1 - r.bit k else r.bit k
    (s.slot k b).map fun i => hdrSvn (i.hdr k)
  match svns.min? with
  | some n => min n 128
  | none => s.upd.counter

/-- Fuses blown up to the target; the counter never falls (R534). -/
def State.blowFuses (s : State) : State := s.modUpd fun u => { u with counter := max u.counter s.svnTarget }

/-- Steps 1 and 2 of R536: the trial rules of the record in use. -/
def State.bootTrial (s : State) : State :=
  let r := s.bootRec
  if 4 ≤ r.trial then s
  else if r.tries = 0 then
    let bit := 1 - r.bit r.trial
    (s.writeRec fun r => { r with slots := r.slots ^^^ (1#4 <<< r.trial), trial := 255,
                                  hist := if r.hist.getLsbD 1 then 3 else 0 }).modUpd
      fun u => { u with fallback := u.fallback ++ [(0, r.trial, bit)] }
  else s.writeRec fun r => { r with tries := r.tries - 1 }

/-- Step 3 of R536 for a kind whose active image is not accepted: the other slot where it serves. -/
def State.bootOther (s : State) (k : Nat) : State :=
  let b := 1 - s.bootRec.bit k
  match s.slot k b with
  | some i =>
    if k < 3 && s.usable k i && s.compatible s.activeSet k (i.hdr k) then
      (s.writeRec fun r => { r with slots := r.slots ^^^ (1#4 <<< k), trial := 255 }).modUpd
        fun u => { u with loaded := u.loaded ||| (1#4 <<< k), fallback := u.fallback ++ [(1, k, b)] }
    else s
  | none => s

/-- Step 3 of R536 for one kind: the active image, else the other slot, else none. -/
def State.bootKind (s : State) (k : Nat) : State :=
  match s.active k with
  | some i => if s.usable k i then s.modUpd fun u => { u with loaded := u.loaded ||| (1#4 <<< k) } else s.bootOther k
  | none => s.bootOther k

/-- What the boot ROM does with the record in use and the images (R534, R536); a device with no usable image of kind 0, 1 or 2
enters SILL. (DESIGN CHOICE, assumption 41.) -/
def State.bootSelect (s : State) : State :=
  let s := (s.modUpd fun u => { u with loaded := 0, fallback := [] }).blowFuses.bootTrial
  let s := [0, 1, 2, 3].foldl (fun s k => s.bootKind k) s
  let r := s.bootRec
  let bad := ~~~s.upd.loaded &&& 7#4
  { s with dev := if bad = 0 then .boot else .sill }.modUpd fun u =>
    { u with inUse := r.slots, trialBoot := decide (r.trial < 4), sillMask := if bad = 0 then 0 else ~~~u.loaded }

/-! ### The fault history (R436, R437, R545) -/

/-- The region in use: HIST[0], in SILL HIST[1]. -/
def State.histRegion (s : State) : Nat := b2n (s.bootRec.hist.getLsbD (if s.dev = .sill then 1 else 0))

/-- HIST_FORMAT of an image of kind 2: 1 in this release for the delivered one (R436, R529). -/
def Image.histFormat (i : Image) : Nat := if i.delivered then 1 else getN i.header 14 1

/-- The format the running control firmware writes. -/
def State.histFormat (s : State) : Nat := match s.running 2 with
  | some i => i.histFormat
  | none => 1

/-- One record appended to the region in use: a full region loses its oldest sector of 2,048 records ahead of the write point. -/
def State.appendHist (s : State) (e : EventRec) (flags : Nat) : State :=
  let g := s.histRegion
  let r : HistRec := { recNo := vget s.faults.histNext g 0, format := s.histFormat, flags := flags, event := e }
  s.modFaults fun f =>
    { f with hist := vmod f.hist g fun l => if l.length < 65535 then l ++ [r] else l.drop 2048 ++ [r],
             histNext := vmod f.histNext g fun n => (n + 1) % 4294967296 }

/-- The first of two system channels of the DMA engine that is idle (R455). -/
def State.sysIdle (s : State) (a b : Nat) : Option Nat := [a, b].find? fun n => (vget s.dma.ch n {}).state == 0

/-- The address of a descriptor of a control pair, which the manual leaves open: 64-byte aligned (DESIGN CHOICE, assumption 3). -/
def State.sysDesc (s : State) : Nat := s.draw.1 % 2 ^ 58 * 64

/-- A control pair posts a descriptor of `len` bytes to system channel `n`, which completes it (R23, R457). (DESIGN CHOICE, assumption 112.) -/
def State.sysPost (s : State) (n len : Nat) : State :=
  s.draw.2.modCh n fun c => { c with head := s.sysDesc, desc := s.sysDesc, done := len, completed := 1 }

/-- A transfer over the system channels `a` and `b`, by the one that is idle. -/
def State.sysXfer (s : State) (a b len : Nat) : State := match s.sysIdle a b with
  | some n => s.sysPost n len
  | none => s

/-- The oldest staged record is appended over channel 14 or 15, by the link pair or, while that is halted, by the drive pair (R23, R433, R436); with
both channels busy it stays staged. -/
def State.appendStaged (s : State) : State := match s.faults.staging, s.sysIdle 14 15 with
  | (e, f) :: r, some n => ((s.sysPost n 32).appendHist e (f + 4 * b2n (!s.linkHalted))).modFaults fun x => { x with staging := r }
  | _, _ => s

/-- The CRC-16 of R301. -/
def crc16 (b : Bytes) : BitVec 16 := b.foldl (crcByte16 0x1021) 0xFFFF

/-- The 32 bytes of a history record (R436). -/
def HistRec.bytes (r : HistRec) : Bytes :=
  let a := le 4 r.recNo ++ le 1 r.format ++ le 1 r.flags
  a ++ le 2 (crc16 (a ++ r.event.bytes)).toNat ++ r.event.bytes

/-- Every staged record appended (R433). -/
def State.flushHist (s : State) : State := s.faults.staging.foldl (fun s _ => s.appendStaged) s

/-- The control firmware on its first trial boot (R545): with another format than the confirmed one, the other region is erased
and becomes the region in use. -/
def State.histSwitch (s : State) : State :=
  let r := s.bootRec
  let other := s.slot 2 (1 - r.bit 2)
  let old := match other with | some i => i.histFormat | none => s.histFormat
  if r.trial = 2 ∧ r.hist.getLsbD 0 = r.hist.getLsbD 1 ∧ old ≠ s.histFormat then
    let g := 1 - b2n (r.hist.getLsbD 1)
    let ix := s.recIx
    (s.modUpd fun u => { u with recs := vmod u.recs ix fun r => { r with hist := r.hist ^^^ 1#2 } }).modFaults fun f =>
      { f with hist := vmod f.hist g fun _ => [], histNext := vmod f.histNext g fun _ => 0 }
  else s

/-- The boot marker of R436: CODE and STAMP 0, DATA the reset-cause word. -/
def State.bootMarker (s : State) : State :=
  (s.sysXfer 14 15 32).appendHist
    { code := 0, eseq := 0, state := s.dev.code, level := 0, obj := 0, cls := 0, stamp := 0, data := fit 8 (le 4 s.power.cause.toNat) } 5

end Sys2Proof.Machine
end

