-- ==== Sys2Proof/Machine/Session.lean ====
section
/-! DEFINITION. The command packet below its transport: the ordered checks 9 to 14 (R97), credits (R98, R99), the opcode table
(R113), ownership (R104 to R106), and the session and query opcodes. -/
namespace Sys2Proof.Machine

/-- A device state as a bit of the "accepted in" column of R113: UC, RDY, RUN, SS, FLT, SH, SL. -/
def DevState.bit : DevState → Nat
  | .unconfigured => 1 | .ready => 2 | .run => 4 | .safeStop => 8 | .fault => 16 | .shelter => 32 | .sill => 64 | _ => 0

/-- A row of R113: the states it is accepted in, and whether it needs ownership. -/
structure OpInfo where
  states : Nat
  own    : Bool
deriving DecidableEq, Repr

/-- Any of R113. -/
abbrev anyState : Nat := 63

/-- The opcode table (R113): none for an unknown opcode. The update opcodes follow Firmware Update (R538). -/
def opInfo : Nat → Option OpInfo
  | 0x0100 => some ⟨127, false⟩ | 0x0101 => some ⟨127, false⟩ | 0x0102 => some ⟨127, false⟩ | 0x0103 => some ⟨63, false⟩
  | 0x0104 => some ⟨63, true⟩ | 0x0105 => some ⟨63, false⟩ | 0x0106 => some ⟨63, false⟩ | 0x0107 => some ⟨2, true⟩
  | 0x0108 => some ⟨2, true⟩ | 0x0109 => some ⟨63, false⟩
  | 0x0200 => some ⟨1, true⟩ | 0x0201 => some ⟨63, false⟩ | 0x0202 => some ⟨1, true⟩ | 0x0203 => some ⟨1, true⟩
  | 0x0204 => some ⟨2 + 16, true⟩ | 0x0205 => some ⟨2 + 4 + 8 + 32 + 16, false⟩
  | 0x0300 => some ⟨2, true⟩ | 0x0301 => some ⟨4 + 32 + 2, false⟩ | 0x0302 => some ⟨6, true⟩ | 0x0303 => some ⟨4, true⟩
  | 0x0304 => some ⟨4, true⟩ | 0x0305 => some ⟨4, true⟩ | 0x0306 => some ⟨6, true⟩ | 0x0307 => some ⟨62, true⟩
  | 0x0308 => some ⟨6, true⟩ | 0x0310 => some ⟨62, true⟩
  | 0x0400 => some ⟨63, false⟩ | 0x0401 => some ⟨63, false⟩ | 0x0402 => some ⟨63, false⟩ | 0x0403 => some ⟨127, false⟩
  | 0x0404 => some ⟨63, false⟩ | 0x0405 => some ⟨63, false⟩
  | 0x0500 => some ⟨3, false⟩ | 0x0501 => some ⟨63, false⟩ | 0x0502 => some ⟨1, true⟩ | 0x0503 => some ⟨127, false⟩
  | 0x0504 => some ⟨63, true⟩ | 0x0505 => some ⟨63, false⟩ | 0x0506 => some ⟨2 + 4 + 8 + 32 + 16, false⟩ | 0x0507 => some ⟨1, true⟩
  | 0x0600 => some ⟨4 + 32, true⟩ | 0x0601 => some ⟨63, false⟩ | 0x0602 => some ⟨4, true⟩ | 0x0603 => some ⟨4, true⟩
  | 0x0604 => some ⟨4, true⟩ | 0x0605 => some ⟨63, false⟩
  | 0x0700 => some ⟨6, true⟩ | 0x0701 => some ⟨62, true⟩ | 0x0702 => some ⟨63, false⟩ | 0x0703 => some ⟨62, false⟩
  | 0x0704 => some ⟨3, true⟩ | 0x0705 => some ⟨63, false⟩
  | 0x0800 => some ⟨2, true⟩ | 0x0801 => some ⟨6, true⟩ | 0x0802 => some ⟨63, false⟩ | 0x0803 => some ⟨63, false⟩
  | 0x0804 => some ⟨63, false⟩ | 0x0805 => some ⟨62, true⟩
  | 0x0900 => some ⟨127, false⟩ | 0x0901 => some ⟨2, true⟩
  | 0x0902 => some ⟨63, false⟩ | 0x0903 => some ⟨63, false⟩ | 0x0904 => some ⟨63, false⟩ | 0x0905 => some ⟨63, false⟩
  | 0x0906 => some ⟨63, false⟩
  | _ => none

/-- Check 9: whether an opcode is allowed from a source (R103, R113). -/
def sourceOk (op : Nat) (c : Source) : Bool :=
  let group := op / 256
  match c with
  | .service => (group == 1 && op != 0x0103 && op != 0x0107 && op != 0x0108) || group == 4 || op == 0x0503 || op == 0x0505 ||
      op == 0x0702 || group == 9
  | _ => !(decide (0x0902 ≤ op) && decide (op ≤ 0x0906))

/-- Whether an opcode is one of those that answer E_SEALED while a configuration is sealed (R129). -/
def sealedOp (op : Nat) : Bool := op == 0x0200 || op == 0x0202 || op == 0x0203 || op == 0x0502

/-- The bytes received of the image on offer, header included once data came (R540, R547). -/
def Update.received (u : Update) : Nat := if u.body = [] then 0 else 512 + u.body.length

/-- Whether an update opcode of a holder meets another holder's session, or a relay that is open (R543, R544). -/
def State.updOther (s : State) (holder : Nat) : Bool := s.upd.session != 0 && (s.upd.holder != holder || s.upd.session == 3)

/-- Whether the update session is one that an update opcode of a holder is accepted in (R533, R538); one that meets another holder is decided
by check 12. After POWER_FAIL no image write or erase is started (R66); the command is answered E_STATE (DESIGN CHOICE, assumption 111). -/
def State.updOk (s : State) (op holder : Nat) : Bool :=
  let u := s.upd
  if op < 0x0902 || 0x0906 < op || s.updOther holder then true
  else if op = 0x0902 then u.session == 0 && decide (4 ≤ s.bootRec.trial) && !s.power.powerFail
  else if op = 0x0903 then u.session == 1 && !s.power.powerFail
  else if op = 0x0904 then u.session == 1 && u.received == hdrSize u.header
  else if op = 0x0905 then u.session == 2
  else u.session != 0

/-- Check 12 of an update opcode of a holder (R543, R544): the holder in the way, with the partner's address for holder 5. -/
def State.updBusy (s : State) (op holder : Nat) : Option Bytes :=
  if op < 0x0902 || 0x0906 < op || !s.updOther holder then none
  else
    let h := if s.upd.session = 3 then 9 - holder else s.upd.holder
    some (le 1 h ++ le 2 (if h = 5 then s.cu 0x0081 6 2 else 0))

/-- Check 10: whether the present state accepts an opcode (R113), with the conditions R136, R139 and R406 state for FAULT and R129 for a sealed
configuration. -/
def State.stateOk (s : State) (op states : Nat) : Bool :=
  s.dev.bit != 0 && states &&& s.dev.bit != 0 &&
  !(s.dev == .fault && (op == 0x0205 || op == 0x0506) && s.sealedCfg.isNone) &&
  !(s.dev == .fault && op == 0x0204 && !s.allPulseOff) && !(sealedOp op && s.sealedCfg.isSome) && s.updOk op 4

/-- Check 12: the reply data that name the holder that makes an opcode busy. DRAM clearing has holder 0 (R124), an open safety session
of another source makes its login busy (R397). Commands are whole steps, so the groups of R101 are never busy (DEDUCED, assumption 11). -/
def State.busyFor (s : State) (op : Nat) (c : Source) (payload : Bytes) : Option Bytes :=
  if s.power.dramBusy && (op == 0x0700 || (op == 0x0704 && getN payload 0 1 == 1)) then some (le 1 0)
  else if op == 0x0500 then match s.safety.session with
    | some o => if o = c then none else some (le 1 (sourceId o))
    | none => none
  else s.updBusy op 4

/-- The data size of the block a WRITE_BLOCK or WRITE_SAFETY_BLOCK payload names, where that command may write it (R127). -/
def writeSize (op : Nat) (payload : Bytes) : Option Nat :=
  ((if op = 0x0200 then ordinaryLayout else safetyLayout) (getN payload 0 2)).map (·.size)

/-- Check 13: whether the payload length is one of the opcode's (R113, R127). -/
def lenOk (op : Nat) (payload : Bytes) : Bool :=
  let n := payload.length
  match op with
  | 0x0100 => decide (n ≤ 4096)
  | 0x0101 | 0x0104 | 0x0107 | 0x0109 | 0x0202 | 0x0203 | 0x0204 | 0x0205 | 0x0300 | 0x0307 | 0x0400 | 0x0402 | 0x0404 | 0x0405
  | 0x0501 | 0x0505 | 0x0701 | 0x0703 | 0x0801 | 0x0802 | 0x0803 | 0x0900 => n == 0
  | 0x0102 | 0x0103 | 0x0201 | 0x0302 | 0x0303 | 0x0308 | 0x0403 | 0x0506 | 0x0602 | 0x0704 | 0x0901 => n == 4
  | 0x0105 | 0x0106 | 0x0503 | 0x0504 => n == 2
  | 0x0108 | 0x0304 | 0x0800 => n == 8
  | 0x0200 | 0x0502 => n ∈ [36, 68, 132, 260, 516, 2052] && (match writeSize op payload with | some z => n == z + 4 | none => true)
  | 0x0301 | 0x0401 | 0x0601 | 0x0605 | 0x0804 => n == 1
  | 0x0305 | 0x0306 | 0x0603 => n == 16
  | 0x0310 => n == 64
  | 0x0500 => decide (8 ≤ n) && decide (n ≤ 32)
  | 0x0507 => decide (16 ≤ n) && decide (n ≤ 64)
  | 0x0600 => n == 20
  | 0x0604 => n == 24
  | 0x0700 => n == 32 + 4 * getN payload 3 1 && decide (33 ≤ n) && decide (n ≤ 288)
  | 0x0702 => n == 12
  | 0x0705 => decide (1 ≤ n) && decide (n ≤ 4096)
  | 0x0902 => n == 516
  | 0x0903 => decide (12 ≤ n) && decide (n ≤ 4096)
  | 0x0904 | 0x0905 | 0x0906 => n == 0
  | 0x0805 => decide (8 ≤ n) && decide (n ≤ 72) && n == 8 + getN payload 6 2
  | _ => true

/-- The checks 8 to 13 of R97 in their order: the status and reply data of the first that fails. -/
def State.objection (s : State) (op : Nat) (c : Source) (payload : Bytes) : Option (Nat × Bytes) :=
  match opInfo op with
  | none => some (eOpcode, [])
  | some i =>
    if !sourceOk op c then some (eSource, [])
    else if !s.stateOk op i.states then some (if sealedOp op && s.sealedCfg.isSome then eSealed else eState, [])
    else if i.own && s.owner != some c && c != .service then some (eLocked, le 1 s.ownerId)
    else match s.busyFor op c payload with
      | some h => some (eBusy, h)
      | none => if lenOk op payload then none else some (eLength, [])

/-- Whether the device takes packets at all: not in OFF, RESET, BOOT and WATCH, not during WATCH entry (R82, R85, R114), not
while the link pair is halted (R415). -/
def State.listens (s : State) : Bool :=
  s.dev.bit != 0 && s.watch.entry.isNone && !s.linkHalted

/-- One more rejection in GET_COUNTERS (R113). -/
def State.countReject (s : State) : State := s.modCounters fun c => { c with rejections := satN 4 (c.rejections + 1) }

/-- A packet without a credit (R99): one E_CREDIT reply with NC = 1 unless one is queued, the over-credit counter,
CREDIT_OVERRUN. -/
def State.overCredit (s : State) (c : Source) (seq : Nat) : State :=
  let queued := (s.port c).replies.any fun r => r.nc && r.status == eCredit
  let s := if queued then s else s.queueReply c { nc := true, status := eCredit, seq := seq }
  (s.modCounters fun k => { k with overCredit := satN 4 (k.overCredit + 1) }).info 0x8102 2 (sourceId c) []

/-- A rejection: the reply with the status (R97). -/
def State.reject (s : State) (c : Source) (seq status : Nat) (data : Bytes := []) : State :=
  (s.queueReply c { status := status, seq := seq, data := data }).countReject

/-- A packet counted in GET_COUNTERS (R113). -/
def State.countPacket (s : State) : State := s.modCounters fun k => { k with packets := satN 4 (k.packets + 1) }

/-- A packet of an update session or a relay (R540, R544): its stamp, and whether it came after the 10 s it was to meet (R40). -/
def State.touchUpd (s : State) : State :=
  s.modUpd fun u => { u with lastAt := max u.lastAt s.stamp, late := u.late || (u.session != 0 && decide (u.lastAt + msTicks 10000 < s.stamp)) }

/-- OWN_TIMEOUT of a source as its packets show it: a packet stamped after the deadline comes too late for it (R40, R105). -/
def State.ownMissed (s : State) (c : Source) : Bool :=
  let p := s.port c
  s.owner == some c && !p.cyclic.enabled && decide (max p.lastOk p.cyclic.offSince + msTicks p.ownMs < s.stamp)

/-- A packet of a source that passed check 8 (R105): its stamp, and whether it came after the deadline it was to meet (R40). -/
def State.noteRecv (s : State) (c : Source) : State :=
  let late := s.ownMissed c
  (if c = .service ∧ s.upd.holder = 4 then s.touchUpd else s).modPort c fun p => { p with lastOk := max p.lastOk s.stamp, ownLate := p.ownLate || late }

/-- A packet that has passed the checks 1 and 3 to 8 and holds its credit: checks 9 to 13, then the opcode's own check 14 and
effect; the reply is queued (R97, R98, R117). Where the command itself ended what its source's port stood for (a stop of the program, a
binding that ends), the eight credits are back and no packet awaits a reply (R98, R443, R509; assumption 12). (DEDUCED, assumption 11.) -/
def State.carryOut (s : State) (c : Source) (op seq : Nat) (payload : Bytes) (h : State → Rep) : State :=
  let s := if (opInfo op).isSome then s.noteRecv c else s
  match s.objection op c payload with
  | some (st, d) => s.reject c seq st d
  | none =>
    let r := h s
    if (s.port c).credits < (r.st.port c).credits then r.st else
    let s' := r.st.queueReply c { status := r.status, seq := seq, data := r.data }
    if r.status = 0 then s' else s'.countReject

/-- A packet of an opcode row as its source delivers it: correct in its transport, with its credit taken (R98, R99). -/
def State.submit (s : State) (c : Source) (op seq : Nat) (payload : Bytes) (h : State → Rep) : State :=
  if !s.listens then s else
  let s := s.countPacket
  if (s.port c).credits = 0 then s.overCredit c seq
  else (s.takeCredit c).carryOut c op seq payload h

/-- The state a constructor of an opcode row leads to: device time to the packet's stamp, then the packet. -/
def runOp (t : Tick) (c : Source) (op seq : Nat) (payload : Bytes) (h : State → Rep) (s : State) :
    Host.Outcome State Fault Refusal := .next ((s.upTo t).submit c op seq payload h)

/-! ### Ownership (R104 to R106) -/

/-- The safety session of a source ends (R397). -/
def State.endSession (s : State) (c : Source) : State :=
  if s.safety.session = some c then s.modSafety fun x => { x with session := none, pwLen := 0 } else s

/-- A source stops owning motion and its safety session ends (R104, R397). -/
def State.dropOwner (s : State) (c : Source) : State :=
  if s.owner = some c then ({ s with owner := none }).endSession c else s

/-- Loss of ownership (R105): OWNERSHIP_LOST; in RUN the next outer-loop cycle takes the reaction of R337. -/
def State.loseOwner (s : State) (c : Source) : State :=
  if s.owner = some c then
    let s := (s.dropOwner c).raise 0x8105 2 (sourceId c) []
    if s.dev = .run then s.modMotion fun m => { m with ownLost := some (sourceId c) } else s
  else s

/-- The return from SHELTER to RUN by a source that took ownership (R339). -/
def State.shelterExit (s : State) (c : Source) : State :=
  (({ s with dev := .run } : State).modMotion fun m => { m with shLimits := false, regain := false }).info 0x836C 2 0 (le 1 (sourceId c))

/-- The order of service of TAKE_OWNERSHIP requests stamped in one tick (R104). -/
def ownRank : Source → Nat
  | .host => 0 | .app => 1 | .alcia => 2 | .service => 3

/-- The reply of a TAKE_OWNERSHIP request that source `c` was served before (R104): E_LOCKED with the owner's ID. -/
def Reply.giveWay (t : Tick) (took : Option (Tick × Nat)) (o c : Source) (r : Reply) : Reply :=
  match took with
  | some (_, seq) =>
    if r.seq = seq ∧ r.queued = t ∧ r.status = 0 ∧ r.data = le 1 (sourceId o) then { r with status := eLocked, data := le 1 (sourceId c) } else r
  | none => r

/-- A request of the same tick that another source is served before (R104): the later one in that order never took ownership; its queued reply
becomes E_LOCKED. -/
def State.ownTie (s : State) (c : Source) : State :=
  match s.owner with
  | none => s
  | some o =>
    if ownRank c < ownRank o ∧ (s.port o).tookAt.map (·.1) = some s.stamp then
      State.modPort { s with owner := none } o fun p => { p with replies := p.replies.map (Reply.giveWay s.time p.tookAt o c), tookAt := none }
    else s

/-- TAKE_OWNERSHIP (R104, R105); in SHELTER the device returns to RUN (R339), but not in the tick that SHELTER was entered in (R20). OWN_TIMEOUT is
checked before the ownership, and the E_LOCKED of check 14 names the owner as check 11 does. (DESIGN CHOICE, assumption 107.) -/
def opTakeOwnership (c : Source) (seq : Nat) (p : Bytes) (s : State) : Rep :=
  let ms := getN p 0 4
  if ms < 1 ∨ 60000 < ms then .no s eRange
  else if (s.ownTie c).owner.isSome then .no s eLocked (le 1 s.ownerId)
  else
    let s := s.ownTie c
    let s := { s with owner := some c }.modPort c fun q =>
      { q with ownMs := ms, lastOk := max q.lastOk s.stamp, ownLate := false, tookAt := some (s.stamp, seq) }
    let s := if s.dev = .shelter then
      (if s.motion.shelterAt = s.time then s.modMotion fun m => { m with regain := true } else s.shelterExit c) else s
    .ok s (le 1 (sourceId c))

/-- RELEASE_OWNERSHIP (R104); from the service port, which needs no ownership (R113), it ends that of the source that holds it. (DESIGN CHOICE, assumption 107.) -/
def opReleaseOwnership (s : State) : Rep := match s.owner with
  | some o => .ok (s.dropOwner o)
  | none => .ok s

/-! ### Session opcodes -/

/-- NOP (R113): a copy of the payload. -/
def opNop (p : Bytes) (s : State) : Rep := .ok s p

/-- IDENTIFY (R115). VERSIONS shows 0 where a kind has no valid image. (DESIGN CHOICE, assumption 26.) -/
def opIdentify (s : State) : Rep :=
  let slot := s.upd.inUse.toNat % 2 + 128 * b2n s.upd.trialBoot
  .ok s ([0x4C, 0x54, 0x42, 0x2D, 0x34, 0x38, 0x32, 0x30] ++ [Config.hwRev] ++ le 1 s.dev.code ++ le 1 (b2n s.safety.debug) ++
    le 1 slot ++ le 4 s.power.cause.toNat ++ Config.serial.toList ++ s.versions ++ le 4 s.upd.counter ++
    le 4 Config.dramMb ++ le 4 Config.flashMb ++ zeros 12)

/-- RESET_DEVICE (R102): the key, then the reset after the reply; each accepted one has its own due time. -/
def opResetDevice (c : Source) (p : Bytes) (s : State) : Rep :=
  if getN p 0 4 = 0x4820B0C5 then .ok (s.modPower fun w => { w with resetDue := w.resetDue ++ [(c, s.time, none)] }) else .no s eRange

/-- READ_EVENTS (R120): up to the count of the oldest records; nothing is removed. -/
def opReadEvents (c : Source) (p : Bytes) (s : State) : Rep :=
  let n := getN p 0 2
  if n < 1 ∨ 170 < n then .no s eRange else .ok s ((((s.port c).events.take n).map EventRec.bytes).flatten)

/-- A source's queue without the records up to and including an ESEQ. -/
def dropThrough (eseq : Nat) : List EventRec → List EventRec
  | [] => []
  | e :: r => if e.eseq = eseq then r else dropThrough eseq r

/-- ACK_EVENTS (R120): the records go; where events were lost, EVENT_OVERFLOW with their number is stored first. -/
def opAckEvents (c : Source) (p : Bytes) (s : State) : Rep :=
  let q := getN p 0 2
  if (s.port c).events.any (·.eseq == q) then
    let s := s.modPort c fun x => { x with events := dropThrough q x.events }
    let lost := (s.port c).lost
    let s := if lost = 0 then s else
      ((s.modPort c fun x => { x with lost := 0 }).storeFor c (s.mkEvent 0x8106 0 2 (sourceId c) (le 4 lost))).recEvent 0x8106 0
    .ok s (le 2 (s.port c).events.length)
  else .no s eRange

/-- The network time of a device-time stamp (R33): the rate in parts per 10⁹. -/
def State.netTime (s : State) (t : Tick) : Nat :=
  let d : Int := (t : Int) - s.alcia.tBase
  (((t : Int) + s.alcia.tOfs + d * s.alcia.ratePpb / 1000000000) % (2 ^ 64 : Nat)).toNat

/-- GET_TIME (R113, R33). -/
def opGetTime (s : State) : Rep := .ok s (le 8 s.time ++ le 8 (s.netTime s.time) ++ le 1 (b2n s.alcia.valid) ++ zeros 7)

/-- SET_CYCLIC (R108): ENABLE, CYC_MISS 1 to 16, CYC_OFFSET up to the time-base carrier period less 500 ticks. -/
def opSetCyclic (c : Source) (p : Bytes) (s : State) : Rep :=
  let en := getN p 0 1
  let miss := getN p 1 1
  let ofs := getN p 4 4
  if 1 < en ∨ miss < 1 ∨ 16 < miss ∨ getN p 2 2 ≠ 0 ∨ s.ctrlCycle < ofs + 500 then .no s eRange
  else .ok (s.modPort c fun x =>
    { x with cyclic :=
        if en = 1 then { x.cyclic with enabled := true, missMax := miss, offset := ofs, held := none, rejected := none, missed := 0,
                                       superseded := 0, applied := none, reply := none, fresh := false, lastLatch := s.time }
        else { x.cyclic with enabled := false, missMax := miss, offset := ofs, offSince := s.time } })

/-! ### Queries -/

/-- GET_STATE (R116). -/
def opGetState (c : Source) (s : State) : Rep :=
  .ok s (le 1 s.dev.code ++ le 1 s.ownerId ++ le 2 s.stat ++ le 1 (b2n s.safety.debug) ++ le 1 (b2n s.sealedCfg.isSome) ++
    le 2 (s.port c).events.length ++ le 8 s.time)

/-- The GET_MEASUREMENTS record (R228): the last completed cycle of a stack. -/
def State.measRecord (s : State) (k : Nat) : Bytes :=
  let x := s.stack k
  let m := x.fe.meas
  le 1 k ++ le 1 m.flags ++ le 1 x.band ++ le 1 0 ++ le 8 m.tc ++ leI 4 m.iU ++ leI 4 m.iV ++ leI 4 m.iW ++ leI 4 m.id ++
    leI 4 m.iq ++ leI 4 m.vd ++ leI 4 m.vq ++ le 2 m.udc ++ le 2 m.mi ++ le 4 m.theta ++ leI 4 m.fe ++ leI 4 m.tq ++
    le 4 m.gamma ++ zeros 4

/-- GET_MEASUREMENTS (R228): of an enabled stack. -/
def opGetMeasurements (p : Bytes) (s : State) : Rep :=
  let k := getN p 0 1
  if k < 4 ∧ s.enabled k then .ok s (s.measRecord k) else .no s eRange

/-- GET_COUNTERS (R113). (DESIGN CHOICE, assumption 27.) -/
def opGetCounters (s : State) : Rep :=
  let c := s.counters
  .ok s (le 4 c.packets ++ le 4 c.rejections ++ le 4 c.overCredit ++ le 4 c.hostSync ++ le 4 c.missed ++ le 4 c.superseded ++
    le 4 c.overflow ++ zeros 20)

/-- GET_FAULTS (R439). -/
def opGetFaults (s : State) : Rep :=
  let h := s.heldFaults.take 503
  let mask := (List.range 15).foldl (fun m c => m + b2n (h.any fun x => x.1.cls == c) * 2 ^ c) 0
  .ok s (le 1 s.faults.lapsed.toNat ++ le 1 0 ++ le 2 mask ++ (((List.range 14).map fun i => le 4 (vget s.faults.occ (i + 1) 0)).flatten) ++
    zeros 8 ++ ((h.map fun x => le 1 x.1.cls ++ le 1 x.1.level ++ le 1 x.1.obj ++ le 1 0 ++ le 4 x.2).flatten))

/-! ### The rows of the session and query groups -/

/-- NOP (R113). -/
def execNop (t : Tick) (c : Source) (q : Nat) (p : Bytes) (s : State) := runOp t c 0x0100 q p (opNop p) s
/-- IDENTIFY (R115). -/
def execIdentify (t : Tick) (c : Source) (q : Nat) (p : Bytes) (s : State) := runOp t c 0x0101 q p opIdentify s
/-- RESET_DEVICE (R102). -/
def execResetDevice (t : Tick) (c : Source) (q : Nat) (p : Bytes) (s : State) := runOp t c 0x0102 q p (opResetDevice c p) s
/-- TAKE_OWNERSHIP (R104). -/
def execTakeOwnership (t : Tick) (c : Source) (q : Nat) (p : Bytes) (s : State) := runOp t c 0x0103 q p (opTakeOwnership c q p) s
/-- RELEASE_OWNERSHIP (R104). -/
def execReleaseOwnership (t : Tick) (c : Source) (q : Nat) (p : Bytes) (s : State) := runOp t c 0x0104 q p opReleaseOwnership s
/-- READ_EVENTS (R120). -/
def execReadEvents (t : Tick) (c : Source) (q : Nat) (p : Bytes) (s : State) := runOp t c 0x0105 q p (opReadEvents c p) s
/-- ACK_EVENTS (R120). -/
def execAckEvents (t : Tick) (c : Source) (q : Nat) (p : Bytes) (s : State) := runOp t c 0x0106 q p (opAckEvents c p) s
/-- SET_CYCLIC (R108). -/
def execSetCyclic (t : Tick) (c : Source) (q : Nat) (p : Bytes) (s : State) := runOp t c 0x0108 q p (opSetCyclic c p) s
/-- GET_TIME (R113). -/
def execGetTime (t : Tick) (c : Source) (q : Nat) (p : Bytes) (s : State) := runOp t c 0x0109 q p opGetTime s
/-- GET_STATE (R116). -/
def execGetState (t : Tick) (c : Source) (q : Nat) (p : Bytes) (s : State) := runOp t c 0x0400 q p (opGetState c) s
/-- GET_MEASUREMENTS (R228). -/
def execGetMeasurements (t : Tick) (c : Source) (q : Nat) (p : Bytes) (s : State) := runOp t c 0x0401 q p (opGetMeasurements p) s
/-- GET_FAULTS (R439). -/
def execGetFaults (t : Tick) (c : Source) (q : Nat) (p : Bytes) (s : State) := runOp t c 0x0402 q p opGetFaults s
/-- GET_COUNTERS (R113). -/
def execGetCounters (t : Tick) (c : Source) (q : Nat) (p : Bytes) (s : State) := runOp t c 0x0404 q p opGetCounters s

/-- OWN_TIMEOUT_EXPIRY (R40, R105): OWN_TIMEOUT has passed since the later of the source's last packet that passed check 8 and the
disabling of its cyclic exchange, or had passed before the last packet came; while that exchange is enabled the rule of R109 applies instead. -/
def execOwnTimeoutExpiry (t : Tick) (c : Source) (s : State) : Host.Outcome State Fault Refusal :=
  let s := s.upTo t
  let p := s.port c
  if s.owner = some c ∧ !p.cyclic.enabled ∧ (p.ownLate ∨ due (max p.lastOk p.cyclic.offSince + msTicks p.ownMs) t) then .next (s.loseOwner c)
  else .next s

end Sys2Proof.Machine
end

