-- ==== Sys2Proof/Machine/Power.lean ====
section
/-! DEFINITION. Supplies, reset and clocks (R65 to R80, R123, R124) and the Kingpost watchdog (R373). In RESET and OFF device
time does not run; the holds of R74 end when their command comes. -/
namespace Sys2Proof.Machine

/-! ### Entering RESET (R73, R74, R77) -/

/-- A channel whose logic side is silent (R60): off, with the drive mode it was last sent; a soft turn-off in progress goes on (R158). -/
def GateCh.silent (g : GateCh) : GateCh :=
  let uv := g.uvPos || g.uvNeg
  let soft := g.out == .softOff && !uv
  { mode := g.mode, uvPos := g.uvPos, uvNeg := g.uvNeg, noCmd := true, out := if uv then .undriven else if soft then .softOff else .off,
    clamp := !uv && !soft && g.mode != 2 }

/-- What a reset leaves of the fault management: the history in flash (R77). -/
def Faults.kept (f : Faults) : Faults := { hist := f.hist, histNext := f.histNext }

/-- What a reset leaves of the update: boot records, slots and fuses (R77, R528); a session it closes leaves its slot empty (R540). (DESIGN CHOICE, assumption 97.) -/
def Update.kept (u : Update) : Update :=
  { counter := u.counter, recs := u.recs, loaded := u.loaded, inUse := u.inUse,
    slots := if u.session = 2 then u.emptied else u.slots }

/-- What a reset leaves of the safety part: log and passwords in flash, the lockout in the always-on domain (R397), as the time
it has left at device time `now`; the contacts stay as they stand at the pins. -/
def Safety.kept (x : Safety) (now : Tick) : Safety :=
  { failures := x.failures, lockedTo := x.lockedTo.map (· - now), stored := x.stored, altSlot := x.altSlot, pwWrites := x.pwWrites,
    log := x.log, logNext := x.logNext,
    dpPairs := x.dpPairs.map fun p => { a := { closed := p.a.closed }, b := { closed := p.b.closed } },
    kpPairs := x.kpPairs.map fun p => { a := { closed := p.a.closed }, b := { closed := p.b.closed } } }

/-- The pins of a device in RESET (R49 to R55). -/
def resetPins : Pins :=
  { rstoN := false, drstN := false, dsck := false, tpOn := Vector.replicate 4 false }

/-- The device after RESET entry from any running state, before the cause is noted (R73, R77). -/
def State.cleared (s : State) (dev : DevState) : State :=
  { State.reset with
    dev := dev
    gates := s.gates.map fun g => (g.at s.time).silent
    power := { vin := s.power.vin, cause := 0, nextCause := 0, rstPin := s.power.rstPin, vinHold := s.power.vinHold,
               ovrHold := s.power.ovrHold, xtalOk := s.power.xtalOk, late := s.power.late.filter (·.1 == 0x8123),
               bootFault := s.power.bootFault }
    pins := resetPins
    safety := s.safety.kept s.time
    faults := s.faults.kept
    upd := s.upd.kept
    fresh := s.fresh
    pending := s.pending }

/-- RESET is entered with reset-cause bits (R72, R73, R76); a cause that comes while RESET holds is added. (DESIGN CHOICE, assumption 104.) -/
def State.enterReset (s : State) (bits : BitVec 32) : State :=
  if s.dev = .off then s
  else
    let s' := if s.dev = .inReset then s else s.cleared .inReset
    s'.modPower fun p => { p with nextCause := p.nextCause ||| bits }

/-- A reset whose source is the Kingpost (R74): it keeps its safe state with the cause and its OV3 latches, and holds the logic
die. (DESIGN CHOICE, assumption 34.) -/
def State.kpReset (s : State) (bits : BitVec 32) (hold : KpHold) (cause : Nat) : State :=
  if s.dev = .off then s else
  let s' := s.enterReset bits
  ({ s' with stk := Vector.ofFn fun k : Fin 4 =>
      { s'.stk[k] with ov3 := (s.stk[k]).ov3, ov3Act := (s.stk[k]).ov3Act } }.modPower fun p =>
    { p with kpHold := some hold }).modSafety fun x => { x with kpState := 3, cause := cause }

/-- The Kingpost's self-tests (R372) with their outcome: a failure is the safe state with cause 7. -/
def State.selfTest (s : State) (ok : Bool) : State :=
  s.modSafety fun x => { x with kpState := if ok then 0 else 3, cause := if ok then 0 else 7 }

/-- Whether the device runs its firmware: not in OFF, RESET, SILL and WATCH. -/
def State.awake (s : State) : Bool := match s.dev with
  | .off | .inReset | .sill | .watch => false
  | _ => true

/-! ### VIN (R65, R66) -/

/-- VIN_ON (R65, R70): out of OFF into RESET with POR, or the end of the hold of PFAIL. -/
def execVinOn (t : Tick) (ok : Bool) (s : State) : Host.Outcome State Fault Refusal :=
  let s := s.upTo t
  .next <| match s.dev with
    | .off =>
      ({ s with dev := .inReset }.modPower fun p =>
        { p with nextCause := if p.rstPin then 3 else 1, vinHold := false, ovrHold := false }).selfTest ok
    | .inReset => if s.power.vinHold then (s.modPower fun p => { p with vinHold := false }).selfTest ok else s
    | _ => s

/-- The reaction to POWER_FAIL (R66): SELECT on every running stack, the appends in progress complete, the record, FAULT. -/
def State.powerDown (s : State) (data : Bytes) : State :=
  let s := (s.modPower fun p => { p with powerFail := true }).stopAll (s.enStacks.filter fun k => (s.stack k).switching) .select 0x8121
  (s.raise 0x8121 2 0 (data ++ le 1 s.dev.code)).flushHist

/-- What an event of the always-on domain does once the firmware runs (R65, R66, R71). -/
def State.aonEvent (s : State) (code : Nat) (data : Bytes) : State :=
  if code = 0x8121 then s.powerDown data else s.raise code 2 0 data

/-- An event of the always-on domain (R65, R66, R71, R79): at once where the firmware runs, kept for it in BOOT and WATCH. (DEDUCED, assumption 108.) -/
def State.aonRaise (s : State) (code : Nat) (data : Bytes) : State :=
  if s.awake && (s.dev != .boot || code != 0x8121) then s.aonEvent code data
  else if s.dev = .boot ∨ s.dev = .watch ∨ code = 0x8123 then s.modPower fun p => { p with late := p.late ++ [(code, data)] }
  else s

/-- What the always-on domain kept for the firmware is reported. -/
def State.aonReport (s : State) : State :=
  s.power.late.foldl (fun s x => s.aonEvent x.1 x.2) (s.modPower fun p => { p with late := [] })

/-- VIN_LOW (R65): the event; operation continues. (DESIGN CHOICE, assumption 102.) -/
def execVinLow (t : Tick) (vin : Nat) (s : State) : Host.Outcome State Fault Refusal :=
  let s := s.upTo t
  .next <| if s.dev = .off then s else
    (s.modPower fun p => { p with vin := vin, vinHigh := false }).aonRaise 0x8120 (le 2 vin)

/-- POWER_FAIL (R66): the reaction; from now on no image write or erase is started. In BOOT, where no image is loaded yet, and in WATCH the
reaction follows as soon as the firmware runs. (DEDUCED, assumption 108.) -/
def execPowerFail (t : Tick) (vin : Nat) (s : State) : Host.Outcome State Fault Refusal :=
  let s := s.upTo t
  .next <| if s.dev = .off then s else
    (s.modPower fun p => { p with vin := vin, powerFail := s.dev != .inReset, vinHigh := false }).aonRaise 0x8121 (le 2 vin)

/-- VIN_RESET (R65): RESET with PFAIL, held until VIN is back at VIN_ON. -/
def execVinReset (t : Tick) (s : State) : Host.Outcome State Fault Refusal :=
  let s := s.upTo t
  .next <| if s.dev = .off then s else (s.enterReset 4).modPower fun p => { p with vinHold := true }

/-- AON_MIN (R65): the always-on domain stops and the device is OFF; flash and fuses stay. -/
def execAonMin (t : Tick) (s : State) : Host.Outcome State Fault Refusal :=
  let s := s.upTo t
  .next <| if s.dev = .off then s else
    ((s.cleared .off).modPower fun p => { p with xtalOk := false, vinHold := false, ovrHold := false }).modSafety fun x =>
      { x with failures := 0, lockedTo := none }

/-- VIN_HIGH (R65): the event; operation continues. -/
def execVinHigh (t : Tick) (vin : Nat) (s : State) : Host.Outcome State Fault Refusal :=
  let s := s.upTo t
  .next <| if s.dev = .off then s else
    (s.modPower fun p => { p with vin := vin, vinHigh := true }).aonRaise 0x8122 (le 2 vin)

/-- VIN_HIGH_LASTING (R438): VIN above VIN_HIGH for 1 s withdraws every guarantee. -/
def execVinHighLasting (t : Tick) (s : State) : Host.Outcome State Fault Refusal :=
  let s := s.upTo t
  .next <| if s.awake && s.power.vinHigh then s.lapseFault 0x3F 0x8122 else s

/-- VIN_OVR (R65): RESET with VINOV, held until VIN is below 36.5 V. -/
def execVinOvr (t : Tick) (s : State) : Host.Outcome State Fault Refusal :=
  let s := s.upTo t
  .next <| if s.dev = .off then s else (s.enterReset 256).modPower fun p => { p with ovrHold := true }

/-- VIN_OVR_RELEASE (R65): the hold of VINOV ends and the power-up sequence of R70 runs, with the self-tests of its step 6. -/
def execVinOvrRelease (a : VinOvrEnd) (s : State) : Host.Outcome State Fault Refusal :=
  let s := s.upTo a.t
  .next <| if s.dev = .inReset ∧ s.power.ovrHold then (s.modPower fun p => { p with ovrHold := false }).selfTest a.selfTestOk
    else s.modPower fun p => { p with ovrHold := false }

/-! ### Rails and clocks (R31, R69, R71) -/

/-- Rails that are off or held at another level in WATCH have no window there (R69). -/
def railOffInWatch : Rail → Bool
  | .vap | .vafe | .vtt => true
  | _ => false

/-- RAIL_FAULT (R69): RESET with RAIL, for VKP with KPRAIL; VCORE and VIO33 are found by the Kingpost itself, which then keeps its
safe state with cause 5 (R74). -/
def execRailFault (t : Tick) (rail : Rail) (s : State) : Host.Outcome State Fault Refusal :=
  let s := s.upTo t
  .next <| if s.dev = .off ∨ (s.dev = .watch ∧ railOffInWatch rail) then s else
    match rail with
    | .vkp => s.enterReset 24
    | .vcore | .vio33 => s.kpReset 8 .rail 5
    | _ => s.enterReset 8

/-- CLOCK_FAULT (R31): the Kingpost's safe state with cause 4 and a held reset. In WATCH the clocks are off by rule. -/
def execClockFault (t : Tick) (s : State) : Host.Outcome State Fault Refusal :=
  let s := s.upTo t
  .next <| if s.dev = .off ∨ s.dev = .watch then s else s.kpReset 32 .clock 4

/-- KP_RESET_HOLD_END (R74): the Kingpost returns to its state after power-up and runs its self-tests. -/
def execKpResetHoldEnd (t : Tick) (ok : Bool) (s : State) : Host.Outcome State Fault Refusal :=
  let s := s.upTo t
  .next <| if s.dev = .inReset ∧ s.power.kpHold.isSome then
      ({ s with stk := Vector.replicate 4 {} }.modPower fun p => { p with kpHold := none }).selfTest ok
    else s

/-- XTAL32_QUALIFIED (R71): the always-on domain runs on the crystal. -/
def execXtal32Qualified (t : Tick) (s : State) : Host.Outcome State Fault Refusal :=
  let s := s.upTo t
  .next <| if s.dev = .off then s else s.modPower fun p => { p with xtalOk := true }

/-- XTAL32_FAIL (R71): the domain runs on the RC oscillator, with the event; it is reported when the firmware runs. -/
def execXtal32Fail (t : Tick) (cause : XtalFailure) (s : State) : Host.Outcome State Fault Refusal :=
  let s := s.upTo t
  let was := match cause with | .notQualified => false | .stopped => true
  .next <| if s.dev = .off ∨ s.power.xtalOk ≠ was then s else
    (s.modPower fun p => { p with xtalOk := false }).aonRaise 0x8123 (le 1 (b2n was))

/-- XTAL32_RETRY (R71): the domain starts to qualify the crystal again; it stays on the oscillator it runs on until that ends. -/
def execXtal32Retry (t : Tick) (s : State) : Host.Outcome State Fault Refusal := .next (s.upTo t)

/-! ### RESET_N and the reset command (R72, R75, R102) -/

/-- RESET_N_LOW (R72): ignored below 0.5 µs, a reset from 2 µs; between them the outcome is a free value. (DESIGN CHOICE, assumption 3.) -/
def execResetNLow (t : Tick) (lowNs : Nat) (s : State) : Host.Outcome State Fault Refusal :=
  let s := s.upTo t
  if lowNs < 500 then .next s
  else
    let (q, s') := s.draw
    let (hit, s) := if lowNs < 2000 then (q % 2 == 1, s') else (true, s)
    .next <| if hit then (s.modPower fun p => { p with rstPin := true }).enterReset 2 else s

/-- RESET_N_RELEASE (R72, R75, R76): the hold ends; RSTLOW is the time it was low. -/
def execResetNRelease (t : Tick) (lowMs : Nat) (s : State) : Host.Outcome State Fault Refusal :=
  let s := s.upTo t
  .next <| if s.power.rstPin then
      s.modPower fun p =>
        { p with rstPin := false,
                 nextCause := if p.nextCause.getLsbD 1 then
                     BitVec.ofNat 32 (p.nextCause.toNat % 65536 + 65536 * satN 2 lowMs) else p.nextCause }
    else s

/-- COMMAND_RESET_DUE (R102): 10 µs after the reply is delivered, or 10 ms after it is queued. -/
def execCommandResetDue (t : Tick) (s : State) : Host.Outcome State Fault Refusal :=
  let s := s.upTo t
  .next <| if s.power.resetDue.any fun x => match x.2.2 with
      | some d => decide (d + 1000 ≤ t)
      | none => decide (x.2.1 + msTicks 10 ≤ t)
    then s.enterReset 128 else s

/-- The fault record of a BOOT that stopped (R51): its fields are open (DESIGN CHOICE, assumption 109). -/
def bootFaultRec (q d : Nat) : EventRec :=
  { code := q % 65536, eseq := 0, state := 3, level := 2, obj := 0, cls := q / 65536 % 16, stamp := 0, data := le 8 d }

/-- The fault record of a BOOT that stopped is appended (R51, R123). -/
def State.bootRecord (s : State) : State :=
  if s.power.bootFault then
    (s.draw.2.draw.2.modPower fun p => { p with bootFault := false }).appendHist (bootFaultRec s.draw.1 s.draw.2.draw.1) 0
  else s

/-- What step 3 of BOOT finds of the memories (R51); SILL does not look. (DESIGN CHOICE, assumption 109.) -/
def State.memCheck (s : State) (mem : MemFound) : State :=
  match s.dev with
  | .sill => s.bootRecord
  | _ => s.modPower fun p => { p with memFail := mem, bootFault := p.bootFault || mem.isSome }

/-- RESET_EXIT (R70 step 7): no hold and RESET_N high; device time starts at 0, the reset-cause word is complete, the boot ROM
selects the images (R536) and the device enters BOOT or SILL. From here on DRST_N is high and DSCK0 to DSCK3 run, in SILL too (DESIGN CHOICE,
assumption 110). A memory that step 3 of BOOT will find not to respond leaves a fault record (R51). -/
def execResetExit (a : ResetEnd) (s : State) : Host.Outcome State Fault Refusal :=
  let s := s.upTo a.t
  .next <| if s.dev = .inReset ∧ !s.power.rstPin ∧ !s.power.vinHold ∧ !s.power.ovrHold ∧ s.power.kpHold.isNone then
      let s := ({ s with time := 0, stamp := 0, pins := {} }.modPower fun p =>
        { p with cause := p.nextCause, nextCause := 0, dramBusy := true }).bootSelect
      s.memCheck a.mem
    else s

/-- A guarantee withdrawn in BOOT leads to FAULT (R19). -/
def State.faultIfBlocked (s : State) : State := if s.blocking ∨ s.fatal then s.enterFault 0 else s

/-- BOOT_COMPLETE (R123): the history region of a trial, the boot marker before any other record, the record of an earlier BOOT that stopped,
IMG_FALLBACK, UNCONFIGURED; what the always-on domain found meanwhile is reported; a Kingpost that failed its self-tests is reported and leads
to FAULT (R371), as does a guarantee withdrawn in BOOT (R19). A BOOT whose memory does not respond never completes (R51). -/
def execBootComplete (t : Tick) (s : State) : Host.Outcome State Fault Refusal :=
  let s := s.upTo t
  .next <| if s.dev = .boot ∧ s.power.memFail.isNone then
      let s := s.histSwitch.bootMarker.bootRecord
      let s := { s with dev := .unconfigured }.modApp fun a =>
        { a with state := if s.upd.loaded.getLsbD 3 then 1 else 0 }
      let s := s.modSafety fun x => { x with wdLast := s.kpNow }
      let s := s.upd.fallback.foldl
        (fun (s : State) f => s.raise 0x8904 2 0 (le 1 f.1 ++ le 1 f.2.1 ++ le 1 f.2.2)) s
      let s := (s.modUpd fun u => { u with fallback := [] }).aonReport
      (if s.safety.kpState = 3 then s.raise 0x850A 2 0 (le 1 s.safety.cause) else s).faultIfBlocked
    else s

/-- DRAM_CLEAR_COMPLETE (R124). -/
def execDramClearComplete (t : Tick) (s : State) : Host.Outcome State Fault Refusal :=
  let s := s.upTo t
  .next <| if s.awake && s.dev != .boot then s.modPower fun p => { p with dramBusy := false } else s

/-! ### The Kingpost watchdog (R373) -/

/-- WD_T in Kingpost ticks: 100 ms until SEAL, then SAFETY_MAIN. -/
def State.wdT (s : State) : Nat := if s.sealedCfg.isSome then msKt (s.cu 0x0F00 8 2) else msKt 100

/-- The watchdog runs from the end of BOOT, not in WATCH. -/
def State.wdRuns (s : State) : Bool := s.awake && s.dev != .boot

/-- An expiry: safe state with cause 6, then RESET with WDOG, held for 100 µs (R373, R74). (DESIGN CHOICE, assumption 34.) -/
def State.wdExpire (s : State) : State := s.kpReset 64 .wdog 6

/-- WATCHDOG_SERVICE: the complement of the challenge within WD_T, no earlier than WD_T / 8 after the last service; the next
challenge is a free value (the manual does not give the LFSR). (DESIGN CHOICE, assumption 3.) -/
def execWatchdogService (a : KpStamp) (word : BitVec 16) (s : State) : Host.Outcome State Fault Refusal :=
  let s := (s.upTo a.t).upKt a.kt
  .next <| if !s.wdRuns then s
    else if word = ~~~s.safety.challenge ∧ a.kt ≤ s.safety.wdLast + s.wdT ∧
        (s.safety.wdServed = false ∨ s.wdT ≤ 8 * (a.kt - s.safety.wdLast)) then
      let (q, s) := s.draw
      s.modSafety fun x => { x with challenge := BitVec.ofNat 16 q, wdLast := a.kt, wdServed := true }
    else s.wdExpire

/-- WATCHDOG_EXPIRY: no service within WD_T. -/
def execWatchdogExpiry (a : KpStamp) (s : State) : Host.Outcome State Fault Refusal :=
  let s := (s.upTo a.t).upKt a.kt
  .next <| if s.wdRuns && decide (s.safety.wdLast + s.wdT < a.kt) then s.wdExpire else s

end Sys2Proof.Machine
end

