-- ==== Sys2Proof/Machine/GateCmd.lean ====
section
/-! DEFINITION. The commands of the gate-drive array (R60, R144 to R162, R203, R374). Filters and delays below a device-time tick are timing. -/
namespace Sys2Proof.Machine

/-- The state with the field engine of stack `k` changed. -/
def State.modFe (s : State) (k : Nat) (f : FieldEng → FieldEng) : State := s.modStack k fun x => { x with fe := f x.fe }

/-- The reference set handed over last (R28). -/
def FieldEng.newest (f : FieldEng) : RefSet := match f.refsNext with
  | some (r, _) => r
  | none => f.refs

/-- A reference set handed over with its swap at `u` (R28). -/
def FieldEng.hand (f : FieldEng) (r : RefSet) (u : Tick) : FieldEng := { f with refs := f.newest, refsNext := some (r, u) }

/-- A reference set in force at once. -/
def FieldEng.force (f : FieldEng) (r : RefSet) : FieldEng := { f with refs := r, refsNext := none }

/-- PWM requests of one phase of a stack (R203): high side on while the counter is above the compare value of the half-period, low
side otherwise. (DEDUCED, assumption 16.) -/
def State.pwmRequest (s : State) (k x counter : Nat) (rising : Bool) : State :=
  let h := 32 * s.carrierP k
  let c := vget (if rising then (s.stack k).fe.rise.c else (s.stack k).fe.fall.c) x 0
  let on := c == 0 || (c != h && decide (c < counter))
  ((s.modGate (6 * k + 2 * x) fun g => { g with pwm := on, noCmd := false }).modGate (6 * k + 2 * x + 1)
    fun g => { g with pwm := !on, noCmd := false })

/-- A waiting compare set governs its half-periods (R205). -/
def FieldEng.take (f : FieldEng) (c : CmpSet) : FieldEng := { f with rise := c.rise.getD f.rise, fall := c.fall.getD f.fall }

/-- The waiting compare sets whose tick has come govern, in their order (R205). -/
def FieldEng.activate (f : FieldEng) (now : Tick) : FieldEng :=
  { (f.cmpNext.filter fun c => decide (c.act ≤ now)).foldl FieldEng.take f with cmpNext := f.cmpNext.filter fun c => !decide (c.act ≤ now) }

/-- The waiting compare sets of a stack whose tick has come govern (R205). -/
def State.cmpActivate (s : State) (k : Nat) : State := s.modFe k fun f => f.activate s.time

/-- FE_OVERRUN (R205): once for each update point since the last look at which no new compare set was active, with their number so far. -/
def State.feOverrun (s : State) (k : Nat) : State :=
  let f := (s.stack k).fe
  let n := s.centres k s.time
  match f.judged with
  | none => if n = 0 then s else s.modFe k fun f => { f with judged := some n, cycles := 0 }
  | some m =>
    if n ≤ m then s else
    (List.range (n - m - f.cycles)).foldl (fun (s : State) _ =>
      let s := s.modFe k fun f => { f with overruns := satN 1 (f.overruns + 1) }
      s.raise 0x8324 1 k (le 1 (s.stack k).fe.overruns)) (s.modFe k fun f => { f with judged := some n, cycles := 0 })

/-- Whether the counter of stack `k` can make a crossing in the tick `t` (R203): 64 fine steps a tick, up from the zero to the peak and down again. -/
def State.crosses (s : State) (k t : Nat) (e : PwmEdgeInput) : Bool :=
  let x := 64 * s.carrierPhase k t
  let y := if e.rising then e.counter else 64 * s.carrierP k - e.counter
  decide (e.counter ≤ 32 * s.carrierP k) && decide (x ≤ y) && decide (y ≤ x + 64)

/-- PWM_EDGE (R203): the requests of the phase after the crossing, then the array (R26). (DESIGN CHOICE, assumption 15.) -/
def execPwmEdge (t : Tick) (k : Fin 4) (e : PwmEdgeInput) (s : State) : Host.Outcome State Fault Refusal :=
  let s := s.upTo t
  .next <| if s.sealedCfg.isSome && s.enabled k && s.clockRuns && s.crosses k t e then
      (((s.feOverrun k).cmpActivate k).pwmRequest k e.phase e.counter e.rising).settle
    else s

/-- NO_COMMAND_TIMEOUT (R60, R145): the secondary holds its switch off, with the clamp engaged, until a command arrives. -/
def execNoCommandTimeout (t : Tick) (ch : Fin 28) (s : State) : Host.Outcome State Fault Refusal :=
  let s := s.upTo t
  .next (s.modGate ch fun g => g.noCommand s.time).settle

/-- SHORT_CIRCUIT (R157 to R159): after blanking of a switch that is on: soft turn-off, lockout, the event and its reaction. -/
def execShortCircuit (t : Tick) (ch : Fin 28) (since : Nat) (s : State) : Host.Outcome State Fault Refusal :=
  let s := s.upTo t
  let k := chStack ch
  let blk := s.cu (0x20 + k) (if isBk ch then 13 else 11) 1
  .next <| if (s.gate ch).out = .on ∧ 10 * blk ≤ since then
      let s := ((s.modGate ch fun g => g.drive .softOff s.time).lockOut ch).settle
      s.raise 0x8301 0 ch (le 1 (s.stack k).band ++ le 1 0 ++ le 2 (satN 2 since))
    else s

/-- Whether the monitor of a booster is judged for a level now (R150): BOOST_DLY after a change of GH to on or off, BOOST_SOFT after the soft turn-off
began. -/
def State.boosterDue (s : State) (ch : Nat) (e : BoosterExpect) (t : Tick) : Bool :=
  let g := s.gate ch
  let b := 0x20 + chStack ch
  match e with
  | .on => g.out == .on && decide (g.ghAt + s.cu b 24 2 ≤ t)
  | .off => g.out == .off && decide (g.ghAt + s.cu b 24 2 ≤ t)
  | .softOff => (g.out == .softOff || (g.out == .off && g.lastOff == some g.softT0)) && decide (g.softT0 + 10 * s.cu b 26 1 ≤ t)

/-- BOOSTER_FAULT (R150, R160): mode 2 only, against the level GH commands; a switch that is on turns off softly, the leg is locked out. -/
def execBoosterFault (t : Tick) (ch : Fin 28) (e : BoosterExpect) (s : State) : Host.Outcome State Fault Refusal :=
  let s := s.upTo t
  .next <| if (s.gate ch).mode = 2 ∧ s.boosterDue ch e t then
      let s := s.modGate ch fun g => if g.out = .on then g.drive .softOff s.time else g
      (s.lockOut ch).settle.raise 0x8304 0 ch (le 1 (match e with | .on => 0 | .off => 1 | .softOff => 2))
    else s

/-- GATE_SUPPLY_UV (R160, R161): the channel drives neither output; on an enabled stack the event, with a lockout in RUN, SHELTER
and SAFE_STOP. With VNEG_UV 0 the VNEG check is off. -/
def execGateSupplyUv (t : Tick) (ch : Fin 28) (rail : GateRail) (s : State) : Host.Outcome State Fault Refusal :=
  let s := s.upTo t
  let k := chStack ch
  let g := s.gate ch
  let old := match rail with | .vpos => g.uvPos | .vneg => g.uvNeg
  .next <| if old || (rail == .vneg && s.cu (0x20 + k) 9 1 == 0) then s
    else
      let s := s.modGate ch fun g => match rail with
        | .vpos => { g with uvPos := true }
        | .vneg => { g with uvNeg := true }
      if !s.enabled k then s.settle
      else
        let s := if s.dev = .run ∨ s.dev = .shelter ∨ s.dev = .safeStop then s.lockOut ch else s
        s.settle.raise 0x8303 0 ch (le 1 (match rail with | .vpos => 0 | .vneg => 1))

/-- GATE_SUPPLY_UV_END (R161): the supply is back by 0.5 V. Where it had been absent, the secondary side has lost its mode and acts in mode 0
(R60). (DESIGN CHOICE, assumption 113.) -/
def execGateSupplyUvEnd (t : Tick) (ch : Fin 28) (r : RailBack) (s : State) : Host.Outcome State Fault Refusal :=
  let s := s.upTo t
  .next (s.modGate ch fun g =>
    let g := if r.lost then { g with mode := 0 } else g
    match r.rail with
    | .vpos => { g with uvPos := false }
    | .vneg => { g with uvNeg := false }).settle

/-- PLATEAU_TIMEOUT (R144 step 3): T_PL_MAX after t0 the tail current. -/
def execPlateauTimeout (t : Tick) (ch : Fin 28) (s : State) : Host.Outcome State Fault Refusal :=
  let s := s.upTo t
  let g := s.gate ch
  .next <| if g.t0 + s.cu (0x20 + chStack ch) 16 1 ≤ t then
      match g.phase with
      | .onPlateau => s.modGate ch fun g => { g with phase := .onTail }
      | .offPlateau => s.modGate ch fun g => { g with phase := .offTail }
      | _ => s
    else s

/-- What a measurement asks of the adapted step (R147): one step up, one down, none. -/
inductive StepAsk | up | down | none
deriving DecidableEq, Repr

/-- The wish of a measured transition time against its target and the deadband (R147). -/
def askStep (meas tgt db : Nat) : StepAsk := if tgt + db < meas then .up else if meas + db < tgt then .down else .none

/-- The adapted step of a kind moves by at most one, within TT_MIN and TT_MAX (R147); leaving a limit arms its event again, and a wish beyond a limit that
the step stands at is noted (R148). -/
def GateCh.adapt (g : GateCh) (on : Bool) (ask : StepAsk) (lo hi : Nat) : GateCh :=
  let old := if on then g.stepOn else g.stepOff
  let new := match ask with
    | .up => min (old + 1) hi
    | .down => max (old - 1) lo
    | .none => old
  let atHi := decide (ask = .up) && decide (hi ≤ old)
  let atLo := decide (ask = .down) && decide (old ≤ lo)
  if on then { g with stepOn := new, onHi := (g.onHi && new == old) || atHi, onLo := (g.onLo && new == old) || atLo }
  else { g with stepOff := new, offHi := (g.offHi && new == old) || atHi, offLo := (g.offLo && new == old) || atLo }

/-- The adapted steps and their limit flags under the limits of a band (R148): a step that a clamp moves off its limit arms the event again. -/
def GateCh.rebound (g : GateCh) (lo hi : Nat) : GateCh :=
  let on := min hi (max lo g.stepOn)
  let off := min hi (max lo g.stepOff)
  { g with stepOn := on, stepOff := off, onLo := g.onLo && on == lo, onHi := g.onHi && on == hi, offLo := g.offLo && off == lo,
           offHi := g.offHi && off == hi }

/-- TRANSITION_MEASURED (R144, R146 to R148, R153): `t` is the second crossing, in time before t0 + T_PL_MAX; the tail begins; in mode 1 the adapted step
moves, judged by the band in force when the transition began and kept within the limits of the band in force now; TT_AT_LIMIT once per stay at a limit. -/
def execTransitionMeasured (t : Tick) (ch : Fin 28) (edge : SwitchEdge) (ns : Nat) (s : State) :
    Host.Outcome State Fault Refusal :=
  let s := s.upTo t
  let g := s.gate ch
  let k := chStack ch
  let on := edge == .on
  let b := bandAt g.band
  let b' := bandAt (s.stack k).band
  let c := s.cfg (0x20 + k)
  .next <| if g.phase = (if on then .onPlateau else .offPlateau) ∧ g.t0 ≤ t ∧ t < g.t0 + getN c 16 1 then
      let s := s.modGate ch fun g =>
        if on then { g with phase := .onTail, measOn := ns } else { g with phase := .offTail, measOff := ns }
      if g.mode ≠ 1 then s else
        let g' := (g.adapt on (askStep ns (getN c (b + if on then 12 else 14) 2) (getN c (b + 18) 1)) (getN c (b + 16) 1) (getN c (b + 17) 1)).rebound
          (getN c (b' + 16) 1) (getN c (b' + 17) 1)
        let s := s.modGate ch fun x =>
          { x with stepOn := g'.stepOn, stepOff := g'.stepOff, onLo := g'.onLo, onHi := g'.onHi, offLo := g'.offLo, offHi := g'.offHi }
        let fresh := (g'.onLo && !g.onLo) || (g'.onHi && !g.onHi) || (g'.offLo && !g.offLo) || (g'.offHi && !g.offHi)
        if fresh then s.info 0x8306 0 ch (le 1 (if on then 0 else 1) ++ le 1 (if on then g'.stepOn else g'.stepOff) ++ le 2 (satN 2 ns)) else s
    else s

/-- HOLD_SWITCH_ENGAGE (R144 step 4, turn-on). -/
def execHoldSwitchEngage (t : Tick) (ch : Fin 28) (s : State) : Host.Outcome State Fault Refusal :=
  let s := s.upTo t
  .next (s.modGate ch fun g => if g.out = .on ∧ g.mode ≠ 2 then { g with hold := true, phase := .rest } else g)

/-- MILLER_CLAMP_ENGAGE (R144 step 4, turn-off; R158): it also ends a soft turn-off. Mode 2 has no clamp (R145). -/
def execMillerClampEngage (t : Tick) (ch : Fin 28) (s : State) : Host.Outcome State Fault Refusal :=
  let s := s.upTo t
  let g := s.gate ch
  .next <| if g.mode ≠ 2 ∧ (g.out = .off ∨ g.out = .softOff) then
      (s.modGate ch fun g => { g with out := .off, clamp := true, phase := .rest }).settle
    else s

/-- BOOST_SOFT_END (R158): BOOST_SOFT after the soft turn-off began, GH goes to VNEG; the secondary side times it, in RESET without device time. -/
def execBoostSoftEnd (t : Tick) (ch : Fin 28) (s : State) : Host.Outcome State Fault Refusal :=
  let s := s.upTo t
  let g := s.gate ch
  .next <| if g.mode = 2 ∧ g.out = .softOff ∧ (g.softT0 + 10 * s.cu (0x20 + chStack ch) 26 1 ≤ t ∨ s.dev = .inReset) then
      (s.modGate ch fun g => { g with out := .off, phase := .rest, ghAt := s.time }).settle
    else s

/-- SHOOT_THROUGH_ATTEMPT (R155, R156, R374): both switches off, the event; the Kingpost counts the attempts of the last second
and withdraws the stack above ST_MAX. -/
def execShootThroughAttempt (a : KpStamp) (leg : Fin 12) (s : State) : Host.Outcome State Fault Refusal :=
  let s := (s.upTo a.t).upKt a.kt
  let ch := 2 * leg.val
  let k := ch / 6
  .next <| if s.enabled k && (s.stack k).switching then
      let s := ((s.modGate ch fun g => { g with pwm := true }).modGate (ch + 1) fun g => { g with pwm := true }).settle
      let s := { s with stCount := satN 4 (s.stCount + 1) }.modSafety fun x => { x with stCount := satN 4 (x.stCount + 1) }
      let s := s.modStack k fun x =>
        { x with stStamps := a.kt :: x.stStamps.filter fun u => decide (a.kt - u ≤ msKt 1000) }
      let n := (s.stack k).stStamps.length
      let s := s.raise 0x8302 0 ch (le 4 s.stCount)
      if s.cu 0x0F00 10 1 < n ∧ !(s.stack k).stLimit then
        (s.modStack k fun x => { x with stLimit := true }).settle.raise 0x850B 1 k (zeros 4 ++ le 4 n)
      else s
    else s

end Sys2Proof.Machine
end

