-- ==== Sys2Proof/Machine/Feedback.lean ====
section
/-! DEFINITION. Position and speed feedback (R230 to R252): counting in each mode, index and reference, latch records, port states.
Edge times are in steps of 5 ns; a count is an integer, shown in 64 bits. -/
namespace Sys2Proof.Machine

/-! ### Configuration of a port -/

/-- FEEDBACK n in force. -/
def State.fbCfg (s : State) (n : Nat) : Bytes := s.cfg (0x40 + n)
/-- MODE of a port: 0 for a port that is not enabled. -/
def State.fbMode (s : State) (n : Nat) : Nat := if s.fbEn n then getN (s.fbCfg n) 0 1 else 0
/-- A flag bit of byte 1: 0 INV, 2 IDX_EN, 3 SPD_EDGE, 4 GRAY. -/
def State.fbBit (s : State) (n b : Nat) : Bool := (getN (s.fbCfg n) 1 1).testBit b
/-- +1, or −1 with INV (R233). -/
def State.fbSign (s : State) (n : Nat) : Int := if s.fbBit n 0 then -1 else 1
/-- CPR of a port (R230). -/
def State.fbCpr (s : State) (n : Nat) : Nat := cprOf (s.fbCfg n)
/-- Whether a port counts and latches: enabled, in a mode, past ENC_PUP, the device awake (R233). -/
def State.fbLive (s : State) (n : Nat) : Bool :=
  s.awake && s.fbMode n != 0 && (s.fbPort n).state != 0 && !(s.fbPort n).pup
/-- Whether a port is of a mode that is UNREF until its first index (R244). -/
def State.fbByIndex (s : State) (n : Nat) : Bool := s.fbMode n == 1 || s.fbMode n == 2 || s.fbMode n == 6
/-- Whether a port gives no angle yet (R244): until its first index, without a provisional base. -/
def State.fbNoRef (s : State) (n : Nat) : Bool := s.fbByIndex n && (s.fbPort n).idxFirst.isNone && !(s.fbPort n).provBase
/-- Whether a port uses an index (R240). -/
def State.fbIdx (s : State) (n : Nat) : Bool :=
  s.fbMode n == 6 || ((s.fbMode n == 1 || s.fbMode n == 2) && s.fbBit n 2)

/-! ### Counting (R234, R238, R239) -/

/-- Wrap of a count difference to [−CPR/2, CPR/2) (R241). -/
def wrapCpr (d : Int) (cpr : Nat) : Int :=
  if cpr = 0 then 0 else
  let r := d % cpr
  if (cpr : Int) ≤ 2 * r then r - cpr else r

/-- A count wrapped to 64 bits (R233). -/
def wrap64 (c : Int) : Int :=
  let r := c % 18446744073709551616
  if 9223372036854775808 ≤ r then r - 18446744073709551616 else r

/-- The speed edges after a new one (R245): those within SPD_WIN and one before them, of the same direction; after a reversal since the last speed edge only
that one where its direction is the same. -/
def pushEdge (win5 : Nat) (turned : Bool) (e : SpdEdge) (l : List SpdEdge) : List SpdEdge :=
  match l with
  | [] => [e]
  | x :: _ =>
    if x.up = e.up then
      if turned then [e, x] else
      let near := l.filter fun y => decide (e.t5 - y.t5 ≤ win5)
      e :: (if near = [] then [x] else near)
    else [e]

/-- INDEX_MISSING where COUNT has moved too far from the last index (R242); the next distance starts there. -/
def State.fbMissing (s : State) (n : Nat) : State :=
  let p := s.fbPort n
  if s.fbIdx n && decide (s.fbCpr n + getN (s.fbCfg n) 8 4 < (p.count - p.lastIdx).natAbs) then
    (s.modFb n fun p => { p with lastIdx := p.count }).raise 0x833E 2 0 (le 1 n ++ zeros 3 ++ leI 4 p.count)
  else s

/-- Counts `d` with direction, at an edge time; `speed` marks a speed edge (R245). -/
def State.fbCount (s : State) (n : Nat) (d : Int) (t5 : Nat) (speed : Bool) : State :=
  let win5 := 200 * getN (s.fbCfg n) 52 2
  let s := s.modFb n fun p =>
    let c := wrap64 (p.count + d)
    let up := decide (0 < d)
    let e : SpdEdge := { count := c, t5 := t5, up := up }
    let turn := p.turned || p.lastUp != up
    { p with count := c, lastEdge := some e, lastUp := up, turned := turn && !speed,
             edges := if speed then pushEdge win5 turn e p.edges else p.edges }
  s.fbMissing n

/-- A rejected pulse (R234): 16 of them within 1 ms raise FB_GLITCH, and the count of the next 16 begins. -/
def State.fbReject (s : State) (n : Nat) : State :=
  let p := s.fbPort n
  let l := s.time :: p.rejects.filter fun u => decide (s.time - u ≤ msTicks 1)
  let s := s.modFb n fun p => { p with rejects := if 16 ≤ l.length then [] else l, rejCount := satN 4 (p.rejCount + 1) }
  if 16 ≤ l.length then s.raise 0x8332 2 0 (le 1 n ++ zeros 3 ++ le 4 (s.fbPort n).rejCount) else s

/-- The levels of a port's inputs after an edge (R234): they stand whether or not the port counts. -/
def FbPort.levels (p : FbPort) : FbEdge → FbPort
  | .edgeA a _ => { p with lvA := a }
  | .edgeB b _ => { p with lvB := b }
  | .edgeBoth a b _ => { p with lvA := a, lvB := b }
  | .levelZ l => { p with lvZ := l }
  | _ => p

/-- FEEDBACK_EDGE (R234, R235). A leading B counts up. -/
def execFeedbackEdge (t : Tick) (n : Fin 6) (e : FbEdge) (s : State) : Host.Outcome State Fault Refusal :=
  let s := s.upTo t
  let p := s.fbPort n
  let m := s.fbMode n
  let s := s.modFb n fun p => p.levels e
  .next <| if !s.fbLive n then s else
    match e with
    | .edgeA a t5 =>
      if m ≠ 1 ∨ a = p.lvA then s else
      let d : Int := if a != p.lvB then 1 else -1
      s.fbCount n (d * s.fbSign n) t5 (!s.fbBit n 3 || a)
    | .edgeB b t5 =>
      if m ≠ 1 ∨ b = p.lvB then s else
      let d : Int := if b == p.lvA then 1 else -1
      s.fbCount n (d * s.fbSign n) t5 (!s.fbBit n 3)
    | .edgeBoth a b _ =>
      if m ≠ 1 ∨ a = p.lvA ∨ b = p.lvB then s else
      (s.modFb n fun p => { p with quadErrs := satN 4 (p.quadErrs + 1), quadBad := true }).raise 0x8331 2 0
          (le 1 n ++ zeros 3 ++ le 4 (satN 4 (p.quadErrs + 1)))
    | .quadrant up t5 =>
      if m ≠ 2 then s else
      let fast := match p.lastEdge with
        | some e => if t5 - e.t5 < 80 then some (t5 - e.t5) else none
        | none => none
      let q := p.qc + if up then 1 else -1
      let s := s.modFb n fun p => { p with qc := q, lastEdge := some { count := q, t5 := t5, up := up } }
      match fast with
      | some d => s.raise 0x8334 2 0 (le 1 n ++ zeros 3 ++ le 4 d)
      | none => s
    | .levelZ _ => s
    | .rejected => if m = 1 ∨ m = 6 then s.fbReject n else s

/-- The sector of a Hall code in the counting direction (R238), none for an invalid code. -/
def hallSector (inv : Bool) (code : Nat) : Option Nat :=
  let k := match code with | 1 => some 0 | 3 => some 1 | 2 => some 2 | 6 => some 3 | 4 => some 4 | 5 => some 5 | _ => none
  k.map fun k => if inv then 5 - k else k

/-- The angle of a Hall port in turns at time `t5` with a speed in turns per second (R243). -/
def State.hallAngle (s : State) (n : Nat) (t5 : Nat) (v : Rat) : Rat :=
  let p := s.fbPort n
  let d := s.fbCfg n
  let lines : Rat := max 1 (getN d 4 4)
  let ofs : Rat := (getN d 44 4 : Rat) / 4294967296 + p.hallTurn
  match p.hall.bind (hallSector (s.fbBit n 0)) with
  | none => 0
  | some k => match p.lastEdge with
    | none => (ofs + (k : Rat) / 6 + 1 / 12) / lines
    | some e =>
      let dt : Rat := ((t5 : Int) - e.t5 : Int) / 200000000
      let x := clampR (-(1 / 6)) (1 / 6) (v * dt * lines)
      if e.up then (ofs + (k : Rat) / 6 + maxR 0 x) / lines else (ofs + ((k : Rat) + 1) / 6 + minR 0 x) / lines

/-- The provisional base of the ports that align to a Hall port (R244, INIT_ALIGN 1), until their first index. -/
def State.fbAlign (s : State) (hall : Nat) (t5 : Nat) : State :=
  (List.range 6).foldl (fun s m =>
    let d := s.fbCfg m
    let p := s.fbPort m
    if s.fbByIndex m && p.state != 0 && getN d 35 1 == 1 && getN d 36 1 == hall && p.idxFirst.isNone then
      let a := fracTurn (s.hallAngle hall t5 0 + (getN d 40 4 : Rat) / 4294967296)
      s.modFb m fun p => { p with angBase := p.count - roundR (a * s.fbCpr m), provBase := true }
    else s) s

/-- HALL_CHANGE (R238, R249): the count, or HALL_INVALID or HALL_SEQUENCE; the first valid code makes the port VALID. -/
def execHallChange (t : Tick) (n : Fin 6) (h : HallEdge) (s : State) : Host.Outcome State Fault Refusal :=
  let s := s.upTo t
  let p := s.fbPort n
  .next <| if !s.fbLive n ∨ s.fbMode n ≠ 5 then s else
    match hallSector (s.fbBit n 0) h.code with
    | none => (s.modFb n fun p => { p with hallBad := true }).raise 0x833A 2 0 (le 1 n ++ le 1 h.code)
    | some k =>
      let old := p.hall.bind (hallSector (s.fbBit n 0))
      let s := s.modFb n fun p => { p with hallBad := false, hall := some h.code.val }
      let s := match old with
        | none => s
        | some j =>
          if k = (j + 1) % 6 then
            (s.modFb n fun p => { p with hallTurn := p.hallTurn + if k = 0 then 1 else 0 }).fbCount n 1 h.t5 true
          else if j = (k + 1) % 6 then
            (s.modFb n fun p => { p with hallTurn := p.hallTurn - if j = 0 then 1 else 0 }).fbCount n (-1) h.t5 true
          else if j = k then s
          else s.raise 0x833B 2 0 (le 1 n ++ le 1 (p.hall.getD 0) ++ le 1 h.code)
      let s := if (s.fbPort n).state = 1 then s.setFb n 2 8 else s
      s.fbAlign n h.t5

/-- The direction of a tooth (R239): a speed or reference of exactly 0 keeps the previous one. -/
def State.toothUp (s : State) (n : Nat) : Bool :=
  let d := s.fbCfg n
  let keep := fun (v : Rat) => if v = 0 then (s.fbPort n).lastUp == !s.fbBit n 0 else decide (0 < v)
  match getN d 33 1 with
  | 0 => true
  | 1 => false
  | 2 => keep (s.fbPort (getN d 34 1)).latch.speed
  | _ => keep s.motion.nRef

/-- TOOTH_EDGE (R239): pitch, gap or extra tooth; a gap, or the tooth after an extra one, is the reference mark. -/
def execToothEdge (t : Tick) (n : Fin 6) (t5 : Nat) (s : State) : Host.Outcome State Fault Refusal :=
  let s := s.upTo t
  let p := s.fbPort n
  .next <| if !s.fbLive n ∨ s.fbMode n ≠ 6 then s else
    let miss := getN (s.fbCfg n) 32 1
    let dir : Int := (if s.toothUp n then 1 else -1) * s.fbSign n
    let tk : Option Rat := p.lastEdge.map fun e => ((t5 - e.t5 : Nat) : Rat)
    let r : Option Rat := match tk, p.tRef with
      | some a, some b => if b = 0 then none else some (a / b)
      | _, _ => none
    let gap := match r with
      | some r => miss != 0 && decide ((miss : Rat) + 1 / 2 ≤ r) && decide (r ≤ 3 / 2 * ((miss : Rat) + 1))
      | none => false
    let extra := match r with
      | some r => miss == 0 && decide (r ≤ 3 / 4)
      | none => false
    if extra then s.modFb n fun p => { p with refNext := true }
    else
      let c := if gap then miss + 1 else 1
      let mark := gap || p.refNext
      let s := s.fbCount n (dir * c) t5 true
      s.modFb n fun p =>
        { p with tRef := match tk with | some a => some (a / c) | none => p.tRef,
                 gapHi := if gap then some (if dir = 1 then p.count else p.count + c) else p.gapHi, refNext := false, refDue := if mark then some p.count else none }

/-- Gray code to binary, `w` bits. -/
def grayDecode (w p : Nat) : Nat :=
  ((List.range w).foldl (fun (a : Nat × Bool) i =>
    let b := a.2 != p.testBit (w - 1 - i)
    (2 * a.1 + b2n b, b)) (0, false)).1

/-- A position word in `w` bits, reversed with INV (R233). -/
def invWord (inv : Bool) (w p : Nat) : Nat := if inv then (2 ^ w - p % 2 ^ w) % 2 ^ w else p % 2 ^ w

/-- The low `w` bits of a word, the most significant first. -/
def wireBits (w v : Nat) : List Bool := (List.range w).map fun i => v.testBit (w - 1 - i)

/-- The CRC of a serial frame (R237): CRC_POLY over CRC_LEN bits from the value 0, inverted at the output. -/
def crcOfBits (len poly : Nat) (l : List Bool) : Nat :=
  let r := l.foldl (fun r b =>
    let x := 2 * r % 2 ^ len
    if r.testBit (len - 1) != b then x ^^^ (poly % 2 ^ len) else x) 0
  2 ^ len - 1 - r

/-- The bits a serial frame sends before its CRC (R237): the position word, in BiSS-C nE and nW, the further status bits. (PRESUMED, assumption 121.) -/
def frameBits (d : Bytes) (biss : Bool) (pos extra : Nat) (nE nW : Bool) : List Bool :=
  wireBits (getN d 16 1 + getN d 17 1) pos ++ (if biss then [nE, nW] else []) ++ wireBits (getN d 18 1) extra

/-- SERIAL_FRAME (R237, R249): the frame extends COUNT, or is rejected as SERIAL_ERROR or SERIAL_CRC. After wake the first good frame is taken whatever the
encoder has moved (R252). -/
def execSerialFrame (t : Tick) (n : Fin 6) (f : SerialResult) (s : State) : Host.Outcome State Fault Refusal :=
  let s := s.upTo t
  let p := s.fbPort n
  let m := s.fbMode n
  .next <| if !s.fbLive n ∨ (m ≠ 3 ∧ m ≠ 4) then s else
    let bad := fun (s : State) => s.modFb n fun p => { p with serial := some false, serialGood := false }
    match f with
    | .noStart => if m = 3 then (bad s).raise 0x8338 2 0 (le 1 n ++ le 1 0) else bad s
    | .frame pos extra crc nE nW =>
      let d := s.fbCfg n
      let w := getN d 16 1 + getN d 17 1
      if 0 < getN d 19 1 ∧ crc ≠ crcOfBits (getN d 19 1) (getN d 20 2) (frameBits d (m == 3) pos extra nE nW) then (bad s).raise 0x8337 2 0 (le 1 n ++ le 1 0 ++ le 2 crc)
      else if m = 3 ∧ !nE then (bad s).raise 0x8338 2 0 (le 1 n ++ le 1 1)
      else
        let s := if m = 3 ∧ !nW then s.info 0x8339 2 0 (le 1 n) else s
        let word := invWord (s.fbBit n 0) w (if m = 4 ∧ s.fbBit n 4 then grayDecode w pos else pos)
        let diff := wrapCpr ((word : Int) - p.count) (2 ^ w)
        if p.serialSeen ∧ !p.serialAny ∧ getN d 30 2 * 2 ^ getN d 16 1 < 65536 * diff.natAbs then
          (bad s).raise 0x8338 2 0 (le 1 n ++ le 1 2)
        else
          let s := s.modFb n fun p =>
            { p with serial := some true, serialSeen := true, serialAny := false, serialGood := true, count := if p.serialSeen then wrap64 (p.count + diff) else word }
          if (s.fbPort n).state = 1 then s.setFb n 2 8 else s

/-! ### Index and reference (R240, R241) -/

/-- angle(c) of R243 in turns. -/
def angleTurns (base : Int) (cpr : Nat) (c : Int) : Rat := if cpr = 0 then 0 else ((c - base) % cpr : Int) / (cpr : Rat)

/-- The index value latched now, where the gate of R240 holds. -/
def State.idxValue (s : State) (n : Nat) : Option Int :=
  let p := s.fbPort n
  let ab := getN (s.fbCfg n) 3 1
  match s.fbMode n with
  | 1 => if p.lvZ && (2 * b2n p.lvB + b2n p.lvA == ab) then some p.count else none
  | 2 =>
    let q := (p.qc % 4).toNat
    let a := decide (q < 2)
    let b := q == 0 || q == 3
    if p.lvZ && (2 * b2n b + b2n a == ab) then some (p.qc * 4096 * s.fbSign n) else none
  | 6 => p.refDue
  | _ => none

/-- INDEX_LATCH (R240, R241, R249): the first index becomes IDX_FIRST and ANG_BASE; a later one gives the deviation δ. -/
def execIndexLatch (t : Tick) (n : Fin 6) (s : State) : Host.Outcome State Fault Refusal :=
  let s := s.upTo t
  let p := s.fbPort n
  .next <| if !s.fbLive n || !s.fbIdx n then s else
    match s.idxValue n with
    | none => s
    | some l =>
      let cpr := s.fbCpr n
      let s := s.modFb n fun p => { p with refDue := none, lastIdx := l }
      match p.idxFirst with
      | none =>
        let step := sturn32 (turn32 (angleTurns l cpr p.count) + 4294967296 - turn32 (angleTurns p.angBase cpr p.count))
        let s := s.modFb n fun p => { p with idxFirst := some l, angBase := l, provBase := false, prevDelta := 0 }
        if p.state = 1 then s.setFb n 2 0 step else s
      | some f =>
        let d := wrapCpr (l - f) cpr
        let s := s.modFb n fun p => { p with prevDelta := d, drift := if d = 0 then p.drift else d }
        if d = 0 then s
        else if d.natAbs ≤ getN (s.fbCfg n) 8 4 then
          (if d = p.prevDelta then s else s.info 0x833C 2 0 (le 1 n ++ le 1 0 ++ leI 2 (satI 2 d)))
        else s.raise 0x833D 2 0 (le 1 n ++ le 1 0 ++ leI 2 (satI 2 d) ++ leI 4 l)

/-! ### Lines and supply (R233, R251) -/

/-- The place of a pair. -/
def pairIx : FbPair → Nat
  | .a => 0 | .b => 1 | .c => 2

/-- FB_SIGNAL_LOSS (R251): on the pairs the mode supervises. -/
def execFbSignalLoss (t : Tick) (n : Fin 6) (pair : FbPair) (s : State) : Host.Outcome State Fault Refusal :=
  let s := s.upTo t
  let m := s.fbMode n
  let used := match pair with
    | .a => m == 1 || m == 6 || m == 3 || m == 4
    | .b => m == 1 || m == 6
    | .c => (m == 1 || m == 2 || m == 6) && s.fbBit n 2
  .next <| if s.fbLive n && used then
      (s.modFb n fun p => { p with loss := vmod p.loss (pairIx pair) fun _ => true }).raise 0x8333 2 0
        (le 1 n ++ le 1 (pairIx pair))
    else s

/-- FB_SIGNAL_LOSS_END (R251). -/
def execFbSignalLossEnd (t : Tick) (n : Fin 6) (pair : FbPair) (s : State) : Host.Outcome State Fault Refusal :=
  let s := s.upTo t
  .next (s.modFb n fun p => { p with loss := vmod p.loss (pairIx pair) fun _ => false })

/-- FB_SUPPLY (R251): the event, and the port FAILED by its class. -/
def execFbSupply (t : Tick) (n : Fin 6) (cause : FbSupplyCause) (s : State) : Host.Outcome State Fault Refusal :=
  let s := s.upTo t
  .next <| if s.awake && vget s.pins.fbSup n false && s.fbMode n != 0 then
      s.raise 0x833F 2 0 (le 1 n ++ le 1 (match cause with | .undervoltage => 0 | .currentLimit => 1))
    else s

/-- ENC_PUP_END (R233): the port starts counting. -/
def execEncPupEnd (t : Tick) (n : Fin 6) (s : State) : Host.Outcome State Fault Refusal :=
  let s := s.upTo t
  .next (s.modFb n fun p => { p with pup := false })

/-- A port enters UNREF (R249): its index base is cleared, and the distance of R242 starts at its count. -/
def State.fbUnref (s : State) (n cause : Nat) : State :=
  (s.modFb n fun p =>
    { p with idxFirst := none, angBase := 0, provBase := false, lastIdx := p.count, badRun := 0, prevDelta := 0, refDue := none }).setFb n 1 cause

/-! ### Latches (R231, R232, R235, R236, R243 to R248) -/

/-- The counts that the next edge of a port adds (R239, R247): M + 1 before the gap of a toothed wheel, which lies below the count its upper edge had when it
last passed, else 1. -/
def State.edgeAhead (s : State) (n : Nat) (count : Int) (up : Bool) : Nat :=
  let miss := getN (s.fbCfg n) 32 1
  let hi : Int := if up then count + miss + 1 else count
  match (s.fbPort n).gapHi with
  | some g => if s.fbMode n = 6 ∧ 0 < miss ∧ wrapCpr (hi - g) (s.fbCpr n) = 0 then miss + 1 else 1
  | none => 1

/-- The speed of the edge modes (R245, R247): v_m bounded by v_b, in turns per second, with FLAGS[1] and FLAGS[2]. -/
def State.edgeSpeed (s : State) (n tL : Nat) : Rat × Bool × Bool :=
  let p := s.fbPort n
  let d := s.fbCfg n
  let cpr : Rat := max 1 (s.fbCpr n)
  match p.edges with
  | e1 :: e0 :: r =>
    let old := (e0 :: r).getLast (by simp)
    let gone : Rat := ((2 * tL : Int) - e1.t5 : Int)
    if (200 * getN d 48 4 : Rat) ≤ gone then (0, true, false) else
    let dt : Rat := ((e1.t5 : Int) - old.t5 : Int)
    let vm : Rat := if dt = 0 then 0 else ((e1.count - old.count : Int) : Rat) / cpr / (dt / 200000000)
    let stp : Rat := if s.fbMode n = 1 ∧ s.fbBit n 3 then 4
      else s.edgeAhead n e1.count e1.up
    let vb : Rat := if gone ≤ 0 then absR vm else stp / cpr / (gone / 200000000)
    if vb < absR vm then (if vm < 0 then -vb else vb, false, true) else (vm, false, false)
  | _ => (0, true, false)

/-- Speed of a sampled port (R246). -/
def sampleSpeed (cpr : Nat) (win : Nat) (count : Int) (ap : Tick) (goods : List LatchRec) : Rat :=
  match goods.find? fun g => decide (g.aperture + win ≤ ap) with
  | some g =>
    let dt : Rat := ((ap : Int) - g.aperture : Int)
    if dt = 0 ∨ cpr = 0 then 0 else ((count - g.count : Int) : Rat) / cpr / (dt / 100000000)
  | none => 0

/-- The good latches kept for R246: those newer than SPD_WIN and one older. -/
def keepGoods (win : Nat) (ap : Tick) (l : List LatchRec) : List LatchRec :=
  let near := l.filter fun g => decide (ap < g.aperture + win)
  near ++ (l.find? fun g => decide (g.aperture + win ≤ ap)).toList

/-- What a latch finds (R248): good with count, aperture, angle, speed and flags, or bad. -/
inductive LatchRead
  | good (count : Int) (ap : Tick) (angle speed : Rat) (flags : Nat)
  | bad

/-- The angle of an edge port (R243): extrapolated from the newest edge, held short of the next one. -/
def State.edgeAngle (s : State) (n tL : Nat) (v : Rat) : Rat :=
  let p := s.fbPort n
  let cpr := s.fbCpr n
  match p.lastEdge with
  | none => angleTurns p.angBase cpr p.count
  | some e =>
    let dt : Rat := ((2 * tL : Int) - e.t5 : Int) / 200000000
    let lim : Rat := (s.edgeAhead n e.count e.up : Rat) / (max 1 cpr : Nat) - 1 / 4294967296
    angleTurns p.angBase cpr e.count + clampR (-lim) lim (v * dt)

/-- The combination of quadrant counter and fine angle (R235): none for SINCOS_SYNC. -/
def sincosCount (qc : Int) (phi14 : Nat) : Option Int :=
  let qf := phi14 / 4096
  let d := ((qf : Int) - qc % 4) % 4
  if d = 2 then none
  else
    let qa := qc + (if d = 1 then 1 else 0) - (if d = 3 then 1 else 0)
    some (qa / 4 * 16384 + phi14)

/-- The quadrant counter of a sin/cos port preset at its first conversion (R235, R252): after SEAL the first count equals the first phi14; after wake the signal
period at entry is kept. (DESIGN CHOICE, assumption 37.) -/
def FbPort.preset (p : FbPort) (sign : Int) (phi : Nat) : FbPort :=
  if p.qcPreset then p else
  let q := 4 * ((sign * p.count).fdiv 16384) + (phi / 4096 : Nat)
  { p with qc := q + (p.qc - p.qcAp), qcAp := q, qcPreset := true }

/-- One latch of a port at tick `tL` of a sample centred at `tc`: what it reads, with the events of R235 and R236. -/
def State.fbRead (s : State) (n tL tc : Nat) : LatchRead × State :=
  let p := s.fbPort n
  let d := s.fbCfg n
  let cpr := s.fbCpr n
  let win := 100 * getN d 52 2
  let prov := 8 * b2n p.provBase
  let lossy := p.loss.toList.any id
  match s.fbMode n with
  | 2 =>
    match p.sarTick with
    | none => (.bad, s)
    | some ap =>
      let amp : Rat := getN d 12 2
      let r : Rat := ((p.sinMv * p.sinMv + p.cosMv * p.cosMv : Int) : Rat) / (amp * amp)
      if r < (getN d 14 1 : Rat) / 100 ∨ (getN d 15 1 : Rat) / 100 < r then
        (.bad, (s.modFb n fun p => { p with synced := false }).raise 0x8335 2 0 (le 1 n ++ le 1 0 ++ le 2 (toUfix 16 8 r)))
      else
        let phi := (roundR (fracTurn (Config.atanTurn p.sinMv p.cosMv) * 16384) % 16384).toNat
        let s := s.modFb n fun p => { p.preset (s.fbSign n) phi with synced := true }
        match sincosCount (s.fbPort n).qcAp phi with
        | none => (.bad, (s.modFb n fun p => { p with synced := false }).raise 0x8336 2 0
            (le 1 n ++ le 1 ((s.fbPort n).qcAp % 4).toNat ++ le 1 (phi / 4096)))
        | some c =>
          let c := c * s.fbSign n
          let v := sampleSpeed cpr win c ap p.goods
          let a := angleTurns p.angBase cpr c + v * (((tL : Int) - ap : Int) : Rat) / 100000000
          (.good c ap a v prov, s)
  | 3 | 4 =>
    if p.serial = some true && !lossy then
      let v := sampleSpeed cpr win p.count tc p.goods
      (.good p.count tc (angleTurns 0 cpr p.count + v * (((tL : Int) - tc : Int) : Rat) / 100000000) v 0, s)
    else (.bad, s)
  | 5 =>
    let (v, st, b) := s.edgeSpeed n tL
    if p.hallBad then (.bad, s) else (.good p.count tL (s.hallAngle n (2 * tL) v) v (2 * b2n st + 4 * b2n b), s)
  | _ =>
    let (v, st, b) := s.edgeSpeed n tL
    if lossy || p.quadBad then (.bad, s)
    else (.good p.count tL (s.edgeAngle n tL v) v (2 * b2n st + 4 * b2n b + prov), s)

/-- Whether a port has something to latch yet: a sin/cos conversion, a Hall code, or any edge mode; a serial port always. -/
def State.fbReady (s : State) (n : Nat) : Bool :=
  let p := s.fbPort n
  match s.fbMode n with
  | 2 => p.sarTick.isSome
  | 5 => p.hall.isSome || p.hallBad
  | _ => true

/-- A latch of port `n` at tick `tL` (R231, R232, R248): good, or held from the last good one. -/
def State.fbLatch (s : State) (n tL tc : Nat) : State :=
  let p := s.fbPort n
  if !s.fbLive n || !s.fbReady n || p.latchAt == some tL then s else
  let (r, s) := s.fbRead n tL tc
  let mode := s.fbMode n
  let d := s.fbCfg n
  let s := s.modFb n fun p => { p with latchAt := some tL, quadBad := false, serial := none }
  match (if p.state = 4 then .bad else r) with
  | .good c ap a v fl =>
    let l : LatchRec :=
      { count := c, aperture := ap, angle := turn32 a, speed := toFix 64 32 v, state := p.state, flags := fl,
        drift := satI 2 p.drift }
    let s := s.modFb n fun p =>
      { p with count := c, badRun := 0, good := some l, goodAt := tL, latch := l,
               goods := keepGoods (100 * getN d 52 2) ap (l :: p.goods) }
    let s := if mode = 5 ∧ p.state = 1 then s.setFb n 2 8 else s
    if mode = 2 then s.fbMissing n else s
  | .bad =>
    let g := p.good.getD {}
    let dt : Rat := ((tL : Int) - p.goodAt : Int) / 100000000
    let a := (g.angle : Rat) / 4294967296 + (g.speed : Rat) / 4294967296 * dt
    let sampled := mode == 2 || mode == 3 || mode == 4
    let s := s.modFb n fun p =>
      { p with badRun := p.badRun + 1,
               latch := { g with angle := turn32 a, count := if sampled then g.count else p.count,
                                 aperture := if sampled then g.aperture else tL,
                                 state := p.state, flags := 1 ||| g.flags } }
    if p.state ≠ 4 ∧ getN d 38 1 + 1 ≤ (s.fbPort n).badRun then s.fbFail n 1 0x8330 else s

/-- Whether the signals of a port are good (R249): no line lost, and what its mode reads is neither invalid nor outside its window. -/
def State.fbGood (s : State) (n : Nat) : Bool :=
  let p := s.fbPort n
  p.loss.toList.all (!·) && match s.fbMode n with
    | 2 => p.synced
    | 3 | 4 => p.serialGood
    | 5 => p.hall.isSome && !p.hallBad
    | _ => !p.quadBad

/-- The ports that latch at a `t_s` of stack `k` (R231). -/
def State.fbLatchAll (s : State) (k tL tc : Nat) : State :=
  (List.range 6).foldl (fun s n =>
    if s.fbEn n && (s.angSrcCfg k == n || k == s.timeBase) then s.fbLatch n tL tc else s) s

end Sys2Proof.Machine
end

