-- ==== Sys2Proof/Machine/Sensing.lean ====
section
/-! DEFINITION. Current sensing and live calibration (R174 to R198): samples, cross-checks, sensor failures, calibration fits and
slews, the SAR scheduler and the CALIBRATION command. -/
namespace Sys2Proof.Machine

/-- The state with the sensing of stack `k` changed. -/
def State.modSense (s : State) (k : Nat) (f : Sense → Sense) : State := s.modStack k fun x => { x with sense := f x.sense }

/-- SENSE k in force. -/
def State.senseCfg (s : State) (k : Nat) : Bytes := s.cfg (0x30 + k)

/-- 2³¹, the steps of a decimator output or correction. -/
abbrev fsSteps : Rat := 2147483648

/-- A physical value (R177): full scale × (y − OFS) × (1 + GAIN). -/
def physical (full : Nat) (y ofs gain : Int) : Rat := (full : Rat) * (((y - ofs : Int) : Rat) / fsSteps) * (1 + (gain : Rat) / fsSteps)

/-- The calibrated input of a slot of a stack. -/
def Sense.input (x : Sense) (i : Nat) : CalInput := vget x.cal i {}

/-- The corrections OFS and GAIN of a slot that hold for a sample centred at `tc` (R190): those of the last carrier zero from it on, those before it for an
earlier centre. -/
def Sense.correction (x : Sense) (i : Nat) (tc : Tick) : Int × Int :=
  let c := x.input i
  if x.lastZero ≤ tc then (c.ofs, c.gain) else (c.ofsOld, c.gainOld)

/-! ### The decimators (R174 to R178) -/

/-- n over 2, 0 below 2. -/
def pairs (n : Int) : Int := if n < 2 then 0 else n * (n - 1) / 2

/-- The j-th of the 3N − 2 weights of three cascaded N-point boxcars (R175): the coefficient of z^j in (1 + z + … + z^(N−1))³. -/
def sincWeight (n j : Nat) : Int := pairs (j + 2) - 3 * pairs ((j : Int) + 2 - n) + 3 * pairs ((j : Int) + 2 - 2 * n)

/-- A sinc3 decimator (R175): a window of 3N − 2 bits, mapped to +1 and −1, against the weights, divided by N³ and rounded, in 2⁻³¹. -/
def sinc3 (n bits : Nat) : Int :=
  let sum := ((List.range (3 * n - 2)).map fun j => if bits.testBit j then sincWeight n j else -sincWeight n j).sum
  toFix 64 31 ((sum : Rat) / ((n ^ 3 : Nat) : Rat))

/-- The clocks of a window before and after its centre (R176): ⌈(3N − 3)/2⌉ and ⌊(3N − 3)/2⌋. -/
def winBefore (n : Nat) : Nat := (3 * n - 2) / 2
/-- The clocks of a window after its centre (R176). -/
def winAfter (n : Nat) : Nat := (3 * n - 3) / 2

/-- The window centre of a result delivered at `ts` (R176): t_s = e + 5 × (⌊(3N − 3)/2⌋ + 3), a rising edge of DSCK (R174). -/
def winCentre (n ts : Nat) : Option Tick :=
  let d := 5 * (winAfter n + 3)
  if d ≤ ts ∧ (ts - d) % 5 = 0 then some (ts - d) else none

/-- The sample centre of stack `k` whose result is delivered at `ts` (R176): the one whose nearest DSCK edge is the window centre. -/
def State.centreOf (s : State) (k ts : Nat) : Option Tick :=
  (winCentre (getN (s.senseCfg k) 8 2) ts).bind fun e => ([e, e + 1, e + 2, e - 1, e - 2].find? fun tc => s.centreAt k tc)

/-- The DS input number of a slot of a stack (R2). -/
def dsInput (k slot : Nat) : Nat := if slot < 3 then 3 * k + slot else 12 + 4 * (slot - 3) + k

/-- The stack and slot of a DS input (R2). -/
def dsSlot (input : Nat) : Nat × Nat := if input < 12 then (input / 3, input % 3) else ((input - 12) % 4, 3 + (input - 12) / 4)

/-- A value in 2⁻¹⁶ of full scale, signed, for DATA (R199). -/
def fs16 (v full : Rat) : Int := if full = 0 then 0 else toFix 16 0 (v * 65536 / full)

/-- T_MINV in ticks (R180). -/
def minVector (d : Bytes) : Nat := getN d 12 2 + 5 * (3 * getN d 10 2 + 2)

/-! ### Sensor failures (R179, R184 to R186) -/

/-- The stop reaction a sensor decision calls for: SELECT, with the fault held (R429). -/
def State.senseStop (s : State) (k code : Nat) : State := (s.hold ⟨5, 1, k⟩ code).stopReact k .select code

/-- Whether a first failure may continue in degraded mode: no other sensor of the stack has failed. -/
def State.degOk (s : State) (k bit : Nat) : Bool :=
  let x := (s.stack k).sense
  (getN (s.senseCfg k) 82 1).testBit bit && x.failed.isNone && !x.dcFailed

/-- The corrections of the phase inputs after a failure of phase `x` (R185, R191): calibration stops, and what is pending for the failed input is discarded. -/
def Sense.stopPhases (y : Sense) (x : Nat) : Vector CalInput 4 :=
  Vector.ofFn fun i : Fin 4 =>
    let c := y.cal[i]
    if i.val < 3 then
      { c with ofsRun := false, gainRun := false, ofsTgt := c.ofs, gainTgt := c.gain, restore := if i.val = x then 0 else c.restore }
    else c

/-- A phase sensor has failed (R185); `part` is the verdict of the occurrence this decides. -/
def State.phaseFail (s : State) (k : Nat) (x : Fin 3) (part : Bool) : State :=
  let deg := s.degOk k 0
  let s := s.modSense k fun y => { y with cal := y.stopPhases x }
  let s := if deg then s.modSense k fun y => { y with failed := some x, pending := some x.val } else s
  let s := s.raise 0x8311 1 k (le 1 x ++ le 1 (b2n deg)) (some part)
  if deg then s else s.senseStop k 0x8311

/-- The DC-link sensor has failed (R186). -/
def State.dcFail (s : State) (k : Nat) (part : Bool) : State :=
  let deg := s.degOk k 1
  let s := s.modSense k fun y =>
    { y with dcFailed := true, recSet := none, recPrev := none,
             cal := Vector.ofFn fun i : Fin 4 =>
               let c := y.cal[i]
               { c with ofsRun := false, gainRun := false, ofsTgt := c.ofs, gainTgt := c.gain, restore := if i.val = 3 then 0 else c.restore } }
  let s := s.raise 0x8312 1 k (le 1 0 ++ le 1 (b2n deg)) (some part)
  if deg then s else s.senseStop k 0x8312

/-- Firmware supervision of a link is lost (R179): SELECT, held. -/
def State.udcFail (s : State) (k code : Nat) : State :=
  (s.modSense k fun y => { y with udcLost := true }).senseStop k code

/-- DS_STUCK (R179): the event, then what follows for the slot. On a general input the event is the only effect. -/
def execDsStuck (t : Tick) (input : Fin 24) (bit : Bool) (s : State) : Host.Outcome State Fault Refusal :=
  let s := s.upTo t
  let (k, slot) := dsSlot input
  .next <| if !(s.sealedCfg.isSome && s.enabled k && s.awake && (getN (s.senseCfg k) 0 1).testBit slot) then s
    else
      let data := le 1 input ++ le 1 (b2n bit)
      let s := s.modSense k fun y => { y with stuck := vmod y.stuck slot fun _ => some (t, bit) }
      if slot = 5 then (s.occur 0x8313 1 k data).st
      else
        let (v, s) := s.raiseV 0x8313 1 k data
        match v with
        | none => if slot = 4 then s.modSense k fun y => { y with udcLost := true } else s
        | some lasting =>
          if h : slot < 3 then (if (s.stack k).sense.failed = some ⟨slot, h⟩ then s else s.phaseFail k ⟨slot, h⟩ lasting)
          else if slot = 3 then (if (s.stack k).sense.dcFailed then s else s.dcFail k lasting)
          else s.udcFail k 0x8313

/-- The one of two differences with the larger magnitude. (DEDUCED, assumption 114.) -/
def larger (a b : Rat) : Rat := if absR a < absR b then b else a

/-- The largest difference of the checks that have failed (R199): of the suspect phases, and of the sum check once it has failed, over the checks in a row
that count. (DEDUCED, assumption 114.) -/
def Sense.largest (x : Sense) : Rat :=
  let p := [0, 1, 2].foldl (fun (m : Rat) i => if x.suspect.getLsbD i then larger m (vget x.pairMax i 0) else m) 0
  if x.sumFailed then larger p x.sumMax else p

/-- CURRENT_SENSOR_DISAGREE (R183): the decision follows at the next carrier zero (R184). -/
def State.disagree (s : State) (k : Nat) : State :=
  let x := (s.stack k).sense
  let (v, s) := s.raiseV 0x8310 1 k
    (le 1 (x.suspect.toNat + 8 * b2n x.sumFailed) ++ le 1 0 ++ leI 2 (fs16 x.largest (getN (s.senseCfg k) 16 4)))
  match v with
  | none => s
  | some lasting => s.modSense k fun y => { y with decide := true, decidePart := lasting }

/-- The phases exposed to a pair check within the last 2 ms (R184). -/
def State.exposedNow (s : State) (k : Nat) : List Nat :=
  [0, 1, 2].filter fun x => match vget (s.stack k).sense.exposed x none with
    | some u => decide (s.time - u ≤ msTicks 2)
    | none => false

/-- The decision of R184 at a carrier zero. -/
def State.senseDecide (s : State) (k : Nat) : State :=
  let x := (s.stack k).sense
  if !x.decide then s else
  let s := s.modSense k fun y => { y with decide := false }
  let exposed := s.exposedNow k
  let suspects := exposed.filter fun p => x.suspect.getLsbD p
  let same := suspects.all fun p => vget x.signs p 0 == vget x.signs (suspects.headD 0) 0
  match suspects with
  | [p] =>
    if x.sumFailed then (if h : p < 3 then s.phaseFail k ⟨p, h⟩ x.decidePart else s)
    else if suspects = exposed then s.dcFail k x.decidePart
    else (s.modSense k fun y => { y with undecided := true }).senseStop k 0x8310
  | _ =>
    if suspects ≠ [] ∧ suspects = exposed ∧ same ∧ !x.sumFailed then s.dcFail k x.decidePart
    else (s.modSense k fun y => { y with undecided := true }).senseStop k 0x8310

/-! ### Samples (R176 to R187) -/

/-- One more pair in the sums of a fit (R188): x in mA against the spread. -/
def CalSums.add (c : CalSums) (x d spread : Rat) : CalSums :=
  { n := c.n + 1, sx := c.sx + x, sxx := c.sxx + x * x, sd := c.sd + d, sxd := c.sxd + x * d,
    hi := c.hi + (if spread ≤ x then 1 else 0), lo := c.lo + (if x ≤ -spread then 1 else 0) }

/-- A change of one calibrated input of a stack. -/
def State.modCal (s : State) (k i : Nat) (f : CalInput → CalInput) : State :=
  s.modSense k fun y => { y with cal := vmod y.cal i f }

/-- Ticks before and after the carrier zero or peak at `tc` for which no phase switches (R203), from the first to the last edge that bounds the zero vector with
the dead time before it included (R180). -/
def State.zeroVector (s : State) (k tc : Nat) : Nat × Nat :=
  let f := (s.stack k).fe
  let h := 32 * s.carrierP k
  let dead := max (s.deadTicks (6 * k)) (s.deadTicks (6 * k + 1))
  let low := fun (c : Vector Nat 3) => c.toList.min?.getD 0
  let high := fun (c : Vector Nat 3) => h - c.toList.max?.getD 0
  if s.falling k tc then (high f.rise.c / 64 - dead, high f.fall.c / 64) else (low f.fall.c / 64 - dead, low f.rise.c / 64)

/-- Whether the main window of a sample lies inside a zero vector of at least T_MINV (R187). -/
def State.inZeroVector (s : State) (k e tc : Nat) : Bool :=
  let d := s.senseCfg k
  let n := getN d 8 2
  let z := s.zeroVector k tc
  (s.stack k).switching && decide (minVector d ≤ z.1 + z.2) && decide (tc + 5 * winBefore n ≤ e + z.1) &&
    decide (e + 5 * winAfter n ≤ tc + z.2)

/-- Whether stack `k` has been in pulse-off for 2 ms (R187): since the last off command of its switches. -/
def State.atRest2ms (s : State) (k : Nat) : Bool :=
  s.inPulseOff k && (List.range 6).all fun x => match (s.gate (6 * k + x)).lastOff with
    | some u => decide (u + msTicks 2 ≤ s.time)
    | none => true

/-- The slots of a sample with their bits. -/
def slotsOf (m : MainSample) : List (Nat × Nat) := [(0, m.u), (1, m.v), (2, m.w), (3, m.idc), (4, m.udc), (5, m.gen)]

/-- Data for the offsets at rest and for the DC-link offset of a main sample (R187), whose mean is a target (R188). The back-EMF amplitude is taken between two
lines. (DESIGN CHOICE, assumption 115.) -/
def State.calSample (s : State) (k e tc : Nat) (m : MainSample) : State :=
  let d := s.senseCfg k
  let en := getN d 72 1
  let n := getN d 8 2
  let x := s.stack k
  let free := !s.obsBusy (machineOf s.arrange k)
  let s := if en.testBit 3 && s.atRest2ms k && decide (x.fe.eLL < x.sense.uDc / 2000) && free then
    ((slotsOf m).take 4).foldl (fun s (iy : Nat × Nat) =>
      s.modCal k iy.1 fun c => if c.ofsRun then { c with rest := c.rest.add 0 (sinc3 n iy.2 : Rat) 1 } else c) s
    else s
  if en.testBit 0 && s.inZeroVector k e tc && !x.sense.dcFailed && free then
    s.modCal k 3 fun c => if c.ofsRun then { c with sums := c.sums.add 0 (sinc3 n m.idc : Rat) 1 } else c
  else s

/-- Whether an input that was stuck since `u` at a bit has changed it by the end of a window around `e` (R179). -/
def moved (n e bits : Nat) (u : Tick) (bit : Bool) : Bool :=
  (List.range (3 * n - 2)).any fun j => decide (u + 5 * winBefore n < e + 5 * j) && (bits.testBit j != bit)

/-- What a sample shows of the stuck inputs (R179): an input that has changed its bit since is no longer stuck. -/
def State.unstick (s : State) (k e : Nat) (m : MainSample) : State :=
  let n := getN (s.senseCfg k) 8 2
  (slotsOf m).foldl (fun (s : State) (iy : Nat × Nat) =>
    s.modSense k fun y => { y with stuck := vmod y.stuck iy.1 fun o => match o with
      | some (u, b) => if moved n e iy.2 u b then none else some (u, b)
      | none => none }) s

/-- DS_OVERRANGE of each slot of a sample (R179). -/
def State.overRange (s : State) (k : Nat) (m : MainSample) : State :=
  (slotsOf m).foldl (fun s (ib : Nat × Nat) =>
    let iy : Nat × Int := (ib.1, sinc3 (getN (s.senseCfg k) 8 2) ib.2)
    let hit := decide (19 * (2147483648 : Int) ≤ 20 * iy.2.natAbs)
    let s := if iy.1 = 4 then s.modSense k fun y => { y with udcOver := hit } else s
    if hit && (getN (s.senseCfg k) 0 1).testBit iy.1 then
      let (v, s) := s.raiseV 0x8314 1 k (le 1 (dsInput k iy.1) ++ le 1 0 ++ leI 2 (toFix 16 0 ((iy.2 : Rat) / 32768)))
      if iy.1 = 4 then (match v with
        | some _ => s.udcFail k 0x8314
        | none => s.modSense k fun y => { y with udcLost := true })
      else s
    else s) s

/-- The sum check of a main sample (R183); not made on the sensors of a degraded stack. -/
def State.sumCheck (s : State) (k : Nat) : State :=
  let x := (s.stack k).sense
  let d := s.senseCfg k
  let sum := x.iU + x.iV + x.iW
  if x.failed.isSome then s
  else if absR sum * 65536 ≤ (getN d 80 2 : Rat) * getN d 16 4 then
    s.modSense k fun y => { y with sumBad := 0, sumMax := 0, sumFailed := false }
  else
    let n := x.sumBad + 1
    let s := s.modSense k fun y => { y with sumBad := n, sumMax := larger y.sumMax sum, sumFailed := y.sumFailed || decide (getN d 77 1 ≤ n) }
    if n = getN d 77 1 then s.disagree k else s

/-- The values of a stack from the windows of a sample (R175, R177, R190). -/
def Sense.deliver (y : Sense) (d : Bytes) (tc ts : Tick) (m : MainSample) : Sense :=
  let n := getN d 8 2
  let ph := getN d 16 4
  let cor := fun (i : Nat) => y.correction i tc
  { y with tc := tc, ts := ts, fresh := true,
           iU := physical ph (sinc3 n m.u) (cor 0).1 (cor 0).2,
           iV := physical ph (sinc3 n m.v) (cor 1).1 (cor 1).2,
           iW := physical ph (sinc3 n m.w) (cor 2).1 (cor 2).2,
           iDc := physical (getN d 20 4) (sinc3 n m.idc) (cor 3).1 0,
           uDc := physical (getN d 24 4) (sinc3 n m.udc) (getI d 60 4) 0,
           gen := physical (getN d 28 4) (sinc3 n m.gen) 0 0 }

/-- The outer-loop cycle that the sample of the time-base stack at its carrier zero begins (R219): every OUTER_DIV-th control cycle from T0, 2 µs after t_s, with
the latch of POS_PORT of that t_s. -/
def State.outerBegin (s : State) (k tc ts : Nat) : State :=
  let p := s.motion.posPort
  if (s.sinceZero k tc / s.carrierP k) % (max 1 (s.cu 0x0014 2 1) : Nat) = 0 then
    s.modMotion fun m => { m with outerAt := some (ts + usTicks 2), outerRec := if p ≤ 5 then some (s.fbPort p).latch else none }
  else s

/-- The control cycle that the sample of the time-base stack at its carrier zero begins (R219, R345): the latches of the ports at its t_s, its outer-loop cycle, and
its axis cycle, which follows the outer-loop cycle or starts 2 µs after t_s. -/
def State.cycleBegin (s : State) (k tc ts : Nat) : State :=
  if k ≠ s.timeBase ∨ !s.zeroAt k tc then s else
  let s := (List.range 6).foldl (fun (s : State) n => s.modFb n fun p => { p with base := p.latch, baseAt := ts }) s
  let s := (s.modMotion fun m => { m with outerAt := none }).outerBegin k tc ts
  s.modAux fun a => { a with cycleAt := if s.motion.outerAt.isSome then none else some (ts + usTicks 2) }

/-- DECIMATED_SAMPLE (R175 to R177, R179, R183, R187, R231): `t` is the t_s of a sample centre; the values of the stack, its checks, the latches of the ports,
and the outer-loop cycle that begins. -/
def execDecimatedSample (t : Tick) (k : Fin 4) (m : MainSample) (s : State) : Host.Outcome State Fault Refusal :=
  let s := s.upTo t
  .next <| if !(s.sealedCfg.isSome && s.enabled k && s.awake) then s
    else match s.centreOf k t, winCentre (getN (s.senseCfg k) 8 2) t with
      | some tc, some e =>
        let s := s.modSense k fun y => y.deliver (s.senseCfg k) tc t m
        let s := (((s.calSample k e tc m).unstick k e m).overRange k m).sumCheck k
        (s.fbLatchAll k t tc).cycleBegin k tc t
      | _, _ => s

/-- The phase a switching state exposes and the sign of its current (R180), none for a zero vector. -/
def vecPhase (v : BitVec 3) : Option (Fin 3 × Int) := match v.toNat with
  | 1 => some (0, 1) | 2 => some (1, 1) | 4 => some (2, 1)
  | 6 => some (0, -1) | 5 => some (1, -1) | 3 => some (2, -1)
  | _ => none

/-- A complete reconstructed set from two phases (R180): the third is minus their sum. -/
def recComplete (a b : Nat × Rat) : Rat × Rat × Rat :=
  let at' := fun (i : Nat) => if i = a.1 then a.2 else if i = b.1 then b.2 else -(a.2 + b.2)
  (at' 0, at' 1, at' 2)

/-- The pair check of a usable vector (R183) whose DC-link current equals `sg` times the phase current: a difference above CHK_WIN counts, with its sign
relative to i_rec (R184); an agreeing pair feeds the fit (R187). (DEDUCED, assumption 114.) -/
def State.pairCheck (s : State) (k : Nat) (x : Fin 3) (sg : Int) (phase rec' : Rat) : State :=
  let d := s.senseCfg k
  let y := (s.stack k).sense
  let diff := phase - rec'
  let s := s.modSense k fun z => { z with exposed := vmod z.exposed x fun _ => some s.time }
  if absR diff * 65536 ≤ (getN d 78 2 : Rat) * getN d 16 4 then
    let s := s.modSense k fun z =>
      { z with pairBad := vmod z.pairBad x fun _ => 0, pairMax := vmod z.pairMax x fun _ => 0, suspect := z.suspect &&& ~~~(1#3 <<< x.val) }
    let en := getN d 72 1
    if y.idcCal && (en.testBit 1 || en.testBit 2) && !s.obsBusy (machineOf s.arrange k) then
      let spread : Rat := (getN d 76 1 : Rat) / 256 * getN d 16 4
      s.modCal k x fun c => if c.ofsRun || c.gainRun then { c with sums := c.sums.add rec' diff spread } else c
    else s
  else
    let n := vget y.pairBad x 0 + 1
    let hit := decide (getN d 77 1 ≤ n)
    let s := s.modSense k fun z =>
      { z with pairBad := vmod z.pairBad x fun _ => n, signs := vmod z.signs x fun _ => sg * sgnR diff,
               pairMax := vmod z.pairMax x fun b => larger b diff,
               suspect := if hit then z.suspect ||| (1#3 <<< x.val) else z.suspect }
    if n = getN d 77 1 then s.disagree k else s

/-- The window of a reconstruction (R178, R180): it starts at the first DSCK edge T_SETTLE after the vector start; its centre, and the tick of its result. -/
def recWindow (d : Bytes) (start : Tick) : Tick × Tick :=
  let n := getN d 10 2
  let w := (start + getN d 12 2 + 4) / 5 * 5
  (w + 5 * winBefore n, w + 5 * winBefore n + 5 * (winAfter n + 3))

/-- What governs the half-period of stack `k` that `t` lies in. -/
def State.halfSet (s : State) (k t : Nat) : HalfSet := if s.falling k t then (s.stack k).fe.fall else (s.stack k).fe.rise

/-- A reconstructed value joins the one before it to a complete set where both come from the same half-period (R180): treated as sampled midway between the two
windows (R185). -/
def Sense.addRec (z : Sense) (x : Nat) (irec : Rat) (tc : Tick) (half : Int) : Sense :=
  { z with recPrev := some (x, irec, tc, half),
           recSet := match z.recPrev with
             | some (p, v, u, h) =>
               if p ≠ x ∧ h = half then
                 let c := recComplete (p, v) (x, irec)
                 some (c.1, c.2.1, c.2.2, (u + tc) / 2)
               else z.recSet
             | none => z.recSet }

/-- OVERCURRENT of phase currents in mA (R217): each phase above I_TRIP. -/
def State.tripPhases (s : State) (k : Nat) (l : List (Nat × Rat)) : State :=
  l.foldl (fun s (p : Nat × Rat) =>
    if (s.cu (0x10 + k) 24 4 : Rat) < absR p.2 then s.raise 0x8320 1 k (le 1 p.1 ++ zeros 3 ++ leI 4 (satI 4 (roundR p.2))) else s) s

/-- OVERCURRENT of a reconstructed sample in degraded mode (R217): the exposed phase, and with a complete set the third one. -/
def State.recTrip (s : State) (k x : Nat) (irec : Rat) (tc : Tick) (old : Option (Nat × Rat × Tick × Int)) : State :=
  let y := (s.stack k).sense
  if y.failed.isNone then s
  else match old with
    | some (p, v, _, h) =>
      if p ≠ x ∧ h = s.halfIndex k tc then s.tripPhases k [(x, irec), (3 - p - x, -(v + irec))] else s.tripPhases k [(x, irec)]
    | none => s.tripPhases k [(x, irec)]

/-- A usable active vector (R180, R183): the phase current, its pair check, and the overcurrent check of degraded mode. -/
def State.recValue (s : State) (k : Nat) (e start : Tick) (x : Fin 3) (sg : Int) (m : RecSample) : State :=
  let d := s.senseCfg k
  let n := getN d 10 2
  let y := (s.stack k).sense
  let irec := (sg : Rat) * physical (getN d 20 4) (sinc3 n m.idc) (y.correction 3 e).1 0
  let bits := if x = 0 then m.u else if x = 1 then m.v else m.w
  let phase := physical (getN d 16 4) (sinc3 n bits) (y.correction x e).1 (y.correction x e).2
  let s := s.modSense k fun z => z.addRec x irec e (s.halfIndex k start)
  let s := if y.failed = some x then s else s.pairCheck k x sg phase irec
  s.recTrip k x irec start y.recPrev

/-- RECONSTRUCTION_SAMPLE (R178, R180, R181, R183, R185, R207): `t` is the tick of the result; a usable active vector of a half-period that reconstructs gives one
phase current and its pair check; a zero vector gives data for the DC-link offset (R187). -/
def execReconstructionSample (t : Tick) (k : Fin 4) (m : RecSample) (s : State) : Host.Outcome State Fault Refusal :=
  let s := s.upTo t
  let d := s.senseCfg k
  let w := recWindow d m.start
  .next <| if !(s.sealedCfg.isSome && s.enabled k && s.awake && (s.stack k).switching) || (s.stack k).sense.dcFailed ||
      decide (m.lasts < minVector d) || w.2 != t then s
    else match vecPhase m.vec with
      | none =>
        if (getN d 72 1).testBit 0 && !s.obsBusy (machineOf s.arrange k) then
          s.modCal k 3 fun c => if c.ofsRun then { c with sums := c.sums.add 0 (sinc3 (getN d 10 2) m.idc : Rat) 1 } else c
        else s
      | some (x, sg) => if (s.halfSet k m.start).gives then s.recValue k w.1 m.start x sg m else s

/-! ### Calibration (R188 to R190, R193, R198) -/

/-- OFS_INIT of an input of a stack. -/
def ofsInit (d : Bytes) (i : Nat) : Int := getI d (32 + 4 * i) 4
/-- GAIN_INIT of a phase input of a stack; the DC-link input has no gain. -/
def gainInit (d : Bytes) (i : Nat) : Int := if i < 3 then getI d (48 + 4 * i) 4 else 0

/-- An accepted target of the DC-link offset calibrates it (R187). -/
def State.calDone (s : State) (k i : Nat) : State := if i = 3 then s.modSense k fun y => { y with idcCal := true } else s

/-- One new target of a stack's input (R189): refused outside its window, else applied, which calibrates the DC-link offset (R187); kind 0 offset, 1 gain. -/
def State.calTarget (s : State) (k i kind : Nat) (tgt : Int) : State :=
  let d := s.senseCfg k
  let init := if kind = 0 then ofsInit d i else gainInit d i
  let win := 32768 * getN d (if kind = 0 then 64 else 66) 2
  let data := le 1 i ++ le 1 kind ++ zeros 2 ++ leI 4 tgt
  if win < (tgt - init).natAbs then
    (s.modCal k i fun c => if kind = 0 then { c with ofsRun := false, ofsTgt := c.ofs } else
      { c with gainRun := false, gainTgt := c.gain }).raise 0x8316 1 k data
  else
    ((s.calDone k i).modCal k i fun c => if kind = 0 then { c with ofsTgt := tgt } else { c with gainTgt := tgt }).info 0x8315 1 k data

/-- The fit of one phase at the end of a period (R188). -/
def State.calFit (s : State) (k i : Nat) : State :=
  let d := s.senseCfg k
  let c := (s.stack k).sense.input i
  let q := c.sums
  let en := getN d 72 1
  let n : Rat := q.n
  let fsPh : Rat := getN d 16 4
  let det := n * q.sxx - q.sx * q.sx
  let withGain := c.gainRun && en.testBit 2 && decide (q.n ≤ 4 * q.hi) && decide (q.n ≤ 4 * q.lo) && decide (det ≠ 0)
  let g := if withGain then (n * q.sxd - q.sx * q.sd) / det else 0
  let o := (q.sd - g * q.sx) / n
  let s := if c.ofsRun && en.testBit 1 then s.calTarget k i 0 (satI 4 (c.ofs + roundR (o / fsPh * fsSteps))) else s
  let one : Rat := 1 + (c.gain : Rat) / fsSteps
  if withGain then s.calTarget k i 1 (toFix 32 31 (one / (1 + g / one) - 1)) else s

/-- The end of a period for one input of a stack (R188): where one period holds several kinds of data, pairs or zero-vector data go before data at rest;
CAL_INSUFFICIENT. (DESIGN CHOICE, assumption 116.) -/
def State.calInput (s : State) (k i : Nat) : State :=
  let d := s.senseCfg k
  let en := getN d 72 1
  let x := (s.stack k).sense
  let c := x.input i
  let rest := fun (s : State) =>
    if c.ofsRun ∧ 0 < c.rest.n then s.calTarget k i 0 (satI 4 (roundR (c.rest.sd / c.rest.n))) else s
  let s :=
    if i = 3 then
      if c.ofsRun ∧ 0 < c.sums.n then
        s.calTarget k i 0 (satI 4 (roundR (c.sums.sd / c.sums.n)))
      else rest s
    else if (c.ofsRun || c.gainRun) && (en.testBit 1 || en.testBit 2) then
      if getN d 74 2 ≤ c.sums.n then s.calFit k i
      else (rest s).info 0x8317 1 k (le 1 i ++ le 1 0 ++ le 2 (satN 2 c.sums.n))
    else rest s
  s.modCal k i fun c => { c with sums := {}, rest := {} }

/-- The window and slew of the shunts (R193): of SENSE 0. -/
def State.auxCal (s : State) (n : Nat) : State :=
  let d := s.senseCfg 0
  [0, 1].foldl (fun s i =>
    let c := vget (s.axis n).cal i {}
    let s := if c.ofsRun ∧ 0 < c.sums.n then
        let tgt := satI 4 (roundR (c.sums.sd / c.sums.n))
        let data := le 1 (0x20 + 2 * n + i) ++ le 1 0 ++ zeros 2 ++ leI 4 tgt
        if 32768 * getN d 84 2 < tgt.natAbs then
          (s.modAxis n fun a => { a with cal := vmod a.cal i fun c => { c with ofsRun := false, ofsTgt := c.ofs } }).raise 0x8316 2 0 data
        else (s.modAxis n fun a => { a with cal := vmod a.cal i fun c => { c with ofsTgt := tgt } }).info 0x8315 2 0 data
      else s
    s.modAxis n fun a => { a with cal := vmod a.cal i fun c => { c with sums := {} } }) s

/-- CAL_T in ticks (R188, R197). -/
def calTicks (d : Bytes) : Tick := msTicks (1000 * getN d 73 1)

/-- CAL_PERIOD_END (R188, R193): once CAL_T has passed since the period began; the shunts use CAL_T of SENSE 0. (DESIGN CHOICE, assumption 116.) -/
def execCalPeriodEnd (t : Tick) (target : CalTarget) (s : State) : Host.Outcome State Fault Refusal :=
  let s := s.upTo t
  .next <| if !(s.sealedCfg.isSome && s.awake) then s else
    match target with
    | .stack k =>
      if s.enabled k ∧ (s.stack k).sense.calFrom + calTicks (s.senseCfg k) ≤ t then
        ([3, 0, 1, 2].foldl (fun s i => s.calInput k i) s).modSense k fun y => { y with calFrom := t }
      else s
    | .axis n =>
      if s.axEn n ∧ (s.axis n).calFrom + calTicks (s.senseCfg 0) ≤ t then (s.auxCal n).modAxis n fun a => { a with calFrom := t } else s

/-- One slew of a correction (R190): the new value and the part of a step carried forward. -/
def slew (cur tgt : Int) (rem allow : Rat) : Int × Rat :=
  let a := allow + rem
  let d := tgt - cur
  if (d.natAbs : Rat) ≤ a then (tgt, 0)
  else
    let n := a.floor
    (if d < 0 then cur - n else cur + n, a - n)

/-- The corrections of a stack at a carrier zero (R190, R198). -/
def State.calSlew (s : State) (k : Nat) : State :=
  let d := s.senseCfg k
  let dt : Rat := ((s.time - (s.stack k).sense.lastZero : Nat) : Rat) / 100000000
  let ofsA : Rat := (getN d 68 2 : Rat) * 32768 * dt
  let gainA : Rat := (getN d 70 2 : Rat) * 32768 * dt
  s.modSense k fun y =>
    { y with lastZero := s.time,
             cal := Vector.ofFn fun i : Fin 4 =>
               let c := y.cal[i]
               let (o, orem) := if c.restore % 2 = 1 then (ofsInit d i, 0) else slew c.ofs c.ofsTgt c.ofsRem ofsA
               let (g, grem) := if c.restore / 2 % 2 = 1 then (gainInit d i, 0) else slew c.gain c.gainTgt c.gainRem gainA
               { c with ofs := o, ofsRem := orem, gain := g, gainRem := grem, restore := 0, ofsOld := c.ofs, gainOld := c.gain,
                        ofsTgt := if c.restore % 2 = 1 then o else c.ofsTgt,
                        gainTgt := if c.restore / 2 % 2 = 1 then g else c.gainTgt } }

/-- The corrections of a stack at SEAL (R198): the initial values, every kind enabled in CAL_EN started. -/
def calStart (d : Bytes) : Vector CalInput 4 :=
  let en := getN d 72 1
  Vector.ofFn fun i : Fin 4 =>
    { ofs := ofsInit d i, gain := gainInit d i, ofsOld := ofsInit d i, gainOld := gainInit d i, ofsTgt := ofsInit d i, gainTgt := gainInit d i,
      ofsRun := en.testBit 3 || en.testBit (if i.val = 3 then 0 else 1), gainRun := i.val != 3 && en.testBit 2 }

/-- CALIBRATION (R198). A stopped axis is one in OFF, HOLD or FAULT; start resumes what R185 or R186 stopped as well. (DESIGN CHOICE, assumption 117.) -/
def opCalibration (p : Bytes) (s : State) : Rep :=
  let tg := getN p 0 1
  let act := getN p 1 1
  let kind := getN p 2 1
  let ax := decide (16 ≤ tg)
  let n := tg % 16
  if !(decide (tg < 4) || (decide (16 ≤ tg) && decide (tg < 20))) || decide (2 < act) || decide (3 < kind) || getN p 3 1 != 0 then
    .no s eRange
  else if act = 2 ∧ !(if ax then (s.axis n).state == 0 || (s.axis n).state == 1 || (s.axis n).state == 6 else s.inPulseOff n) then
    .no s eState
  else
    let en := getN (s.senseCfg (if ax then 0 else n)) 72 1
    let f := fun (i : Nat) (c : CalInput) =>
      let ko := kind.testBit 0
      let kg := kind.testBit 1 && !ax && i != 3
      match act with
      | 0 => { c with sums := {}, rest := {}, ofsTgt := if ko then c.ofs else c.ofsTgt, gainTgt := if kg then c.gain else c.gainTgt,
                      ofsRun := c.ofsRun && !ko, gainRun := c.gainRun && !kg }
      | 1 =>
        { c with sums := {}, rest := {},
                 ofsRun := c.ofsRun || (ko && (ax || en.testBit 3 || en.testBit (if i = 3 then 0 else 1))),
                 gainRun := c.gainRun || (kg && en.testBit 2) }
      | _ => { c with restore := c.restore ||| (b2n ko + 2 * b2n kg) }
    .ok <| if ax then s.modAxis n fun a => { a with cal := Vector.ofFn fun i : Fin 2 => f i a.cal[i] }
      else s.modSense n fun y => { y with cal := Vector.ofFn fun i : Fin 4 => f i y.cal[i] }

/-- A payload whose ACTION byte is the row's. -/
def withAction (at' a : Nat) (p : Bytes) : Bytes := if at' < p.length then putB p at' (le 1 a) else p

/-- CALIBRATION with ACTION stop. -/
def execCalibrationStop (t : Tick) (c : Source) (q : Nat) (p : Bytes) (s : State) : Host.Outcome State Fault Refusal :=
  let p := withAction 1 0 p
  runOp t c 0x0308 q p (opCalibration p) s
/-- CALIBRATION with ACTION start. -/
def execCalibrationStart (t : Tick) (c : Source) (q : Nat) (p : Bytes) (s : State) : Host.Outcome State Fault Refusal :=
  let p := withAction 1 1 p
  runOp t c 0x0308 q p (opCalibration p) s
/-- CALIBRATION with ACTION restore. -/
def execCalibrationRestore (t : Tick) (c : Source) (q : Nat) (p : Bytes) (s : State) : Host.Outcome State Fault Refusal :=
  let p := withAction 1 2 p
  runOp t c 0x0308 q p (opCalibration p) s

/-! ### The SAR converters (R194 to R196)

Inputs of the request list: 0 to 5 sin/cos of a port, 6 SREF, 16 to 23 the shunts, 32 VAUXS in mV, 33 a rail monitor, 34 the reference check, 40 to 43
NTC0 to NTC3 in µV, 44 to 47 PT0 to PT3 in mΩ. -/

/-- Whether a request goes before another: class, then sin/cos, then age (R195). -/
def SarReq.before (a b : SarReq) : Bool :=
  if a.cls = b.cls then decide (a.at_ < b.at_) else decide (a.cls < b.cls)

/-- The request a converter starts at a slot boundary at tick `now`: the oldest of the highest class pending. -/
def nextReq (now : Tick) (l : List SarReq) : Option SarReq :=
  (l.filter fun r => decide (r.at_ ≤ now)).foldl (fun best r => match best with
    | none => some r
    | some b => if r.before b then some r else some b) none

/-- The state with one converter changed. -/
def State.modSar (s : State) (conv : SarConverter) (f : Sar → Sar) : State := match conv with
  | .a => { s with sarA := f s.sarA }
  | .b => { s with sarB := f s.sarB }

/-- A request put to a converter (R194). -/
def State.sarRequest (s : State) (conv : SarConverter) (r : SarReq) : State :=
  s.modSar conv fun x => { x with pending := x.pending ++ [r] }

/-- A sin/cos pair requested on both converters at t_c (R194). -/
def State.sarPair (s : State) (n : Nat) (tc : Tick) : State :=
  (s.sarRequest .a { cls := 0, input := n, at_ := tc }).sarRequest .b { cls := 0, input := n, at_ := tc }

end Sys2Proof.Machine
end

