-- ==== Sys2Proof/Machine/Axes.lean ====
section
/-! DEFINITION. The auxiliary axes and their half-bridges (R166 to R171, R192, R193, R344 to R368): profiles, gearing, homing,
switches, the stepper choppers and the current loops of BLDC and brushed DC axes. -/
namespace Sys2Proof.Machine

/-! ### Configuration -/

/-- AXIS n in force. -/
def State.axCfg (s : State) (n : Nat) : Bytes := s.cfg (0x70 + n)
/-- TYPE of an axis: 0 stepper, 1 BLDC, 2 brushed DC. -/
def State.axType (s : State) (n : Nat) : Nat := getN (s.axCfg n) 0 1
/-- A flag of byte 1: 0 INV, 1 ADV_EN, 2 HOME_DIR, 3 REV_SEARCH, 4 LIM_EN, 5 HOME_EN. -/
def State.axBit (s : State) (n b : Nat) : Bool := (getN (s.axCfg n) 1 1).testBit b
/-- The half-bridges a type uses (R3). -/
def usedHb (ty : Nat) : Nat := match ty with | 0 => 4 | 1 => 3 | _ => 2
/-- The drive pair's control cycle in seconds. -/
def State.cycleS (s : State) : Rat := (s.ctrlCycle : Rat) / 100000000

/-! ### Half-bridge outputs (R168 to R171, R348, R350) -/

/-- The half-bridge outputs of a stepper bridge (R348): the diagonal of the sign in the on-phase, the opposite one in fast decay,
both low sides in slow decay. (DESIGN CHOICE, assumption 73.) -/
def bridgeOut (b : Bridge) (fast now : Nat) (leg : Nat) (small : Bool) : Bool × Bool :=
  let dia := fun (flip : Bool) => if ((decide (0 ≤ b.set) != flip) == (leg == 0)) then (true, false) else (false, true)
  if small then (false, true)
  else if b.onPhase then dia false
  else if now < b.offAt + fast then dia true
  else (false, true)

/-- DT_AUX of an axis in ticks (R167, R172), never below the interlock's 100 ns. -/
def State.dtAux (s : State) (n : Nat) : Tick := max 10 (s.cu 0x24 (8 * n + 2) 1)
/-- REFRESH_W of an axis in ticks (R168). -/
def State.refreshW (s : State) (n : Nat) : Tick := s.cu 0x24 (8 * n + 3) 1

/-- Half-bridge `i` now. -/
def State.hbNow (s : State) (i : Nat) : HalfBridge := (vget s.aux.hb i {}).at (s.refreshW (i / 4)) s.time

/-- The state with half-bridge `i` changed from what it is now. -/
def State.modHb (s : State) (i : Nat) (f : HalfBridge → HalfBridge) : State :=
  s.modAux fun x => { x with hb := vmod x.hb i fun h => f (h.at (s.refreshW (i / 4)) s.time) }

/-- FAST_FRAC of TOFF in ticks (R348). -/
def State.fastDecay (s : State) (n : Nat) : Tick := getN (s.axCfg n) 21 1 * getN (s.axCfg n) 20 1 * 50 / 16

/-- The switches of a leg as its axis calls for them at a tick: none without drive or in FAULT, the low side in precharge. (DESIGN CHOICE, assumption 73.) -/
def State.legTarget (s : State) (n leg : Nat) (u : Tick) : Bool × Bool :=
  let a := s.axis n
  let d := s.axCfg n
  let ty := getN d 0 1
  if s.aux.busOv || s.aux.disabled || !s.axEn n || decide (usedHb ty ≤ leg) || a.state == 6 then (false, false)
  else if a.precharge then (false, true)
  else if a.state = 0 ∨ (vget s.aux.hb (4 * n + leg) {}).boot then (false, false)
  else if ty = 0 then
    let b := vget a.bridges (leg / 2) {}
    bridgeOut b (s.fastDecay n) u (leg % 2) (decide (absR b.set * 100 < getN d 12 2))
  else
    let du := vget a.duties leg 0
    (decide (0 < du), decide (du = 0))

/-- A half-bridge driven to what its axis calls for (R167); in fast decay the change to slow decay is planned (R348). -/
def State.hbDriven (s : State) (i : Nat) : HalfBridge :=
  let n := i / 4
  let o := s.legTarget n (i % 4) s.time
  let h := (vget s.aux.hb i {}).command (s.refreshW n) (s.dtAux n) s.time o.1 o.2
  let b := vget (s.axis n).bridges (i % 4 / 2) {}
  let u := b.offAt + s.fastDecay n
  let o' := s.legTarget n (i % 4) u
  if s.axType n = 0 ∧ !b.onPhase ∧ s.time < u ∧ o' ≠ o then h.later (s.dtAux n) u o'.1 o'.2 else h

/-- The outputs of one axis from what it is doing. (DESIGN CHOICE, assumption 73.) -/
def State.axOut (s : State) (n : Nat) : State :=
  s.modAux fun x => { x with hb := Vector.ofFn fun i : Fin 16 => if i.val / 4 ≠ n then x.hb[i] else s.hbDriven i }

/-- The outputs of every axis. -/
def State.axOutAll (s : State) : State := [0, 1, 2, 3].foldl (fun s n => s.axOut n) s

/-- The commanded speed of an axis has changed or not (R347). -/
def Axis.setSpeed (a : Axis) (v acc : Rat) (now : Tick) : Axis :=
  { a with speed := v, acc := acc, lastChg := if v = a.speed then a.lastChg else now, hold := a.hold && decide (v = a.speed) }

/-- The speed of a geared axis (R347, R358): what a cycle moved it from the position `p`. -/
def State.gearSpeed (s : State) (n : Nat) (p : Int) : State :=
  s.modAxis n fun a => a.setSpeed (((a.ppos - p : Int) : Rat) / 4294967296 / s.cycleS) a.acc s.time

/-! ### Gearing (R356 to R359) -/

/-- R(m): r_a before the event point, r_b after the ramp, linear between. -/
def Axis.ratioAt (a : Axis) (m : Int) : Int :=
  let x := a.d * (m - a.p0)
  if x < 0 then a.ra
  else if (a.l : Int) ≤ x then a.rb
  else a.ra + roundR (((a.rb - a.ra) * x : Int) / (a.l : Rat))

/-- G(x) of R356. -/
def gearG (l : Nat) (x : Int) : Int :=
  if l = 0 then max x 0 else if x ≤ 0 then 0 else if x ≤ l then x * x else 2 * l * x - l * l

/-- One section of master travel from `m` to `m'` (R356): the accumulators and the steps it adds to the commanded count. -/
def Axis.section (a : Axis) (m m' : Int) : Axis :=
  let two : Int := if a.l = 0 then 1 else 2 * a.l
  let num := a.gnum + a.d * (a.rb - a.ra) * (gearG a.l (a.d * (m' - a.p0)) - gearG a.l (a.d * (m - a.p0)))
  let acc := a.gacc + a.ra * (m' - m) + num.fdiv two
  let step := acc.fdiv 16777216
  { a with gnum := num.fmod two, gacc := acc.fmod 16777216, ppos := a.ppos + step * 4294967296 }

/-- The function of an event fired at a point (R356, R359). -/
def Axis.fire (a : Axis) (p : Int) (e : GearEv) : Axis :=
  { a with ra := a.ratioAt p, rb := e.ratio, p0 := p, l := e.ramp, d := e.dir }

/-- GEAR_FIRED (R369). (DESIGN CHOICE, assumption 71.) -/
def State.gearFired (s : State) (n : Nat) (late p0 : Int) : State :=
  s.info 0x8608 2 0 (le 1 n ++ le 1 0 ++ leI 2 (satI 2 late) ++ leI 4 p0)

/-- A queued event taken at its point: the travel up to it, then the new ratio. -/
def Axis.takeEvent (a : Axis) (m : Int) (e : GearEv) : Axis :=
  let b := (a.section m e.point).fire e.point e
  { b with queue := a.queue.erase e }

/-- The master travel from `m` to `m'` with the events reached on the way, in the order of the travel. -/
def State.gearTravel (s : State) (n : Nat) (m m' : Int) (evs : List GearEv) : State :=
  let r := evs.foldl (fun (x : State × Int) e => ((x.1.modAxis n fun a => a.takeEvent x.2 e).gearFired n 0 e.point, e.point)) (s, m)
  r.1.modAxis n fun a => a.section r.2 m'

/-- The queued events the travel reaches, in its order (R359). -/
def reached (q : List GearEv) (m m' : Int) : List GearEv :=
  let dir : Int := if m' < m then -1 else 1
  (q.filter fun e => e.dir == dir && decide (0 < dir * (e.point - m)) && decide (0 ≤ dir * (m' - e.point))).mergeSort
    fun x y => decide (dir * x.point ≤ dir * y.point)

/-- The master's part of an axis cycle: what it moved, with the gear travel of a geared axis (R356, R359, R365). -/
def State.gearCycle (s : State) (n : Nat) : State :=
  let a := s.axis n
  let port := getN (s.axCfg n) 4 1
  if 5 < port then s else
  let m' := (s.fbPort port).base.count
  let d := m' - a.mLast
  let note := fun (s : State) => s.modAxis n fun a =>
    { a with mLast := m', mDir := if d = 0 then a.mDir else if d < 0 then -1 else 1 }
  if a.state ≠ 3 then note s
  else if (s.fbPort port).state = 4 then
    note ((s.raise 0x8609 2 0 (le 1 n ++ le 1 0)).stopAxis n false)
  else
    let s := a.imm.foldl (fun (s : State) e => s.gearFired n e.2 e.1.point) s
    let s := s.modAxis n fun a => { a with imm := [] }
    if 2147483648 < d.natAbs then note (s.raise 0x8609 2 0 (le 1 n ++ le 1 1))
    else
      let p := (s.axis n).ppos
      let s := s.gearTravel n a.mLast m' (reached a.queue a.mLast m')
      note (s.gearSpeed n p)

/-! ### Profiles (R353) -/

/-- The distance that a speed without acceleration needs to stop. -/
def stopRest (w d j : Rat) : Rat :=
  if j = 0 then w * w / (2 * d)
  else if d * d / j ≤ w then w * w / (2 * d) + w * d / (2 * j)
  else w * Config.sqrt (w / j)

/-- The distance that a speed with the acceleration `b` needs to stop. -/
def stopDist (w b d j : Rat) : Rat :=
  if j = 0 then stopRest w d j else
  let w0 := w + b * b / (2 * j)
  if 0 ≤ b then w * b / j + b * b * b / (3 * j * j) + stopRest w0 d j
  else maxR 0 (w0 * b / j - b * b * b / (6 * j * j) + stopRest w0 d j)

/-- J_MAX as it limits a cycle: one that cannot bind within the cycle is none. -/
def jerkOf (a d j dt : Rat) : Rat := if a + d ≤ j * dt then 0 else j

/-- The next speed and acceleration on the way to a target speed (R353): away from standstill at most `a`, towards it at most `d`, and with a
jerk limit the greatest acceleration that can still end at the target. (DEDUCED, assumption 69.) -/
def speedStep (v acc tgt a d j dt : Rat) : Rat × Rat :=
  let g : Rat := if tgt < v then -1 else 1
  let x := g * (tgt - v)
  let lim := if g * v < 0 then d else a
  if j = 0 then
    let c := minR lim (x / dt)
    (v + g * c * dt, g * c)
  else
    let b := g * acc
    let st := j * dt
    if decide (x / dt ≤ minR lim st) && decide (absR (x / dt - b) ≤ st) then (tgt, g * (x / dt))
    else
      let fits := fun (c : Rat) => decide (c ≤ lim) && (decide (c ≤ 0) || decide (c * dt + c * c / (2 * j) ≤ x))
      let c := ([minR lim (b + st), b + st / 2, b].find? fits).getD (b - st)
      (v + g * c * dt, g * c)

/-- The next acceleration on the way to a position `r` counts away, and whether it is reached in this cycle (R353): the greatest one from
which the axis can still stop at the target within its limits, else it brakes. (DEDUCED, assumption 69.) -/
def posStep (r v acc vlim a d j dt : Rat) : Rat × Bool :=
  let g : Rat := if r < 0 then -1 else 1
  let w := g * v
  let b := g * acc
  let st := j * dt
  let lim := if w < 0 then d else a
  let halves := (List.range 16).map fun k => 1 / (2 ^ k : Nat)
  let cands := if j = 0 then
      (halves.map fun h : Rat => minR (lim * h) (maxR 0 ((vlim - w) / dt))) ++ [0, maxR (-d) (minR 0 ((vlim - w) / dt))]
    else (halves.map fun h : Rat => minR lim (b + st * h)) ++ [b]
  let ok := fun (c : Rat) =>
    let x := maxR 0 (w + c * dt)
    decide (w + c * dt + (if j = 0 ∨ c ≤ 0 then 0 else c * c / (2 * j)) ≤ vlim) && decide (x * dt + stopDist x c d j ≤ absR r)
  match cands.find? ok with
  | some c => (g * c, false)
  | none =>
    if 0 ≤ w ∧ w ≤ d * dt ∧ absR r ≤ 1 + 2 * d * dt * dt ∧ (j = 0 ∨ (w ≤ 8 * j * dt * dt ∧ absR b ≤ 4 * j * dt)) then (0, true)
    else (g * (if j = 0 then maxR (-d) (-w / dt) else maxR (-d) (b - st)), false)

/-- One cycle of the profile at a speed target (R353). -/
def State.runSpeed (s : State) (n : Nat) (tgt a d : Rat) : State :=
  let dt := s.cycleS
  let x := s.axis n
  let (v, acc) := speedStep x.speed x.acc tgt a d (jerkOf a d (getN (s.axCfg n) 64 4) dt) dt
  s.modAxis n fun x => { x.setSpeed v acc s.time with ppos := x.ppos + (v * dt * 4294967296).floor }

/-- The next acceleration of an axis towards a position in raw counts, and whether it is reached in this cycle. -/
def State.posNext (s : State) (n : Nat) (tgt : Int) (vlim a : Rat) : Rat × Bool :=
  let x := s.axis n
  let d : Rat := getN (s.axCfg n) 60 4
  posStep (((tgt * 4294967296 - x.ppos : Int) : Rat) / 4294967296) x.speed x.acc vlim a d (jerkOf a d (getN (s.axCfg n) 64 4) s.cycleS) s.cycleS

/-- An axis moved for a cycle with the acceleration `c`. -/
def State.axMove (s : State) (n : Nat) (c : Rat) : State :=
  let v := (s.axis n).speed + c * s.cycleS
  s.modAxis n fun x => { x.setSpeed v c s.time with ppos := x.ppos + (v * s.cycleS * 4294967296).floor }

/-- An axis put onto its target in raw counts. -/
def State.reach (s : State) (n : Nat) (tgt : Int) : State :=
  s.modAxis n fun x => { x.setSpeed 0 0 s.time with ppos := tgt * 4294967296 }

/-- One cycle of the profile towards a position in raw counts; true where it is reached. -/
def State.runPos (s : State) (n : Nat) (tgt : Int) (vlim a : Rat) : State × Bool :=
  if (s.posNext n tgt vlim a).2 then (s.reach n tgt, true) else (s.axMove n (s.posNext n tgt vlim a).1, false)

/-! ### Switches and homing (R362 to R364) -/

/-- The place of a switch input: 0 HOME, 1 LIMP, 2 LIMN. -/
def swIx : AxisSwitch → Nat
  | .home => 0 | .limP => 1 | .limN => 2

/-- Whether a switch input counts as active: a faulty one does (R363). -/
def State.swActive (s : State) (n i : Nat) : Bool :=
  let w := vget (s.axis n).sw i {}
  w.active || w.faulty

/-- Whether the limit in a direction is active (R362). -/
def State.limitIn (s : State) (n : Nat) (dir : Int) : Bool :=
  s.axBit n 4 && ((decide (0 < dir) && s.swActive n 1) || (decide (dir < 0) && s.swActive n 2))

/-- An active limit stops the motion towards it (R362). -/
def State.axLimits (s : State) (n : Nat) : State :=
  let a := s.axis n
  let dir := sgnR a.speed
  if (a.state = 2 ∨ a.state = 3 ∨ a.state = 4) ∧ s.limitIn n dir then
    (s.raise 0x8606 2 0 (le 1 n ++ le 1 (if 0 < dir then 0 else 1))).stopAxis n false
  else s

/-- The search direction of a homing (R364). -/
def State.homeDir (s : State) (n : Nat) : Int :=
  let a := s.axis n
  let fwd : Int := if s.axBit n 2 then -1 else 1
  match a.method with
  | 1 => -1
  | 2 => 1
  | _ => if a.hphase = 0 then -fwd else if a.hrev then -fwd else fwd

/-- A homing ends with a result and the axis stops (R364). -/
def State.endHoming (s : State) (n res : Nat) (raw : Int) : State :=
  let s := s.modAxis n fun a => { a with homed := a.homed && res != eHomeLimit }
  ((s.homeDone n res raw).modAxis n fun a => { a with hold := false }).setAx n 5

/-- The home edge latches (R364 step 3). -/
def State.homeLatch (s : State) (n : Nat) (raw : Int) : State :=
  (s.modAxis n fun a => { a with refOfs := wrap64 (getI (s.axCfg n) 72 8 - raw), homed := true }).endHoming n 0 raw

/-- The limits during a homing search (R364 steps 4 and 5); true where the search goes on. -/
def State.homeLimits (s : State) (n : Nat) : State :=
  let a := s.axis n
  let dir := s.homeDir n
  if a.method = 0 ∧ a.hphase = 1 ∧ s.limitIn n dir then
    if !s.axBit n 3 || a.hrev then s.endHoming n eHomeLimit a.raw
    else s.modAxis n fun a => { a with hrev := true }
  else if (a.method = 1 ∨ a.method = 2) ∧ s.axBit n 4 ∧ s.swActive n (if a.method = 1 then 1 else 2) then
    s.endHoming n eHomeLimit a.raw
  else if a.method = 0 ∧ a.hphase = 0 then s.axLimits n
  else s

/-- The raw count of an axis noted with its time where it changed; the last 20 ms are kept, and one before. -/
def Axis.noteRaw (a : Axis) (now : Tick) : Axis :=
  if a.rawLog.head?.map (·.2) = some a.raw then a else
  let l := a.rawLog
  { a with rawLog := (now, a.raw) :: (l.filter fun p => decide (now < p.1 + 2000000)) ++ (l.find? fun p => decide (p.1 + 2000000 ≤ now)).toList }

/-- The raw count of an axis at an earlier time. -/
def Axis.rawAt (a : Axis) (u : Tick) : Int := match a.rawLog.find? fun p => decide (p.1 ≤ u) with
  | some p => p.2
  | none => a.raw

/-- SWITCH_CHANGE (R362 to R365): a level that every sample has shown since `since` becomes the state after DEBOUNCE and latches the raw count of that
first sample; or a chatter event. A home edge ends its search here; the limits act in the axis cycle, behind its gear travel. -/
def execSwitchChange (t : Tick) (n : Fin 4) (input : AxisSwitch) (level stable : Bool) (since : Tick) (s : State) : Host.Outcome State Fault Refusal :=
  let s := s.upTo t
  let i := swIx input
  let d := s.axCfg n
  .next <| if !(s.axEn n && s.awake) then s
    else if !stable then
      let w := vget (s.axis n).sw i {}
      let l := s.time :: w.chatter.filter fun u => decide (s.time - u ≤ msTicks (getN d 82 2))
      let bad := decide (getN d 81 1 < l.length) && !w.faulty
      let s := s.modAxis n fun a => { a with sw := vmod a.sw i fun w => { w with chatter := l, faulty := w.faulty || bad } }
      if bad then s.raise 0x8607 2 0 (le 1 n ++ le 1 i) else s
    else if t < since + 10000 * getN d 80 1 then s
    else
      let raw := (s.axis n).rawAt since
      let s := s.modAxis n fun a => { a with sw := vmod a.sw i fun w => { w with active := level, latched := raw, stamp := s.time } }
      let a := s.axis n
      let home : Nat := match a.method with | 1 => 2 | 2 => 1 | _ => 0
      let s := if a.state = 4 then
          if i = home ∧ a.method = 0 ∧ a.hphase = 0 then
            (if level then s else s.modAxis n fun a => { a with hphase := 1 })
          else if i = home ∧ level then s.homeLatch n raw
          else s
        else s
      s.axOut n

/-! ### The commands of an axis -/

/-- The shunts an axis type uses (R192). -/
def usedShunts (ty : Nat) : Nat := if ty = 0 then 2 else 1

/-- A P2 conversion of each shunt of an axis for its offset (R193). -/
def State.measureShunts (s : State) (n : Nat) : State :=
  (List.range (usedShunts (s.axType n))).foldl (fun (s : State) i =>
    s.sarRequest (if i = 0 then .a else .b) { cls := 2, input := 16 + 2 * n + i, at_ := s.time }) s

/-- Whether all half-bridges of an axis have been off for 20 µs (R193). -/
def State.axQuiet (s : State) (n : Nat) : Bool :=
  [0, 1, 2, 3].all fun i =>
    let h := s.hbNow (4 * n + i)
    let past := fun (o : Option Tick) => match o with | some u => decide (u + usTicks 20 ≤ s.time) | none => true
    !h.hi && !h.lo && h.plan.isEmpty && past h.hiOff && past h.loOff

/-- An axis begins to be energised (R169, R193): its shunt offsets are measured first, then the low sides precharge the bootstraps, and it enters `next`
afterwards; a motor with a position port starts its commanded position where it stands. (DESIGN CHOICE, assumption 70.) -/
def State.axStart (s : State) (n next : Nat) : State :=
  (s.measureShunts n).modAxis n fun a =>
    { a with next := some next, measure := usedShunts (s.axType n),
             ppos := if s.axType n = 0 then a.ppos else a.raw * 4294967296 }

/-- An axis enters a state, through precharge from OFF (R169, R346). -/
def State.axGo (s : State) (n next : Nat) : State := if (s.axis n).state = 0 then s.axStart n next else s.setAx n next

/-- Whether the pair holds an axis in OFF (R487). -/
def State.pairHolds (s : State) (n : Nat) : Bool := s.pair.state == 2 && (s.cu 0x0081 1 1).testBit n

/-- AXIS_MOVE (R354). (DESIGN CHOICE, assumption 70.) -/
def opAxisMove (p : Bytes) (s : State) : Rep :=
  let n := getN p 0 1
  let kind := getN p 1 1
  let a := s.axis n
  let d := s.axCfg n
  if 3 < n ∨ 3 < kind ∨ getN p 2 2 ≠ 0 ∨ (kind = 2 ∧ getN p 8 4 ≠ 0) ∨ (kind = 3 ∧ getN p 4 8 ≠ 0) then .no s eRange
  else
    let cur := a.ppos.fdiv 4294967296
    let tgt : Int := if kind = 0 then getI p 4 8 - a.refOfs else if kind = 1 then cur + getI p 4 8 else if kind = 2 then getI p 4 4 else 0
    let dir : Int := if kind < 2 then tgt - cur else tgt
    if !s.axEn n || s.pairHolds n || a.state == 3 || a.state == 4 || a.state == 6 || s.limitIn n dir then .no s eState
    else
      let lim := fun (v m : Nat) => if v = 0 then m else min v m
      .ok ((s.modAxis n fun a =>
        { a with kind := kind, target := tgt, vlim := lim (getN p 12 4) (getN d 52 4), alim := lim (getN p 16 4) (getN d 56 4),
                 release := false }).axGo n 2)

/-- AXIS_STOP (R355). -/
def opAxisStop (p : Bytes) (s : State) : Rep :=
  let b := getN p 0 1
  .ok ([0, 1, 2, 3].foldl (fun s n => if b.testBit n then (s.stopAxis n (b.testBit (4 + n))).axOut n else s) s)

/-- AXIS_HOME (R364). (DESIGN CHOICE, assumption 72.) -/
def opAxisHome (p : Bytes) (s : State) : Rep :=
  let n := getN p 0 1
  let m := getN p 1 1
  let a := s.axis n
  let faulty := fun (i : Nat) => (vget a.sw i {}).faulty
  let ready := match m with
    | 0 => s.axBit n 5 && !faulty 0
    | 1 => s.axBit n 4 && !faulty 2
    | 2 => s.axBit n 4 && !faulty 1
    | _ => true
  let fwd : Int := if s.axBit n 2 then -1 else 1
  if 3 < n ∨ 3 < m ∨ getN p 2 2 ≠ 0 then .no s eRange
  else if !s.axEn n || s.pairHolds n || a.state == 3 || a.state == 4 || a.state == 6 || !ready then .no s eState
  else if m = 0 ∧ s.limitIn n fwd ∧ !s.axBit n 3 then
    ⟨eHomeLimit, [], s.modAxis n fun a => { a with homed := false }⟩
  else
    let s := s.modAxis n fun a =>
      { a with method := m, hrev := false, release := false, hphase := if m = 3 then 3 else if m = 0 && s.swActive n 0 then 0 else 1 }
    .ok (if m = 3 then s else s.axGo n 4)

/-- GEAR_SET (R357). (DESIGN CHOICE, assumption 71.) -/
def opGearSet (p : Bytes) (s : State) : Rep :=
  let n := getN p 0 1
  let act := getN p 1 1
  let ratio := getI p 8 8
  let a := s.axis n
  let port := getN (s.axCfg n) 4 1
  if 3 < n ∨ 2 < act ∨ getN p 2 2 ≠ 0 ∨ 2147483647 < getN p 4 4 ∨ ratio < -(2 ^ 47) ∨ 2 ^ 47 ≤ ratio then .no s eRange
  else if !s.axEn n || s.pairHolds n || decide (5 < port) then .no s eState
  else
    let e : GearEv := { point := a.mLast, ratio := ratio, ramp := getN p 4 4, dir := a.mDir }
    match act with
    | 0 => if a.state = 3 then .ok (s.stopAxis n false) else .no s eState
    | 1 =>
      if a.state = 0 ∨ a.state = 1 then
        .ok ((s.modAxis n fun a =>
          { a with ra := 0, rb := ratio, p0 := a.mLast, l := getN p 4 4, d := a.mDir, queue := [], imm := [], release := false }).axGo n 3)
      else .no s eState
    | _ => if a.state = 3 then .ok (s.modAxis n fun a => a.fire a.mLast e) else .no s eState

/-- GEAR_EVENT (R358). (DESIGN CHOICE, assumption 71.) -/
def opGearEvent (p : Bytes) (s : State) : Rep :=
  let n := getN p 0 1
  let fl := getN p 1 1
  let ratio := getI p 16 8
  let pt := getI p 8 8
  let a := s.axis n
  if 3 < n ∨ 1 < fl ∨ getN p 2 2 ≠ 0 ∨ 2147483647 < getN p 4 4 ∨ ratio < -(2 ^ 47) ∨ 2 ^ 47 ≤ ratio then .no s eRange
  else if !s.axEn n || a.state != 3 then .no s eState
  else if decide (8 ≤ a.queue.length) || a.queue.any (·.point == pt) then .no s eRange
  else
    let e : GearEv := { point := pt, ratio := ratio, ramp := getN p 4 4, dir := a.mDir }
    let late := a.mDir * (a.mLast - pt)
    if (getN (s.axCfg n) 84 4 : Int) ≤ -late then
      .ok (s.modAxis n fun a => { a with queue := a.queue ++ [e] }) (leI 8 (if fl = 0 then a.mLast else late))
    else if fl = 0 then
      ⟨eBehind, leI 8 a.mLast, s.modAxis n fun a => { a with behind := satN 2 (a.behind + 1) }⟩
    else
      .ok (s.modAxis n fun a => { a.fire a.mLast e with imm := a.imm ++ [({ e with point := a.mLast }, late)] }) (leI 8 late)

/-- The AXIS_STATUS record (R368). -/
def State.axisRecord (s : State) (n : Nat) : Bytes :=
  let a := s.axis n
  let x := a.d * (a.mLast - a.p0)
  let ramp := a.state == 3 && decide (0 < x) && decide (x < a.l)
  let fl := b2n a.homed + 2 * b2n ramp + 4 * b2n (s.swActive n 1) + 8 * b2n (s.swActive n 2) + 16 * b2n (s.swActive n 0) +
    32 * b2n (a.sw.toList.any (·.faulty)) + 64 * b2n (a.state == 2 && a.kind == 3)
  le 1 n ++ le 1 a.state ++ le 1 fl ++ le 1 a.queue.length ++ leI 8 (a.raw + a.refOfs) ++ leI 4 (satI 4 (roundR a.speed)) ++
    leI 8 (a.ratioAt a.mLast) ++ le 2 a.homeRes ++ le 2 a.behind ++ leI 4 (satI 4 (roundR (if s.axType n = 0 then a.iRef else a.iMeas)))

/-- AXIS_STATUS (R368). -/
def opAxisStatus (p : Bytes) (s : State) : Rep :=
  let n := getN p 0 1
  if 3 < n then .no s eRange else .ok s (s.axisRecord n)

/-- AXIS_MOVE. -/
def execAxisMove (t : Tick) (c : Source) (q : Nat) (p : Bytes) (s : State) := runOp t c 0x0600 q p (opAxisMove p) s
/-- AXIS_STOP. -/
def execAxisStop (t : Tick) (c : Source) (q : Nat) (p : Bytes) (s : State) := runOp t c 0x0601 q p (opAxisStop p) s
/-- AXIS_HOME. -/
def execAxisHome (t : Tick) (c : Source) (q : Nat) (p : Bytes) (s : State) := runOp t c 0x0602 q p (opAxisHome p) s
/-- GEAR_SET with ACTION engage. -/
def execGearEngage (t : Tick) (c : Source) (q : Nat) (p : Bytes) (s : State) : Host.Outcome State Fault Refusal :=
  let p := withAction 1 1 p
  runOp t c 0x0603 q p (opGearSet p) s
/-- GEAR_SET with ACTION disengage. -/
def execGearDisengage (t : Tick) (c : Source) (q : Nat) (p : Bytes) (s : State) : Host.Outcome State Fault Refusal :=
  let p := withAction 1 0 p
  runOp t c 0x0603 q p (opGearSet p) s
/-- GEAR_SET with ACTION set ratio now. -/
def execGearSetRatioNow (t : Tick) (c : Source) (q : Nat) (p : Bytes) (s : State) : Host.Outcome State Fault Refusal :=
  let p := withAction 1 2 p
  runOp t c 0x0603 q p (opGearSet p) s
/-- GEAR_EVENT. -/
def execGearEvent (t : Tick) (c : Source) (q : Nat) (p : Bytes) (s : State) := runOp t c 0x0604 q p (opGearEvent p) s
/-- AXIS_STATUS. -/
def execAxisStatus (t : Tick) (c : Source) (q : Nat) (p : Bytes) (s : State) := runOp t c 0x0605 q p (opAxisStatus p) s

/-! ### The axis cycle (R345, R352, R353) -/

/-- The cyclic speed of an axis in counts/s: AX_CMDn × VMAX while CTRL.AXEN is 1 (R353). -/
def State.axCmd (s : State) (n : Nat) : Rat :=
  match s.owner.bind fun o => (s.port o).cyclic.applied with
  | some p => if (getN p 0 2).testBit 3 then ofQ24 (getI p (32 + 4 * n) 4) * getN (s.axCfg n) 52 4 else 0
  | none => 0

/-- The motion of an axis in its state for one cycle. -/
def State.axMotion (s : State) (n : Nat) : State :=
  let a := s.axis n
  let d := s.axCfg n
  let dmax : Rat := getN d 60 4
  match a.state with
  | 2 =>
    if a.kind < 2 then
      let (s, hit) := s.runPos n a.target a.vlim a.alim
      if hit then s.setAx n 1 else s
    else
      let want := if a.kind = 2 then (a.target : Rat) else s.axCmd n
      let tgt := clampR (-(a.vlim : Rat)) a.vlim want
      let s := s.runSpeed n tgt a.alim dmax
      if a.kind = 2 ∧ tgt = 0 ∧ (s.axis n).speed = 0 then s.setAx n 1 else s
  | 4 =>
    let s := s.homeLimits n
    if (s.axis n).state = 4 then s.runSpeed n ((s.homeDir n : Int) * (getN d 68 4 : Rat)) (getN d 56 4) dmax else s
  | 5 =>
    let s := s.runSpeed n 0 dmax dmax
    if (s.axis n).speed = 0 then (s.modAxis n fun a => { a with release := false }).setAx n (if a.release then 0 else 1) else s
  | _ => s

/-- The position and speed loops of a BLDC or brushed DC axis (R352): AX_FOLLOWING, then I_ref in mA. -/
def State.axCascade (s : State) (n : Nat) : State :=
  let a := s.axis n
  let d := s.axCfg n
  let port := getN d 2 1
  let p : Rat := a.raw
  let cmd : Rat := (a.ppos : Rat) / 4294967296
  if a.state = 0 ∨ a.state = 6 then s.modAxis n fun a => { a with spdInt := 0, curInt := 0, curIntD := 0, iRef := 0 }
  else if (getN d 48 4 : Rat) < absR (cmd - p) then
    s.raise 0x860B 2 0 (le 1 n ++ zeros 3 ++ leI 4 (satI 4 (roundR (cmd - p))))
  else
    let n' : Rat := ((s.fbPort port).base.speed : Rat) / 4294967296 * s.fbCpr port
    let e := (getN d 44 4 : Rat) / 100 * (cmd - p) + a.speed - n'
    let kp : Rat := (getN d 36 4 : Rat) / 65536 / 1000
    let irun : Rat := getN d 12 2
    let int' := a.spdInt + e * s.cycleS
    let raw := kp * (e + int' / ((getN d 40 4 : Rat) / 1000000))
    let lim := clampR (-irun) irun raw
    s.modAxis n fun a => { a with iRef := lim, spdInt := if raw = lim ∨ raw * e < 0 then int' else a.spdInt }

/-- The set points of a stepper (R347) in mA. -/
def State.axSetPoints (s : State) (n : Nat) : State :=
  let a := s.axis n
  let d := s.axCfg n
  let q : Int := 256 / 2 ^ getN d 5 1
  let pos := a.raw.fdiv q * q
  let ang : Rat := (if s.axBit n 0 then -1 else 1) * ((pos % 1024 : Int) : Rat) / 1024
  let i : Rat := if a.state = 0 ∨ a.state = 6 then 0 else if a.hold then getN d 14 2 else getN d 12 2
  s.modAxis n fun a =>
    { a with iRef := i, bridges := Vector.ofFn fun b : Fin 2 =>
        { a.bridges[b] with set := i * (if b = 0 then Config.cosTurn ang else Config.sinTurn ang) } }

/-- The part of one axis in an axis cycle. -/
def State.axCycle (s : State) (n : Nat) : State :=
  if !s.axEn n then s else
  let ty := s.axType n
  let port := getN (s.axCfg n) 2 1
  let s := if ty ≠ 0 ∧ port ≤ 5 then s.modAxis n fun a => { a with raw := (s.fbPort port).base.count } else s
  let s := s.gearCycle n
  let a := s.axis n
  let s := if a.hphase = 3 ∧ a.method = 3 then
      ((s.modAxis n fun a => { a with refOfs := wrap64 (getI (s.axCfg n) 72 8 - a.raw), homed := true, hphase := 1 }).homeDone n 0 a.raw)
    else s
  let s := s.axMotion n
  let s := if (s.axis n).state = 4 then s else s.axLimits n
  let s := if ty = 0 then (s.modAxis n fun a => { a with raw := wrap64 (a.ppos.fdiv 4294967296) }).axSetPoints n else s.axCascade n
  (s.modAxis n fun a => a.noteRaw s.time).axOut n

/-- The supervision samples of a stepper's shunts (R195, R349): class P3, once per axis cycle. (DESIGN CHOICE, assumption 120.) -/
def State.superviseShunts (s : State) (n : Nat) : State :=
  [0, 1].foldl (fun (s : State) i =>
    s.sarRequest (if i = 0 then .a else .b) { cls := 3, input := 16 + 2 * n + i, at_ := s.time }) s

/-- AXIS_CYCLE (R345): one per control cycle, once its outer-loop cycle has swapped the references or 2 µs after t_s. VAUXS is converted for the loops that form duties (R195, P3). -/
def execAxisCycle (t : Tick) (s : State) : Host.Outcome State Fault Refusal :=
  let s := s.upTo t
  .next <| if !(s.awake && s.sealedCfg.isSome && s.aux.cycleAt.any fun u => decide (u ≤ t)) || vget s.integ.halted 0 false then s else
    let s := [0, 1, 2, 3].foldl (fun s n => s.axCycle n) (s.modAux fun a => { a with cycleAt := none })
    let s := [0, 1, 2, 3].foldl (fun (s : State) n => if s.axEn n && s.axType n == 0 then s.superviseShunts n else s) s
    if [1, 2, 3, 0].any (fun n => s.axEn n && s.axType n != 0) && s.sarB.pending.all (·.input != 32) then
      s.sarRequest .b { cls := 3, input := 32, at_ := s.time }
    else s

/-- HOLD_CURRENT_TIMEOUT (R347). (DESIGN CHOICE, assumption 13.) -/
def execHoldCurrentTimeout (t : Tick) (n : Fin 4) (s : State) : Host.Outcome State Fault Refusal :=
  let s := s.upTo t
  let a := s.axis n
  .next <| if s.axEn n && s.axType n == 0 && decide (a.speed = 0) && due (a.lastChg + msTicks (getN (s.axCfg n) 18 2)) t then
      ((s.modAxis n fun a => { a with hold := true }).axSetPoints n).axOut n
    else s

/-! ### Stepper choppers (R348) -/

/-- STEPPER_CHOP_TRIP: after blanking the off-phase starts. -/
def execStepperChopTrip (t : Tick) (n : Fin 4) (b : Fin 2) (s : State) : Host.Outcome State Fault Refusal :=
  let s := s.upTo t
  let br := vget (s.axis n).bridges b {}
  .next <| if s.axEn n && s.axType n == 0 && br.onPhase && decide (br.blankAt + 10 * getN (s.axCfg n) 22 1 ≤ t) then
      (s.modAxis n fun a => { a with bridges := vmod a.bridges b fun x => { x with onPhase := false, offAt := s.time } }).axOut n
    else s

/-- STEPPER_TOFF_END: the next on-phase, never less than 1 / CHOP_FMAX after the start of the last; below 1 % of I_RUN the bridge
stays in slow decay. -/
def execStepperToffEnd (t : Tick) (n : Fin 4) (b : Fin 2) (s : State) : Host.Outcome State Fault Refusal :=
  let s := s.upTo t
  let a := s.axis n
  let br := vget a.bridges b {}
  let d := s.axCfg n
  .next <| if s.axEn n && s.axType n == 0 && decide (1 ≤ a.state) && decide (a.state ≤ 5) && !a.precharge && !br.onPhase &&
      decide (br.offAt + 50 * getN d 20 1 ≤ t) && decide (100000 ≤ (t - br.onAt) * getN d 23 1) then
      let f := fun (x : Bridge) =>
        if absR x.set * 100 < getN d 12 2 then { x with offAt := s.time } else
          { x with onPhase := true, onAt := s.time, blankAt := s.time }
      (s.modAxis n fun a => { a with bridges := vmod a.bridges b f }).axOut n
    else s

/-- REFRESH_SEQUENCE (R168, R348, R352): the high side off, DT_AUX later the low side on for REFRESH_W, after another DT_AUX the high side on, complete
within 40 µs of the last low-side conduction; a stepper's blanking restarts, a PWM axis holds its integrators for the period. -/
def execRefreshSequence (t : Tick) (h : Fin 16) (s : State) : Host.Outcome State Fault Refusal :=
  let s := s.upTo t
  let n := h.val / 4
  let w := s.refreshW n
  let dt := s.dtAux n
  .next <| if (s.hbNow h).hi then
      let u := min s.time ((s.hbNow h).lastLo + 4000 - (2 * dt + w))
      let s := s.modHb h fun y =>
        { y.set w (max u y.lastLo) false false with
          plan := [(u + dt, false, true), (u + dt + w, false, false), (u + 2 * dt + w, true, false)] }
      if s.axType n = 0 then
        s.modAxis n fun a => { a with bridges := vmod a.bridges (h.val % 4 / 2) fun x => { x with blankAt := u + 2 * dt + w } }
      else s.modAxis n fun a => { a with held := true }
    else s

/-! ### Driver faults (R167 to R170, R349) -/

/-- PRECHARGE_DONE (R169): an axis that starts enters its state; after an undervoltage it resumes with at least 8.0 V, else both switches stay off and
another occurrence is counted. (DESIGN CHOICE, assumption 72.) -/
def execPrechargeDone (t : Tick) (n : Fin 4) (bootMv : Nat) (s : State) : Host.Outcome State Fault Refusal :=
  let s := s.upTo t
  let a := s.axis n
  .next <| if !a.precharge then s else
    match (List.range 4).find? fun i => (vget s.aux.hb (4 * n + i) {}).boot with
    | some i =>
      if 8000 ≤ bootMv then
        let s := s.modAux fun x => { x with hb := Vector.ofFn fun j : Fin 16 =>
          let y := x.hb[j]
          { y with boot := y.boot && j.val / 4 != n } }
        let s := s.modAxis n fun a => { a with precharge := false, next := none }
        (match a.next with | some st => s.setAx n st | none => s).axOut n
      else ((s.modAxis n fun a => { a with precharge := false, next := none }).raise 0x8602 2 0 (le 1 (4 * n + i) ++ le 1 n)).axOut n
    | none =>
      let s := s.modAxis n fun a => { a with precharge := false, next := none }
      (match a.next with | some st => s.setAx n st | none => s).axOut n

/-- BOOTSTRAP_UV (R169): both switches off, the event, another precharge. -/
def execBootstrapUv (t : Tick) (h : Fin 16) (s : State) : Host.Outcome State Fault Refusal :=
  let s := s.upTo t
  let n := h.val / 4
  let a := s.axis n
  .next <| if s.axEn n && decide (h.val % 4 < usedHb (s.axType n)) && (a.precharge || (a.state != 0 && a.state != 6)) then
      let s := (s.modAux fun x => { x with hb := vmod x.hb h fun y => { y with boot := true } }).modHb h fun y =>
        y.command (s.refreshW n) (s.dtAux n) s.time false false
      let s := s.modAxis n fun a => { a with precharge := true }
      let s := s.raise 0x8602 2 0 (le 1 h ++ le 1 n)
      (if (s.axis n).state = 6 then s.modAxis n fun a => { a with precharge := false, next := none } else s).axOut n
    else s

/-- AUX_BUS_OV (R170): all 16 half-bridges off until CLEAR_FAULT. -/
def execAuxBusOv (t : Tick) (volt : Nat) (s : State) : Host.Outcome State Fault Refusal :=
  let s := s.upTo t
  .next <| if s.awake && decide (s.cu 0x24 32 2 < volt) then
      ((s.modAux fun x => { x with busOv := true }).raise 0x8603 2 0 (le 2 volt)).axOutAll
    else s

/-- AUX_SHOOT_THROUGH_ATTEMPT (R167): both switches off, the event with the count since reset; the Kingpost counts it as well. -/
def execAuxShootThroughAttempt (t : Tick) (h : Fin 16) (s : State) : Host.Outcome State Fault Refusal :=
  let s := s.upTo t
  let n := h.val / 4
  .next <| if s.axEn n && (decide ((s.axis n).state ≠ 0) || (s.axis n).precharge) then
      let s := s.modAux fun x =>
        { x with stCount := satN 4 (x.stCount + 1),
                 hb := vmod x.hb h fun y => y.command (s.refreshW n) (s.dtAux n) s.time false false }
      let s := s.modSafety fun x => { x with stCount := satN 4 (x.stCount + 1) }
      let s := s.raise 0x8601 2 0 (le 1 h ++ zeros 3 ++ le 4 s.aux.stCount)
      if (s.axis n).state = 6 then s.axOut n else s
    else s

/-- AX_OVERCURRENT (R349): every half-bridge of the axis off, and the axis in FAULT by its class. -/
def execAxOvercurrent (t : Tick) (sh : Fin 8) (s : State) : Host.Outcome State Fault Refusal :=
  let s := s.upTo t
  let n := sh.val / 2
  .next <| if s.axEn n && decide ((s.axis n).state ≠ 0) && decide ((s.axis n).state ≠ 6) then
      (s.raise 0x860A 2 0 (le 1 n ++ le 1 sh)).axOut n
    else s

/-! ### The axis PWM period (R350 to R352) -/

/-- A shunt conversion in mA (R192). -/
def State.shuntMa (s : State) (n : Nat) (v : Int) : Rat :=
  let c := vget (s.axis n).cal 0 {}
  200000000 * (((v - c.ofs : Int) : Rat) / fsSteps) / (max 1 (getN (s.axCfg n) 8 4) : Nat)

/-- The phases of a BLDC axis in the order of their duties, the largest first, ties by number. -/
def byDuty (du : Vector Rat 3) : List Nat := [0, 1, 2].mergeSort fun x y => decide (vget du y 0 ≤ vget du x 0)

/-- The phase currents of a BLDC axis after the conversions of a period (R180, R350): each gives the phase it was planned for; with two the third is minus their
sum, with one that of the remaining phase not exposed in this sector; a phase not measured keeps its last value. (DEDUCED, assumption 119.) -/
def bldcCurrents (old : Vector Rat 3) (mid : Nat) (vals : List (Nat × Rat)) : Vector Rat 3 :=
  if vals = [] then old else
  let v := vals.foldl (fun (v : Vector Rat 3) (x : Nat × Rat) => vmod v x.1 fun _ => x.2) old
  let a := (mid + 1) % 3
  let b := (mid + 2) % 3
  vmod v mid fun _ => -(vget v a 0 + vget v b 0)

/-- The shunt plan of a BLDC period of `tp` ticks (R180, R181, R350): the starts of its two active vectors in the rising half with the phase each exposes and its
sign, of those that last T_MINV_AUX; a vector that is too short is lengthened to it where the period leaves room, the one of the phase measured longest ago
where both are; and the shift of the moved edge. (DEDUCED, assumption 119.) -/
def bldcPlan (du : Vector Rat 3) (tp tmin : Nat) (last : Nat) : List (Nat × Nat × Int) × Vector Int 3 :=
  let at' := fun (i : Nat) => ((1 - vget du i 0) * (tp : Rat) / 2).floor.toNat
  match byDuty du with
  | [a, b, c] =>
    let u := at' a
    let v := at' b
    let w := at' c
    let shortA := decide (v - u < tmin)
    let shortC := decide (w - v < tmin)
    let moveA := shortA && decide (tmin ≤ v) && !(shortC && decide (last = a) && decide (v + tmin ≤ tp / 2))
    let moveC := shortC && !moveA && decide (v + tmin ≤ tp / 2)
    let one := if moveA then [(v - tmin, a, 1)] else if shortA then [] else [(u, a, (1 : Int))]
    let two := if shortC && !moveC then [] else [(v, c, (-1 : Int))]
    (one ++ two, vmod (vmod (Vector.replicate 3 (0 : Int)) a fun _ => if moveA then (v : Int) - tmin - u else 0) c fun x =>
      if moveC then (v : Int) + tmin - w else x)
  | _ => ([], Vector.replicate 3 0)

/-- Cosine components of a three-phase set, amplitude-invariant: the d and q components at an angle in turns. -/
def park (u v w th : Rat) : Rat × Rat :=
  (2 / 3 * (u * Config.cosTurn th + v * Config.cosTurn (th - 1 / 3) + w * Config.cosTurn (th + 1 / 3)),
   -2 / 3 * (u * Config.sinTurn th + v * Config.sinTurn (th - 1 / 3) + w * Config.sinTurn (th + 1 / 3)))

/-- The three-phase set of a vector (d, q) at an angle in turns. -/
def unpark (d q th : Rat) : Rat × Rat × Rat :=
  let f := fun (x : Rat) => d * Config.cosTurn (th - x) - q * Config.sinTurn (th - x)
  (f 0, f (1 / 3), f (2 / 3))

/-- Min-max injection (R213): the three duties, kept within 0 and 1. -/
def minMaxDuty (v : Rat × Rat × Rat) (u : Rat) : Rat × Rat × Rat :=
  let mx := maxR v.1 (maxR v.2.1 v.2.2)
  let mn := minR v.1 (minR v.2.1 v.2.2)
  let f := fun (x : Rat) => clampR 0 1 (1 / 2 + quot (x - (mx + mn) / 2) u)
  (f v.1, f v.2.1, f v.2.2)

/-- The advance angle of a BLDC axis (R351) in turns. -/
def State.axAdvance (s : State) (n : Nat) (fe : Rat) : Rat :=
  if !s.axBit n 1 then 0 else
  let t := s.cfg (0x10C0 + 16 * n)
  let span : Rat := (getN (s.axCfg n) 88 2 : Rat) / 10
  let x := clampR 0 31 (absR fe * 31 / span)
  let k := min 30 x.floor.toNat
  let e := fun (i : Nat) => (getN t (4 * i) 4 : Rat) / 4294967296
  e k + (e (k + 1) - e k) * (x - k)

/-- The current loop of a PWM axis (R352): PI on each component, the voltage limit, held integrators. -/
def axCurrent (d : Bytes) (dt e int : Rat) (held : Bool) (lim : Rat) : Rat × Rat :=
  let wc := 2 * Config.pi * getN d 26 2
  let l : Rat := (getN d 28 4 : Rat) / 1000000
  let r : Rat := (getN d 32 4 : Rat) / 1000000
  let int' := int + e * dt
  let v := wc * (l * e + r * int')
  let v' := clampR (-lim) lim v
  (v', if held || (decide (v ≠ v') && decide (0 < v * e)) then int else int')

/-- The slew of the shunt offsets at the start of an axis PWM period (R190, R193). -/
def State.axSlew (s : State) (n : Nat) : State :=
  let d := s.senseCfg 0
  let dt : Rat := ((s.time - (s.axis n).lastCal : Nat) : Rat) / 100000000
  let allow : Rat := (getN d 86 2 : Rat) * 32768 * dt
  s.modAxis n fun a =>
    { a with lastCal := s.time, cal := a.cal.map fun c =>
        let (o, r) := if c.restore % 2 = 1 then (0, 0) else slew c.ofs c.ofsTgt c.ofsRem allow
        { c with ofs := o, ofsRem := r, ofsTgt := if c.restore % 2 = 1 then 0 else c.ofsTgt, restore := 0 } }

/-- The phase currents of a BLDC axis with the conversions of its last period, oldest first (R350). -/
def Axis.bldcPhases (a : Axis) (ma : Int → Rat) : Vector Rat 3 :=
  bldcCurrents a.ph a.planMid ((a.plan.zip a.conv.reverse).map fun x => (x.1.1, (x.1.2 : Rat) * ma x.2))

/-- The measured current and the next duties of an axis. Voltages in V, currents in mA. (PRESUMED, assumption 59.) -/
def State.axLoop (s : State) (n : Nat) (tp : Nat) : State :=
  let a := s.axis n
  let d := s.axCfg n
  let u : Rat := match (s.sarB.results.find? fun r => r.1 == 32) with | some r => (r.2.1 : Rat) / 1000 | none => 0
  let dt : Rat := (tp : Rat) / 100000000
  let short := fun (x : Rat) => if (1 - x) * tp < getN (s.cfg 0x24) (8 * n + 3) 1 then 1 else x
  let sg : Rat := if s.axBit n 0 then -1 else 1
  if getN d 0 1 = 2 then
    let i := match a.conv, a.plan with
      | v :: _, (_, sg) :: _ => (sg : Rat) * s.shuntMa n v
      | _, _ => a.iMeas
    let (v, int) := axCurrent d dt ((sg * a.iRef - i) / 1000) a.curInt a.held u
    let du := short (clampR 0 1 (quot (absR v) u))
    s.modAxis n fun a =>
      { a with iMeas := i, curInt := int, conv := [], plan := [], held := false,
               duties := if v < 0 then #v[0, du, 0] else #v[du, 0, 0] }
  else
    let port := getN d 3 1
    let la := (s.fbPort port).base
    let poles : Rat := getN d 7 1
    let fe := poles * ((la.speed : Rat) / 4294967296)
    let th := poles * ((la.angle : Rat) / 4294967296)
    let tl : Rat := ((s.time : Int) - (s.fbPort port).baseAt : Int) / (100000000 : Rat)
    let ph := a.bldcPhases fun v => s.shuntMa n v
    let (id, iq) := park (vget ph 0 0) (vget ph 1 0) (vget ph 2 0) (th + fe * (tl - dt / 2))
    let al := s.axAdvance n fe
    let i := sg * a.iRef
    let lim := 9069 / 10000 * 2 * u / Config.pi
    let (vd, intd) := axCurrent d dt ((-absR i * Config.sinTurn al - id) / 1000) a.curIntD a.held lim
    let (vq, intq) := axCurrent d dt ((i * Config.cosTurn al - iq) / 1000) a.curInt a.held lim
    let du := minMaxDuty (unpark vd vq (th + fe * (tl + 3 / 2 * dt))) u
    s.modAxis n fun a =>
      { a with iMeas := Config.sqrt (id * id + iq * iq), curIntD := intd, curInt := intq, conv := [], plan := [], ph := ph, held := false,
               duties := #v[short du.1, short du.2.1, short du.2.2] }

/-- The plan of the conversions of a period (R350): on a brushed DC axis the on-time of the leg that switches, where it lasts T_MINV_AUX. -/
def State.axPlan (s : State) (n tp : Nat) : List (Nat × Nat × Int) × Vector Int 3 :=
  let a := s.axis n
  let d := s.axCfg n
  let tmin := 10 * getN d 25 1
  if getN d 0 1 = 2 then
    let x := maxR (vget a.duties 0 0) (vget a.duties 1 0)
    let sg : Int := if vget a.duties 0 0 < vget a.duties 1 0 then -1 else 1
    (if (tmin : Rat) ≤ x * tp then [(((1 - x) * (tp : Rat) / 2).floor.toNat, 0, sg)] else [], Vector.replicate 3 0)
  else bldcPlan a.duties tp tmin ((a.plan.head?.map Prod.fst).getD 3)

/-- The shunt conversions of a period (R350): T_SETTLE_AUX after each usable vector start (R192). -/
def State.axConvert (s : State) (n : Nat) (p : List (Nat × Nat × Int) × Vector Int 3) (mid : Nat) : State :=
  let settle := 10 * getN (s.axCfg n) 24 1
  (p.1.foldl (fun (s : State) x => s.sarRequest .a { cls := 1, input := 16 + 2 * n, at_ := s.time + x.1 + settle }) s).modAxis n fun a =>
    { a with plan := p.1.map Prod.snd, planMid := mid, shift := p.2 }

/-- The periods of an axis begin on the time-base carrier (R350): its period divided by PWM_DIV, with a zero on the carrier zero. -/
def State.axPeriodAt (s : State) (n t : Nat) : Bool :=
  let div := max 1 (getN (s.axCfg n) 6 1)
  decide (0 ≤ s.sinceZero s.timeBase t) && (List.range div).any fun i => s.carrierPhase s.timeBase t == i * s.ctrlCycle / div

/-- AXIS_PWM_PERIOD (R350): the duties of the last period act, the current loop forms the next ones, the shunt conversions are placed.
The offsets slew here, and an axis whose half-bridges have been off for 20 µs is measured (R193). -/
def execAxisPwmPeriod (t : Tick) (n : Fin 4) (s : State) : Host.Outcome State Fault Refusal :=
  let s := s.upTo t
  let tp := s.ctrlCycle / max 1 (getN (s.axCfg n) 6 1)
  .next <| if !(s.axEn n && s.awake && s.axPeriodAt n t) || vget s.integ.halted 0 false then s else
    let s := s.axSlew n
    let a := s.axis n
    if a.state = 0 ∨ a.state = 6 then
      if s.axQuiet n ∧ a.measure = 0 ∧ !a.precharge then s.measureShunts n else s
    else if s.axType n = 0 ∨ a.precharge then s
    else ((s.axOut n).axLoop n tp).axConvert n (s.axPlan n tp) ((byDuty a.duties)[1]?.getD 0)

/-! ### The SAR slots (R194, R195) -/

/-- A temperature conversion (R550). -/
def TempAcc.add (a : TempAcc) (v : Int) (now : Tick) : TempAcc := { a with sum := a.sum + v, n := a.n + 1, last := now }

/-- An offset conversion of shunt `i` of an axis (R193): the mean over CAL_T; an axis that starts precharges once its shunts are measured. -/
def Axis.shuntOffset (a : Axis) (i : Nat) (v : Int) : Axis :=
  { a with cal := vmod a.cal i fun c => if c.ofsRun then { c with sums := c.sums.add 0 v 1 } else c,
           measure := a.measure - 1, precharge := a.precharge || a.measure == 1 }

/-- A conversion of SREF in mV (R223): one within a test current or up to 1 ms after it is not used; a level below 0.3 V is timed. -/
def Sref.convert (x : Sref) (v : Int) (start : Tick) : Sref :=
  if x.holdTo < start ∨ x.holdTo = 0 then { x with mv := v, lowSince := if v < 300 then some (x.lowSince.getD start) else none } else x

/-- A finished conversion given to its reader: the sin/cos voltages in mV with their aperture and the quadrant there (R235), SREF in mV, an axis shunt or its
offset in 2⁻³¹ of ±200 mV, a temperature input. -/
def State.sarResult (s : State) (conv : SarConverter) (r : SarReq) (start : Tick) (v : Int) : State :=
  let s := s.modSar conv fun x => { x with results := (r.input, v, start) :: x.results.filter fun y => y.1 != r.input }
  if r.input < 6 then
    s.modFb r.input fun p => match conv with
      | .a => { p with sinMv := v, sarTick := some start, qcAp := p.qcSlot }
      | .b => { p with cosMv := v }
  else if r.input = 6 then s.modSref fun x => x.convert v start
  else if 16 ≤ r.input ∧ r.input < 24 then
    let n := (r.input - 16) / 2
    if r.cls = 2 then (s.modAxis n fun a => a.shuntOffset ((r.input - 16) % 2) v).axOut n
    else if r.cls = 1 then s.modAxis n fun a => { a with conv := v :: a.conv }
    else s
  else if 40 ≤ r.input then s.modThermal fun x => { x with acc := vmod x.acc (r.input - 40) fun a => a.add v s.time }
  else s

/-- The requests that come by themselves (R195, R550): the temperature inputs every 250 µs, a reference check on A and a rail monitor on B every 1 ms. One that
still waits is not put again. (DESIGN CHOICE, assumption 120.) -/
def State.sarPeriodic (s : State) (conv : SarConverter) : State :=
  let x := match conv with | .a => s.sarA | .b => s.sarB
  let put := fun (s : State) (cls input : Nat) =>
    if x.pending.any fun r => r.input == input && r.cls == cls then s else s.sarRequest conv { cls := cls, input := input, at_ := s.time }
  let base := match conv with | .a => 40 | .b => 44
  let s := if x.doneTo / 25000 < s.time / 25000 then [0, 1, 2, 3].foldl (fun s i => put s 3 (base + i)) s else s
  let s := if x.doneTo / 100000 < s.time / 100000 then (match conv with | .a => put s 2 34 | .b => put s 3 33) else s
  s.modSar conv fun y => { y with doneTo := s.time }

/-- A converter starts its next slot (R195); the quadrant at the aperture of a sin/cos pair is kept (R235). -/
def State.sarStart (s : State) (conv : SarConverter) : State :=
  match nextReq s.time (match conv with | .a => s.sarA | .b => s.sarB).pending with
  | some r =>
    let s := s.modSar conv fun y => { y with slot := some r, pending := y.pending.erase r }
    if r.input < 6 then s.modFb r.input fun p => { p with qcSlot := p.qc } else s
  | none => s.modSar conv fun y => { y with slot := none }

/-- SAR_SLOT (R194, R195): the slot in progress completes with its value, and the next pending request starts. -/
def execSarSlot (t : Tick) (conv : SarConverter) (v : Int) (s : State) : Host.Outcome State Fault Refusal :=
  let s := s.upTo t
  let x := match conv with | .a => s.sarA | .b => s.sarB
  .next <| if !s.awake then s else
    let s := match x.slot with
      | some r => s.sarResult conv r (s.time - 25) v
      | none => s
    (s.sarPeriodic conv).sarStart conv

end Sys2Proof.Machine
end

