-- ==== Sys2Proof/Machine/Recorder.lean ====
section
/-! DEFINITION. The recorder (R462 to R466) with the records its selectors read: latch records, cyclic data, axis and colonnade
status. A frame counts as written when it is placed in the staging buffer. -/
namespace Sys2Proof.Machine

/-- A latch record (R232, R257). -/
def LatchRec.bytes (l : LatchRec) : Bytes :=
  leI 8 l.count ++ le 8 l.aperture ++ le 4 l.angle ++ leI 8 l.speed ++ le 1 l.state ++ le 1 l.flags ++ leI 2 l.drift

/-- The COLONNADE_STATUS record (R320). -/
def State.colRecord (s : State) : Bytes :=
  let c := s.col
  le 1 c.state ++ le 1 (s.cu 0x80 0 1) ++ le 1 c.leader ++ le 1 c.present.toNat ++ le 1 c.drop.toNat ++
    le 1 (b2n c.demandV + 2 * b2n c.limited + 4 * b2n c.slow) ++ le 2 c.cycle ++ leI 4 c.demand ++ leI 4 c.short ++
    ((c.shares.toList.map fun v => leI 4 v).flatten) ++ le 4 c.tLast ++ le 4 c.frameErr ++ le 4 c.misses ++ zeros 4

/-- The source whose cyclic data a selector reads: the owner, the host where there is none. (DESIGN CHOICE, assumption 75.) -/
def State.recSource (s : State) : Source := s.owner.getD .host

/-- A record by SOURCE and INSTANCE (R462); none where there is no such record. -/
def State.record (s : State) (source inst : Nat) : Option Bytes := match source with
  | 0 => if inst < 4 then some (s.measRecord inst) else none
  | 1 => if inst < 6 then some (s.fbPort inst).latch.bytes else none
  | 2 => if inst < 4 then some (s.observer (machineOf s.arrange inst)).latch.bytes else none
  | 3 => if inst = 0 then some (s.cyclicData s.recSource false) else none
  | 4 => if inst = 0 then some (((s.port s.recSource).cyclic.applied).getD (zeros 64)) else none
  | 5 => if inst < 4 then some (s.axisRecord inst) else none
  | 6 => if inst = 0 then some s.colRecord else none
  | _ => none

/-- The selectors of a setup: SOURCE, INSTANCE, OFFSET, WIDTH. -/
def recSels (p : Bytes) : List (Nat × Nat × Nat × Nat) :=
  (List.range (getN p 3 1)).map fun i =>
    (getN p (32 + 4 * i) 1, getN p (33 + 4 * i) 1, getN p (34 + 4 * i) 1, getN p (35 + 4 * i) 1)

/-- The size F of a frame (R463). -/
def frameSize (p : Bytes) : Nat := (16 + ((recSels p).map fun x => x.2.2.2).sum + 7) / 8 * 8

/-- The bytes of the ring (R441). -/
def State.ringBytes (s : State) : Nat := (Config.dramMb - 64 - s.app.appMb) * 1048576

/-- The capacity C of the ring in frames (R463). -/
def State.ringFrames (s : State) (p : Bytes) : Nat := s.ringBytes / frameSize p

/-- Whether a setup passes (R462). -/
def State.recSetupOk (s : State) (p : Bytes) : Bool :=
  let base := getN p 2 1
  let kind := getN p 4 1
  let post := getN p 20 4
  decide (1 ≤ getN p 0 2) && (decide (base ≤ 5) && (decide (4 ≤ base) || s.enabled base)) && decide (1 ≤ getN p 3 1) &&
    decide (getN p 3 1 ≤ 64) && decide (kind ≤ 4) && (kind < 3 || decide (getN p 5 1 < getN p 3 1)) && decide (1 ≤ post) &&
    decide (getN p 24 8 = 0) &&
    (recSels p).all (fun x => x.2.2.1 % 4 == 0 && (x.2.2.2 == 4 || x.2.2.2 == 8) &&
      (match s.record x.1 x.2.1 with | some r => decide (x.2.2.1 + x.2.2.2 ≤ r.length) | none => false)) &&
    decide (((recSels p).map fun x => x.2.2.2).sum ≤ 256) && decide (getN p 16 4 + post ≤ s.ringFrames p)

/-- RECORDER_SETUP (R462). -/
def opRecorderSetup (p : Bytes) (s : State) : Rep :=
  if s.recSetupOk p then
    let s := if s.recorder.state = 0 then s else s.recState 0 0
    .ok (s.modRecorder fun _ => { setup := some p })
  else .no s eRange

/-- RECORDER_ARM (R464): without a setup there is nothing to arm. (DESIGN CHOICE, assumption 75.) -/
def opRecorderArm (s : State) : Rep :=
  match s.recorder.setup with
  | some p => if s.recorder.state = 0 ∨ s.recorder.state = 3 then
      .ok ((s.modRecorder fun r => { setup := some p, state := r.state }).recState 1 0) else .no s eState
  | none => .no s eState

/-- RECORDER_TRIGGER (R464). -/
def opRecorderTrigger (s : State) : Rep :=
  if s.recorder.state = 1 then .ok (s.recTrigger 0) (le 8 s.stamp) else .no s eState

/-- A frame's number in its header. -/
def frameNo (f : Bytes) : Nat := getN f 8 4

/-- The frames kept (R464): where the recorder stopped before its trigger frame came, the last PRE frames. -/
def State.recKept (s : State) : List Bytes :=
  let r := s.recorder
  let pre := getN (r.setup.getD []) 16 4
  if r.state = 3 ∧ r.trigDue then r.ring.drop (r.ring.length - pre) else r.ring

/-- A frame as it is read (R466): one with an uncorrectable word shows zeros, FLAGS[2] and its number. -/
def State.recRead (s : State) (f : Bytes) : Bytes :=
  if s.recorder.invalid.contains (frameNo f) then fit f.length (zeros 8 ++ le 4 (frameNo f) ++ le 1 4) else f

/-- RECORDER_READ (R466). -/
def opRecorderRead (p : Bytes) (s : State) : Rep :=
  let r := s.recorder
  let kept := s.recKept
  let ofs := getN p 0 8
  let len := getN p 8 4
  let f := match r.setup with | some q => frameSize q | none => 0
  let c := match r.setup with | some q => s.ringFrames q | none => 0
  if 4096 < len then .no s eRange
  else if len = 0 then
    .ok s (le 1 r.state ++ le 1 0 ++ le 2 f ++ le 4 c ++ le 4 kept.length ++ le 4 ((kept.head?.map frameNo).getD 0) ++
      le 8 (r.trigAt.getD 0) ++ le 4 r.dropped ++ le 4 (kept.filter fun x => r.invalid.contains (frameNo x)).length)
  else if r.state ≠ 3 then .no s eState
  else if kept.length * f < ofs + len then .no s eRange
  else .ok s ((((kept.map s.recRead).flatten).drop ofs).take len)

/-- RECORDER_SETUP. -/
def execRecorderSetup (t : Tick) (c : Source) (q : Nat) (p : Bytes) (s : State) := runOp t c 0x0700 q p (opRecorderSetup p) s
/-- RECORDER_ARM. -/
def execRecorderArm (t : Tick) (c : Source) (q : Nat) (p : Bytes) (s : State) := runOp t c 0x0701 q p opRecorderArm s
/-- RECORDER_READ. -/
def execRecorderRead (t : Tick) (c : Source) (q : Nat) (p : Bytes) (s : State) := runOp t c 0x0702 q p (opRecorderRead p) s
/-- RECORDER_TRIGGER. -/
def execRecorderTrigger (t : Tick) (c : Source) (q : Nat) (p : Bytes) (s : State) := runOp t c 0x0703 q p opRecorderTrigger s

/-- The bytes of a selector now. -/
def State.recSignal (s : State) (x : Nat × Nat × Nat × Nat) : Bytes :=
  (((s.record x.1 x.2.1).getD []).drop x.2.2.1).take x.2.2.2

/-- The signal trigger of kinds 3 and 4 at a frame (R462): the value before and now against the level. -/
def recCross (kind : Nat) (lvl : Int) (prev : Option Int) (now : Int) : Bool :=
  match prev with
  | some v => (kind == 3 && decide (v < lvl) && decide (lvl ≤ now)) || (kind == 4 && decide (lvl < v) && decide (now ≤ lvl))
  | none => false

/-- A frame is written, or dropped for want of room (R463 to R465). (DESIGN CHOICE, assumption 75.) -/
def State.recWrite (s : State) (p : Bytes) (stamp : Tick) : State :=
  let r := s.recorder
  let f := frameSize p
  if 65536 < r.staged + f then
    (s.modRecorder fun r => { r with dropped := satN 4 (r.dropped + 1), dropMark := true }).raise 0x8704 2 0
      (zeros 4 ++ le 4 (satN 4 (r.dropped + 1)))
  else
    let trig := r.state == 2 && r.trigDue && (match r.trigAt with | some u => decide (u ≤ stamp) | none => false)
    let fr := fit f (le 8 stamp ++ le 4 r.frame ++ le 1 (b2n trig + 2 * b2n r.dropMark) ++ zeros 3 ++ ((recSels p).map s.recSignal).flatten)
    let old := if trig then r.ring.drop (r.ring.length - getN p 16 4) else r.ring
    let cap := s.ringFrames p
    let ring := (old ++ [fr]).drop (old.length + 1 - cap)
    let left := if trig then getN p 20 4 else r.postLeft
    let s := s.modRecorder fun r =>
      { r with ring := ring, staged := r.staged + f, frame := (r.frame + 1) % 4294967296, dropMark := false,
               trigDue := r.trigDue && !trig, preKept := if trig then min r.ring.length (getN p 16 4) else r.preKept,
               postLeft := if r.state == 2 && (trig || !r.trigDue) then left - 1 else left }
    if s.recorder.state = 2 ∧ !s.recorder.trigDue ∧ s.recorder.postLeft = 0 then s.recState 3 2 else s

/-- The recorder at a cycle of a base (R462): every DIV-th one gives a frame. -/
def State.recCycle (s : State) (base : Nat) (stamp : Tick) : State :=
  match s.recorder.setup with
  | none => s
  | some p =>
    let r := s.recorder
    if (r.state ≠ 1 ∧ r.state ≠ 2) ∨ getN p 2 1 ≠ base then s else
    let n := r.base
    let s := s.modRecorder fun r => { r with base := r.base + 1 }
    if n % getN p 0 2 ≠ 0 then s else
    let kind := getN p 4 1
    let sig := (recSels p)[getN p 5 1]?.map s.recSignal
    let now := sig.map fun b => getI b 0 b.length
    let hit : Bool := match now with | some v => recCross kind (getI p 8 8) r.prevSig v | none => false
    let s := s.modRecorder fun r => { r with prevSig := now }
    let s := if s.recorder.state == 1 && hit then s.recTrigger 1 else s
    s.recWrite p stamp

/-- The bytes that the next flush moves (R465): a block of 4 KB, or the last part once the recorder is stopped. -/
def Recorder.flushLen (r : Recorder) : Nat := if 4096 ≤ r.staged then 4096 else if r.state = 3 then r.staged else 0

/-- RECORDER_FLUSH (R465): one block goes from the staging buffer to the ring over system channel 8 or 9 (R23, R455). -/
def execRecorderFlush (t : Tick) (s : State) : Host.Outcome State Fault Refusal :=
  let s := s.upTo t
  .next <| match s.recorder.flushLen, s.sysIdle 8 9 with
    | 0, _ => s
    | _, none => s
    | n, some c => (s.sysPost c n).modRecorder fun r => { r with staged := r.staged - n }

end Sys2Proof.Machine
end

