-- ==== Sys2Proof/Machine/FieldEngine.lean ====
section
/-! DEFINITION. The field engines (R200 to R218): flux maps, current reference, current loop, duties and compare values, the DC-link
thresholds judged in a cycle (R322 to R329), and the carrier zero (R206). Currents are in A, voltages in V, angles in turns, electrical
speeds in turns per second. -/
namespace Sys2Proof.Machine

/-- STACK k in force. -/
def State.stkCfg (s : State) (k : Nat) : Bytes := s.cfg (0x10 + k)
/-- POLE_PAIRS. -/
def State.polePairs (s : State) (k : Nat) : Rat := getN (s.stkCfg k) 2 2
/-- T_u in ticks of the interval that the present sample begins (R204). (DEDUCED, assumption 122.) -/
def State.tuTicks (s : State) (k : Nat) : Nat := s.tuFrom k (s.stack k).sense.tc
/-- The mean of T_u in ticks: half a period with double sampling. -/
def State.tuRat (s : State) (k : Nat) : Rat := (s.carrierP k : Rat) / (if s.double k then 2 else 1)
/-- T_u in seconds. -/
def State.tu (s : State) (k : Nat) : Rat := (s.tuTicks k : Rat) / 100000000
/-- ANG_OFS in turns. -/
def State.angOfs (s : State) (k : Nat) : Rat := (getN (s.stkCfg k) 12 4 : Rat) / 4294967296
/-- I_MAX in A. -/
def State.iMax (s : State) (k : Nat) : Rat := (getN (s.stkCfg k) 20 4 : Rat) / 1000

/-! ### Flux maps and tables (R209, R214, R215) -/

/-- Flux linkages in Wb and incremental inductances in H at a current, with the axes that are clamped (R209). -/
structure Flux where
  pd  : Rat
  pq  : Rat
  ldd : Rat
  ldq : Rat
  lqd : Rat
  lqq : Rat
  cd  : Bool
  cq  : Bool

/-- The place of a value on a grid of `n` intervals: cell, fraction in the cell, and whether it was clamped. -/
def gridAt (n : Nat) (v lo hi : Rat) : Nat × Rat × Bool :=
  let x := quot ((v - lo) * n) (hi - lo)
  let y := clampR 0 n x
  let k := min (n - 1) y.floor.toNat
  (k, y - k, decide (x ≠ y))

/-- An entry of a flux map in Wb: table, d-index, q-index. -/
def State.fluxEntry (s : State) (table k j : Nat) : Rat :=
  let o := 4 * (64 * j + k)
  (getI (s.cfg (0x1000 + 16 * table + o / 2048)) (o % 2048) 4 : Rat) / 1000000

/-- Bilinear interpolation in a cell: the value, and its slopes along both axes per cell. (DEDUCED, assumption 45.) -/
def bilinear (f : Nat → Nat → Rat) (k j : Nat) (a b : Rat) : Rat × Rat × Rat :=
  let f00 := f k j
  let f10 := f (k + 1) j
  let f01 := f k (j + 1)
  let f11 := f (k + 1) (j + 1)
  let da := (f10 - f00) * (1 - b) + (f11 - f01) * b
  let db := (f01 - f00) * (1 - a) + (f11 - f10) * a
  (f00 + a * (f10 - f00) + b * db, da, db)

/-- The flux maps of set `k` at a current (R209). (DEDUCED, assumption 45.) -/
def State.flux (s : State) (k : Nat) (id iq : Rat) : Flux :=
  let d := s.stkCfg k
  let lim := fun (o : Nat) => (getI d o 4 : Rat) / 1000
  let (i, a, cd) := gridAt 63 id (lim 32) (lim 36)
  let (j, b, cq) := gridAt 63 iq (lim 40) (lim 44)
  let sd := (lim 36 - lim 32) / 63
  let sq := (lim 44 - lim 40) / 63
  let (pd, pda, pdb) := bilinear (s.fluxEntry k) i j a b
  let (pq, pqa, pqb) := bilinear (s.fluxEntry (4 + k)) i j a b
  { pd := pd, pq := pq, ldd := quot pda sd, ldq := quot pdb sq, lqd := quot pqa sd, lqq := quot pqb sq, cd := cd, cq := cq }

/-- γ_ff of set `k` in turns at a frequency and a link voltage (R214, R215). -/
def State.advance (s : State) (k : Nat) (fe u : Rat) : Rat :=
  let d := s.stkCfg k
  let t := s.cfg (0x1080 + 16 * k)
  let (i, a, _) := gridAt 31 (absR fe) 0 ((getN d 58 2 : Rat) / 10)
  let (j, b, _) := gridAt 15 u ((getN d 60 2 : Rat) / 10) ((getN d 62 2 : Rat) / 10)
  (bilinear (fun x y => (getN t (4 * (16 * x + y)) 4 : Rat) / 4294967296) i j a b).1

/-- The torque of set `k` at a current in N·m (R214 step 4). -/
def State.torqueAt (s : State) (k : Nat) (id iq : Rat) : Rat :=
  let f := s.flux k id iq
  3 / 2 * s.polePairs k * (f.pd * iq - f.pq * id)

/-- One Newton step for the current magnitude that gives a torque at a current angle (R214 step 4). -/
def State.newtonStep (s : State) (k : Nat) (tq gamma i : Rat) : Rat :=
  let ud := -Config.sinTurn gamma
  let uq := (sgnR tq : Rat) * Config.cosTurn gamma
  let f := s.flux k (i * ud) (i * uq)
  let g := 3 / 2 * s.polePairs k * (f.pd * (i * uq) - f.pq * (i * ud)) - tq
  let g' := 3 / 2 * s.polePairs k *
    ((f.ldd * ud + f.ldq * uq) * (i * uq) + f.pd * uq - (f.lqd * ud + f.lqq * uq) * (i * ud) - f.pq * ud)
  i - quot g g'

/-- √3 × 2π × |f| × ψd(0, 0) of set `k` (R269, R331). -/
def State.backEmf (s : State) (k : Nat) (f : Rat) : Rat :=
  Config.sqrt 3 * (2 * Config.pi * absR f) * (s.flux k 0 0).pd

/-! ### The DC link (R322 to R327) -/

/-- k_ov of stack `k` (R323, R329); 1 while the link is not supervised. -/
def State.kOv (s : State) (k : Nat) (u : Rat) : Rat :=
  let d := s.cfg (0x60 + k)
  let z : Rat := (getN d 8 2 : Rat) / 10
  let o : Rat := (getN d 6 2 : Rat) / 10
  if (s.stack k).chop.isOpen then 0
  else if (s.stack k).sense.udcLost then 1
  else clampR 0 1 ((z - u) / (z - o))

/-- k_uv of stack `k` (R324). -/
def State.kUv (s : State) (k : Nat) (u : Rat) : Rat :=
  let d := s.cfg (0x60 + k)
  let u1 : Rat := (getN d 14 2 : Rat) / 10
  let u2 : Rat := (getN d 16 2 : Rat) / 10
  if (s.stack k).sense.udcLost then 1 else clampR 0 1 ((u - u2) / (u1 - u2))

/-- Whether the link limits the torque of stack `k` (R323, R324): a factor below 1. -/
def State.linkLimits (s : State) (k : Nat) (u : Rat) : Bool := decide (s.kOv k u < 1) || decide (s.kUv k u < 1)

/-- m of R327: the update intervals in CH_T. -/
def State.chopSpan (s : State) (k : Nat) : Nat := (quot ((usTicks (getN (s.cfg (0x60 + k)) 20 2) : Nat) : Rat) (s.tuRat k)).ceil.toNat

/-- OV1, OV2 and the chopper band at a sample, with the times and samples that R324 and R327 look back on (R322, R326). -/
def State.dcCheck (s : State) (k : Nat) : State :=
  let x := s.stack k
  let d := s.cfg (0x60 + k)
  let u := x.sense.uDc / 100
  let lvl := fun (o : Nat) => (getN d o 2 : Rat)
  let en := (getN d 0 1).testBit 0 && !x.chop.isOpen && !x.sense.udcLost
  let cmd := en && (decide (lvl 4 ≤ u) || decide (lvl 6 ≤ u) || (!decide (u ≤ lvl 2) && x.chop.cmd))
  let since := fun (o : Option Tick) (b : Bool) => if b && !x.sense.udcLost then some (o.getD x.sense.ts) else none
  let s := s.modStack k fun x =>
    { x with chop := { x.chop with cmd := cmd, since := if cmd == x.chop.cmd then x.chop.since else s.time,
                                   ov1 := !x.sense.udcLost && decide (lvl 6 ≤ u), below := since x.chop.below (decide (u < lvl 16)),
                                   above := since x.chop.above (decide (lvl 14 ≤ u)),
                                   hist := if x.chop.cmd && !x.sense.udcLost then x.sense.uDc :: x.chop.hist.take (s.chopSpan k) else [] } }
  if x.sense.udcLost then s
  else
    let s := if decide (lvl 6 ≤ u) && !x.chop.ov1 then s.raise 0x8360 1 k (le 2 x.udc01) else s
    if lvl 10 ≤ u then s.raise 0x8361 1 k (le 2 x.udc01 ++ le 1 1) else s

/-! ### Duties and compare values (R181, R182, R207, R213) -/

/-- A three-phase vector brought onto the hexagon where it lies outside (R213): the largest difference is at most U_DC. -/
def clipHex (v : Rat × Rat × Rat) (u : Rat) (onto : Bool) : Rat × Rat × Rat :=
  let mx := maxR v.1 (maxR v.2.1 v.2.2)
  let mn := minR v.1 (minR v.2.1 v.2.2)
  let g := quot u (mx - mn)
  if onto || decide (u < mx - mn) then (v.1 * g, v.2.1 * g, v.2.2 * g) else v

/-- The hold angle of R213 in turns: it rises from 0 at m = 0.9517 to π/6 at m = 1, between them as the free value gives it. -/
def holdAngle (m : Rat) : Rat :=
  if m * 10000 ≤ 9517 then 0 else if 1 ≤ m then 1 / 12 else clampR 0 (1 / 12) (Config.ovmHold m)

/-- The magnitude raised above m in the first range of overmodulation (R213): never below the index asked for, and that index where no clipping begins. -/
def raisedIndex (m : Rat) : Rat := if m * 10000 ≤ 9069 then m else maxR m (Config.ovmScale m)

/-- The angle on the hexagon from a vertex at the place `x` of a sector of 1/6 turn (R213): held at the vertices for the hold angle, between them along the
hexagon. -/
def followAngle (m x : Rat) : Rat :=
  let h := holdAngle m
  if x < h then 0 else if 1 / 6 - h < x then 1 / 6
  else clampR 0 (1 / 6) (if m * 10000 ≤ 9517 then x else Config.ovmFollow m x)

/-- The duties of a vector (R210, R213): its α and β components, the dead-time compensation of each phase, U_DC and the modulation index. (DESIGN CHOICE, assumption 44.) -/
def modulate (al be : Rat) (comp : Rat × Rat × Rat) (u m : Rat) : Rat × Rat × Rat :=
  let th := Config.atanTurn be al
  let add := fun (v : Rat × Rat × Rat) => (v.1 + comp.1, v.2.1 + comp.2.1, v.2.2 + comp.2.2)
  let six := fun (x : Rat) => if x < 0 then (0 : Rat) else 1
  if m * 10000 ≤ 9069 then minMaxDuty (add (unpark al be 0)) u
  else if m * 10000 ≤ 9517 then
    let g := quot (raisedIndex m) m
    minMaxDuty (clipHex (add (unpark (al * g) (be * g) 0)) u false) u
  else if m < 1 then
    let n := (6 * fracTurn th).floor
    let a := followAngle m (fracTurn th - (n : Rat) / 6)
    minMaxDuty (clipHex (add (clipHex (unpark u 0 ((n : Rat) / 6 + a)) u true)) u false) u
  else
    let v := add (unpark al be 0)
    (six v.1, six v.2.1, six v.2.2)

/-- The compare value of a duty with the minimum pulse (R203, R207 step 1). -/
def compareOf (h mp : Nat) (d : Rat) : Nat :=
  let c := (clampI 0 h (roundR ((1 - d) * h))).toNat
  if c < mp then 0 else if h - c < mp then h else c

/-- Whether a shifted edge leaves pulses of at least MIN_PULSE (R207 step 2). -/
def shiftOk (h mp : Nat) (c : Int) : Bool := decide ((max 1 mp : Nat) ≤ c) && decide (c ≤ (h : Int) - (max 1 mp : Nat))

/-- Which edge a half-period has to shift (R181, R182): of its active vectors shorter than T_MINV whose phase is due, the one compared longest ago; the outer
edge of that vector moves so that it lasts T_MINV, the edge between the two never. The phase and its new compare value. (DESIGN CHOICE, assumption 43.) -/
def edgeWanted (tmin : Nat) (wanted : Nat → Bool) (age : Nat → Nat) (c : Vector Nat 3) : Option (Nat × Int) :=
  match [0, 1, 2].mergeSort fun x y => decide (vget c x 0 ≤ vget c y 0) with
  | [a, b, d] =>
    let u := vget c a 0
    let v := vget c b 0
    let w := vget c d 0
    let first := decide (v - u < tmin) && wanted a
    let second := decide (w - v < tmin) && wanted d
    if first && (!second || decide (age a ≤ age d)) then some (a, (v : Int) - tmin)
    else if second then some (d, (v : Int) + tmin)
    else none
  | _ => none

/-- The rising half-period of a compare set (R181, R207 step 2): shifted where it needs to be and the pulses stay long enough in both half-periods; where they
would not, no shift is made and the half-period gives no reconstruction. -/
def riseSet (h mp : Nat) (want : Option (Nat × Int)) (c : Vector Nat 3) : HalfSet :=
  match want with
  | none => { c := c }
  | some (x, v) =>
    let old := vget c x 0
    if shiftOk h mp v && shiftOk h mp (2 * old - v) then
      { c := vmod c x fun _ => v.toNat, sh := vmod (Vector.replicate 3 (0 : Int)) x fun _ => v - old }
    else { c := c, gives := false }

/-- The falling half-period of a compare set behind a rising one that was shifted by `sh` (R181): the edge goes back by the same amount, and only the shifted
half-period reconstructs. -/
def fallSet (h mp : Nat) (sh : Vector Int 3) (c : Vector Nat 3) : HalfSet :=
  let v := fun (i : Nat) => ((vget c i 0 : Nat) : Int) - vget sh i 0
  let move := fun (i : Nat) => vget sh i 0 != 0 && shiftOk h mp (v i)
  { c := Vector.ofFn fun i : Fin 3 => if move i then (v i).toNat else vget c i 0, sh := Vector.ofFn fun i : Fin 3 => if move i then -(vget sh i 0) else 0,
    gives := sh.toList.all (· == 0) }

/-- A compare value taken in the running rising half-period at the counter value `q` (R205, LOAD_MODE 1): an edge that has occurred stays, one that is to come
takes its new place, and one whose place has passed is placed one fine step on. -/
def placeRise (q old new : Nat) : Nat := if old < q then old else if new < q then q else new

/-- The same in the running falling half-period. -/
def placeFall (q old new : Nat) : Nat := if q ≤ old then old else if q ≤ new then q - 1 else new

/-- The counter of stack `k` at `t` in fine steps (R203). -/
def State.counterAt (s : State) (k t : Nat) : Nat :=
  let x := 64 * s.carrierPhase k t
  if x ≤ 32 * s.carrierP k then x else 64 * s.carrierP k - x

/-- A rising half-period taken at the counter value `q` of the running one: an edge that has occurred keeps its place and its shift. -/
def HalfSet.intoRise (new old : HalfSet) (q : Nat) : HalfSet :=
  { new with c := Vector.ofFn fun i : Fin 3 => placeRise q old.c[i] new.c[i],
             sh := Vector.ofFn fun i : Fin 3 => if old.c[i] < q then old.sh[i] else new.sh[i] }

/-- A falling half-period taken at the counter value `q` of the running one. -/
def HalfSet.intoFall (new old : HalfSet) (q : Nat) : HalfSet :=
  { new with c := Vector.ofFn fun i : Fin 3 => placeFall q old.c[i] new.c[i] }

/-- Whether the phase `x` of stack `k` asks for a shift (R182, R185, R186): always, or once it has not been compared for FORCE_INT while the stack switches. (DESIGN CHOICE, assumption 43.) -/
def State.shiftDue (s : State) (k x : Nat) : Bool :=
  let d := s.senseCfg k
  let y := (s.stack k).sense
  let last := match vget y.exposed x none with
    | some u => max u y.cmpFrom
    | none => y.cmpFrom
  if y.dcFailed then false
  else if y.failed.isSome then true
  else match getN d 14 1 with
    | 0 => false
    | 1 => true
    | _ => decide (msTicks (getN d 15 1) < s.time - last)

/-- When the phase `x` of stack `k` was last compared, counted from 1; 0 for never. -/
def State.lastCompared (s : State) (k x : Nat) : Nat := match vget (s.stack k).sense.exposed x none with
  | some u => u + 1
  | none => 0

/-- A compare set of LOAD_MODE 0 (R205): it governs the interval from the next sample centre on: with double sampling the half-period that begins there, else
the whole period. -/
def State.deferSet (s : State) (k : Nat) (tc : Tick) (rise : HalfSet) (fall : Vector Int 3 → HalfSet) (f : FieldEng) : CmpSet :=
  let act := tc + s.tuFrom k tc
  if !s.double k then { act := act, rise := some rise, fall := some (fall rise.sh) }
  else if s.falling k tc then { act := act, rise := some rise }
  else { act := act, fall := some (fall f.rise.sh) }

/-- A compare set of LOAD_MODE 1 at its t_act `u` (R205): the edges still to come in the running half-period take it at once; what follows up to the next
t_act waits for its half-period. -/
def State.takeNow (s : State) (k u : Nat) (rise : HalfSet) (fall : Vector Int 3 → HalfSet) (f : FieldEng) : FieldEng :=
  let q := s.counterAt k u
  let zero := u - s.carrierPhase k u + s.carrierP k
  let f := { f with cmpNext := [{ act := zero, rise := some rise, fall := some (fall rise.sh) }] }
  if s.falling k u then { f with fall := (fall f.rise.sh).intoFall f.fall q }
  else
    let r := rise.intoRise f.rise q
    { f with rise := r, fall := fall r.sh }

/-- The compare values of a cycle put into the PWM unit (R205, R207). -/
def State.loadCompare (s : State) (k : Nat) (cv : Vector Nat 3) : State :=
  let h := 32 * s.carrierP k
  let mp := 64 * getN (s.stkCfg k) 98 1
  let want := edgeWanted (64 * minVector (s.senseCfg k)) (s.shiftDue k) (s.lastCompared k) cv
  let rise := riseSet h mp want cv
  let fall := fun (sh : Vector Int 3) => fallSet h mp sh cv
  if (getN (s.stkCfg k) 0 1).testBit 1 then s.modFe k fun f => s.takeNow k s.time rise fall f
  else (s.modFe k fun f => { f with cmpNext := f.cmpNext ++ [s.deferSet k (s.stack k).sense.tc rise fall f] }).cmpActivate k

/-! ### The current loop (R208, R210 to R214, R216, R217) -/

/-- What a cycle measures: phase currents, their instant, the angle there and the electrical speed. -/
structure CycIn where
  iu : Rat
  iv : Rat
  iw : Rat
  tc : Tick
  th : Rat
  w  : Rat
  u  : Rat

/-- What a cycle applies: the rotor-frame voltage, its α and β components, the modulation index, and the reference current. -/
structure CycOut where
  vd : Rat
  vq : Rat
  al : Rat
  be : Rat
  m  : Rat
  ird : Rat
  irq : Rat

/-- Whether the cycle takes reconstructed currents (R185). -/
def Sense.degraded (y : Sense) : Bool := y.failed.isSome && y.pending.isNone

/-- OVERCURRENT at a main sample (R217), on each phase; a sensor that has failed is not judged. (DEDUCED, assumption 123.) -/
def State.overCurrent (s : State) (k : Nat) : State :=
  let y := (s.stack k).sense
  s.tripPhases k ([(0, y.iU), (1, y.iV), (2, y.iW)].filter fun p => match y.failed with
    | some x => p.1 != x.val
    | none => true)

/-- The lead set of a machine: its lowest available set (R256). -/
def State.leadOf (s : State) (m : Nat) : Nat := ((s.machine m).find? s.setAvailable).getD ((s.machine m).headD m)

/-- The exchange set of stack `r` that the cycle of stack `k` reads at its step 3 (R29): the last one completed before that moment, 110 ns after t_s; a set is
complete 1,275 ns after its own t_s (R27). (DEDUCED, assumption 124.) -/
def State.xchgFor (s : State) (k r : Nat) : XchgSet :=
  let f := (s.stack r).fe
  if f.xchgAt ≤ (s.stack k).sense.ts + 11 then f.xchg else f.xchgOld

/-- The angle at `tc` and the electrical speed of stack `k` (R208, R256), modulo one turn: of its port's latch at t_s, of the imposed angle in LOWSPEED, or of
the lead set's observer; the other sets read the lead's angle and speed from the exchange set. -/
def State.angleAt (s : State) (k : Nat) (tc : Tick) : Rat × Rat :=
  let x := s.stack k
  let src := x.fe.angleSrc
  if src ≤ 5 then
    let l := (s.fbPort src).latch
    let w := s.polePairs k * ((l.speed : Rat) / 4294967296)
    (fracTurn (s.polePairs k * ((l.angle : Rat) / 4294967296) + s.angOfs k - w * (((x.sense.ts : Int) - tc : Int) : Rat) / 100000000), w)
  else
    let m := machineOf s.arrange k
    let o := s.observer m
    let lead := s.stack o.lead
    if o.lead = k then (if o.state = 3 then (fracTurn o.thLs, o.wls) else (fracTurn lead.obs.theta, lead.obs.omega))
    else
      let e := s.xchgFor k o.lead
      (fracTurn (e.theta + e.omega * ((((tc : Int) - e.ts : Int) : Rat) / 100000000) - s.angOfs o.lead + s.angOfs k), e.omega)

/-- What the cycle of stack `k` measures (R180, R185, R208). Degraded, before the first complete reconstructed set, the main samples stand in. (DESIGN CHOICE,
assumption 118.) -/
def State.cycIn (s : State) (k : Nat) : CycIn :=
  let y := (s.stack k).sense
  let main := (y.iU, y.iV, y.iW, y.tc)
  let (a, b, c, tc) := if y.degraded then y.recSet.getD main else main
  let (th, w) := s.angleAt k tc
  { iu := a / 1000, iv := b / 1000, iw := c / 1000, tc := tc, th := th, w := w, u := y.uDc / 1000 }

/-- V_lim (R212); a link read below 0 limits to 0. (DESIGN CHOICE, assumption 44.) -/
def State.vLim (s : State) (k : Nat) (u : Rat) : Rat :=
  (getN (s.stkCfg k) 52 2 : Rat) / 32768 * 2 * maxR 0 u / Config.pi

/-- θ_out of stack `k` (R208). -/
def State.thetaOut (s : State) (k : Nat) (c : CycIn) : Rat :=
  let tsc : Rat := ((((s.stack k).sense.ts : Int) - c.tc : Int) : Rat) / 100000000
  let lead : Rat := if (getN (s.stkCfg k) 0 1).testBit 1 then tsc + 3 / 2000000 + s.tu k / 2 else 3 / 2 * s.tu k
  fracTurn (c.th + c.w * lead)

/-- The decoupling voltage of set `k` (R211). -/
def State.decouple (s : State) (k : Nat) (w : Rat) : Rat × Rat :=
  let d := s.stkCfg k
  ((s.machine (machineOf s.arrange k)).filter (· != k)).foldl (fun (v : Rat × Rat) r =>
    let e := s.xchgFor k r
    let kk : Rat := (getI d (88 + 2 * r) 2 : Rat) / 16384
    let mm : Rat := 2 * Config.pi * w * ((getI d (72 + 4 * r) 4 : Rat) / 1000000000)
    (v.1 - kk * e.upid - mm * e.iq, v.2 - kk * e.upiq + mm * e.id)) (0, 0)

/-- Whether the angle source of stack `k` is a port that gives no angle yet (R244). (DEDUCED, assumption 106.) -/
def State.noAngle (s : State) (k : Nat) : Bool := let src := (s.stack k).fe.angleSrc; decide (src ≤ 5) && s.fbNoRef src

/-- The current reference of a switching set (R214, R323, R324), 0 while its port gives no angle (R244), with the field-weakening update: the
engine after it, i_d, i_q, γ and whether I stands at I_MAX. A torque of exactly 0, which has no sign, takes the current 0. (DESIGN CHOICE, assumption 125.) -/
def State.reference (s : State) (k : Nat) (c : CycIn) : FieldEng × Rat × Rat × Rat × Bool :=
  let d := s.stkCfg k
  let f := (s.stack k).fe
  let rated : Rat := getN d 16 4
  let vfw := (getN d 54 2 : Rat) / 65536 * s.vLim k c.u
  let dg := clampR 0 ((getN d 64 4 : Rat) / 4294967296)
    (f.dGamma + s.tu k * (1 / 4) * (2 * Config.pi * getN d 56 2) * quot (f.vReqMag - vfw) vfw)
  let t0 := if s.noAngle k then 0 else ofQ24 f.refs.r * rated
  let regen := decide (t0 * c.w < 0)
  let kov := s.kOv k c.u
  let kuv := s.kUv k c.u
  let lim := (if regen then kov else kuv) * ofQ24 f.refs.tLim * rated
  let t := (sgnR t0 : Rat) * minR (absR t0) lim
  let gamma := clampR 0 (1 / 4) (s.advance k c.w c.u + dg)
  let start := if f.first then quot (absR t) (3 / 2 * s.polePairs k * (s.flux k 0 0).pd) else f.iNewton
  let i1 := s.newtonStep k t gamma start
  let i2 := if getN d 99 1 = 2 then s.newtonStep k t gamma i1 else i1
  let i := if t = 0 then 0 else i2
  let lim' := clampR 0 (s.iMax k) i
  ({ f with dGamma := dg, iNewton := lim', torqLim := s.linkLimits k c.u || decide (s.iMax k < i) },
   -lim' * Config.sinTurn gamma, (sgnR t : Rat) * lim' * Config.cosTurn gamma, gamma, decide (s.iMax k ≤ i))

/-- The limited voltage (R212): the d component clamped, the q component reduced. -/
def limitVolt (vd vq lim : Rat) : Rat × Rat :=
  if lim * lim < vd * vd + vq * vq then
    let d := clampR (-lim) lim vd
    (d, (sgnR vq : Rat) * minR (absR vq) (Config.sqrt (lim * lim - d * d)))
  else (vd, vq)

/-- The dead-time compensation of a phase (R210): the sign of its reference current, a ramp within 2 % of I_MAX. -/
def dtComp (v imax i : Rat) : Rat :=
  let r := imax / 50
  v * clampR (-1) 1 (quot i r)

/-- The current loop of a cycle in the rotor frame with a reference (R210 to R212): the engine after it and what it applies. -/
def State.currentLoop (s : State) (k : Nat) (c : CycIn) (f : FieldEng) (ird irq id iq : Rat) : FieldEng × CycOut :=
  let d := s.stkCfg k
  let sw := (s.stack k).switching
  let bw : Rat := getN d (if (s.stack k).sense.degraded then 50 else 48) 2
  let wc := 2 * Config.pi * bw
  let r : Rat := (getN d 28 4 : Rat) / 1000000
  let we := 2 * Config.pi * c.w
  let l := s.flux k id iq
  let p := s.flux k ird irq
  let ed := ird - id
  let eq := irq - iq
  let ud := wc * (l.ldd * ed + l.ldq * eq) + f.zd
  let uq := wc * (l.lqd * ed + l.lqq * eq) + f.zq
  let dec := s.decouple k c.w
  let vd := ud + r * ird - we * p.pq + dec.1
  let vq := uq + r * irq + we * p.pd + dec.2
  let lim := s.vLim k c.u
  let (wd, wq) := limitVolt vd vq lim
  let hold := fun (v w e : Rat) => decide (v ≠ w) && decide (0 < e * v)
  let th := s.thetaOut k c
  let zd := if hold vd wd ed then f.zd else f.zd + wc * r * ed * s.tu k
  let zq := if hold vq wq eq then f.zq else f.zq + wc * r * eq * s.tu k
  ({ f with zd := if sw then zd else 0, zq := if sw then zq else 0, vReqMag := Config.sqrt (vd * vd + vq * vq), vd := wd, vq := wq,
            first := !sw,
            xchgOld := f.xchg, xchgAt := (s.stack k).sense.ts + 128,
            xchg := { upid := if sw then ud else 0, upiq := if sw then uq else 0, id := id, iq := iq, theta := c.th, omega := c.w,
                      ts := c.tc } },
   { vd := wd, vq := wq, al := wd * Config.cosTurn th - wq * Config.sinTurn th, be := wd * Config.sinTurn th + wq * Config.cosTurn th,
     m := quot (Config.sqrt (wd * wd + wq * wq)) (2 * c.u / Config.pi), ird := ird, irq := irq })

/-- The compare values and the record of a cycle (R207, R213, R228). -/
def State.applyCycle (s : State) (k : Nat) (c : CycIn) (o : CycOut) (id iq gamma : Rat) (atMax : Bool) : State :=
  let d := s.stkCfg k
  let x := s.stack k
  let th := s.thetaOut k c
  let iref := unpark o.ird o.irq th
  let dv : Rat := (getN d 96 2 : Rat) / 10
  let comp := if dv = 0 then (0, 0, 0) else (dtComp dv (s.iMax k) iref.1, dtComp dv (s.iMax k) iref.2.1, dtComp dv (s.iMax k) iref.2.2)
  let du := modulate o.al o.be comp c.u o.m
  let h := 32 * s.carrierP k
  let mp := 64 * getN d 98 1
  let rated : Rat := getN d 16 4
  let lim := decide (s.vLim k c.u * s.vLim k c.u < x.fe.vReqMag * x.fe.vReqMag)
  let s := s.modFe k fun f =>
    { f with meas :=
        { flags := b2n x.switching + 2 * b2n x.sense.degraded + 4 * b2n lim + 8 * b2n (decide (9069 < o.m * 10000)) +
            16 * b2n (decide (0 < f.dGamma)) + 32 * b2n atMax,
          tc := c.tc, iU := satI 4 (roundR (c.iu * 1000)), iV := satI 4 (roundR (c.iv * 1000)), iW := satI 4 (roundR (c.iw * 1000)),
          id := satI 4 (roundR (id * 1000)), iq := satI 4 (roundR (iq * 1000)), vd := satI 4 (roundR (o.vd * 1000)),
          vq := satI 4 (roundR (o.vq * 1000)), udc := x.udc01, mi := toUfix 16 15 o.m, theta := turn32 c.th,
          fe := satI 4 (roundR (c.w * 1000)), tq := toQ24 (s.torqueAt k id iq / rated), gamma := turn32 gamma } }
  s.loadCompare k #v[compareOf h mp du.1, compareOf h mp du.2.1, compareOf h mp du.2.2]

/-- FLUX_MAP_RANGE on each entry into clamping at the measured current (R209). -/
def State.fluxRange (s : State) (k : Nat) (id iq : Rat) : State :=
  let f := s.flux k id iq
  let e := (s.stack k).fe
  let s := s.modFe k fun g => { g with clampD := f.cd, clampQ := f.cq }
  if (f.cd && !e.clampD) || (f.cq && !e.clampQ) then s.raise 0x8321 1 k (le 1 (b2n f.cd + 2 * b2n f.cq)) else s

/-- The normal current loop of a cycle (R210 to R216): a stack that does not switch has reference 0 and its state held at 0; the first switching
cycle starts from the measured currents. -/
def State.normalCycle (s : State) (k : Nat) (c : CycIn) : State :=
  let x := s.stack k
  let (id, iq) := park c.iu c.iv c.iw c.th
  if !x.switching then
    let f := { x.fe with dGamma := 0, iNewton := 0, zd := 0, zq := 0, torqLim := s.linkLimits k c.u }
    let (f, o) := s.currentLoop k c f 0 0 id iq
    (s.modFe k fun _ => f).applyCycle k c o id iq 0 false
  else
    let (f, rd, rq, gamma, atMax) := s.reference k c
    let (rd, rq) := if x.fe.first then (id, iq) else (rd, rq)
    let (f, o) := s.currentLoop k c f rd rq id iq
    (s.modFe k fun _ => f).applyCycle k c o id iq gamma atMax

/-- A stationary-frame voltage brought within the largest modulation index OVM_MAX (R212, R213). -/
def State.capVolt (s : State) (k : Nat) (u al be : Rat) : Rat × Rat :=
  let a := Config.sqrt (al * al + be * be)
  let l := s.vLim k u
  if l < a then (al * quot l a, be * quot l a) else (al, be)

/-- A cycle that applies a stationary-frame voltage (R261, R270). -/
def State.fixedCycle (s : State) (k : Nat) (c : CycIn) (al0 be0 : Rat) : State :=
  let al := (s.capVolt k c.u al0 be0).1
  let be := (s.capVolt k c.u al0 be0).2
  let ts := (s.stack k).sense.ts
  let (id, iq) := park c.iu c.iv c.iw c.th
  let co := Config.cosTurn c.th
  let si := Config.sinTurn c.th
  let vd := al * co + be * si
  let vq := be * co - al * si
  let m := quot (Config.sqrt (al * al + be * be)) (2 * c.u / Config.pi)
  let s := s.modFe k fun f =>
    { f with zd := 0, zq := 0, dGamma := 0, iNewton := 0, first := true, torqLim := s.linkLimits k c.u, vd := vd, vq := vq,
             vReqMag := Config.sqrt (al * al + be * be),
             xchgOld := f.xchg, xchgAt := ts + 128,
             xchg := { upid := 0, upiq := 0, id := id, iq := iq, theta := c.th, omega := c.w, ts := c.tc } }
  s.applyCycle k c { vd := vd, vq := vq, al := al, be := be, m := m, ird := 0, irq := 0 } id iq 0 false

/-- A cycle of LOWSPEED in its lead set (R265): the current LS_I at γ = 0 in the direction of ω_ls. -/
def State.imposedCycle (s : State) (k : Nat) (c : CycIn) (i : Rat) : State :=
  let (id, iq) := park c.iu c.iv c.iw c.th
  let f := { (s.stack k).fe with dGamma := 0, torqLim := s.linkLimits k c.u }
  let (rd, rq) := if (s.stack k).fe.first then (id, iq) else (0, i)
  let (f, o) := s.currentLoop k c f rd rq id iq
  (s.modFe k fun _ => f).applyCycle k c o id iq 0 (decide (s.iMax k ≤ absR i))

end Sys2Proof.Machine
end

