-- ==== Sys2Proof/Machine/Observers.lean ====
section
/-! DEFINITION. Sensorless operation (R256 to R274), the field-engine cycle (R218) and the carrier zero (R206). -/
namespace Sys2Proof.Machine

/-! ### Parameters and the set observer -/

/-- SENSORLESS of set `k`. -/
def State.slCfg (s : State) (k : Nat) : Bytes := s.cfg (0x50 + k)
/-- SENSORLESS of the lowest enabled set of a machine, whose parameters act on the whole machine (R256). -/
def State.slMachine (s : State) (m : Nat) : Bytes := s.slCfg ((s.machine m).headD m)
/-- Whether set `k` has an observer (R256). -/
def State.hasObs (s : State) (k : Nat) : Bool := (s.block (0x50 + k)).isSome
/-- OBS_FMIN in Hz. -/
def slFmin (d : Bytes) : Rat := (getN d 20 2 : Rat) / 10
/-- CATCH_OK, CATCH_T and PLAUS_T in ticks. -/
def slCatchOk (d : Bytes) : Nat := msTicks (getN d 41 1)
/-- CATCH_T in ticks. -/
def slCatchT (d : Bytes) : Nat := msTicks (getN d 40 1)
/-- PLAUS_T in ticks. -/
def slPlaus (d : Bytes) : Nat := 1000 * getN d 32 2

/-- The state with the observer of set `k` changed. -/
def State.modOs (s : State) (k : Nat) (f : ObsSet → ObsSet) : State := s.modStack k fun x => { x with obs := f x.obs }

/-- g_obs (R266) of set `k`. -/
def State.gObs (s : State) (k : Nat) : Rat := 1 - Config.exp (-2 * Config.pi * getN (s.slCfg k) 16 2 * s.tu k)

/-- An angle difference in [−½, ½) turn. -/
def wrapHalf (r : Rat) : Rat := let f := fracTurn r; if f < 1 / 2 then f else f - 1

/-- The back-EMF of an observer in the stationary frame noted with its last millisecond (R270, R271). -/
def ObsSet.noteE (o : ObsSet) (tc : Tick) (a b : Rat) : ObsSet :=
  { o with ea := a, eb := b, ab := (tc, a, b) :: o.ab.filter fun p => decide (tc ≤ p.1 + msTicks 1) }

/-- An observer whose rotor frame is put at another angle: its back-EMF and its previous current stay what they are. -/
def ObsSet.turnTo (o : ObsSet) (th : Rat) : ObsSet :=
  let co := Config.cosTurn (th - o.theta)
  let si := Config.sinTurn (th - o.theta)
  { o with theta := fracTurn th, ed := o.ed * co + o.eq * si, eq := o.eq * co - o.ed * si, idPrev := o.idPrev * co + o.iqPrev * si,
           iqPrev := o.iqPrev * co - o.idPrev * si }

/-- One step of the observer of set `k` (R266) with its tests (R268), in the frame of θ̂: it runs before the cycle's own voltage is formed, so that the voltage
kept is the previous one. The model step is the extended-EMF model with R_S, L_dd and L_qq. (PRESUMED, assumption 56.) -/
def State.pll (s : State) (k : Nat) (c : CycIn) : State :=
  let o := (s.stack k).obs
  let d := s.slCfg k
  let m := machineOf s.arrange k
  let (id, iq) := park c.iu c.iv c.iw o.theta
  let l := s.flux k o.idPrev o.iqPrev
  let r : Rat := (getN (s.stkCfg k) 28 4 : Rat) / 1000000
  let tu := s.tu k
  let w := 2 * Config.pi * o.omega
  let co := Config.cosTurn o.theta
  let si := Config.sinTurn o.theta
  let vd := o.va * co + o.vb * si
  let vq := o.vb * co - o.va * si
  let pd := o.idPrev + quot tu l.ldd * (vd - r * o.idPrev + w * l.lqq * o.iqPrev - o.ed)
  let pq := o.iqPrev + quot tu l.ldd * (vq - r * o.iqPrev - w * l.lqq * o.idPrev - o.eq)
  let g := s.gObs k
  let ed := o.ed + g * (pd - id) * l.ldd / tu
  let eq := o.eq + g * (pq - iq) * l.ldd / tu
  let sg := if o.omega = 0 then o.sgn else sgnR o.omega
  let err := wrapTurn (Config.atanTurn (-ed) ((sg : Rat) * eq))
  let kw := 2 * Config.pi * getN d 18 2
  let om := o.omega + kw * kw * err * tu
  let th := fracTurn (o.theta + (om + 2 * kw * err) * tu)
  let now := s.flux k id iq
  let est := quot (Config.sqrt (ed * ed + eq * eq)) (2 * Config.pi * absR om)
  let exp' := now.pd - now.lqq * id
  let lead := s.leadOf m
  let lx := (s.stack lead).obs
  let lth := if lead = k then o.theta else lx.thc + lx.omega * (((c.tc : Int) - lx.tc : Int) : Rat) / 100000000
  let diff := wrapTurn (o.theta - s.angOfs k - lth + s.angOfs lead)
  let bits := b2n (decide ((getN d 28 2 : Rat) / 10 < absR (kw * kw * err) / s.polePairs k)) +
    2 * b2n (decide (est * 100 < exp' * getN d 30 1) || decide (exp' * getN d 31 1 < est * 100)) +
    4 * b2n (decide (eq * (if om = 0 then sg else sgnR om) < 0)) + 8 * b2n (decide ((getN d 36 4 : Rat) / 4294967296 < absR diff))
  let ts := (s.stack k).sense.ts
  s.modOs k fun o =>
    { o with theta := th, omega := om, sgn := sg, ed := ed, eq := eq, idPrev := id, iqPrev := iq, bits := bits, badAt := ts,
             badSince := if bits = 0 then none else some (o.badSince.getD ts), thc := o.theta, tc := c.tc, live := true }

/-- The voltage of zero-current control (R270) of set `k`: ê_αβ updated, then v_αβ. -/
def State.zeroVolt (s : State) (k : Nat) (c : CycIn) : Rat × Rat × State :=
  let o := (s.stack k).obs
  let g := s.gObs k
  let (ia, ib) := park c.iu c.iv c.iw 0
  let ea := o.ea + g * (o.va - o.ea)
  let eb := o.eb + g * (o.vb - o.eb)
  let x := 2 * Config.pi * getN (s.stkCfg k) 48 2 * (s.flux k 0 0).ldd
  (ea - x * ia, eb - x * ib, s.modOs k fun o => o.noteE c.tc ea eb)

/-- A cycle under zero-current control. (DESIGN CHOICE, assumption 58.) -/
def State.zeroCycle (s : State) (k : Nat) (c : CycIn) : State :=
  let (a, b, s) := s.zeroVolt k c
  (s.fixedCycle k c a b).modOs k fun o => { o with va := a, vb := b }

/-- The rotation rate of ê_αβ over its last millisecond (R271), newest entry first. -/
def rotRate (l : List (Tick × Rat × Rat)) : Rat :=
  match l with
  | [] => 0
  | n :: _ =>
    let old := l.getLast?.getD n
    let turn := (l.zip (l.drop 1)).foldl (fun (r : Rat) p =>
      r + wrapTurn (Config.atanTurn p.1.2.2 p.1.2.1 - Config.atanTurn p.2.2.2 p.2.2.1)) 0
    quot (turn * 100000000) (((n.1 : Int) - old.1 : Int) : Rat)

/-- The observers of a machine set to what ê_αβ says (R271 step 1). (DEDUCED, assumption 57.) -/
def State.catchInit (s : State) (m : Nat) : State :=
  (s.machine m).foldl (fun s k => s.modOs k fun o =>
    { o.turnTo (Config.atanTurn (-o.ea) o.eb) with omega := rotRate o.ab, ed := 0, eq := Config.sqrt (o.ea * o.ea + o.eb * o.eb), badSince := none,
                                                   bits := 0 }) s

/-! ### The observer of a machine -/

/-- The accumulated angle follows an electrical angle of the lead set (R257). -/
def State.obsCount (s : State) (m : Nat) (th : Rat) : State :=
  s.modObs m fun o => { o with acc := o.acc + wrapHalf (th - s.angOfs o.lead - o.acc) }

/-- The latch record of a machine's observer (R257). -/
def State.obsLatch (s : State) (m : Nat) (tc : Tick) (w : Rat) : State :=
  let pp := s.polePairs (s.observer m).lead
  s.modObs m fun o =>
    let busy := o.state == 5 || o.state == 6
    let n := roundR (o.acc * 65536)
    { o with latch :=
        { count := wrap64 n, aperture := tc, angle := turn32 (quot ((n : Rat) / 65536) pp), speed := toFix 64 32 (quot w pp),
          state := obsLatchState o.state, flags := 8 + b2n busy, drift := 0 } }

/-- A caught or started observer goes on in TRACKING, or in LOWSPEED below OBS_FMIN (R260, R271). -/
def State.obsRun (s : State) (m : Nat) : State :=
  let o := s.observer m
  let x := (s.stack o.lead).obs
  let s := s.obsCount m x.thc
  let s := (s.machine m).foldl (fun s k => s.modFe k fun f => { f with first := true }) s
  let slow := decide (absR x.omega < slFmin (s.slMachine m))
  (s.modObs m fun o =>
    { o with thLs := x.theta, wls := if slow then x.omega else o.wls, wlsAt := none, slowSince := none }).setObs m (if slow then 3 else 4)

/-- The machine is put under ASC by its observer (R269). -/
def State.obsAsc (s : State) (m : Nat) : State :=
  let s := s.modObs m fun o => { o with asc := true, crossings := 0, crossAt := none, overAt := none }
  ((s.machine m).foldl (fun s k =>
    if (s.stack k).stop.kind = .none then s.modStack k fun x => { x with fw := .asc } else s) s).settle

/-- Whether a loss calls for ASC (R269): E_LL against 0.95 × U_DC, both of the last cycle in which every test passed. -/
def State.lossHigh (s : State) (m : Nat) : Bool :=
  let o := s.observer m
  decide (o.uLast * (95 / 100) ≤ s.backEmf o.lead o.fLast)

/-- The observer enters LOST with the decision of R269. -/
def State.obsToLost (s : State) (m : Nat) : State :=
  let s' := (s.modObs m fun o => { o with lossAt := s.time, zeroFrom := s.time, attempts := 0, overAt := none, rampAt := none }).setObs m 5
  if s.lossHigh m then s'.obsAsc m else s'

/-- OBS_LOST (R267, R269): the event with the decision; another stop reaction in force takes precedence (R273). -/
def State.obsLost (s : State) (m bits : Nat) : State :=
  let o := s.observer m
  let e := s.backEmf o.lead o.fLast
  let s := s.raise 0x8343 1 o.lead (le 1 bits ++ le 1 (b2n (s.lossHigh m)) ++ le 2 (toUfix 16 0 e) ++ leI 4 (satI 4 (roundR (o.fLast * 1000))))
  if (s.observer m).state = 7 then s else s.obsToLost m

/-- START_FAILED (R262, R263, R273). -/
def State.startFailed (s : State) (m cause : Nat) : State := s.raise 0x8342 1 (s.observer m).lead (le 1 cause)

/-- CATCH_RESULT (R277). -/
def State.catchResult (s : State) (m res : Nat) : State :=
  let o := s.observer m
  s.info 0x8344 1 o.lead (le 1 o.attempts ++ le 1 res ++ zeros 2 ++ leI 4 (satI 4 (roundR ((s.stack o.lead).obs.omega * 1000))))

/-- The test direction of a step of START (R261, R263). -/
def startDir (n : Nat) (axis : Option Rat) (j : Nat) : Rat :=
  if j < n then (j : Rat) / n else axis.getD 0 + (if j = n then 0 else 1 / 2)

/-- A cycle of START in the lead set (R261, R273): the rise between the two samples that bound step 1, and the next voltage. A voltage commanded in a cycle
begins at the next sample centre in LOAD_MODE 0, within the present interval in LOAD_MODE 1. (DEDUCED, assumption 126.) -/
def State.startCycle (s : State) (m k : Nat) (c : CycIn) : State :=
  let o := s.observer m
  let d := s.slMachine m
  let n := getN d 1 1
  let inj := getN d 2 1
  let len := 2 * inj + getN d 3 1
  let (ia, ib) := park c.iu c.iv c.iw 0
  let lim : Rat := (getN d 8 4 : Rat) / 1000
  if (s.stack k).sense.failed.isSome then s.startFailed m 4
  else if lim * lim < ia * ia + ib * ib then s.startFailed m 2
  else
    let now := (getN (s.stkCfg k) 0 1).testBit 1
    let pr := if now then o.step else o.step - 1
    let dir := startDir n o.axis (pr / len)
    let proj := ia * Config.cosTurn dir + ib * Config.sinTurn dir
    let s := if o.step = 0 ∧ !now then s
      else if pr % len = 0 then s.modObs m fun o => { o with iStart := proj }
      else if pr % len = inj then s.modObs m fun o => { o with rises := o.rises ++ [proj - o.iStart] }
      else s
    let wait := (o.step = n * len ∧ o.axis = none) ∨ o.step = (n + 2) * len
    let j := o.step / len
    let q := o.step % len
    let v := (getN d (if j < n then 4 else 6) 2 : Rat) / 65536 * 2 * c.u / Config.pi
    let v := if wait then 0 else if q < inj then v else if q < 2 * inj then -v else 0
    let th := startDir n o.axis j
    let a := v * Config.cosTurn th
    let b := v * Config.sinTurn th
    let s := if wait then s else s.modObs m fun o => { o with step := o.step + 1 }
    (s.fixedCycle k c a b).modOs k fun x => { x with va := a, vb := b }

/-- START begins (R260). -/
def State.startBegin (s : State) (m : Nat) : State :=
  (s.modObs m fun o => { o with step := 0, rises := [], axis := none }).setObs m 2

/-- Whether every available set of a machine passes every test in its last cycle. -/
def State.obsPass (s : State) (m : Nat) : Bool := ((s.machine m).filter s.setAvailable).all fun k => (s.stack k).obs.bits == 0

/-- The instant since which every test passes. -/
def State.noteOk (s : State) (m ts : Nat) (u : Rat) : State :=
  let ok := s.obsPass m
  s.modObs m fun o =>
    { o with okSince := if ok then some (o.okSince.getD ts) else none, fLast := if ok then (s.stack o.lead).obs.omega else o.fLast,
             uLast := if ok then u else o.uLast }

/-- Whether every test has passed for CATCH_OK. -/
def State.okLong (s : State) (m ts : Nat) : Bool := match (s.observer m).okSince with
  | some u => decide (u + slCatchOk (s.slMachine m) ≤ ts)
  | none => false

/-- Whether some available set has failed a test in every cycle for PLAUS_T, counted from `from'` at the earliest; the failing tests (R268). -/
def State.implausible (s : State) (m from' : Nat) : Option Nat :=
  ((s.machine m).filter s.setAvailable).findSome? fun k =>
    let o := (s.stack k).obs
    match o.badSince with
    | some u => if max u from' + slPlaus (s.slMachine m) ≤ o.badAt then some o.bits else none
    | none => none

/-- The speed test below OBS_FMIN for PLAUS_T (R267); true where it has lasted. -/
def State.noteSlow (s : State) (m ts : Nat) : State × Bool :=
  let o := s.observer m
  let d := s.slMachine m
  if absR (s.stack o.lead).obs.omega < slFmin d then
    let u := o.slowSince.getD ts
    (s.modObs m fun o => { o with slowSince := some u }, decide (u + slPlaus d ≤ ts))
  else (s.modObs m fun o => { o with slowSince := none }, false)

/-- ω_ls of a cycle (R265), and when it has reached 1.25 × OBS_FMIN. (DESIGN CHOICE, assumption 58.) -/
def State.lowSpeed (s : State) (m k : Nat) : State :=
  let o := s.observer m
  let d := s.slMachine m
  let top := 5 / 4 * slFmin d
  let tgt := if s.motion.td.natAbs < 65536 then 0 else (if s.motion.td < 0 then -top else top)
  let stp := (getN d 22 2 : Rat) / 10 * s.tu k
  let w := if o.wls < tgt then minR tgt (o.wls + stp) else maxR tgt (o.wls - stp)
  s.modObs m fun o =>
    { o with wls := w, thLs := fracTurn (o.thLs + w * s.tu k),
             wlsAt := if top ≤ absR w then some (o.wlsAt.getD s.time) else none }

/-- The crossings of a phase current under ASC (R269): two in a row below the threshold release it. -/
def State.obsCrossings (s : State) (m k : Nat) (c : CycIn) : State :=
  let x := s.stack k
  let sg := fun (i : Nat) (r : Rat) => if r = 0 then vget x.obs.signs i 0 else sgnR r
  let now : Vector Int 3 := #v[sg 0 c.iu, sg 1 c.iv, sg 2 c.iw]
  let hit := [0, 1, 2].any fun i => vget now i 0 * vget x.obs.signs i 0 < 0
  let s := s.modOs k fun o => { o with signs := now }
  if !hit then s else
  let o := s.observer m
  let low := match o.crossAt with
    | some u => decide (s.backEmf k (quot 100000000 (6 * (((c.tc : Int) - u : Int) : Rat))) < x.sense.uDc / 1000 * (95 / 100))
    | none => false
  let n := if low then o.crossings + 1 else 0
  let s := s.modObs m fun o => { o with crossAt := some c.tc, crossings := n }
  if n < 2 then s else
    let s := s.modObs m fun o => { o with asc := false, zeroFrom := s.time }
    ((s.machine m).foldl (fun s k =>
      if (s.stack k).stop.kind = .none ∧ (s.stack k).fw = .asc then
        let s := s.modStack k fun x => { x with fw := .none }
        s.modStack k fun x => { x with switching := x.fe.refs.switch && !s.blocked k }
      else s) s).settle

/-- The applied voltage of zero-current control against 0.95 × U_DC for 1 ms (R269). -/
def State.overVolt (s : State) (m k : Nat) (c : CycIn) : State :=
  let o := (s.stack k).obs
  let high := decide ((c.u * (95 / 100)) * (c.u * (95 / 100)) ≤ 3 * (o.va * o.va + o.vb * o.vb))
  let u := (s.observer m).overAt.getD c.tc
  let s := s.modObs m fun x => { x with overAt := if high then some u else none }
  if high ∧ u + msTicks 1 ≤ c.tc then
    let s := if (s.observer m).state = 6 then (s.catchResult m 1).setObs m 5 else s
    s.obsAsc m
  else s

/-- The lead set's part of a cycle after its voltage is applied: the transitions of R258, R260, R267 and R271. -/
def State.obsLead (s : State) (m k : Nat) (c : CycIn) : State :=
  let d := s.slMachine m
  let ts := (s.stack k).sense.ts
  let o := s.observer m
  let x := (s.stack k).obs
  match o.state with
  | 1 =>
    let e := Config.sqrt (x.ea * x.ea + x.eb * x.eb)
    let s := s.modObs m fun o => { o with eHist := (c.tc, e) :: o.eHist.filter fun p => decide (c.tc ≤ p.1 + slCatchOk d) }
    if !o.begun && decide (o.since + msTicks 1 ≤ ts) && decide ((getN d 42 2 : Rat) / 10 ≤ e) then
      (s.catchInit m).modObs m fun o => { o with begun := true, tryAt := ts, okSince := none }
    else if o.begun then s.noteOk m ts c.u
    else s
  | 3 =>
    let s := s.noteOk m ts c.u
    if o.wlsAt.isSome ∧ s.okLong m ts then
      let step := sturn32 (turn32 (x.theta - o.thLs))
      ((s.obsCount m x.thc).modObs m fun o => { o with slowSince := none }).setObs m 4 step
    else s.obsCount m c.th
  | 4 =>
    let s := (s.noteOk m ts c.u).obsCount m x.thc
    let (s, slow) := s.noteSlow m ts
    if slow then (s.modObs m fun o => { o with thLs := x.theta, wls := x.omega, wlsAt := none, slowSince := none }).setObs m 3 else s
  | 5 => s.overVolt m k c
  | 6 =>
    let s := s.noteOk m ts c.u
    if s.okLong m ts then ((s.catchResult m 0).obsRun m).modObs m fun o => { o with rampAt := some s.time }
    else if (s.implausible m (o.tryAt + msTicks 1)).isSome then (s.catchResult m 1).setObs m 5
    else if o.tryAt + slCatchT d ≤ ts then (s.catchResult m 2).setObs m 5
    else s.overVolt m k c
  | _ => s

/-- The running states of an observer beside a port that gives the angle (R256, R258): from IDLE into PROBE with the first switching cycle, from PROBE once
every test has passed for CATCH_OK, then LOWSPEED or TRACKING by what it sees; FAILED stays. (DEDUCED, assumption 57.) -/
def State.alongState (s : State) (m ts : Nat) (c : CycIn) (x : ObsSet) : State :=
  let d := s.slMachine m
  let s := (s.noteOk m ts c.u).obsCount m x.thc
  let slow := s.noteSlow m ts
  let s := slow.1
  match (s.observer m).state with
  | 0 => (s.modObs m fun o => { o with okSince := none }).setObs m 1
  | 1 => if s.okLong m ts then s.setObs m (if absR x.omega < slFmin d then 3 else 4) else s
  | 3 => if s.okLong m ts ∧ 5 / 4 * slFmin d ≤ absR x.omega then s.setObs m 4 else s
  | 4 => if slow.2 ∨ (s.implausible m 0).isSome then s.setObs m 3 else s
  | _ => s

/-- The observer of a machine whose angle comes from a port runs alongside; OBS_DISAGREE (R274). -/
def State.obsAlong (s : State) (m k : Nat) (c : CycIn) : State :=
  let d := s.slMachine m
  let ts := (s.stack k).sense.ts
  let x := (s.stack k).obs
  let s := if (s.observer m).state = 7 then s else (s.modObs m fun o => { o with along := true }).alongState m ts c x
  let o := s.observer m
  let diff := wrapTurn (x.thc - c.th)
  let far := decide ((getN d 36 4 : Rat) / 4294967296 < absR diff)
  let u := o.differs.getD ts
  let lasts := far && decide (u + slPlaus d ≤ ts)
  let s := s.modObs m fun o => { o with differs := if far then some u else none, disagreed := far && (o.disagreed || lasts) }
  if lasts && !o.disagreed then
    s.raise 0x8346 1 o.lead (le 1 (s.stack k).fe.angleSrc ++ zeros 3 ++ leI 4 (sturn32 (turn32 diff)))
  else s

/-- A set's observer starts at the angle and speed in use (R256). (DEDUCED, assumption 57.) -/
def State.obsInit (s : State) (k : Nat) (c : CycIn) : State :=
  s.modOs k fun o =>
    { o with theta := fracTurn c.th, omega := c.w, ed := 0, eq := 0, idPrev := 0, iqPrev := 0, bits := 0, badSince := none, va := 0, vb := 0, ab := [] }

/-- The applied voltage of the normal loop, kept for the observer with its back-EMF in the stationary frame (R270, R271). -/
def State.keepVolt (s : State) (k : Nat) (c : CycIn) : State :=
  let f := (s.stack k).fe
  let th := s.thetaOut k c
  s.modOs k fun o =>
    { o.noteE c.tc (o.ed * Config.cosTurn o.thc - o.eq * Config.sinTurn o.thc) (o.ed * Config.sinTurn o.thc + o.eq * Config.cosTurn o.thc) with
      va := f.vd * Config.cosTurn th - f.vq * Config.sinTurn th, vb := f.vd * Config.sinTurn th + f.vq * Config.cosTurn th }

/-- The cycle of a switching stack whose angle is its machine's observer (R256 to R271). -/
def State.sensorlessCycle (s : State) (m k : Nat) (c : CycIn) : State :=
  let lead := decide (s.leadOf m = k)
  let s : State := s.modObs m fun o => { o with along := false }
  let s : State := if lead ∧ (s.observer m).state = 0 then
      (s.modOs k fun o => { o with omega := 0, ea := 0, eb := 0, ab := [], va := 0, vb := 0 }).modObs m fun o =>
        { o with eHist := [], begun := false, repeated := false, okSince := none }
    else s
  let s : State := if lead ∧ (s.observer m).state = 0 then s.setObs m 1 else s
  let s : State := s.pll k c
  let o := s.observer m
  let s : State := match o.state with
    | 1 => s.zeroCycle k c
    | 2 => if lead then s.startCycle m k c else s.fixedCycle k c 0 0
    | 3 =>
      let s := if lead then s.lowSpeed m k else s
      let o := s.observer m
      let ls : Rat := (getN (s.slMachine m) 24 4 : Rat) / 1000
      let i := if !lead ∨ o.wls = 0 then 0 else (sgnR o.wls : Rat) * ls
      (s.imposedCycle k c i).keepVolt k c
    | 4 => (s.normalCycle k c).keepVolt k c
    | 5 => s.zeroCycle k c
    | 6 => s.zeroCycle k c
    | _ => s.normalCycle k c
  if lead then
    let s := s.obsLead m k c
    let w := if (s.observer m).state = 3 then (s.observer m).wls else (s.stack k).obs.omega
    s.obsLatch m c.tc w
  else s

/-- Whether a stack starts from rest for a port that gives no angle yet and has INIT_ALIGN 2 (R244, R263): until its machine's observer runs; a sequence begun
so goes on to its end. (DEDUCED, assumption 106.) -/
def State.seeksAngle (s : State) (k : Nat) : Bool :=
  let o := s.observer (machineOf s.arrange k)
  s.hasObs k && decide ((s.stack k).fe.angleSrc ≤ 5) && getN (s.fbCfg (s.stack k).fe.angleSrc) 35 1 == 2 &&
    ((s.noAngle k && o.state < 3) || (!o.along && (o.state == 1 || o.state == 2)) || o.state == 5 || o.state == 6)

/-- Whether the cycle of a stack is its machine's observer's (R256, R258). (DEDUCED, assumption 106.) -/
def State.byObserver (s : State) (k : Nat) : Bool := (s.stack k).fe.angleSrc == 16 || s.seeksAngle k

/-- What a cycle does with its inputs: the current loop, or what the observer commands (R218, R258, R272). -/
def State.cycleLoop (s : State) (k : Nat) (c : CycIn) : State :=
  let m := machineOf s.arrange k
  let x := s.stack k
  if !x.switching then
    let s := (s.normalCycle k c).modOs k fun o => { o with live := false }
    if (s.observer m).state = 5 ∧ (s.observer m).lead = k then (s.obsCrossings m k c).obsLatch m c.tc x.obs.omega else s
  else if s.byObserver k then s.sensorlessCycle m k c
  else
    if s.hasObs k then
      let s := ((s.pll k c).normalCycle k c).keepVolt k c
      if s.leadOf m = k then
        let s := s.obsAlong m k c
        s.obsLatch m c.tc (s.stack k).obs.omega
      else s
    else s.normalCycle k c

/-- The lead set of a machine goes over to set `k` with its next cycle where `k` is now the lowest available one (R256); the imposed angle is turned into the
frame of its windings. -/
def State.takeLead (s : State) (k : Nat) : State :=
  let m := machineOf s.arrange k
  if s.hasObs k && (s.stack k).switching && s.leadOf m == k && (s.observer m).lead != k then
    s.modObs m fun o => { o with lead := k, thLs := o.thLs - s.angOfs o.lead + s.angOfs k }
  else s

/-- The back-EMF that releases a stack from ASC (R272, R332): 0.95 × U_DC after a lost observer, ASC_RATIO / 100 × U_DC otherwise. -/
def State.releaseLevel (s : State) (k : Nat) (u : Rat) : Rat :=
  (if (s.stack k).stop.cause = 0x8343 then 95 else (s.cu (0x60 + k) 24 1 : Rat)) / 100 * u

/-- A cycle's look at a stack under SELECT or ASC (R332): how long each condition has lasted, the crossings of the phase currents and their frequency. -/
def State.watchStop (s : State) (k : Nat) (c : CycIn) : State :=
  let x := s.stack k
  if x.stop.kind ≠ .select ∧ x.stop.kind ≠ .asc then s else
  let d := s.cfg (0x60 + k)
  let w := x.watch
  let ts := x.sense.ts
  let off := x.fw == .pulseOff && x.stop.kind == .select
  let asc := x.fw == .asc
  let below := fun (pct : Nat) => let l := s.iMax k * pct / 100; decide (absR c.iu < l) && decide (absR c.iv < l) && decide (absR c.iw < l)
  let sg := fun (i : Nat) (r : Rat) => if r = 0 then vget w.signs i 0 else sgnR r
  let now : Vector Int 3 := #v[sg 0 c.iu, sg 1 c.iv, sg 2 c.iw]
  let hit := asc && [0, 1, 2].any fun i => decide (vget now i 0 * vget w.signs i 0 < 0)
  let slow := match w.crossAt with
    | some u => !x.sense.udcLost && decide (s.backEmf k (quot 100000000 (6 * (((c.tc : Int) - u : Int) : Rat))) < s.releaseLevel k c.u)
    | none => false
  let since := fun (o : Option Tick) (b : Bool) => if b then some (o.getD ts) else none
  s.modStack k fun x =>
    { x with watch :=
        { emf := since w.emf (off && !x.sense.udcLost && s.angleOk k && decide (s.ascLevel k ≤ x.fe.eLL)),
          rev := since w.rev (off && decide (x.sense.iDc ≤ -((getN d 26 2 : Rat) * 1000))),
          phase := since w.phase (off && !below 5),
          quiet := since w.quiet (asc && !hit && below (getN d 25 1)),
          signs := now, crossAt := if hit then some c.tc else if asc then w.crossAt else none,
          low := if !asc then 0 else if hit then (if slow then w.low + 1 else 0) else w.low } }

/-- The rest of a cycle from its inputs on (R218): the observer's start where it begins, the loop, the back-EMF, and what a stop reaction watches. -/
def State.fieldStep (s : State) (k : Nat) (c : CycIn) : State :=
  let x := s.stack k
  let s := if x.switching && !x.obs.live && s.hasObs k then s.obsInit k c else s
  let s := s.cycleLoop k c
  (s.modFe k fun f => { f with fe := c.w, eLL := s.backEmf k c.w }).watchStop k c

/-- A cycle begins with the sample set that the decimators delivered (R27, R218): it counts for the update points (R205), and takes the newest reference set
whose halves were swapped before its step 3, 110 ns after t_s (R28). -/
def State.beginCycle (s : State) (k : Nat) : State :=
  let now := (s.stack k).sense.ts + 11
  (s.modSense k fun y => { y with fresh := false }).modFe k fun f =>
    match f.refsNext with
    | some (r, u) => if u < now then { f with cycles := f.cycles + 1, refs := r, refsNext := none } else { f with cycles := f.cycles + 1 }
    | none => { f with cycles := f.cycles + 1 }

/-- FIELD_ENGINE_CYCLE (R218): the recorder's frame at t_c from the records completed before (R462), overcurrent, DC-link thresholds, the current loop or what the observer commands, compare values, the exchange set
and the measurement record. -/
def execFieldEngineCycle (t : Tick) (k : Fin 4) (s : State) : Host.Outcome State Fault Refusal :=
  let s := s.upTo t
  .next <| if !(s.sealedCfg.isSome && s.enabled k && s.awake && (s.stack k).sense.fresh) || vget s.integ.halted (2 + k) false then s else
    let s := ((((s.recCycle k (s.stack k).sense.tc).feOverrun k).cmpActivate k).beginCycle k).takeLead k
    let s := ((s.overCurrent k).dcCheck k).settle
    let c := s.cycIn k
    let (id, iq) := park c.iu c.iv c.iw c.th
    (s.fluxRange k id iq).fieldStep k c

/-! ### The carrier zero (R206, R153, R184, R190, R138) -/

/-- A band decided for a stack takes effect, with the limits of the adapted steps (R148, R153); the channels take the modes of the block
already. -/
def State.bandZero (s : State) (k : Nat) : State :=
  match (s.stack k).bandNext with
  | none => s
  | some b =>
    let d := s.cfg (0x20 + k)
    let lo := getN d (bandAt b + 16) 1
    let hi := getN d (bandAt b + 17) 1
    let s := s.modStack k fun x => { x with band := b, bandNext := none }
    { s with gates := Vector.ofFn fun ch : Fin 28 =>
        let g := s.gate ch
        if chStack ch = k ∧ g.mode = 1 then g.rebound lo hi else g }

/-- Whether a stack starts to switch at a carrier zero (R138, R258): it is told to, nothing blocks it, and its observer does not hold it. -/
def State.mayStart (s : State) (k : Nat) : Bool :=
  let x := s.stack k
  let m := machineOf s.arrange k
  let o := s.observer m
  let free := !s.byObserver k || o.state == 3 || o.state == 4 || o.state == 5 || o.state == 6 ||
    ((o.state == 0 || o.state == 1 || o.state == 2) && s.leadOf m == k)
  x.fe.refs.switch && (s.dev == .run || s.dev == .shelter) && !s.blocked k && s.kpGrants k && free

/-- The conversions of the sin/cos ports of a stack at its sample centres (R194). -/
def State.sinCosRequests (s : State) (k : Nat) : State :=
  (List.range 6).foldl (fun s n =>
    if s.fbMode n == 2 && (s.angSrcCfg k == n || k == s.timeBase) then
      let s := s.sarPair n s.time
      if s.double k then s.sarPair n (s.time + s.carrierP k / 2) else s
    else s) s

/-- The carrier zero of a stack: a change of current source, the sensor decision, the slew of the corrections, the band, the update points; a
released stop ends and the stack may start to switch. -/
def State.carrierZero (s : State) (k : Nat) : State :=
    let s := (if k = s.timeBase then s.recCycle 4 s.time else s).modSense k fun y => { y with pending := none }
    let s := (((s.senseDecide k).calSlew k).bandZero k).feOverrun k
    let s := s.cmpActivate k
    let s := if (s.stack k).release then s.modStack k fun x => { x with release := false, stop := {}, fw := .none } else s
    let s := s.settleGates
    let go := s.mayStart k
    let s := s.modStack k fun x =>
      { x with switching := x.switching || go, sense := if go && !x.switching then { x.sense with cmpFrom := s.time } else x.sense }
    let s := [0, 1, 2].foldl (fun s x => s.pwmRequest k x 0 true) s
    let s := (s.modGate (24 + k) fun g => { g with noCmd := false }).settle
    s.sinCosRequests k

/-! ### Rows of the machine's observer -/

/-- PROBE_END (R260). (DESIGN CHOICE, assumption 58.) -/
def execProbeEnd (t : Tick) (m : Fin 4) (s : State) : Host.Outcome State Fault Refusal :=
  let s := s.upTo t
  let o := s.observer m
  let d := s.slMachine m
  .next <| if o.state = 1 ∧ !o.along ∧ o.since + slCatchT d ≤ t then
      let emin : Rat := (getN d 42 2 : Rat) / 10
      let w := o.eHist.filter fun p => decide (t ≤ p.1 + slCatchOk d)
      if w ≠ [] ∧ w.all fun p => decide (p.2 < emin) then
        (if (getN d 0 1).testBit 1 then s.startBegin m else s.startFailed m 5)
      else if w ≠ [] ∧ w.all fun p => decide (emin ≤ p.2) then
        (if o.begun ∧ s.okLong m t then s.obsRun m else s.obsToLost m)
      else if o.repeated then s.obsToLost m
      else s.modObs m fun o => { o with repeated := true, since := s.time, eHist := [], begun := false, okSince := none }
    else s

/-- The provisional angle reference of a port with INIT_ALIGN 2 that is the angle source of this stack (R244, R263). (DEDUCED, assumption 106.) -/
def State.alignStart (s : State) (k : Nat) (th : Rat) : State :=
  (List.range 6).foldl (fun s n =>
    let d := s.fbCfg n
    let p := s.fbPort n
    if s.fbByIndex n && p.state != 0 && getN d 35 1 == 2 && (s.stack k).fe.angleSrc == n && p.idxFirst.isNone then
      let a := quot (fracTurn (th - s.angOfs k)) (s.polePairs k)
      s.modFb n fun p => { p with angBase := p.count - roundR (a * s.fbCpr n), provBase := true }
    else s) s

/-- A contrast in %, as START_DONE carries it. -/
def pct (r : Rat) : Nat := toUfix 8 0 (r * 100)

/-- START_EVALUATION (R262, R263): the axis and the saliency after the ladder, the polarity after the two last directions. -/
def execStartEvaluation (t : Tick) (m : Fin 4) (s : State) : Host.Outcome State Fault Refusal :=
  let s := s.upTo t
  let o := s.observer m
  let d := s.slMachine m
  let n := getN d 1 1
  let len := 2 * getN d 2 1 + getN d 3 1
  .next <| if o.state ≠ 2 then s
    else if o.axis = none ∧ o.step = n * len ∧ o.rises.length = n then
      let r := o.rises.zipIdx
      let c2 := (r.map fun x => x.1 * Config.cosTurn (2 * (x.2 : Rat) / n)).sum
      let s2 := (r.map fun x => x.1 * Config.sinTurn (2 * (x.2 : Rat) / n)).sum
      let con := quot (2 * Config.sqrt (c2 * c2 + s2 * s2)) o.rises.sum
      if con * 100 < getN d 12 1 then s.startFailed m 0
      else s.modObs m fun o => { o with axis := some (Config.atanTurn s2 c2 / 2), contrast := con }
    else if o.axis.isSome ∧ o.step = (n + 2) * len ∧ o.rises.length = n + 2 then
      let p := o.rises[n]?.getD 0
      let q := o.rises[n + 1]?.getD 0
      let con := quot (absR (p - q)) ((p + q) / 2)
      if con * 100 < getN d 13 1 then s.startFailed m 1
      else
        let th := fracTurn (o.axis.getD 0 + if q ≤ p then 0 else 1 / 2)
        let k := o.lead
        let s := s.info 0x8341 1 k (le 1 (pct o.contrast) ++ le 1 (pct con) ++ le 2 (satN 2 ((s.time - o.since) / 10000)) ++ le 4 (turn32 th))
        let s := s.modOs k fun x => { x.turnTo th with omega := 0 }
        let s := (s.modObs m fun o => { o with thLs := th, wls := 0, wlsAt := none, okSince := none }).setObs m 3
        ((s.modFe k fun f => { f with first := true }).obsCount m th).alignStart k th
    else s

/-- HANDOVER_TIMEOUT (R267): no handover within 2 s of ω_ls reaching 1.25 × OBS_FMIN. -/
def execHandoverTimeout (t : Tick) (m : Fin 4) (s : State) : Host.Outcome State Fault Refusal :=
  let s := s.upTo t
  let o := s.observer m
  .next <| match o.wlsAt with
    | some u => if o.state = 3 ∧ s.obsAngle m ∧ due (u + msTicks 2000) t then s.obsLost m 0 else s
    | none => s

/-- Whether zero-current control acts in the lead set: one of its cycles has run since it was asked for (R269, R271). -/
def State.zeroActs (s : State) (m : Nat) : Bool :=
  let o := s.observer m
  match (s.stack o.lead).obs.ab.head? with
  | some p => (s.stack o.lead).switching && decide (o.zeroFrom ≤ p.1)
  | none => false

/-- CATCH_ATTEMPT (R271): the first when zero-current control acts, each further one CATCH_GAP after the start of the one before, none more than
2 s after the declaration. -/
def execCatchAttempt (t : Tick) (m : Fin 4) (s : State) : Host.Outcome State Fault Refusal :=
  let s := s.upTo t
  let o := s.observer m
  let d := s.slMachine m
  .next <| if o.state = 5 ∧ !o.asc ∧ s.zeroActs m ∧ o.attempts < getN d 46 1 ∧ t ≤ o.lossAt + msTicks 2000 ∧
      (o.attempts = 0 ∨ o.tryAt + msTicks (getN d 44 2) ≤ t) then
      ((s.catchInit m).modObs m fun o => { o with attempts := o.attempts + 1, tryAt := s.time, okSince := none }).setObs m 6
    else s

/-- OBS_LOSS_LASTING (R272): the last permitted attempt has failed, or 2 s have passed: OBS_LOST counts as lasting and the reaction follows. -/
def execObsLossLasting (t : Tick) (m : Fin 4) (s : State) : Host.Outcome State Fault Refusal :=
  let s := s.upTo t
  let o := s.observer m
  .next <| if (o.state = 5 ∧ getN (s.slMachine m) 46 1 ≤ o.attempts) ∨ ((o.state = 5 ∨ o.state = 6) ∧ due (o.lossAt + msTicks 2000) t) then
      let s := if o.state = 6 then s.catchResult m 2 else s
      let key : FaultKey := ⟨9, 1, o.lead⟩
      ((s.faultLasting key 0x8343 1 o.lead).hold key 0x8343).obsLasting m 0x8343
    else s

end Sys2Proof.Machine
end

