-- ==== Sys2Proof/Machine/DcLink.lean ====
section
/-! DEFINITION. The DC link outside the field engine's cycle (R324, R325, R327, R328), the moves of a stack under SELECT (R332) and the
end of a stop of the whole drive (R334). -/
namespace Sys2Proof.Machine

/-- DCLINK k in force. -/
def State.dcCfg (s : State) (k : Nat) : Bytes := s.cfg (0x60 + k)

/-- Whether the drive pair and the engines run on a sealed configuration with stack `k` enabled. -/
def State.stackRuns (s : State) (k : Nat) : Bool := s.sealedCfg.isSome && s.enabled k && s.awake

/-- The chopper command of a stack changes (R326). -/
def State.setChop (s : State) (k : Nat) (on : Bool) : State :=
  (s.modGate (24 + k) fun g => { g with noCmd := false }).modStack k fun x =>
    { x with chop := { x.chop with cmd := on, since := if on == x.chop.cmd then x.chop.since else s.time } }

/-- The chopper of a stack is declared open (R327, R329). -/
def State.chopOpen (s : State) (k cause rise : Nat) : State :=
  let s := (s.setChop k false).modStack k fun x => { x with chop := { x.chop with isOpen := true } }
  s.settle.raise 0x8364 1 k (le 1 cause ++ le 1 0 ++ le 2 (satN 2 rise))

/-- CHOPPER_OPEN (R327): the switch of a conducting chopper stays above VSW_LO, or the link has risen by CH_DV over the window of CH_T in
which the command was active throughout. -/
def execChopperOpen (t : Tick) (k : Fin 4) (cause : ChopperOpenCause) (s : State) : Host.Outcome State Fault Refusal :=
  let s := s.upTo t
  let x := s.stack k
  let g := s.gate (24 + k)
  let d := s.dcCfg k
  let gd := s.cfg (0x20 + k)
  .next <| if !(s.stackRuns k && (getN d 0 1).testBit 0 && !x.chop.isOpen && x.chop.cmd) then s else
    match cause with
    | .notConducting =>
      let wait := if getN gd 0 1 / 4 % 4 = 2 then getN gd 24 2 else getN gd 16 1
      if g.out = .on ∧ g.t0 + wait + 100 ≤ s.time then s.chopOpen k 0 0 else s
    | .rising => match x.chop.hist.head?, x.chop.hist[s.chopSpan k]? with
      | some now, some old => if (getN d 18 2 : Rat) * 100 ≤ now - old then s.chopOpen k 1 (roundR ((now - old) / 100)).toNat else s
      | _, _ => s

/-- CHOPPER_SHORT (R328): the off command has lasted CH_SHORT_T with U_DC at or above UV2. -/
def execChopperShort (t : Tick) (k : Fin 4) (s : State) : Host.Outcome State Fault Refusal :=
  let s := s.upTo t
  let x := s.stack k
  let d := s.dcCfg k
  .next <| if s.stackRuns k && (getN d 0 1).testBit 0 && !x.chop.cmd && decide (x.chop.since + usTicks (getN d 22 2) ≤ s.time) && !x.sense.udcLost &&
      decide ((getN d 16 2 : Rat) * 100 ≤ x.sense.uDc) then
      s.raise 0x8365 1 k (le 2 x.udc01)
    else s

/-- DC_UNDERVOLTAGE (R322, R324): U_DC has been below UV2 for 10 ms; the condition blocks ENABLE while it lasts. -/
def execDcUndervoltage (t : Tick) (k : Fin 4) (s : State) : Host.Outcome State Fault Refusal :=
  let s := s.upTo t
  let x := s.stack k
  .next <| if s.stackRuns k && !x.chop.uv && x.chop.below.any fun u => decide (u + msTicks 10 ≤ s.time) then
      (s.modStack k fun x => { x with chop := { x.chop with uv := true } }).raise 0x8363 1 k (le 2 x.udc01)
    else s

/-- DC_UNDERVOLTAGE_CLEAR (R324): U_DC has been at or above UV1 for 100 ms. -/
def execDcUndervoltageClear (t : Tick) (k : Fin 4) (s : State) : Host.Outcome State Fault Refusal :=
  let s := s.upTo t
  let x := s.stack k
  .next <| if s.stackRuns k && x.chop.uv && x.chop.above.any fun u => decide (u + msTicks 100 ≤ s.time) then
      s.modStack k fun x => { x with chop := { x.chop with uv := false } }
    else s

/-- OV3_ACT as the Kingpost holds it: none until a configuration is sealed (R325). -/
def State.ov3Action (s : State) (k : Nat) : Option Bool :=
  if s.sealedCfg.isSome then some ((getN (s.dcCfg k) 0 1).testBit 1) else none

/-- OV3_TRIP (R325, R343): the comparator latches the trip with the action the Kingpost holds; the drive pair reports it where it runs. In a reset
that the Kingpost holds the comparators stay in force (R74); in any other RESET and in OFF it is down itself. -/
def execOv3Trip (t : Tick) (k : Fin 4) (s : State) : Host.Outcome State Fault Refusal :=
  let s := s.upTo t
  .next <| if s.dev = .off ∨ (s.dev = .inReset ∧ s.power.kpHold.isNone) ∨ (s.stack k).ov3 then s else
    let act := s.ov3Action k
    let s := (s.modStack k fun x => { x with ov3 := true, ov3Act := act }).settle
    if s.awake && s.dev != .boot then
      s.raise 0x8362 1 k (le 1 (b2n (act.getD true)) ++ zeros 3 ++ le 4 (s.kpNow % 4294967296))
    else s

/-! ### SELECT (R332) -/

/-- Whether a condition of STOP_CHANGE has lasted (R332): 1 ms towards ASC; two crossings in a row, or 100 ms of quiet, towards pulse-off. -/
def State.stopCond (s : State) (k : Nat) (cause : StopChangeCause) : Bool :=
  let x := s.stack k
  let lasts := fun (o : Option Tick) (ms : Nat) => o.any fun u => decide (u + msTicks ms ≤ s.time)
  match cause with
  | .backEmf => x.fw == .pulseOff && lasts x.watch.emf 1
  | .reverseLink => x.fw == .pulseOff && lasts x.watch.rev 1
  | .phaseCurrent => x.fw == .pulseOff && lasts x.watch.phase 1
  | .crossings => x.fw == .asc && decide (2 ≤ x.watch.low)
  | .quiet => x.fw == .asc && lasts x.watch.quiet 100

/-- The cause of STOP_CHANGE as its event shows it (R343). -/
def stopChangeCode : StopChangeCause → Nat
  | .backEmf => 0 | .reverseLink => 1 | .phaseCurrent => 2 | .crossings => 3 | .quiet => 4

/-- STOP_CHANGE (R330, R332): a stack under SELECT moves between pulse-off and ASC, one under ASC is released to pulse-off. A stack that a leg lockout or the
Kingpost holds in pulse-off is not moved. -/
def execStopChange (t : Tick) (k : Fin 4) (cause : StopChangeCause) (s : State) : Host.Outcome State Fault Refusal :=
  let s := s.upTo t
  let x := s.stack k
  let toAsc := x.fw == .pulseOff
  .next <| if s.stackRuns k && (x.stop.kind == .select || (x.stop.kind == .asc && !toAsc)) && s.stopCond k cause && !(toAsc && (s.legLocked k || x.kpOff || x.kpAsc)) then
      (s.modStack k fun x => { x with fw := if toAsc then .asc else .pulseOff, watch := {} }).settle.info 0x8367 1 k
        (le 1 (b2n !toAsc) ++ le 1 (b2n toAsc) ++ le 1 (stopChangeCode cause))
    else s

/-! ### The end of a stop of the whole drive (R334, R336) -/

/-- The speed in Q8.24 of N_RATED. -/
def State.speed24 (s : State) : Int := toQ24 s.motion.n

/-- Stacks without a stop reaction of their own go to firmware pulse-off, their references empty (R334 step 3). -/
def State.dropStacks (s : State) (ks : List Nat) : State :=
  (ks.foldl (fun s k => s.modStack k fun x =>
    { x with fw := if x.stop.kind = .none then .pulseOff else x.fw, fe := x.fe.force {} }) s).settle

/-- Every enabled stack without a stop reaction of its own goes to firmware pulse-off (R334 step 3). -/
def State.dropSets (s : State) : State := s.dropStacks s.enStacks

/-- The stop has ended (R334 step 4): STOP_DONE, READY or FAULT. -/
def State.stopDone (s : State) : State := match s.motion.stop with
  | none => s
  | some d =>
    let s := s.dropSets.modMotion fun m => { m with stop := none, brakeHold := none, integ := 0, tLoop := 0, td := 0 }
    (s.info 0x8368 2 0 (le 1 (b2n d.quick))).toReady

/-- The brakes assigned to an enabled stack. -/
def State.brakesInUse (s : State) : List Nat := s.brakesOf s.enMask

/-- Whether a brake is a hoisting brake. -/
def State.hoist (s : State) (n : Nat) : Bool := (s.cu 0x0F03 (16 * n + 1) 1).testBit 0

/-- The stacks of the hoisting brakes among some brakes (R384, R386). -/
def State.hoistMask (s : State) (ns : List Nat) : BitVec 4 :=
  (ns.filter s.hoist).foldl (fun (m : BitVec 4) n => m ||| BitVec.ofNat 4 (s.cu 0x0F03 (16 * n) 1)) 0

/-- BRK_T_SET of a brake in ticks. -/
def State.brkSet (s : State) (n : Nat) : Nat := msTicks (s.cu 0x0F03 (16 * n + 2) 2)

/-- STOP_STANDSTILL (R334 step 3, R386): below STANDSTILL for STANDSTILL_T; the brakes are set, and torque goes at once or, with a hoisting
brake, when its set time has passed. -/
def execStopStandstill (t : Tick) (s : State) : Host.Outcome State Fault Refusal :=
  let s := s.upTo t
  .next <| match s.motion.stop with
    | some d => match d.slow, d.brakeAt with
      | some u, none =>
        if (s.dev = .run ∨ s.dev = .shelter) ∧ u + msTicks (s.cu 0x0068 32 2) ≤ s.time then
          let ns := (s.brakesInUse).filter fun n => let b := vget s.safety.brakes n {}; b.high || b.low
          let wait := ((ns.filter s.hoist).map s.brkSet).max?.getD 0
          let tq := s.motion.tLoop
          let s := (s.setBrakes ns).modMotion fun m =>
            { m with standTq := if ns = [] then m.standTq else tq, stop := some { d with brakeAt := some (s.time + wait) } }
          if wait = 0 then s.stopDone else s.dropStacks (s.enStacks.filter fun k => !(s.hoistMask ns).getLsbD k)
        else s
      | _, _ => s
    | none => s

/-- STOP_TIMEOUT (R334): no standstill within STOP_TMAX; SELECT on every stack, and the stop ends. -/
def execStopTimeout (t : Tick) (s : State) : Host.Outcome State Fault Refusal :=
  let s := s.upTo t
  .next <| match s.motion.stop with
    | some d =>
      if (s.dev = .run ∨ s.dev = .shelter) ∧ d.brakeAt.isNone ∧ d.began.any fun u => due (u + msTicks (s.cu 0x0068 24 4)) t then
        (s.raise 0x8369 2 0 (zeros 4 ++ leI 4 s.speed24)).modMotion fun m => { m with stop := none }
      else s
    | none => s

end Sys2Proof.Machine
end

