-- ==== Sys2Proof/Machine/Torsion.lean ====
section
/-! DEFINITION. Shock loads and torsional damping (R278 to R293): the load-torque observer with its feedforward, the torsion observer with
identification and damping, overspeed and rope snap. Torques are in units of the rated drive torque, speeds in units of N_RATED. -/
namespace Sys2Proof.Machine

/-- TORSION in force. -/
def State.torsCfg (s : State) : Bytes := s.cfg 0x0058
/-- A bit of EN of TORSION. -/
def State.torsEn (s : State) (b : Nat) : Bool := (getN s.torsCfg 0 1).testBit b
/-- The outer-loop cycle T_o in ticks. -/
def State.outerTicks (s : State) : Nat := s.cu 0x0014 2 1 * s.ctrlCycle
/-- T_o in seconds. -/
def State.outerT (s : State) : Rat := (s.outerTicks : Rat) / 100000000
/-- N_RATED in revolutions per second. -/
def State.nRated (s : State) : Rat := (s.cu 0x0014 4 4 : Rat) / 6000
/-- ACC_MAX in rated speeds per second. -/
def State.accMax (s : State) : Rat := ofQ24 (s.cu 0x0014 16 4)

/-- The available sets. -/
def State.availSets (s : State) : List Nat := s.enStacks.filter s.setAvailable

/-- A first-order lag over one cycle. (DEDUCED, assumption 47.) -/
def lag (x prev dt tau : Rat) : Rat := if tau = 0 then x else prev + (x - prev) * (1 - Config.exp (-dt / tau))

/-- A value moved towards another by at most a step. -/
def approach (cur tgt stp : Rat) : Rat := if cur < tgt then minR tgt (cur + stp) else maxR tgt (cur - stp)

/-- The achieved torque of the available sets in N·m (R228, R280, R311). -/
def State.achieved (s : State) : Rat :=
  (s.availSets.map fun k => ofQ24 (s.stack k).fe.meas.tq * (getN (s.stkCfg k) 16 4 : Rat)).sum

/-- Whether the observers of R279 are frozen, or off on a member of a colonnade that is not its leader (R284). -/
def State.torsFrozen (s : State) : Bool :=
  s.col.state == 3 || s.col.state == 4 || !(s.enStacks.any fun k => (s.stack k).switching) ||
  (s.enStacks.any fun k => s.obsBusy (machineOf s.arrange k) || ((s.stack k).stop.kind != .none && (s.stack k).fw != .none)) ||
  (s.dev == .safeStop && !s.motion.ss1Ramp) || s.dev == .fault

/-- The LEVEL and OBJ of the events of R296: of the drive, or of the leader. -/
def State.torsObj (s : State) : Nat × Nat := if s.col.state = 2 then (3, s.cu 0x0080 0 1) else (2, 0)

/-- An information event of this chapter. -/
def State.torsInfo (s : State) (code : Nat) (data : Bytes) : State := s.info code s.torsObj.1 s.torsObj.2 data

/-- w of R282 in cycles. -/
def State.snapCycles (s : State) : Nat :=
  (max 1 (roundR (quot (getN s.torsCfg 56 2 : Rat) (s.outerT * 1000000)))).toNat

/-- SNAP_SLOPE × SNAP_WIN. (DESIGN CHOICE, assumption 55.) -/
def State.snapStep (s : State) : Rat := ofQ24 (getN s.torsCfg 48 4) * (getN s.torsCfg 56 2 : Rat) / 1000

/-- The state of the observers frozen or free in this cycle (R279): as they stood when it began, so that a stop decided in it freezes them from the next one on
(R293), or by an observer that is lost in it. -/
def State.torsGate (s : State) (was : Bool) : State :=
  let fr := was || s.enStacks.any fun k => s.obsBusy (machineOf s.arrange k)
  let t := s.torsion
  if fr then
    s.modTorsion fun t => { t with frozen := true, frozenAt := if t.frozen then t.frozenAt else s.time, lff := 0, damp := 0, inj := 0, injAt := none }
  else if t.frozen then
    s.modTorsion fun t =>
      { t with frozen := false, nHat := s.motion.n, tlHat := if s.time - t.frozenAt < msTicks 100 then t.tlHat else 0, hist := [],
               limCyc := 0, allCyc := 0, ampAt := 0, winAt := s.time, modes := t.modes.map fun m => { m with v := 0, q := 0 } }
  else s

/-- One cycle of the load-torque observer (R280) with the achieved torque. -/
def State.loadObs (s : State) (te : Rat) : State :=
  let d := s.torsCfg
  let dt := s.outerT
  let tm : Rat := (getN d 4 4 : Rat) / 10000
  let w := 2 * Config.pi * getN d 8 2
  let keep := s.snapCycles
  s.modTorsion fun t =>
    let r := s.motion.n - t.nHat
    let tl := t.tlHat - w * w * dt * tm * r
    { t with nHat := t.nHat + dt / tm * (te - t.tlHat) + 2 * w * dt * r, tlHat := tl, hist := tl :: t.hist.take keep }

/-- LOAD_SHOCK (R282). -/
def State.loadShock (s : State) : State :=
  let w := s.snapCycles
  match s.torsion.hist[w]? with
  | some old =>
    let d := s.torsion.tlHat - old
    if s.snapStep ≤ absR d then
      let raised := s.torsion.shock == 0
      let s := s.modTorsion fun t => { t with shock := w }
      if raised then s.torsInfo 0x8350 (leI 4 (toQ24 s.torsion.tlHat) ++ leI 4 (toQ24 d)) else s
    else s.modTorsion fun t => { t with shock := t.shock - 1 }
  | none => s

/-- T_lff of a cycle (R281). -/
def State.lffCycle (s : State) (torqueMode : Bool) : State :=
  let d := s.torsCfg
  let slew := ofQ24 (getN d 12 4) * s.outerT * 1000
  s.modTorsion fun t =>
    let tgt := if torqueMode || !s.torsEn 1 then 0 else (getN d 10 2 : Rat) / 32768 * t.tlHat
    { t with lff := if getN d 12 4 = 0 || torqueMode then tgt else approach t.lff tgt slew }

/-! ### The torsion observer (R285, R286) -/

/-- F_MIN and F_MAX in Hz. -/
def State.torsBand (s : State) : Rat × Rat := ((getN s.torsCfg 16 2 : Rat) / 10, (getN s.torsCfg 18 2 : Rat) / 10)

/-- TID_AMIN in units of N_RATED. -/
def State.torsAmin (s : State) : Rat := (getN s.torsCfg 28 2 : Rat) / 65536

/-- The square of a modal amplitude. -/
def TorsMode.amp2 (m : TorsMode) : Rat := m.v * m.v + m.q * m.q

/-- The state with torsion mode `k` changed. -/
def State.modMode (s : State) (k : Nat) (f : TorsMode → TorsMode) : State :=
  s.modTorsion fun t => { t with modes := vmod t.modes k f }

/-- A change of the state of a torsion mode with TORSION_MODE (R286); a mode that enters damping raises its term over 100 ms. -/
def State.setMode (s : State) (k new : Nat) : State :=
  let m := vget s.torsion.modes k {}
  if m.state = new then s else
  let s := s.modMode k fun m => { m with state := new, win := [], bound := none, quiet := none, rampAt := if new = 2 then some s.time else none }
  s.torsInfo 0x8353 (le 1 (k + 1) ++ le 1 new ++ le 1 m.state ++ le 1 0 ++ le 4 (toUfix 32 0 (m.f * 1000)))

/-- One cycle of a resonator (R285): the mode after it. -/
def State.resonate (s : State) (x : Rat) (m : TorsMode) : TorsMode :=
  let dt := s.outerT
  let (lo, hi) := s.torsBand
  let w := 2 * Config.pi * m.f
  let e := x - m.v
  let v := m.v + dt * w * (141 / 100 * e - m.q)
  let q := m.q + dt * w * v
  let a2 := v * v + q * q
  let gf := 2 * Config.pi * hi / 10
  let f := if s.torsEn 2 && (m.state == 1 || m.state == 2) && decide (s.torsAmin * s.torsAmin ≤ a2)
    then clampR lo hi (m.f - gf * e * q * m.f * quot dt a2) else m.f
  { m with v := v, q := q, f := f }

/-- The settling and the bounds of a mode (R286). -/
def State.modeState (s : State) (k : Nat) : State :=
  let d := s.torsCfg
  let settle := msTicks (getN d 26 2)
  let m := vget s.torsion.modes k {}
  let (lo, hi) := s.torsBand
  let loud := decide (s.torsAmin * s.torsAmin ≤ m.amp2)
  let edge := m.f == lo || m.f == hi
  let win := if loud then (s.time, m.f) :: m.win else []
  let full := win.any fun p => decide (p.1 + settle ≤ s.time)
  let win := win.filter fun p => decide (s.time ≤ p.1 + settle)
  let s := s.modMode k fun m =>
    { m with win := if m.state = 1 then win else [], bound := if edge then some (m.bound.getD s.time) else none,
             quiet := if m.state = 1 && !loud then some (m.quiet.getD s.time) else none }
  if m.state = 1 ∧ full then
    let mean := quot ((win.map (·.2)).sum) win.length
    let tol := (getN d 24 2 : Rat) / 1000 * mean
    if win.all fun p => decide (absR (p.2 - mean) ≤ tol) then s.setMode k 2 else s
  else if m.state = 2 then
    match m.bound with
    | some u => if edge ∧ u + settle ≤ s.time then s.setMode k 1 else s
    | none => s
  else s

/-- The torsion observer in a cycle (R285, R286). (DESIGN CHOICE, assumption 55.) -/
def State.torsObs (s : State) : State :=
  if !(s.torsEn 2 || s.torsEn 3) then s else
  let (lo, hi) := s.torsBand
  let (x1, x2, y1, y2) := match s.torsion.hp with
    | [a, b, c, e] => (a, b, c, e)
    | _ => (0, 0, 0, 0)
  let y := Config.highPass (lo / 2 * s.outerT) s.motion.n x1 x2 y1 y2
  let m1 := s.resonate y (vget s.torsion.modes 0 {})
  let m2 := s.resonate (y - m1.v) (vget s.torsion.modes 1 {})
  let s := s.modTorsion fun t => { t with hp := [s.motion.n, x1, y, y1], modes := #v[m1, m2] }
  let s := (s.modeState 0).modeState 1
  if s.torsEn 2 && decide ((vget s.torsion.modes 1 {}).f < 5 / 4 * (vget s.torsion.modes 0 {}).f) then
    (s.setMode 1 1).modMode 1 fun m => { m with f := hi, v := 0, q := 0, win := [], bound := none, quiet := none }
  else s

/-! ### Excitation and damping (R287 to R289) -/

/-- T_inj of a cycle (R287). (DESIGN CHOICE, assumption 55.) -/
def State.injCycle (s : State) (mode : Nat) : State :=
  let d := s.torsCfg
  let amp : Rat := (getN d 30 2 : Rat) / 65536
  let (lo, hi) := s.torsBand
  let settle := msTicks (getN d 26 2)
  let due' := [0, 1].any fun k => let m := vget s.torsion.modes k {}
    m.state == 1 && (match m.quiet with | some u => decide (u + settle ≤ s.time) | none => false)
  if !(amp ≠ 0 && s.dev == .run && mode != 0 && due' && !s.motion.tdAtLim && s.torsEn 2) then
    s.modTorsion fun t => { t with inj := 0, injAt := none }
  else
    s.modTorsion fun t =>
      let t0 := t.injAt.getD s.time
      let tau : Rat := (((s.time - t0) % 1000000000 : Nat) : Rat) / 100000000
      let l := Config.ln (hi / lo)
      { t with injAt := some t0, inj := amp * Config.sinTurn (fracTurn (quot (lo * 10) l * (Config.exp (l * tau / 10) - 1))) }

/-- How much of a damping term acts (R288, R289): 0 to 1 over 100 ms from its start. -/
def State.dampRamp (s : State) (m : TorsMode) : Rat := match m.rampAt with
  | some u => if s.time ≤ u then 0 else minR 1 (((s.time - u : Nat) : Rat) / (msTicks 100 : Nat))
  | none => 1

/-- T_damp before the ramp-off of R289, and whether it stands at its limit. -/
def State.dampTorque (s : State) : Rat × Bool :=
  let d := s.torsCfg
  let dly : Rat := (getN d 44 2 : Rat) / 1000000
  let term := fun (k : Nat) =>
    let m := vget s.torsion.modes k {}
    if m.state = 2 ∨ m.state = 3 then
      (getN d (32 + 4 * k) 4 : Rat) / 65536 * (m.v * Config.cosTurn (m.f * dly) - m.q * Config.sinTurn (m.f * dly)) * s.dampRamp m
    else 0
  let x := -(term 0 + term 1)
  let lim := maxR 0 (ofQ24 (getN d 40 4) - absR s.torsion.inj)
  (clampR (-lim) lim x, decide (lim ≤ absR x))

/-- The larger modal amplitude squared. -/
def State.ampMax2 (s : State) : Rat := maxR (vget s.torsion.modes 0 {}).amp2 (vget s.torsion.modes 1 {}).amp2

/-- The end of the ramp of R289: TORSION_DAMP_OFF; an identified mode searches again, a fixed one resumes after 10 s. -/
def State.dampOffEnd (s : State) : State :=
  let a := s.ampMax2
  let s := s.modTorsion fun t => { t with dampOff := none }
  let s := s.raise 0x8354 s.torsObj.1 s.torsObj.2 (zeros 4 ++ le 4 (toUfix 32 16 (Config.sqrt a)))
  [0, 1].foldl (fun s k =>
    let m := vget s.torsion.modes k {}
    if m.state = 2 then s.setMode k 1
    else if m.state = 3 then s.modMode k fun m => { m with rampAt := some (s.time + msTicks 10000) }
    else s) s

/-- T_damp of a cycle (R288, R289). -/
def State.dampCycle (s : State) : State :=
  if !s.torsEn 3 then s.modTorsion fun t => { t with damp := 0 } else
  let (x, at') := s.dampTorque
  match s.torsion.dampOff with
  | some u =>
    let left := 1 - ((s.time - u : Nat) : Rat) / (msTicks 100 : Nat)
    if left ≤ 0 then (s.modTorsion fun t => { t with damp := 0 }).dampOffEnd else s.modTorsion fun t => { t with damp := x * left }
  | none =>
    let a := s.ampMax2
    let s := s.modTorsion fun t =>
      { t with damp := x, limCyc := t.limCyc + b2n (at' && x ≠ 0), allCyc := t.allCyc + 1 }
    let t := s.torsion
    if s.time < t.winAt + msTicks 1000 then s else
      let off := decide (t.allCyc ≤ 2 * t.limCyc) && decide (t.ampAt ≤ a) && decide (0 < t.limCyc)
      s.modTorsion fun t =>
        { t with limCyc := 0, allCyc := 0, ampAt := a, winAt := s.time, dampOff := if off then some s.time else none }

/-! ### Overspeed and rope snap (R283, R290, R291) -/

/-- OVERSPEED: above OVSPD in two consecutive cycles while a set switches (R283). (DEDUCED, assumption 48.) -/
def State.overSpeed (s : State) : State :=
  let hit := decide (ofQ24 (getN s.torsCfg 60 4) < absR s.motion.n) && (s.enStacks.any fun k => (s.stack k).switching)
  let n := if hit then s.torsion.overN + 1 else 0
  let s := s.modTorsion fun t => { t with overN := n }
  if 2 ≤ n then s.raise 0x8352 2 0 (zeros 4 ++ leI 4 s.speed24) else s

/-- Whether a stop reaction is in force or a stop runs: it ends a snap hold and keeps one from starting (R292, R293). -/
def State.anyStop (s : State) : Bool :=
  s.motion.stop.isSome || s.motion.ss1Ramp || s.enStacks.any fun k => (s.stack k).stop.kind != .none

/-- ROPE_SNAP and the snap reaction (R290, R291). -/
def State.ropeSnap (s : State) : State :=
  let d := s.torsCfg
  let sg : Rat := if (getN d 2 1).testBit 0 then -1 else 1
  match s.torsion.hist[s.snapCycles]? with
  | none => s
  | some old =>
    let t0 := sg * old
    let t1 := sg * s.torsion.tlHat
    if s.torsEn 4 && decide (ofQ24 (getN d 52 4) ≤ t0) && decide (s.snapStep ≤ t0 - t1) then
      let act := getN d 1 1
      let stopped := s.anyStop
      let s := s.raise 0x8351 s.torsObj.1 s.torsObj.2 (le 1 act ++ zeros 3 ++ leI 4 (toQ24 t0))
      let s := (s.modTorsion fun t => { t with tlHat := 0, lff := 0, hist := [] }).modMotion fun m => { m with integ := 0, preset := false }
      if act = 0 ∨ stopped then s
      else
        let s := s.modTorsion fun t => { t with snap := true, snapSlow := none }
        if act = 3 then s.requestFn 2 s.enMask 9 else s
    else s

/-- Everything of this chapter that a cycle computes before the sum of R278; `was`: frozen when the cycle began. -/
def State.torsCycle (s : State) (mode : Nat) (te : Rat) (was : Bool) : State :=
  let s := s.torsGate was
  if s.torsion.frozen then s else
  let s := if s.torsEn 0 then ((s.loadObs te).loadShock).ropeSnap else s
  let s := (s.lffCycle (mode == 0)).torsObs
  (s.injCycle mode).dampCycle

/-- SNAP_SBC_REQUEST (R291): in a snap hold with SNAP_ACT 2, below 1 % of N_RATED for 50 ms. -/
def execSnapSbcRequest (t : Tick) (s : State) : Host.Outcome State Fault Refusal :=
  let s := s.upTo t
  .next <| match s.torsion.snapSlow with
    | some u => if s.torsion.snap ∧ getN s.torsCfg 1 1 = 2 ∧ u + msTicks 50 ≤ s.time then s.requestFn 3 s.enMask 9 else s
    | none => s

end Sys2Proof.Machine
end

