-- ==== Sys2Proof/Machine/SafetyFn.lean ====
section
/-! DEFINITION. Safety functions and the Kingpost (R370 to R396): inputs, SS1, brakes, the second speed channel, acknowledgement. Speeds are
in mrev/s. A Kingpost row names its Kingpost tick. -/
namespace Sys2Proof.Machine

/-! ### The Kingpost -/

/-- The Kingpost enters its safe state with a cause (R371); the report is lost in a reset that the cause itself brings. -/
def State.kpSafe (s : State) (cause : Nat) : State :=
  if s.safety.kpState = 3 then s else
  let s := (s.modSafety fun x => { x with kpState := 3, cause := cause }).settle
  let s := s.setBrakes [0, 1]
  if s.awake && s.dev != .boot then s.raise 0x850A 2 0 (le 1 cause) else s

/-- READBACK_MISMATCH (R372). (DESIGN CHOICE, assumption 15.) -/
def execReadbackMismatch (t : Tick) (kt : Nat) (s : State) : Host.Outcome State Fault Refusal :=
  let s := (s.upTo t).upKt kt
  .next <| if s.dev = .off ∨ (s.dev = .inReset ∧ s.power.kpHold.isNone) then s else s.kpSafe 8

/-! ### Inputs (R376 to R380) -/

/-- The record of a pair. -/
def State.pairRec (s : State) (n : Nat) : Bytes := (s.cfg 0x0F01).drop (8 * n)
/-- KIND of a pair. -/
def State.pairKind (s : State) (n : Nat) : Nat := getN (s.pairRec n) 0 1
/-- The pairs as a channel sees them. -/
def State.pairSt (s : State) (ch : Channel) (n : Nat) : PairSt := match ch with
  | .drivePair => vget s.safety.dpPairs n {}
  | .kingpost => vget s.safety.kpPairs n {}
/-- The state with a pair of a channel changed. -/
def State.modPairSt (s : State) (ch : Channel) (n : Nat) (f : PairSt → PairSt) : State := s.modSafety fun x => match ch with
  | .drivePair => { x with dpPairs := vmod x.dpPairs n f }
  | .kingpost => { x with kpPairs := vmod x.kpPairs n f }
/-- Channel byte of an event (R408). -/
def chCode : Channel → Nat | .drivePair => 0 | .kingpost => 1
/-- The two contacts of a pair. -/
def PairSt.contact (p : PairSt) : Contact → ContactSt | .a => p.a | .b => p.b
/-- The pair with a contact changed. -/
def PairSt.setContact (p : PairSt) (c : Contact) (f : ContactSt → ContactSt) : PairSt := match c with
  | .a => { p with a := f p.a }
  | .b => { p with b := f p.b }
/-- The other contact. -/
def Contact.other : Contact → Contact | .a => .b | .b => .a

/-- Whether a channel's result starts functions (R380): the Kingpost's only in architecture B. -/
def State.chActs (s : State) (ch : Channel) : Bool := match ch with | .drivePair => true | .kingpost => s.archB

/-- The function of a pair in demand starts in a channel (R380, R381). -/
def State.pairStart (s : State) (ch : Channel) (n : Nat) : State :=
  let r := s.pairRec n
  if s.chActs ch && s.sealedCfg.isSome then s.startFn (getN r 1 1) (BitVec.ofNat 4 (getN r 2 1)) n ch else s

/-- A channel's clock at a row: its stamp, or the Kingpost tick. -/
def State.chNow (s : State) (ch : Channel) (kt : Nat) : Nat := match ch with | .drivePair => s.stamp | .kingpost => kt
/-- Milliseconds in a channel's ticks. -/
def chMs (ch : Channel) (n : Nat) : Nat := match ch with | .drivePair => msTicks n | .kingpost => msKt n

/-- Whether a channel declares a deadline of its clock missed (R42, R43): the drive pair no earlier than 1 µs after it. -/
def State.chDue (s : State) (ch : Channel) (d kt : Nat) : Bool := match ch with
  | .drivePair => due d s.time
  | .kingpost => decide (d < kt)

/-- A pair after a qualified change of one contact (R377, R379): the demand, the wait for the other contact, and what ends a latched demand. -/
def PairSt.change (p : PairSt) (c : Contact) (closed : Bool) (now disc : Nat) : PairSt :=
  let p := p.setContact c fun x => { x with closed := closed, at_ := now }
  let both := p.a.closed && p.b.closed
  let low := !p.a.closed && !p.b.closed
  let met := match p.mate with
    | some (d, l, u) => d != c && l == closed && decide (now ≤ u + disc)
    | none => false
  let wait := p.mate.isSome && !met
  let p := { p with mate := if wait then p.mate else if p.a.closed == p.b.closed then none else some (c, closed, now),
                    demand := p.demand || !closed, bothLow := p.bothLow || low }
  if both && !wait && (!p.latched || (p.bothLow && met)) then { p with demand := false, latched := false, bothLow := false } else p

/-- The test-pulse source of a contact (R376). -/
def contactTp (n : Nat) : Contact → Nat | .a => n % 4 | .b => (n + 2) % 4

/-- The Kingpost tick at a moment of a channel's clock (R43, R376): the drive pair places it by the reports. (DESIGN CHOICE, assumption 17.) -/
def State.ktOf (s : State) (ch : Channel) (u kt : Nat) : Nat := match ch with
  | .kingpost => u
  | .drivePair => kt - (s.stamp - u) * 2 / 5

/-- How many Kingpost ticks after a tick the off window of TPk that the tick lies in ends, none outside its windows (R376). -/
def offLeft (k u : Nat) : Option Nat :=
  let a := (u + 800000 - 200000 * k) % 800000
  if a < 20000 then some (20000 - a) else none

/-- When a level that a contact has read since a moment of the channel's clock qualifies (R377): after FILT; in KIND 1 a low that began within its
source's off window no earlier than 0.3 ms after that window. -/
def State.qualifyAt (s : State) (ch : Channel) (n : Nat) (c : Contact) (level : Bool) (since kt : Nat) : Nat :=
  let d := match ch with | .drivePair => since + s.cu 0x0F01 (8 * n + 3) 1 * 10000 | .kingpost => since + s.cu 0x0F01 (8 * n + 3) 1 * 4000
  match offLeft (contactTp n c) (s.ktOf ch since kt) with
  | some r =>
    if s.pairKind n = 1 ∧ level = false then max d (since + (match ch with | .drivePair => ((r + 12000) * 5 + 1) / 2 | .kingpost => r + 12000)) else d
  | none => d

/-- SAFETY_INPUT_CHANGE (R377, R379, R381): a contact of a channel that has read a level since a moment of that channel's clock qualifies it. -/
def execSafetyInputChange (t : Tick) (kt : Nat) (ch : Channel) (n : Fin 8) (c : Contact) (l : ContactLevel) (s : State) :
    Host.Outcome State Fault Refusal :=
  let s := (s.upTo t).upKt kt
  let r := s.pairRec n
  .next <| if s.dev = .off ∨ s.dev = .inReset ∨ ((s.pairSt ch n).contact c).closed = l.closed ∨
      (getN r 0 1 ≠ 0 ∧ s.chNow ch kt < s.qualifyAt ch n c l.closed l.since kt) then s
    else if getN r 0 1 = 0 then s.modPairSt ch n fun p => p.setContact c fun x => { x with closed := l.closed, at_ := s.chNow ch kt }
    else
      let s := s.modPairSt ch n fun p => p.change c l.closed (s.chNow ch kt) (chMs ch (getN r 4 2))
      if l.closed then s else s.pairStart ch n

/-- SI_DISCREPANCY (R379): the other contact has not followed within DISC_T. -/
def execSiDiscrepancy (t : Tick) (kt : Nat) (ch : Channel) (n : Fin 8) (s : State) : Host.Outcome State Fault Refusal :=
  let s := (s.upTo t).upKt kt
  .next <| match (s.pairSt ch n).mate with
    | some (c, _, u) =>
      if s.pairKind n ≠ 0 ∧ s.chDue ch (u + chMs ch (getN (s.pairRec n) 4 2)) kt then
        let s := s.modPairSt ch n fun p => { p with mate := none, latched := true, discr := true, demand := true, bothLow := false }
        (s.raise 0x8502 2 0 (le 1 n ++ le 1 (match c with | .a => 0 | .b => 1) ++ zeros 2 ++ le 1 (chCode ch))).pairStart ch n
      else s
    | none => s

/-- One contact at the end of its source's off window (R378): a high level latches its pair in demand. (DESIGN CHOICE, assumption 42.) -/
def State.testContact (s : State) (ch : Channel) (n : Nat) (c : Contact) (tp : Nat) (high : Bool) : State :=
  let s := s.modPairSt ch n fun p => p.setContact c fun x => { x with tests := (!high) :: x.tests.take 2 }
  if high then
    let s := s.modPairSt ch n fun p => { p with latched := true, tpulse := true, demand := true, bothLow := false }
    (s.raise 0x8503 2 0 (le 1 n ++ le 1 (match c with | .a => 0 | .b => 1) ++ le 1 tp ++ le 1 0 ++ le 1 (chCode ch))).pairStart ch n
  else s

/-- TEST_PULSE_WINDOW (R55, R376, R378): the off window of TPk ends in a Kingpost tick; bit 2 n of `high` is contact A and bit 2 n + 1 contact B of pair n read
high at some sample of it, in both channels. -/
def execTestPulseWindow (a : KpStamp) (tp : Fin 4) (high : BitVec 16) (s : State) : Host.Outcome State Fault Refusal :=
  let s := (s.upTo a.t).upKt a.kt
  .next <| if s.dev = .off ∨ s.dev = .inReset ∨ a.kt % 800000 ≠ 200000 * tp.val + 20000 then s else
    let s := s.modPins fun p => { p with tpAt := vmod p.tpAt tp fun _ => some s.time }
    (List.range 8).foldl (fun s n =>
      if s.pairKind n ≠ 1 then s else
      let one := fun (s : State) (c : Contact) (src bit : Nat) =>
        if src % 4 = tp.val then
          (s.testContact .drivePair n c tp (high.getLsbD bit)).testContact .kingpost n c tp (high.getLsbD bit)
        else s
      one (one s .a n (2 * n)) .b (n + 2) (2 * n + 1)) s

/-! ### SS1 (R383, R384) -/

/-- ZERO_SPD. -/
def State.zeroSpd (s : State) : Nat := s.cu 0x0F02 16 4

/-- The envelope of an SS1 in a channel at a tick of its clock (R383). -/
def State.envelope (s : State) (f : SafeFn) (now : Nat) : Rat :=
  let d := s.cfg 0x0F02
  let tol : Rat := f.n0 + getN d 8 4
  let dly := chMs f.channel (getN d 12 2)
  let hz : Rat := match f.channel with | .drivePair => 100000000 | .kingpost => 40000000
  if now ≤ f.t0 + dly then tol
  else maxR s.zeroSpd (tol - (getN d 4 4 : Rat) * ((now - f.t0 - dly : Nat) : Rat) / hz)

/-- A function of SS1 ends with torque withdrawn in its channel; one of which the Kingpost enforces only SS1_TMAX ends with the drive pair's. -/
def State.ss1Complete (s : State) (f : SafeFn) : State :=
  let s := s.completeFn f
  match f.channel with
  | .kingpost => s
  | .drivePair => (s.safety.fns.filter fun g => g.fn == 2 && g.tmaxOnly && g.source == f.source && g.phase != 2).foldl (fun s g => s.completeFn g) s

/-- A channel compares its speed with the envelope of its running SS1 (R383) and notes since when it is at or below ZERO_SPD. -/
def State.ss1Check (s : State) (ch : Channel) (now : Nat) (n : Rat) : State :=
  let fs := s.safety.fns.filter fun f => f.fn == 2 && f.channel == ch && f.phase == 0 && !f.tmaxOnly
  fs.foldl (fun s f =>
    let env := s.envelope f now
    let s := s.modFn f fun g => { g with slow := if n ≤ (s.zeroSpd : Rat) then some (g.slow.getD now) else none }
    if env < n then
      let s := s.raise 0x8504 2 0 (le 1 0 ++ le 3 (toUfix 24 0 n) ++ le 1 (chCode ch) ++ le 3 (toUfix 24 0 env))
      (s.setBrakesCh ch [0, 1]).ss1Complete f
    else s) s

/-- SS1_ENVELOPE_CHECK (R383): every 100 µs of the Kingpost's clock in the Kingpost in architecture B; in the drive pair in the tick of its last
outer-loop cycle. (DESIGN CHOICE, assumption 54.) -/
def execSs1EnvelopeCheck (t : Tick) (kt : Nat) (ch : Channel) (s : State) : Host.Outcome State Fault Refusal :=
  let s := (s.upTo t).upKt kt
  .next <| match ch with
    | .kingpost => if kt % 4000 = 0 then s.ss1Check .kingpost kt (s.kpSpeedAt kt) else s
    | .drivePair => if s.safety.dpSpeedAt = s.time then s.ss1Check .drivePair s.time (absR s.safety.dpSpeed) else s

/-- The end sequence of an SS1 in its channel (R384): its brakes, and STO at once on the stacks that no hoisting brake holds. -/
def State.ss1Finish (s : State) (f : SafeFn) : State :=
  let ns := s.brakesOf f.mask
  let tq := s.motion.tLoop
  let s := s.setBrakesCh f.channel ns
  let s := if ns = [] then s else s.modMotion fun m => { m with standTq := tq }
  if ns.any s.hoist then (s.modFn f fun g => { g with phase := 1, sto := g.mask &&& ~~~s.hoistMask ns }).settle else s.ss1Complete f

/-- SS1_END (R384): the channel's speed has stayed at or below ZERO_SPD for ZERO_T. -/
def execSs1End (t : Tick) (kt : Nat) (ch : Channel) (s : State) : Host.Outcome State Fault Refusal :=
  let s := (s.upTo t).upKt kt
  let wait := chMs ch (s.cu 0x0F02 20 2)
  .next <| (s.safety.fns.filter fun f => f.fn == 2 && f.channel == ch && f.phase == 0).foldl (fun s f =>
    match f.slow with
    | some u => if u + wait ≤ s.chNow ch kt then s.ss1Finish f else s
    | none => s) s

/-- Whether BRK_T_SET has passed on a channel's clock since that channel set a brake (R43, R384). -/
def State.brakeSetPast (s : State) (ch : Channel) (kt i : Nat) : Bool :=
  let b := vget s.safety.brakes i {}
  match ch, b.setAtDp, b.setAtKp with
  | .drivePair, some u, _ => decide (u + s.brkSet i ≤ s.time)
  | .kingpost, _, some u => decide (2 * u + (2 * s.brkSet i + 4) / 5 * 2 ≤ 2 * kt)
  | _, _, _ => false

/-- A function whose brake `n` has been set for BRK_T_SET (R381, R384): the torque of that brake's stacks goes, and with the last of its brakes it
is complete. -/
def State.brakeIsSet (s : State) (ch : Channel) (kt n : Nat) (f : SafeFn) : State :=
  if (s.brakesOf f.mask).all fun i => s.brakeSetPast ch kt i || (f.fn == 2 && !s.hoist i) then s.ss1Complete f
  else (s.modFn f fun g => { g with sto := g.sto ||| BitVec.ofNat 4 (s.cu 0x0F03 (16 * n) 1) }).settle

/-- BRAKE_SET_TIME_END (R381, R384, R386): BRK_T_SET has passed since the channel set the brake; for an SBC, an SS1 and a normal stop that hold its
stacks, their torque goes. -/
def execBrakeSetTimeEnd (a : KpStamp) (ch : Channel) (n : Fin 2) (s : State) : Host.Outcome State Fault Refusal :=
  let s := (s.upTo a.t).upKt a.kt
  .next <| if !s.brakeSetPast ch a.kt n then s else
    let s := (s.safety.fns.filter fun f => f.channel == ch && f.phase == 1 && (s.brakesOf f.mask).contains n.val).foldl (fun s f => s.brakeIsSet ch a.kt n f) s
    match ch, s.motion.stop with
    | .drivePair, some d => match d.brakeAt with
      | some u =>
        if s.dev ≠ .run ∧ s.dev ≠ .shelter then s else if u ≤ s.time then s.stopDone
        else s.dropStacks (s.enStacks.filter fun k => (s.cu 0x0F03 (16 * n) 1).testBit k)
      | none => s
    | _, _ => s

/-- SS1_TIMEOUT (R384): SS1_TMAX on the Kingpost's clock, from its own start or in architecture A from the drive pair's request. -/
def execSs1Timeout (t : Tick) (kt : Nat) (s : State) : Host.Outcome State Fault Refusal :=
  let s := (s.upTo t).upKt kt
  let tmax := s.cu 0x0F02 14 2
  let late := fun (f : SafeFn) => f.fn == 2 && f.phase == 0 && (match f.channel with
    | .kingpost => decide (f.t0 + msKt tmax < kt)
    | .drivePair => !s.archB && decide (f.tKp + msKt tmax < kt))
  .next <| if s.safety.fns.any late then
      let s := s.raise 0x8505 2 0 (zeros 4 ++ le 1 1)
      let fs := s.safety.fns.filter fun f => f.fn == 2 && f.phase == 0
      fs.foldl (fun s f => (s.setBrakesCh f.channel (s.brakesOf f.mask)).completeFn f) s
    else s

/-! ### Brakes (R385 to R387) -/

/-- BRAKE_RELEASE_REQUEST (R385, R386): PRE_T after the first switching; both switches close while gate enable is granted on every stack of the
brake and no function holds it. -/
def execBrakeReleaseRequest (t : Tick) (n : Fin 2) (s : State) : Host.Outcome State Fault Refusal :=
  let s := s.upTo t
  .next <| match s.motion.brakeHold with
    | some u =>
      if s.dev = .run ∧ s.brakesInUse.contains n.val ∧ u + msTicks (s.cu 0x0F03 (16 * n + 6) 2) ≤ s.time ∧
          !(vget s.safety.brakes n {}).request then
        (s.modBrake n fun b => { b with request := true }).settleBrake n
      else s
    | none => s

/-- BRAKE_RELEASE_COMPLETE (R386): once PRE_T and BRK_T_REL of every brake in use have passed, the integrator is freed. -/
def execBrakeReleaseComplete (t : Tick) (n : Fin 2) (s : State) : Host.Outcome State Fault Refusal :=
  let s := s.upTo t
  .next <| match s.motion.brakeHold with
    | some u =>
      if s.brakesInUse.contains n.val ∧ s.brakesInUse.all (fun i =>
          decide (u + msTicks (s.cu 0x0F03 (16 * i + 6) 2 + s.cu 0x0F03 (16 * i + 4) 2) ≤ s.time)) then
        s.modMotion fun m => { m with brakeHold := none }
      else s
    | none => s

/-- Whether a brake is released. -/
def State.released (s : State) (n : Nat) : Bool := let b := vget s.safety.brakes n {}; b.high && b.low

/-- BRAKE_FAULT (R387): SBC on that brake. -/
def State.brakeFault (s : State) (n kind : Nat) : State :=
  let s := s.modBrake n fun b => { b with fault := true }
  (s.raise 0x8507 2 0 (le 1 n ++ le 1 kind)).requestFn 3 (BitVec.ofNat 4 (s.cu 0x0F03 (16 * n) 1)) 9

/-- Whether the next test pulse of a released brake is due (R387): every 1 s, each switch in turn. (DESIGN CHOICE, assumption 76.) -/
def Brake.testDue (b : Brake) (sw : BrakeSwitch) (now : Tick) : Bool :=
  (b.testHigh == (match sw with | .high => false | .low => true)) && (match b.testAt.or b.relAt with
    | some u => decide (u + msTicks 1000 ≤ now)
    | none => false)

/-- BRAKE_TEST_PULSE (R387, R393): a switch opened for 300 µs must read back off; of a brake that is set the row is the readback of its open switch.
(DESIGN CHOICE, assumption 76.) -/
def execBrakeTestPulse (t : Tick) (n : Fin 2) (sw : BrakeSwitch) (readsOff : Bool) (s : State) : Host.Outcome State Fault Refusal :=
  let s := s.upTo t
  let read := fun (b : Brake) => match sw with
    | .high => { b with badHigh := !readsOff }
    | .low => { b with badLow := !readsOff }
  .next <| if !s.released n then s.modBrake n read
    else if !(vget s.safety.brakes n {}).testDue sw s.time then s
    else
      let s := s.modBrake n fun b => { read b with testAt := some s.time, testHigh := (match sw with | .high => true | .low => false) }
      if readsOff then s else s.brakeFault n (match sw with | .high => 0 | .low => 1)

/-- BRAKE_OVERCURRENT (R387): both switches open. -/
def execBrakeOvercurrent (t : Tick) (n : Fin 2) (s : State) : Host.Outcome State Fault Refusal :=
  let s := s.upTo t
  .next <| if s.released n then (s.setBrake n).brakeFault n 3 else s

/-- BRAKE_COIL_CURRENT_LOW (R387): from BRK_T_REL after the release on. -/
def execBrakeCoilCurrentLow (t : Tick) (n : Fin 2) (s : State) : Host.Outcome State Fault Refusal :=
  let s := s.upTo t
  .next <| match (vget s.safety.brakes n {}).relAt with
    | some u => if s.released n ∧ u + msTicks (s.cu 0x0F03 (16 * n + 4) 2) ≤ s.time then s.brakeFault n 2 else s
    | none => s

/-- VBRK_LOW (R387). -/
def execVbrkLow (t : Tick) (n : Fin 2) (s : State) : Host.Outcome State Fault Refusal :=
  let s := s.upTo t
  .next <| if s.released n then s.brakeFault n 4 else s

/-! ### The second speed channel (R389 to R391) -/

/-- KP_SRC in force. -/
def State.kpSrc (s : State) : Nat := s.cu 0x0F00 1 1

/-- KP_POSITION_EDGE (R383, R389, R395): the speed from the last two edges; the envelope and the commissioning speed are judged at the edge. -/
def execKpPositionEdge (t : Tick) (kt : Nat) (s : State) : Host.Outcome State Fault Refusal :=
  let s := (s.upTo t).upKt kt
  .next <| if !(s.archB && s.kpSrc != 0) || s.dev == .watch then s else
    let v : Rat := match s.safety.kpLast with
      | some l => if l < kt then quot 40000000000 ((s.cu 0x0F00 4 4 : Rat) * ((kt - l : Nat) : Rat)) else s.safety.kpSpeed
      | none => 0
    let s := s.modSafety fun x => { x with kpEdges := x.kpLast.map fun l => (l, kt), kpLast := some kt, kpSpeed := v }
    let s := s.ss1Check .kingpost kt v
    if s.safety.debug && decide ((s.cu 0x0F00 24 4 : Rat) < v) then s.stoAll else s

/-- KP_SPEED_TIMEOUT (R389): KP_TMAX without an edge. -/
def execKpSpeedTimeout (t : Tick) (kt : Nat) (s : State) : Host.Outcome State Fault Refusal :=
  let s := (s.upTo t).upKt kt
  .next <| match s.safety.kpLast with
    | some l =>
      if s.archB ∧ l + msKt (s.cu 0x0F00 28 2) < kt then
        (s.modSafety fun x => { x with kpSpeed := 0, kpLast := none, kpEdges := none }).ss1Check .kingpost kt 0
      else s
    | none => s

/-- The tolerance of the speed comparison, none where it is not made (R390). -/
def State.xcTol (s : State) : Option Nat :=
  let p := s.motion.posPort
  if 5 < p then some (s.cu 0x0F00 16 4)
  else match (s.fbPort p).state with
    | 1 | 2 => some (s.cu 0x0F00 12 4)
    | 3 => some (s.cu 0x0F00 16 4)
    | _ => none

/-- The difference of the two channels' speed magnitudes (R390). -/
def State.xcDiff (s : State) : Rat := absR (absR s.safety.dpSpeed - s.kpSpeedAt s.kpNow)

/-- The Kingpost compares the two magnitudes as it receives the drive pair's speed (R390), and notes since when the difference has been beyond the
tolerance. (DESIGN CHOICE, assumption 54.) -/
def State.xcCompare (s : State) : State :=
  let far := s.archB && (match s.xcTol with | some tol => decide ((tol : Rat) < s.xcDiff) | none => false)
  s.modSafety fun x => { x with xcSince := if far then some (x.xcSince.getD s.time) else none }

/-- XC_T in milliseconds. -/
def State.xcMs (s : State) : Nat := s.cu 0x0F00 20 2

/-- Whether one channel has had a function active that the other lacks for longer than XC_T (R380). -/
def State.fnsDiffer (s : State) : Bool :=
  s.safety.fns.any fun f => decide (f.tKp + msKt s.xcMs < s.kpNow) &&
    !(s.safety.fns.any fun g => g.fn == f.fn && g.mask == f.mask && g.source == f.source && g.channel != f.channel)

/-- SAFETY_CHANNEL_DISCREPANCY (R390): in architecture B; both channels apply STO to every stack and set every brake. -/
def execSafetyChannelDiscrepancy (t : Tick) (kt : Nat) (kind : DiscrepancyKind) (s : State) : Host.Outcome State Fault Refusal :=
  let s := (s.upTo t).upKt kt
  let diff := match kind with | .speed => toUfix 32 0 s.xcDiff | _ => 0
  let hit := match kind with
    | .speed => s.safety.xcSince.any fun u => decide (u + msTicks s.xcMs ≤ s.time)
    | .noSpeed => due (s.safety.dpSpeedAt + 2 * s.outerTicks + msTicks 1) s.time
    | .function => s.fnsDiffer
  .next <| if s.archB && hit then
      let s := s.modSafety fun x => { x with discr := true }
      (s.raise 0x8509 2 0 (le 1 (match kind with | .speed => 0 | .noSpeed => 1 | .function => 2) ++ zeros 3 ++ le 4 diff)).stoAll
    else s

/-- KP_POSITION_FAULT (R391): SS1 of which the Kingpost enforces only SS1_TMAX. -/
def execKpPositionFault (t : Tick) (kt : Nat) (cause : KpPositionCause) (s : State) : Host.Outcome State Fault Refusal :=
  let s := (s.upTo t).upKt kt
  let fast := match s.safety.kpEdges with | some (a, b) => decide (b < a + 80) | none => false
  .next <| if !(s.archB && s.kpSrc != 0) || s.dev == .watch || (cause == .edgeRate && !fast) then s else
    let s := s.modSafety fun x => { x with posFault := true, posGoodAt := kt }
    let s := s.raise 0x8508 2 0 (le 1 (match cause with | .signalLoss => 0 | .edgeRate => 1))
    let s := s.requestFn 2 s.enMask 9
    s.modSafety fun x =>
      { x with fns := x.fns.map fun f => if f.fn == 2 && f.channel == .kingpost && f.source == 9 && f.phase == 0 then { f with tmaxOnly := true } else f }

/-! ### Acknowledgement (R392 to R395) -/

/-- SAFE_ACK_PRESS (R392). -/
def execSafeAckPress (t : Tick) (kt : Nat) (s : State) : Host.Outcome State Fault Refusal :=
  let s := (s.upTo t).upKt kt
  .next <| if s.dev = .off ∨ s.dev = .inReset then s else s.modSafety fun x => { x with pressAt := some kt }

/-- SAFE_ACK_STUCK (R392): held for more than 10 s. -/
def execSafeAckStuck (t : Tick) (kt : Nat) (s : State) : Host.Outcome State Fault Refusal :=
  let s := (s.upTo t).upKt kt
  .next <| match s.safety.pressAt with
    | some p =>
      if !s.safety.stuck ∧ p + msKt 10000 < kt then
        (s.modSafety fun x => { x with stuck := true }).info 0x8506 2 0 (le 1 3)
      else s
    | none => s

/-- Whether a pair may be released in a channel (R379, R393). -/
def State.pairClear (s : State) (ch : Channel) (n : Nat) : Bool :=
  let p := s.pairSt ch n
  let ok := fun (c : ContactSt) => s.pairKind n != 1 || (c.tests.length == 3 && c.tests.all id)
  !p.demand && !p.latched && ok p.a && ok p.b

/-- Whether an accepted acknowledgement releases a function (R391, R393). (DESIGN CHOICE, assumption 76.) -/
def State.mayRelease (s : State) (f : SafeFn) (kt : Nat) : Bool :=
  f.phase == 2 && (if f.source < 8 then s.pairClear f.channel f.source
    else !(f.source == 9 && f.fn == 2 && s.safety.posFault && decide (kt < s.safety.posGoodAt + msKt 1000)))

/-- The OV3 latches whose KDC input reads below the release level are released; the input's level is open (DESIGN CHOICE, assumption 3). -/
def State.releaseOv3 (s : State) : State :=
  [0, 1, 2, 3].foldl (fun s k =>
    if (s.stack k).ov3 then
      let (q, s) := s.draw
      if q % 2 = 1 then s.modStack k fun x => { x with ov3 := false, ov3Act := none } else s
    else s) s

/-- An accepted acknowledgement (R393 to R395). (DESIGN CHOICE, assumption 76.) -/
def State.acknowledge (s : State) (kt : Nat) : State :=
  let gone := s.safety.fns.filter fun f => s.mayRelease f kt
  let s := s.modSafety fun x =>
    { x with fns := x.fns.filter fun f => !gone.any (·.same f),
             discr := false, ackNeeded := false, ackOwed := false, kpState := if x.kpState = 1 then 2 else x.kpState,
             posFault := x.posFault && decide (kt < x.posGoodAt + msKt 1000),
             brakes := x.brakes.map fun b => { b with fault := b.fault && (b.badHigh || b.badLow) },
             commMask := if x.debug then BitVec.ofNat 4 (s.cu 0x0F00 3 1) else x.commMask,
             commUntil := if x.debug && !s.archB then some (kt + msKt (1000 * s.cu 0x0F00 22 2)) else x.commUntil }
  let s := (List.range 8).foldl (fun s n => [Channel.drivePair, .kingpost].foldl (fun s ch =>
    if s.pairClear ch n then s.modPairSt ch n fun p => { p with discr := false, tpulse := false } else s) s) s
  let s := gone.foldl (fun s f => s.fnEvent f 2) s
  let s := s.releaseOv3.settle
  if s.safety.fns.isEmpty then
    let s := s.modMotion fun m => { m with ss1Ramp := false }
    if s.dev = .safeStop then s.toReady else s
  else s

/-- SAFE_ACK_RELEASE (R392, R393): within 5 s of the press and at standstill it is accepted. -/
def execSafeAckRelease (t : Tick) (kt : Nat) (s : State) : Host.Outcome State Fault Refusal :=
  let s := (s.upTo t).upKt kt
  let done := fun (s : State) => s.modSafety fun x => { x with pressAt := none, stuck := false }
  .next <| match s.safety.pressAt with
    | none => s
    | some p =>
      if s.safety.stuck then (done s).info 0x8506 2 0 (le 1 4)
      else if p + msKt 5000 < kt then (done s).info 0x8506 2 0 (le 1 2)
      else if (s.zeroSpd : Rat) < absR s.safety.dpSpeed ∨ (s.archB ∧ (s.zeroSpd : Rat) < s.kpSpeedAt kt) then (done s).info 0x8506 2 0 (le 1 1)
      else ((done s).info 0x8506 2 0 (le 1 0)).acknowledge kt

/-- COMMISSIONING_GRANT_EXPIRY (R395): architecture A, COMM_T after the acknowledgement. -/
def execCommissioningGrantExpiry (t : Tick) (kt : Nat) (s : State) : Host.Outcome State Fault Refusal :=
  let s := (s.upTo t).upKt kt
  .next <| match s.safety.commUntil with
    | some u =>
      if u < kt then (s.modSafety fun x => { x with commMask := 0, commUntil := none }).settle.requestFn 1 s.enMask 9 else s
    | none => s

end Sys2Proof.Machine
end

