-- ==== Sys2Proof/Machine/SafetyOps.lean ====
section
/-! DEFINITION. The password, the safety change log and the safety opcodes (R397 to R400, R406, R407), and the checks a written block
passes (R128, R130). -/
namespace Sys2Proof.Machine

/-! ### Writing a block (R128, R130) -/

/-- What a written block fails on: offset and location, none when it passes. -/
def blockFails (l : Option Layout) (p : Bytes) : Option (Nat × Nat) := match l with
  | none => some (0, 1)
  | some l => if getN p 2 2 ≠ 1 then some (0, 2) else (l.check (p.drop 4)).map fun o => (o, 0)

/-- A block written: it replaces any earlier copy (R128). -/
def State.putBlock (s : State) (p : Bytes) : State := { s with blocks := blockInsert (getN p 0 2) (p.drop 4) s.blocks }

/-! ### Fingerprints (R136) -/

/-- The bytes the digest of R136 runs over, for the blocks of a scope. -/
def State.printBytes (s : State) (scope : Nat → Bool) : Bytes :=
  (s.blocks.filter fun b => scope b.1).flatMap fun b => le 2 b.1 ++ le 2 1 ++ le 2 b.2.length ++ zeros 2 ++ b.2

/-- The configuration fingerprint of the blocks as written. -/
def State.cfgPrint (s : State) : Bytes := (sha256 (s.printBytes fun _ => true)).toList

/-- The safety fingerprint of the blocks as written. -/
def State.safetyPrint (s : State) : Bytes :=
  (sha256 (s.printBytes fun i => decide (0x0F00 ≤ i) && decide (i ≤ 0x0F0F))).toList

/-! ### The password (R397, R398) -/

/-- The ASCII code of a hexadecimal digit. -/
def hexDigit (n : Nat) : Byte := BitVec.ofNat 8 (if n < 10 then 48 + n else 55 + n)

/-- The delivery password. -/
def deliveryPw : Bytes := Config.serial.toList.reverse.flatMap fun b => [hexDigit (b.toNat / 16), hexDigit (b.toNat % 16)]

/-- Whether the stored password is the one given. -/
def State.pwOk (s : State) (p : Bytes) : Bool := match s.safety.stored with
  | none => p == deliveryPw
  | some k => (passwordDigest k.salt p).toList == k.digest

/-- Whether the delivery password is in force. -/
def State.deliveryInForce (s : State) : Bool := s.pwOk deliveryPw

/-- Whether a byte string may be a password. -/
def pwForm (p : Bytes) : Bool :=
  decide (8 ≤ p.length) && decide (p.length ≤ 32) && p.all fun b => decide (0x20 ≤ b.toNat) && decide (b.toNat ≤ 0x7E)

/-- SAFETY_LOGIN as an event (R408): 0 accepted, 1 refused, 2 locked. -/
def State.loginEvent (s : State) (c : Source) (r : Nat) : State := s.info 0x850D 2 0 (le 1 r ++ le 1 (sourceId c))

/-- Whether a lockout runs. -/
def State.lockedOut (s : State) : Bool := match s.safety.lockedTo with
  | some u => decide (s.time < u)
  | none => false

/-- SAFETY_LOGIN (R397): refused logins raise their event and count although the command is rejected. (DESIGN CHOICE, assumption 78.) -/
def opSafetyLogin (c : Source) (p : Bytes) (s : State) : Rep :=
  if s.lockedOut then .no (s.loginEvent c 2) eAuth
  else if s.pwOk p then
    .ok ((s.modSafety fun x => { x with session := some c, pwLen := p.length, logins := satN 4 (x.logins + 1), failures := 0,
                                        lockedTo := none }).loginEvent c 0)
  else
    let n := min 5 (s.safety.failures + 1)
    let until' := if n = 5 then some (s.time + msTicks 60000) else none
    .no (((s.endSession c).modSafety fun x => { x with failures := n, lockedTo := until' }).loginEvent c 1) eAuth

/-- LOGIN_LOCKOUT_END (R397). -/
def execLoginLockoutEnd (t : Tick) (s : State) : Host.Outcome State Fault Refusal :=
  let s := s.upTo t
  .next <| match s.safety.lockedTo with
    | some u => if u ≤ s.time then s.modSafety fun x => { x with lockedTo := none } else s
    | none => s

/-- SAFETY_LOGOUT (R397). -/
def opSafetyLogout (c : Source) (s : State) : Rep := .ok (s.endSession c)

/-- WRITE_SAFETY_BLOCK (R127, R128, R397). -/
def opWriteSafetyBlock (c : Source) (p : Bytes) (s : State) : Rep :=
  if s.safety.session ≠ some c then .no s eAuth
  else match blockFails (safetyLayout (getN p 0 2)) p with
    | some (o, l) => .no s eRange (le 2 o ++ le 2 l)
    | none => .ok (s.putBlock p)

/-! ### The change log (R399, R400) -/

/-- The 64 bytes of a log entry. -/
def LogEntry.bytes (e : LogEntry) : Bytes :=
  let a := le 2 e.index ++ le 1 e.reason ++ le 1 e.source ++ le 2 e.node ++ le 1 e.arch ++ zeros 1 ++ le 8 e.devTime ++
    le 8 e.netTime ++ le 4 e.session
  a ++ le 4 (crc32c (a ++ e.fp)).toNat ++ e.fp

/-- Whether the log has a free or acknowledged entry. -/
def State.logRoom (s : State) : Bool := decide (s.safety.log.length < 256) || s.safety.log.any (·.acked)

/-- The safety fingerprint last logged. -/
def State.lastLogged (s : State) : Option Bytes := (s.safety.log.getLast?).map (·.fp)

/-- The list without its first acknowledged entry. -/
def dropAcked : List LogEntry → List LogEntry
  | [] => []
  | e :: r => if e.acked then r else e :: dropAcked r

/-- An entry appended to the log (R400). (DESIGN CHOICE, assumption 30.) -/
def State.logAppend (s : State) (c : Source) (reason arch : Nat) (fp : Bytes) : State :=
  let src := s.safety.session.getD c
  let e : LogEntry :=
    { index := s.safety.logNext, reason := reason, source := sourceId src,
      node := if src = .alcia then (s.alcia.bound.map (·.1)).getD 0 else 0,
      arch := arch, devTime := s.time, netTime := if s.alcia.valid then s.netTime s.time else 0, session := s.safety.logins, fp := fp }
  let s := s.modSafety fun x =>
    { x with log := (if x.log.length < 256 then x.log else dropAcked x.log) ++ [e], logNext := (x.logNext + 1) % 65535 }
  let s := s.sysXfer 14 15 64
  if s.logRoom then s else s.raise 0x850C 2 0 []

/-- CHANGE_PASSWORD (R398). -/
def opChangePassword (c : Source) (p : Bytes) (s : State) : Rep :=
  let new := p.drop s.safety.pwLen
  if s.safety.session ≠ some c then .no s eAuth
  else if !s.pwOk (p.take s.safety.pwLen) then .no s eAuth
  else if !pwForm new then .no s eRange
  else if !s.logRoom then .no s eState
  else
    let last := s.safety.log.getLast?
    let s := s.logAppend c 2 ((last.map (·.arch)).getD 0) ((last.map (·.fp)).getD (zeros 32))
    let salt := (Config.salt s.safety.pwWrites).toList
    .ok (s.modSafety fun x =>
      { x with stored := some { salt := salt, digest := (passwordDigest salt new).toList }, altSlot := !x.altSlot,
               pwWrites := x.pwWrites + 1 })

/-- READ_SAFETY_LOG (R400). -/
def opReadSafetyLog (p : Bytes) (s : State) : Rep :=
  let i := getN p 0 2
  let l := if i = 0xFFFF then s.safety.log else s.safety.log.dropWhile fun e => e.index != i
  if i ≠ 0xFFFF ∧ l = [] then .no s eRange else .ok s ((l.take 64).flatMap LogEntry.bytes)

/-- The entries up to and including an index marked as acknowledged. -/
def ackThrough (i : Nat) : List LogEntry → List LogEntry
  | [] => []
  | e :: r => { e with acked := true } :: if e.index = i then r else ackThrough i r

/-- ACK_SAFETY_LOG (R400). -/
def opAckSafetyLog (p : Bytes) (s : State) : Rep :=
  let i := getN p 0 2
  if s.safety.log.any (·.index == i) then .ok (s.modSafety fun x => { x with log := ackThrough i x.log }) else .no s eRange

/-! ### Status and requests (R406, R407) -/

/-- A number whose bit i is a test of i. -/
def bitsOf (n : Nat) (f : Nat → Bool) : Nat := ((List.range n).map fun i => b2n (f i) * 2 ^ i).sum

/-- Whether some acting channel shows a pair with a property. -/
def State.anyPair (s : State) (n : Nat) (f : PairSt → Bool) : Bool := f (s.pairSt .drivePair n) || (s.archB && f (s.pairSt .kingpost n))

/-- GET_SAFETY_STATUS (R407). (DESIGN CHOICE, assumption 77.) -/
def opGetSafetyStatus (s : State) : Rep :=
  let x := s.safety
  let brake := fun n => vget x.brakes n {}
  let ss1 := x.fns.foldl (fun (m : BitVec 4) f => if f.fn = 2 ∧ f.phase ≠ 2 then m ||| f.mask else m) 0
  .ok s (le 1 (b2n s.archB) ++ le 1 x.kpState ++ le 1 (bitsOf 4 fun k => s.enabled k && !s.kpGrants k) ++ le 1 ss1.toNat ++
    le 1 (bitsOf 2 (fun n => !((brake n).high && (brake n).low)) + 4 * bitsOf 2 fun n => (brake n).fault) ++
    le 1 (bitsOf 8 fun n => s.anyPair n fun p => p.demand || p.latched) ++
    le 1 (bitsOf 8 fun n => s.anyPair n fun p => p.discr || p.tpulse) ++
    le 1 (b2n x.stuck + 2 * b2n (x.ackNeeded || !x.fns.isEmpty) + 4 * b2n x.session.isSome + 8 * b2n x.debug +
      16 * b2n s.deliveryInForce + 32 * b2n !s.logRoom + 64 * b2n x.posFault + 128 * b2n x.discr) ++
    le 4 (toUfix 32 0 (if s.archB then s.kpSpeedAt s.kpNow else 0)) ++ leI 4 (toFix 32 0 x.dpSpeed) ++ le 1 x.cause ++ zeros 1 ++
    le 2 (x.log.filter fun e => !e.acked).length ++ le 4 s.stCount ++ le 4 s.aux.stCount ++ le 2 x.logNext ++ zeros 2)

/-- REQUEST_SAFETY_FUNCTION (R406). -/
def opRequestSafetyFunction (p : Bytes) (s : State) : Rep :=
  let fn := getN p 0 1
  let m := getN p 1 1
  let mask := BitVec.ofNat 4 m
  if fn < 1 ∨ 3 < fn ∨ m = 0 ∨ 15 < m ∨ getN p 2 2 ≠ 0 ∨ mask &&& ~~~s.enMask ≠ 0 ∨ (fn = 2 ∧ mask ≠ s.enMask) ∨
      (fn = 3 ∧ s.brakesOf mask = []) then .no s eRange
  else .ok (s.requestFn fn mask 8)

/-! ### The rows -/

/-- SAFETY_LOGIN (R397). -/
def execSafetyLogin (t : Tick) (c : Source) (q : Nat) (p : Bytes) (s : State) := runOp t c 0x0500 q p (opSafetyLogin c p) s
/-- SAFETY_LOGOUT (R397). -/
def execSafetyLogout (t : Tick) (c : Source) (q : Nat) (p : Bytes) (s : State) := runOp t c 0x0501 q p (opSafetyLogout c) s
/-- WRITE_SAFETY_BLOCK (R397). -/
def execWriteSafetyBlock (t : Tick) (c : Source) (q : Nat) (p : Bytes) (s : State) := runOp t c 0x0502 q p (opWriteSafetyBlock c p) s
/-- READ_SAFETY_LOG (R400). -/
def execReadSafetyLog (t : Tick) (c : Source) (q : Nat) (p : Bytes) (s : State) := runOp t c 0x0503 q p (opReadSafetyLog p) s
/-- ACK_SAFETY_LOG (R400). -/
def execAckSafetyLog (t : Tick) (c : Source) (q : Nat) (p : Bytes) (s : State) := runOp t c 0x0504 q p (opAckSafetyLog p) s
/-- GET_SAFETY_STATUS (R407). -/
def execGetSafetyStatus (t : Tick) (c : Source) (q : Nat) (p : Bytes) (s : State) := runOp t c 0x0505 q p opGetSafetyStatus s
/-- REQUEST_SAFETY_FUNCTION (R406). -/
def execRequestSafetyFunction (t : Tick) (c : Source) (q : Nat) (p : Bytes) (s : State) :=
  runOp t c 0x0506 q p (opRequestSafetyFunction p) s
/-- CHANGE_PASSWORD (R398). -/
def execChangePassword (t : Tick) (c : Source) (q : Nat) (p : Bytes) (s : State) := runOp t c 0x0507 q p (opChangePassword c p) s

end Sys2Proof.Machine
end

