-- ==== Sys2Proof/Machine/Integrity.lean ====
section
/-! DEFINITION. Lock-step (R409 to R418), memory integrity (R419 to R426), the side PLLs (R80) and the fault history opcodes (R433, R437). -/
namespace Sys2Proof.Machine

/-- Whether the firmware runs and may raise events. -/
def State.up (s : State) : Bool := s.awake && s.dev != .boot

/-! ### Lock-step -/

/-- The index of an engine among the halted flags. -/
def engineIx : Engine → Nat
  | .drivePair => 0 | .linkPair => 1 | .field s => 2 + s

/-- A check line is seen by the Kingpost (R414, R415): the engine is halted, the Kingpost enters its safe state; a halted drive pair releases the
auxiliary drivers (R171). -/
def State.checkLine (s : State) (e : Nat) : State :=
  let s := (s.modInteg fun x => { x with halted := vmod x.halted e fun _ => true }).kpSafe (if e = 0 then 1 else if e = 1 then 2 else 3)
  if e = 0 then s.modAux fun a => { a with disabled := true, hb := a.hb.map fun h => h.command 0 0 s.time false false } else s

/-- LOCKSTEP_MISMATCH (R414, R415): the comparators hold their lines low while debug is attached (R418). -/
def execLockstepMismatch (t : Tick) (e : Engine) (pc : BitVec 32) (s : State) : Host.Outcome State Fault Refusal :=
  let s := s.upTo t
  let ix := engineIx e
  .next <| if !s.clockRuns || s.safety.debug || vget s.integ.halted ix true then s else
    let s := s.checkLine ix
    let d := le 1 (min ix 2) ++ zeros 3 ++ le 4 pc.toNat
    if !s.up then s else match e with
      | .field k => s.raise 0x8113 1 k d
      | _ => s.raise 0x8113 2 0 d

/-- DEBUG_ATTACHED (R418): the flag stays until reset; gate enable is withdrawn on every stack and both brakes are set. -/
def execDebugAttached (t : Tick) (s : State) : Host.Outcome State Fault Refusal :=
  let s := s.upTo t
  .next <| if s.dev = .off ∨ s.dev = .inReset ∨ s.safety.debug then s else
    let s := (s.modSafety fun x => { x with debug := true, commMask := 0, commUntil := none }).setBrakes [0, 1]
    let s := s.settle
    if s.up then s.info 0x8114 2 0 (le 1 s.dev.code) else s

/-! ### Memory (R419 to R426) -/

/-- The code of a region (R426). -/
def regionCode : MemRegion → Nat
  | .tcm p => p | .fieldLocal s => 2 + s | .appL2 => 6 | .systemSram => 7 | .commSram => 8 | .tableSram => 9 | .dram => 10

/-- The size of a region in bytes (R421). -/
def regionSize : MemRegion → Nat
  | .tcm _ => 524288 | .fieldLocal _ => 65536 | .appL2 | .systemSram => 2097152 | .commSram => 524288 | .tableSram => 262144
  | .dram => Config.dramMb * 1048576

/-- Whether a DRAM offset lies in the recorder ring (R441). -/
def State.inRing (s : State) (off : Nat) : Bool :=
  decide (s.app.appMb * 1048576 ≤ off) && decide (off < (Config.dramMb - 64) * 1048576)

/-- The recorder frames that hold a DRAM offset are marked invalid (R424, R466). -/
def State.spoilFrame (s : State) (off : Nat) : State := match s.recorder.setup with
  | none => s
  | some p =>
    let place := (off - s.app.appMb * 1048576) / frameSize p
    let c := s.ringFrames p
    s.modRecorder fun r => { r with invalid := (r.ring.filter fun f => frameNo f % c == place).map frameNo ++ r.invalid }

/-- An uncorrectable word (R424): the reaction of its region, and MEM_UNCORRECTABLE; `how` is 0 a reader, 1 the scrubber, 2 DDR parity. (DEDUCED, assumption 80.) -/
def State.uncorrectable (s : State) (code off how : Nat) : State :=
  let s := if s.integ.bad.contains (code, off / 8 * 8) then s else s.modInteg fun x => { x with bad := (code, off / 8 * 8) :: x.bad }
  let s :=
    if code = 0 ∨ code = 7 then s.checkLine 0
    else if code = 1 ∨ code = 8 then s.checkLine 1
    else if code ≤ 5 then s.checkLine code
    else if code = 9 then s.checkLine 2
    else if code = 10 ∧ s.inRing off then s.spoilFrame off
    else s.modApp fun a => { a with irq := true, memFault := some ((if code = 6 then 0x08000000 else 0x1000000000) + off / 8 * 8) }
  if s.up then s.raise 0x8112 2 0 (le 1 code ++ le 1 how ++ zeros 2 ++ le 4 (off % 4294967296)) else s

/-- MEM_CORRECTED (R423): at most once per region in 100 ms, with the count since the last one. -/
def State.memCorrected (s : State) (code off : Nat) : State :=
  let s := s.modInteg fun x => { x with counts := vmod x.counts code fun n => n + 1 }
  let free := match vget s.integ.lastMsg code none with
    | some u => decide (u + msTicks 100 ≤ s.time)
    | none => true
  if free && s.up then
    let n := vget s.integ.counts code 0
    (s.modInteg fun x => { x with counts := vmod x.counts code fun _ => 0, lastMsg := vmod x.lastMsg code fun _ => some s.time }).info 0x8110 2 0
      (le 1 code ++ zeros 1 ++ le 2 (satN 2 n) ++ le 4 (off % 4294967296))
  else s

/-- A word loses its mark of an earlier pass. -/
def State.unmarkWord (s : State) (code off : Nat) : State :=
  s.modInteg fun x => { x with marks := x.marks.filter fun m => m.1 != code || m.2.1 != off }

/-- One word that the scrubber reads (R421 to R424); `pass` is false for an early write-back (R420), which is no visit of a pass. -/
def State.scrubWord (s : State) (pass : Bool) (code off : Nat) (w : WordCheck) : State :=
  let unmark := fun (s : State) => if pass then s.unmarkWord code off else s
  match w with
  | .clean => unmark s
  | .corrected syn =>
    let hard := pass && s.integ.marks.contains (code, off, syn)
    let s := if pass then (unmark s).modInteg fun x => { x with marks := (code, off, syn) :: x.marks } else s
    let s := s.memCorrected code off
    if hard && s.up then s.raise 0x8111 2 0 (le 1 code ++ le 1 syn.toNat ++ zeros 2 ++ le 4 (off % 4294967296)) else s
  | .uncorrectable => (unmark s).uncorrectable code off 1

/-- The words of a burst from a byte offset up. -/
def State.scrubWords (s : State) (pass : Bool) (code : Nat) : Nat → List WordCheck → State
  | _, [] => s
  | off, w :: r => (s.scrubWord pass code off w).scrubWords pass code (off + 8) r

/-- The ticks from one burst of a region's pass to the next (R421): 640 ns in DRAM, 2 µs elsewhere; a field engine of an enabled stack gives its
bursts a place in its cycle. -/
def State.scrubGap (s : State) : MemRegion → Nat
  | .dram => 64
  | .fieldLocal k => if s.enabled k then 0 else 200
  | _ => 200

/-- Whether a burst is the next of its region's pass (R421); any other is an early write-back (R420). -/
def State.scrubPass (s : State) (region : MemRegion) (burst : Nat) : Bool :=
  let code := regionCode region
  vget s.integ.scrub code 0 == burst && (match vget s.integ.scrubAt code none with
    | some u => decide (u + s.scrubGap region ≤ s.time)
    | none => true)

/-- SCRUB_BURST (R420 to R424): the eight words of a burst; after a burst of the pass the next burst of the region follows. Whether the burst was written back shows in no
state: the words' data are the same. (DESIGN CHOICE, assumption 79.) -/
def execScrubBurst (t : Tick) (region : MemRegion) (burst : Nat) (words : List WordCheck) (_rewritten : Bool) (s : State) :
    Host.Outcome State Fault Refusal :=
  let s := s.upTo t
  let code := regionCode region
  let bursts := regionSize region / 64
  .next <| if !s.clockRuns || decide (bursts ≤ burst) then s else
    let pass := s.scrubPass region burst
    let s := if pass then s.modInteg fun x =>
        { x with scrub := vmod x.scrub code fun _ => (burst + 1) % bursts, scrubAt := vmod x.scrubAt code fun _ => some s.time }
      else s
    s.scrubWords pass code (64 * burst) (words.take 8)

/-- ALERT_N (R425): the controller repeats the command; a second alert for it is an uncorrectable error of the access. -/
def execAlertN (t : Tick) (addr : Nat) (repeated : Bool) (s : State) : Host.Outcome State Fault Refusal :=
  let s := s.upTo t
  .next <| if !s.clockRuns then s
    else if !repeated then s.modInteg fun x => { x with alert := some addr }
    else if s.integ.alert = some addr then (s.modInteg fun x => { x with alert := none }).uncorrectable 10 addr 2
    else s

/-! ### The fault history -/

/-- FAULT_HISTORY_APPEND (R433): the oldest staged record is appended to flash. -/
def execFaultHistoryAppend (t : Tick) (s : State) : Host.Outcome State Fault Refusal :=
  let s := s.upTo t
  .next <| if s.up then s.appendStaged else s

/-- READ_FAULT_HISTORY (R437). -/
def opReadFaultHistory (p : Bytes) (s : State) : Rep :=
  let g := s.histRegion
  let l := vget s.faults.hist g []
  let next := vget s.faults.histNext g 0
  let q := getN p 0 4
  let fmt := match l.getLast? with | some r => r.format | none => s.histFormat
  let rest := if q = 0xFFFFFFFF then l else l.dropWhile fun r => r.recNo != q
  let out := rest.take 127
  let head := fun (no : Nat) => le 4 no ++ le 2 out.length ++ le 1 fmt ++ zeros 1
  match out with
  | r :: _ => .ok s (head r.recNo ++ out.flatMap HistRec.bytes)
  | [] => if q = next ∨ q = 0xFFFFFFFF then .ok s (head next) else .no s eRange

/-- READ_FAULT_HISTORY (R437). -/
def execReadFaultHistory (t : Tick) (c : Source) (q : Nat) (p : Bytes) (s : State) := runOp t c 0x0403 q p (opReadFaultHistory p) s

end Sys2Proof.Machine
end

