-- ==== Sys2Proof/Machine/App.lean ====
section
/-! DEFINITION. The application partition (R440 to R451): the program, its internal port's registers, drive messages and throttling, and
the loss of a side PLL (R80). -/
namespace Sys2Proof.Machine

/-! ### The program (R442 to R445) -/

/-- A change of the program state with APP_STATE (R442, R468). -/
def State.setApp (s : State) (new cause : Nat) : State :=
  let old := s.app.state
  (s.modApp fun a => { a with state := new, stopCause := if new = 4 then cause else a.stopCause }).info 0x8701 2 0
    (le 1 new ++ le 1 old ++ le 1 cause)

/-- The application channels halt and become IDLE without write-back (R443, R457). -/
def State.haltDma (s : State) : State :=
  s.modDma fun d =>
    { d with ch := Vector.ofFn fun n : Fin 16 => if n.val < 8 then { d.ch[n] with state := 0, fetched := false, saving := false } else d.ch[n],
             slots := d.slots.map fun x => match x with
               | some (n, o) => if n < 8 then none else some (n, o)
               | none => none }

/-- The program enters STOPPED (R443, R445, R448). (DEDUCED, assumption 68.) -/
def State.endApp (s : State) (cause : Nat) : State :=
  let s := s.haltDma.loseOwner .app
  let s := s.modPort .app fun p => { p with replies := [], credits := 8 }
  (s.modApp fun a => { a with suspendReq := false, reserved := false }).setApp 4 cause

/-- The program is RUNNING or SUSPENDED. -/
def State.appLive (s : State) : Bool := s.app.state == 2 || s.app.state == 3

/-- The end by a fault, with APP_FAULT (R445, R468). -/
def State.appFault (s : State) (cause addr : Nat) : State :=
  (s.raise 0x8702 2 0 (le 1 cause ++ zeros 3 ++ le 4 (addr % 4294967296))).endApp cause

/-- The reply of APP_CONTROL (R443). (DESIGN CHOICE, assumption 82.) -/
def State.appReply (s : State) : Rep := .ok s (le 1 s.app.state ++ le 1 s.app.stopCause ++ zeros 2)

/-- The program starts at its entry point or continues (R443). (DESIGN CHOICE, assumption 81.) -/
def State.startApp (s : State) (cause : Nat) : State :=
  (s.modApp fun a => { a with suspendReq := false, wdLast := s.time }).setApp 2 cause

/-- APP_CONTROL (R443). (DEDUCED, assumption 40.) (DESIGN CHOICE, assumption 81.) -/
def opAppControl (p : Bytes) (s : State) : Rep :=
  let a := getN p 0 1
  if 2 < a ∨ getN p 1 3 ≠ 0 then .no s eRange
  else if a = 0 then (if s.appLive then s.endApp 0 else s).appReply
  else if a = 1 then
    if s.sealedCfg.isSome && (s.cu 0x0001 12 1).testBit 0 && (s.app.state == 1 || s.app.state == 3 || s.app.state == 4) &&
        !s.power.pllBLost && !s.power.ddrLost then (s.startApp 0).appReply
    else .no s eState
  else (if s.app.state = 2 then s.modApp fun x => { x with suspendReq := true } else s).appReply

/-- APP_CONTROL with ACTION start. -/
def execAppStart (t : Tick) (c : Source) (q : Nat) (p : Bytes) (s : State) : Host.Outcome State Fault Refusal :=
  let p := withAction 0 1 p
  runOp t c 0x0704 q p (opAppControl p) s
/-- APP_CONTROL with ACTION stop. -/
def execAppStop (t : Tick) (c : Source) (q : Nat) (p : Bytes) (s : State) : Host.Outcome State Fault Refusal :=
  let p := withAction 0 0 p
  runOp t c 0x0704 q p (opAppControl p) s
/-- APP_CONTROL with ACTION suspend. -/
def execAppSuspend (t : Tick) (c : Source) (q : Nat) (p : Bytes) (s : State) : Host.Outcome State Fault Refusal :=
  let p := withAction 0 2 p
  runOp t c 0x0704 q p (opAppControl p) s

/-- Whether every application channel is IDLE. -/
def State.appDmaIdle (s : State) : Bool := (List.range 8).all fun n => (vget s.dma.ch n {}).state == 0

/-- SUSPEND_COMPLETE (R442, R443). -/
def execSuspendComplete (t : Tick) (s : State) : Host.Outcome State Fault Refusal :=
  let s := s.upTo t
  .next <| if s.up && s.app.state == 2 && s.app.suspendReq && s.appDmaIdle then
      (s.modApp fun a => { a with suspendReq := false }).setApp 3 0 else s

/-- APP_MESSAGE (R449). (DESIGN CHOICE, assumption 82.) -/
def opAppMessage (p : Bytes) (s : State) : Rep :=
  if !s.appLive then .no s eState
  else if 65536 < (s.app.inbound.map List.length).sum + p.length then .no s eBusy (le 1 3)
  else .ok (s.modApp fun a => { a with inbound := a.inbound ++ [p] }) s.app.standing

/-- APP_MESSAGE (R449). -/
def execAppMessage (t : Tick) (c : Source) (q : Nat) (p : Bytes) (s : State) := runOp t c 0x0705 q p (opAppMessage p) s

/-- APP_WATCHDOG_EXPIRY (R445). -/
def execAppWatchdogExpiry (t : Tick) (s : State) : Host.Outcome State Fault Refusal :=
  let s := s.upTo t
  let wd := s.cu 0x00C0 8 2
  .next <| if s.up && s.app.state == 2 && wd != 0 && due (s.app.wdLast + msTicks wd) t then s.appFault 3 0 else s

/-- Whether a physical range lies in application L2 or application DRAM (R440). -/
def State.inAppMap (s : State) (pa n : Nat) : Bool :=
  (decide (0x08000000 ≤ pa) && decide (pa + n ≤ 0x08200000)) ||
  (decide (0x1000000000 ≤ pa) && decide (pa + n ≤ 0x1000000000 + s.app.appMb * 1048576))

/-- PROGRAM_FAULT (R445): of the running program, or the memory fault delivered at an address of the application's map (R424). -/
def execProgramFault (t : Tick) (addr : Nat) (cause : ProgramFaultKind) (s : State) : Host.Outcome State Fault Refusal :=
  let s := s.upTo t
  .next <| if !s.up then s else match cause with
    | .program => if s.app.state = 2 then s.appFault 2 addr else s
    | .uncorrectable => if s.appLive && s.inAppMap addr 1 && s.app.memFault == some (addr / 8 * 8) then s.appFault 4 addr else s

/-- PROGRAM_EXIT (R442). -/
def execProgramExit (t : Tick) (s : State) : Host.Outcome State Fault Refusal :=
  let s := s.upTo t
  .next <| if s.up && s.app.state == 2 then s.endApp 1 else s

/-- PLL_LOCK_LOSS (R80, R442): the application cluster stops with an uncorrectable-memory fault; for PLL B with a cause of its own. (DEDUCED, assumption 40.) -/
def execPllLockLoss (t : Tick) (pll : SidePll) (s : State) : Host.Outcome State Fault Refusal :=
  let s := s.upTo t
  .next <| if !s.awake then s else
    let s := s.modPower fun p => match pll with
      | .pllB => { p with pllBLost := true }
      | .ddr => { p with ddrLost := true }
    let s := s.modApp fun a => { a with irq := true }
    if s.up && s.appLive then s.appFault (match pll with | .pllB => 5 | .ddr => 4) 0 else s

/-! ### Drive messages and throttling (R450, R451) -/

/-- DRIVE_MESSAGE_INTERRUPT (R450): a queued reply, an event record, a cyclic reply or an APP_MESSAGE interrupts the running program and clears a
load reservation. -/
def execDriveMessageInterrupt (t : Tick) (s : State) : Host.Outcome State Fault Refusal :=
  let s := s.upTo t
  let p := s.port .app
  .next <| if s.up && s.app.state == 2 &&
      (!p.replies.isEmpty || !p.events.isEmpty || p.cyclic.fresh || !s.app.inbound.isEmpty || !s.app.appBytes.isEmpty) then
      s.modApp fun a => { a with irq := true, reserved := false }
    else s

/-- THROTTLE_PERIOD (R451): at a multiple of 1,600 ticks a new level takes effect. -/
def execThrottlePeriod (t : Tick) (s : State) : Host.Outcome State Fault Refusal :=
  let s := s.upTo t
  .next <| if s.up && s.time % 1600 == 0 then s.modApp fun a => { a with throttle := a.throttleNext } else s

/-- Whether device time lies in one of the last L slots of its period (R451). -/
def State.throttled (s : State) : Bool := decide (16 ≤ s.time % 1600 / 100 + s.app.throttle)

end Sys2Proof.Machine
end

