-- ==== Sys2Proof/Machine/Motion.lean ====
section
/-! DEFINITION. The motion channel (R200 to R202, R219 to R224, R278, R334 to R340, R386): modes, paths and limits, the SREF input, the
speed and position loops, the internal paths of stops, and the shares of the sets. -/
namespace Sys2Proof.Machine

/-- MOTION in force. -/
def State.motCfg (s : State) : Bytes := s.cfg 0x0014

/-! ### What a cycle reads (R219) -/

/-- The lowest enabled set. -/
def State.lowSet (s : State) : Nat := s.enStacks.headD 0

/-- The latch record of POS_PORT, or of the observer that stands for it (R226, R274). -/
def State.posLatch (s : State) : LatchRec :=
  if s.motion.posPort ≤ 5 then (s.fbPort s.motion.posPort).latch else (s.observer (machineOf s.arrange s.lowSet)).latch

/-- The counts per revolution of POS_PORT (R230, R257). -/
def State.posCpr (s : State) : Rat :=
  if s.motion.posPort ≤ 5 then (s.fbCpr s.motion.posPort : Rat) else 65536 * s.polePairs s.lowSet

/-- The speed and position of this cycle, and the achieved torque (R112, R219). -/
def State.readMotion (s : State) : State :=
  let l := s.motion.outerRec.getD s.posLatch
  let n := quot ((l.speed : Rat) / 4294967296) s.nRated
  let tau : Rat := (getN s.motCfg 24 4 : Rat) / 1000000
  let tq := toQ24 (quot s.achieved s.rEn)
  let v := (l.speed : Rat) * 1000 / 4294967296
  let lost := decide (s.motion.posPort ≤ 5) && (s.fbPort s.motion.posPort).state == 4
  let s := s.modMotion fun m => { m with n := n, nFilt := lag n m.nFilt s.outerT tau, pos := l.count + m.posOfs, stamp := l.aperture, tqAct := tq }
  if lost then s else (s.modSafety fun x => { x with dpSpeed := v, dpSpeedAt := s.time }).xcCompare

/-- The drive pair's SS1 in a cycle (R383), while POS_PORT delivers a speed. -/
def State.ss1Cycle (s : State) : State :=
  let p := s.motion.posPort
  if p ≤ 5 ∧ (s.fbPort p).state = 4 then s else s.ss1Check .drivePair s.time (absR s.safety.dpSpeed)

/-! ### SREF (R223, R224) -/

/-- c of R223 before deadband and filter. -/
def State.srefRaw (s : State) : Rat :=
  let d := s.motCfg
  let u : Rat := s.sref.mv
  let z : Rat := (getN d 42 2 : Rat) * 10
  let fmax : Rat := getN d 54 2
  let fz : Rat := getN d 56 2
  match getN d 40 1 with
  | 1 => if u ≤ z then 0 else minR 1 ((u - z) / (10000 - z))
  | 2 => clampR (-1) 1 (u / 10000)
  | 3 => match s.sref.period with
    | some (p, h) => clampR (-1) 1 ((quot h p - 1 / 2) / (2 / 5))
    | none => 0
  | 4 => match s.sref.period with
    | some (p, _) =>
      let f := quot 100000000 p
      if f ≤ fz then 0 else minR 1 ((f - fz) / (fmax - fz))
    | none => 0
  | _ => 0

/-- c behind the deadband. -/
def State.srefC (s : State) : Rat :=
  let c := s.srefRaw
  if absR c * 65536 < (getN s.motCfg 48 2 : Rat) then 0 else c

/-- SREF_WB_T in ticks. -/
def State.srefWb (s : State) : Nat := msTicks (getN s.motCfg 58 2)

/-- Whether the last complete period lies outside the range of its mode (R223). -/
def State.periodBad (s : State) (p : Nat) : Bool :=
  let d := s.motCfg
  let f := quot 100000000 p
  let high := decide (11 / 10 * (getN d 54 2 : Rat) < f)
  match getN d 40 1 with
  | 3 => high || decide (f < 9 / 10 * (getN d 52 2 : Rat))
  | 4 => high
  | _ => false

/-- Whether the input is valid at this moment (R223, R224): none of the signs of its mode's wire break shows, however short. -/
def State.srefValid (s : State) : Bool :=
  let x := s.sref
  match getN s.motCfg 40 1 with
  | 1 => x.lowSince.isNone
  | 2 => x.rises == 0
  | 3 | 4 => decide (s.time < x.lastEdge + s.srefWb) && x.badSince.isNone
  | _ => false

/-- The time for which the input has been valid with c within the deadband (R224), looked at whenever its value or its mode's signs can change. -/
def State.srefQuiet (s : State) : State :=
  let ok := s.srefValid && s.srefC == 0
  s.modSref fun x => { x with quiet := if ok then some (x.quiet.getD s.time) else none }

/-- The SREF command of a cycle (R223, R224): a broken input commands 0 at once. (DEDUCED, assumption 47.) -/
def State.srefCycle (s : State) : State :=
  let d := s.motCfg
  let mode := getN d 40 1
  let s := s.srefQuiet
  let c := s.srefC
  let tau : Rat := (getN d 50 2 : Rat) / 1000
  let s := s.modSref fun x =>
    let f := if x.broken || mode = 0 then 0 else lag c x.filt s.outerT tau
    { x with filt := f, cmd := f * ofQ24 (getN d 44 4) }
  if mode = 1 ∨ mode = 2 then s.sarRequest .a { cls := 1, input := 6, at_ := s.time } else s

/-- A qualified edge (R223): a rising one completes a period with its high time. -/
def Sref.edge (x : Sref) (now : Tick) (high : Bool) : Sref :=
  if high then
    { x with high := true, lastEdge := now, lastRise := some now,
             period := match x.lastRise, x.lastFall with
               | some r, some f => if r ≤ f then some (now - r, f - r) else x.period
               | _, _ => x.period }
  else { x with high := false, lastEdge := now, lastFall := some now }

/-- Since when the complete periods lie outside their range (R223). -/
def State.srefPeriod (s : State) : State :=
  s.modSref fun x => { x with badSince := match x.period with
    | some (p, _) => if s.periodBad p then some (x.badSince.getD s.time) else none
    | none => none }

/-- SREF_EDGE (R223): modes 3 and 4; a rising edge completes a period with its high time. -/
def execSrefEdge (t : Tick) (high : Bool) (s : State) : Host.Outcome State Fault Refusal :=
  let s := s.upTo t
  let mode := getN s.motCfg 40 1
  .next <| if !(s.sealedCfg.isSome && s.awake && (mode == 3 || mode == 4) && s.sref.high != high) then s else
    (s.srefQuiet.modSref fun x => x.edge s.time high).srefPeriod.srefQuiet

/-- SREF_TEST_CURRENT (R223): mode 2; the stamp is the start of the test, conversions up to 1 ms after it are not used. (DESIGN CHOICE, assumption 46.) -/
def execSrefTestCurrent (t : Tick) (u0 u1 : Int) (s : State) : Host.Outcome State Fault Refusal :=
  let s := s.upTo t
  .next <| if s.sealedCfg.isSome && s.awake && getN s.motCfg 40 1 == 2 then
      (s.modSref fun x => { x with holdTo := s.time + msTicks 2, rises := if 1000 < u1 - u0 then x.rises + 1 else 0 }).srefQuiet
    else s

/-- The number of a wire break's kind (R229). -/
def wireCode : WireBreakKind → Nat
  | .lowLevel => 0 | .testCurrent => 1 | .noEdge => 2 | .periodRange => 3

/-- Whether the input shows a wire break of a kind (R223): a level or a period for SREF_WB_T, two test currents in a row, no edge for SREF_WB_T. -/
def State.wireBroken (s : State) (kind : WireBreakKind) : Bool :=
  let mode := getN s.motCfg 40 1
  let x := s.sref
  match kind with
  | .lowLevel => mode == 1 && x.lowSince.any fun u => decide (u + s.srefWb ≤ s.time)
  | .testCurrent => mode == 2 && decide (2 ≤ x.rises)
  | .noEdge => (mode == 3 || mode == 4) && decide (x.lastEdge + s.srefWb ≤ s.time)
  | .periodRange => (mode == 3 || mode == 4) && x.badSince.any fun u => decide (u + s.srefWb ≤ s.time)

/-- SREF_WIRE_BREAK (R224, R338): the event; in SHELTER a normal stop. (DESIGN CHOICE, assumption 46.) -/
def execSrefWireBreak (t : Tick) (kind : WireBreakKind) (s : State) : Host.Outcome State Fault Refusal :=
  let s := s.upTo t
  .next <| if s.sealedCfg.isSome && s.awake && !s.sref.broken && s.wireBroken kind then
      let s := (s.modSref fun x => { x with broken := true, filt := 0, cmd := 0 }).srefQuiet
      let s := s.raise 0x8323 2 0 (le 1 (getN s.motCfg 40 1) ++ le 1 (wireCode kind))
      if s.dev = .shelter then s.startStop false 0x8323 else s
    else s

/-- SREF_WIRE_BREAK_END (R224): valid for 100 ms with c within the deadband throughout. -/
def execSrefWireBreakEnd (t : Tick) (s : State) : Host.Outcome State Fault Refusal :=
  let s := (s.upTo t).srefQuiet
  .next <| if s.sref.broken && s.sealedCfg.isSome && s.awake && s.sref.quiet.any fun u => decide (u + msTicks 100 ≤ s.time) then
      s.modSref fun x => { x with broken := false, rises := 0 }
    else s

/-! ### Setpoints and limits (R110, R220 to R222) -/

/-- The cyclic packet in force of the owner. -/
def State.ownPacket (s : State) : Option Bytes := match s.owner with
  | some c => if (s.port c).cyclic.enabled then (s.port c).cyclic.applied else none
  | none => none

/-- A signed Q8.24 field of the cyclic packet in force, 0 without one (R110). -/
def State.cycQ (s : State) (off : Nat) : Rat := match s.ownPacket with
  | some p => ofQ24 (getI p off 4)
  | none => 0

/-- The torque command of the selected path. -/
def State.tqCmd (s : State) : Rat := match s.motion.path with
  | 0 => ofQ24 s.motion.tqSet
  | 1 => s.cycQ 4
  | _ => s.motion.shRef.getD s.sref.cmd

/-- The speed command of the selected path and its acceleration. -/
def State.spdCmd (s : State) : Rat × Rat := match s.motion.path with
  | 0 => (ofQ24 s.motion.spdSet, if s.motion.accSet = 0 then s.accMax else minR s.accMax (ofQ24 s.motion.accSet))
  | 1 => (s.cycQ 8, s.accMax)
  | _ => (s.motion.shRef.getD s.sref.cmd, s.accMax)

/-- Torque feedforward: of the cyclic path in speed and position modes (R110). -/
def State.tqFf (s : State) : Rat := if s.motion.path = 1 then s.cycQ 4 else 0

/-- The share of the torque limits that the observer of machine `m` leaves (R259, R271): 0 while it is busy, 100 ms of ramp after a catch. (DESIGN CHOICE, assumption 52.) -/
def State.obsShare (s : State) (m : Nat) : Rat :=
  if s.obsBusy m then 0
  else match (s.observer m).rampAt with
    | some u => if s.obsAngle m then minR 1 (((s.time - u : Nat) : Rat) / (msTicks 100 : Nat)) else 1
    | none => 1

/-- T_LIM of a set behind derating and its observer (R201, R259, R554). -/
def State.setLim (s : State) (k : Nat) : Rat :=
  vget s.thermal.k k 1 * s.obsShare (machineOf s.arrange k) * ofQ24 (getN (s.stkCfg k) 68 4)

/-- T_RATED of a set in N·m. -/
def State.tRated (s : State) (k : Nat) : Rat := getN (s.stkCfg k) 16 4

/-- The thermal derating limit (R554) in units of R_en; with the sets of a busy observer counted as 0. -/
def State.deratedLim (s : State) : Rat := quot ((s.availSets.map fun k => s.setLim k * s.tRated k).sum) s.rEn

/-- Effective limits (R220): torque up and down, speed. -/
structure MLim where
  p : Rat
  n : Rat
  s : Rat

/-- A limit structure bounded by another of equal magnitudes. -/
def MLim.bound (l : MLim) (t : Rat) : MLim := { l with p := minR l.p t, n := maxR l.n (-t) }

/-- The effective limits (R220, R259, R338, R340): configured, commanded on the packet and cyclic paths, derating, Shelter, degraded. An internal path takes no
commanded limit; on a leader derating acts on its own share (R306). (DESIGN CHOICE, assumption 49.) -/
def State.limits (s : State) : MLim :=
  let d := s.motCfg
  let m := s.motion
  let l : MLim := { p := ofQ24 (getN d 28 4), n := ofQ24 (getI d 32 4), s := ofQ24 (getN d 36 4) }
  let l : MLim := if m.internal ≠ 0 ∨ m.path = 2 then l
    else { p := minR l.p (ofQ24 m.limP), n := maxR l.n (ofQ24 m.limN), s := minR l.s (ofQ24 m.limS) }
  let l := if s.col.state = 2 then l else l.bound s.deratedLim
  let l := if m.shLimits then { l.bound (ofQ24 (s.cu 0x0068 4 4)) with s := minR l.s (ofQ24 (s.cu 0x0068 8 4)) } else l
  if s.degraded then l.bound (ofQ24 (s.cu 0x0068 36 4)) else l

/-! ### Changes of mode and path (R221, R334, R337 to R339, R386) -/

/-- The torque the observers of R278 add in the present mode. -/
def State.addTorque (s : State) : Rat := s.torsion.lff + s.torsion.damp + s.torsion.inj

/-- The preset of R221: n_ref starts at the measured speed; the integrator is preset once the cycle knows what else is added to T_d. -/
def State.presetSpeed (s : State) : State :=
  s.modMotion fun m => { m with preset := true, nRef := m.nFilt }

/-- The integrator preset of R221 and R281: T_d continues behind the feedforwards and what R278 adds in this cycle. (DESIGN CHOICE, assumption 51.) -/
def State.applyPreset (s : State) : State :=
  if s.motion.preset then s.modMotion fun m =>
    { m with preset := false, integ := ofQ24 m.td - (if m.internal = 0 then s.tqFf else 0) - s.addTorque } else s

/-- A mode begins (R221). (DESIGN CHOICE, assumption 53.) -/
def State.enterMode (s : State) (mode : Nat) (pos : Option Int) : State :=
  let s := s.modMotion fun m => { m with mode := mode, posSet := pos, posCmd := pos.getD m.pos }
  if mode = 1 then s.presetSpeed else s

/-- A pending SET_MODE, or the MODE of the cyclic packet in force, takes effect (R221). -/
def State.modeChange (s : State) : State :=
  match s.motion.modeNext with
  | some (mode, path) =>
    let s := (s.modMotion fun m => { m with modeNext := none, path := path, shRef := none }).modTorsion fun t => { t with snap := false }
    if mode = s.motion.mode ∧ mode ≠ 2 then s else s.enterMode mode none
  | none =>
    match s.ownPacket with
    | some p => if s.motion.path = 1 ∧ getN p 2 1 ≠ s.motion.mode then s.enterMode (getN p 2 1) (some (getI p 12 8)) else s
    | none => s

/-- The internal path that the state calls for: SS1, a stop, the brake sequence, a snap hold. (DESIGN CHOICE, assumption 54.) -/
def State.internalPath (s : State) : Nat :=
  if s.motion.ss1Ramp then 2
  else if s.motion.stop.isSome then 1
  else if s.motion.brakeHold.isSome then 4
  else if s.torsion.snap then 3
  else 0

/-- The drive changes onto or off an internal path (R291, R334, R383, R386): with the preset of R221, or the torque of the last standstill before
the brake was set. -/
def State.pathChange (s : State) : State :=
  let i := s.internalPath
  let old := s.motion.internal
  if i = old then s else
  let s := s.modMotion fun m => { m with internal := i }
  if i = 4 then s.modMotion fun m => { m with integ := m.standTq, nRef := 0, preset := false }
  else if i = 3 then s.modMotion fun m => { m with nRef := m.n }
  else if i = 0 then s.enterMode s.motion.mode none
  else s.presetSpeed

/-- Ownership regained in the tick that SHELTER was entered in returns the device to RUN in the next outer-loop cycle (R20, R339). -/
def State.shelterLeave (s : State) : State := match s.owner with
  | some c => if s.dev = .shelter ∧ s.motion.regain then s.shelterExit c else s
  | none => s

/-- The reaction to a loss of ownership in RUN (R20, R312, R337). -/
def State.ownReact (s : State) : State := match s.motion.ownLost with
  | none => s
  | some src =>
    let s := s.modMotion fun m => { m with ownLost := none }
    let d := s.cfg 0x0068
    let md := s.motCfg
    if s.dev ≠ .run ∨ s.col.state = 3 ∨ s.col.state = 4 then s
    else if (getN d 0 1).testBit 0 ∧ getN md 40 1 ≠ 0 ∧ !s.sref.broken then
      let mode := getN md 41 1
      let ref := if mode = 0 then s.motion.tLoop else if s.motion.mode = 0 then s.motion.n else s.motion.nRef
      let s := if mode = s.motion.mode then s else s.enterMode mode none
      let again := s.owner.any fun c => (s.port c).tookAt.any (·.1 == s.time)
      let s := s.modMotion fun m =>
        { m with path := 2, modeNext := none, shRef := some ref, shLimits := true, shelterAt := s.time, regain := again }
      ({ s with dev := .shelter } : State).info 0x836B 2 0 (le 1 src)
    else s.startStop ((getN d 0 1).testBit 1) 0x8105

/-- The Shelter reference moves towards the SREF value and follows it from there on (R338). -/
def State.shelterRef (s : State) : State := match s.motion.shRef with
  | none => s
  | some r =>
    let x := approach r s.sref.cmd (ofQ24 (s.cu 0x0068 12 4) * s.outerT)
    s.modMotion fun m => { m with shRef := if x = s.sref.cmd then none else some x }

/-- Implausible observers are lost (R267 to R269). -/
def State.obsChecks (s : State) : State :=
  [0, 1, 2, 3].foldl (fun s m =>
    if s.obsAngle m && (s.observer m).state == 4 then
      match s.implausible m 0 with
      | some bits => s.obsLost m bits
      | none => s
    else s) s

/-- NO_SET_AVAILABLE (R336). -/
def State.noSet (s : State) : State :=
  if (s.dev = .run ∨ s.dev = .shelter) ∧ s.availSets = [] then s.raise 0x836A 2 0 [] else s

/-- A stop or an SS1 ramp in a cycle (R334 steps 1 to 3, R383, R386): a stack that can no longer ramp takes SELECT; the speed against STANDSTILL; the
end of a hoisting brake's set time. -/
def State.stopCycle (s : State) : State :=
  let s := if s.motion.ss1Ramp || s.motion.stop.isSome then
      s.enStacks.foldl (fun s k => if (s.stack k).stop.kind = .none ∧ !s.canRamp k then s.stopReact k .select 0 else s) s
    else s
  match s.motion.stop with
  | some d =>
    let slow := decide (absR s.motion.n < ofQ24 (s.cu 0x0068 28 4))
    let s := s.modMotion fun m => { m with stop := some { d with began := some (d.began.getD s.time), slow := if slow then some (d.slow.getD s.time) else none } }
    match d.brakeAt with
    | some u => if u ≤ s.time then s.stopDone else s
    | none => s
  | none => s

/-! ### The loops (R220, R278) -/

/-- The speed loop in a cycle (R220): its output, with the integrator held where it would be integrated towards a limit in force. (DEDUCED, assumption 48.) -/
def State.speedLoop (s : State) (nref ff add : Rat) (l : MLim) (hold : Bool) : Rat × Rat :=
  let d := s.motCfg
  let kp : Rat := (getN d 8 4 : Rat) / 65536
  let e := nref - s.motion.nFilt
  let i1 := s.motion.integ + kp * e * quot (s.outerT * 1000000) (getN d 12 4)
  let sum := kp * e + i1 + ff + add
  let i := if hold || (decide (l.p < sum) && decide (0 < e)) || (decide (sum < l.n) && decide (e < 0)) then s.motion.integ else i1
  (kp * e + i + ff, i)

/-- The deceleration of an internal path in rated speeds per second (R291, R334, R383). -/
def State.internalDec (s : State) (i : Nat) : Rat :=
  let dec := match i with
    | 2 => quot ((s.cu 0x0F02 0 4 : Rat) / 1000) s.nRated
    | 3 => (getN s.torsCfg 58 1 : Rat) / 100 * s.accMax
    | _ => match s.motion.stop with
      | some d => ofQ24 (s.cu 0x0068 (if d.quick then 20 else 16) 4)
      | none => s.accMax
  minR s.accMax dec

/-- n_ref of a cycle and whether a speed limit acts (R220, R291, R334, R386). In speed mode too the command is kept within SPD_LIM_eff. (DESIGN CHOICE,
assumption 127.) -/
def State.speedRef (s : State) (l : MLim) : Rat × Bool :=
  let m := s.motion
  match m.internal with
  | 0 =>
    if m.mode = 2 then
      let d := s.motCfg
      let posc := m.posSet.getD m.posCmd
      let own := if m.path = 0 ∧ m.spdLimSet ≠ 0 then minR l.s (ofQ24 m.spdLimSet) else l.s
      let v := (getN d 20 4 : Rat) / 100 * quot ((posc - m.pos : Int) : Rat) s.posCpr
      let x := quot v s.nRated
      (clampR (-own) own x + (if m.path = 1 then s.cycQ 8 else 0), decide (own < absR x))
    else
      let (c, acc) := s.spdCmd
      let x := clampR (-l.s) l.s c
      (approach m.nRef x (acc * s.outerT), decide (x ≠ c))
  | 4 => (0, false)
  | i => (approach m.nRef 0 (s.internalDec i * s.outerT), i == 3)

/-- T_loop of a cycle with the loop's state after it (R220). (DESIGN CHOICE, assumption 51.) -/
def State.loopCycle (s : State) (l : MLim) : State :=
  let m := s.motion
  if m.internal = 0 ∧ m.mode = 0 then
    let c := s.tqCmd
    if l.s < absR m.n then
      let sg : Rat := sgnR m.n
      let (sp, i) := s.speedLoop (sg * l.s) 0 (s.torsion.damp + s.torsion.inj) l false
      let less := decide (sg * sp < sg * c)
      s.modMotion fun m => { m with integ := i, nRef := m.nFilt, tLoop := if less then sp else c, spdLimited := less }
    else s.modMotion fun m => { m with integ := c, nRef := m.nFilt, tLoop := c, spdLimited := false }
  else
    let (r, lim) := s.speedRef l
    let ff := if m.internal = 0 then s.tqFf else 0
    let (t, i) := s.speedLoop r ff s.addTorque l (m.internal == 4)
    s.modMotion fun m => { m with integ := i, nRef := r, tLoop := t, spdLimited := lim }

/-- The T_d that this device's own sets carry: its share in a colonnade, else the drive torque (R306, R311, R314). -/
def State.localTd (s : State) : Int :=
  if s.motion.internal ≠ 0 ∧ s.col.state ≠ 2 then s.motion.td
  else if s.col.state = 2 ∨ s.col.state = 3 then s.col.shareT
  else if s.col.state = 4 then 0
  else s.motion.td

/-- The references of the sets from a drive torque (R201, R554) with their swap at `u` (R28), and S of R202 as an exact fraction. (DESIGN CHOICE, assumption 52.) -/
def State.setRefs (s : State) (td : Int) (u : Tick) : State :=
  let av := s.availSets
  let rav := (av.map s.tRated).sum
  let s := s.enStacks.foldl (fun s k =>
    let b := (s.setLim k * 16777216).floor
    let r := if k ∈ av then clampI (-b) b (toQ24 (ofQ24 td * quot s.rEn rav)) else 0
    s.modFe k fun f => f.hand { f.newest with r := r, tLim := getN (s.stkCfg k) 68 4 } u) s
  let sum := (av.map fun k => ofQ24 (s.stack k).fe.newest.r * s.tRated k).sum
  s.modMotion fun m => { m with short := toQ24 (ofQ24 td - quot sum s.rEn) }

/-- The shares of a cycle with SET_SHARES_CHANGED (R202) and STAT[1]. -/
def State.shareCycle (s : State) (atLim : Bool) (u : Tick) : State :=
  let s := s.setRefs s.localTd u
  let av := s.availSets
  let mask := av.foldl (fun (m : BitVec 4) k => m ||| (1#4 <<< k)) 0
  let lim := atLim || decide (256 < s.motion.short.natAbs) || av.any (fun k => s.obsBusy (machineOf s.arrange k)) || s.enStacks.any (fun k => (s.stack k).fe.torqLim)
  let old := s.motion.avail
  let s := s.modMotion fun m => { m with avail := mask, limited := lim, tdAtLim := atLim }
  if mask = old then s else s.info 0x8322 2 0 (le 1 mask.toNat ++ zeros 3 ++ leI 4 s.motion.short)

/-- The drive torque of a cycle (R278): without an available set the integrator is held and T_d is 0 (R336). The first set that becomes available
starts the selected mode afresh. (DESIGN CHOICE, assumption 53.) -/
def State.torqueCycle (s : State) (u : Tick) (was : Bool) : State :=
  let s := if s.motion.avail = 0 ∧ s.availSets ≠ [] ∧ s.motion.internal = 0 then
      (s.modMotion fun m => { m with td := 0 }).enterMode s.motion.mode s.motion.posSet else s
  let te := if s.col.state = 2 then ofQ24 s.col.te else quot s.achieved s.rEn
  let s := s.torsCycle (if s.motion.internal = 0 then s.motion.mode else 1) te was
  let s := s.pathChange.applyPreset
  if s.availSets = [] then (s.modMotion fun m => { m with td := 0, tLoop := 0, spdLimited := false }).shareCycle false u
  else if (s.col.state = 3 ∨ s.col.state = 4) ∧ s.motion.internal = 0 then
    (s.modMotion fun m => { m with td := if s.col.state = 3 then s.col.shareT else 0, spdLimited := false }).shareCycle s.col.limited u
  else
    let l := s.limits
    let s := s.loopCycle l
    let sum := s.motion.tLoop + s.addTorque
    let td := clampR l.n l.p sum
    (s.modMotion fun m => { m with td := toQ24 td }).shareCycle (decide (l.p ≤ sum) || decide (sum ≤ l.n)) u

/-- A snap hold in a cycle (R291, R292): a stop reaction ends it; the speed against 1 % of N_RATED. -/
def State.snapCycle (s : State) : State :=
  if !s.torsion.snap then s
  else if s.anyStop then s.modTorsion fun t => { t with snap := false, snapSlow := none }
  else
    let slow := decide (absR s.motion.n < 1 / 100)
    s.modTorsion fun t => { t with snapSlow := if slow then some (t.snapSlow.getD s.time) else none }

/-- OUTER_OVERRUN (R219, R229): a cycle whose reference swap is later than 25 µs after its start. -/
def State.outerOverrun (s : State) (took : Nat) : State :=
  if 2500 < took then s.raise 0x8325 2 0 (le 4 (satN 4 took)) else s

/-- OUTER_LOOP_CYCLE (R219): at the start that the sample of the time base gave; the recorder's frame, what it reads, the reactions decided at a cycle, the changes of mode and path,
the loops and the shares, the swap `took` ticks after the start. -/
def execOuterLoopCycle (a : OuterCycle) (s : State) : Host.Outcome State Fault Refusal :=
  let s := s.upTo a.t
  .next <| if !(s.sealedCfg.isSome && s.awake && s.motion.outerAt == some a.t) || vget s.integ.halted 0 false then s else
    let was := s.torsFrozen
    let s := ((s.recCycle 5 a.t).modMotion fun m => { m with outerAt := none }).outerOverrun a.took
    let s := s.readMotion.ss1Cycle.srefCycle.shelterLeave.ownReact
    let s := s.obsChecks.overSpeed.noSet
    let s := s.modeChange.stopCycle.snapCycle.shelterRef.pathChange
    (s.torqueCycle (a.t + a.took) was).modAux fun x => { x with cycleAt := some (a.t + a.took) }

/-! ### The packet commands (R220 to R222, R334) -/

/-- DISABLE (R334): 0 a normal stop, 1 QUICK; in READY there is nothing to stop. -/
def opDisable (p : Bytes) (s : State) : Rep :=
  let k := getN p 0 1
  if 1 < k then .no s eRange else .ok (s.startStop (k == 1) 0)

/-- SET_MODE (R221). -/
def opSetMode (c : Source) (p : Bytes) (s : State) : Rep :=
  let mode := getN p 0 1
  let path := getN p 1 1
  let d := s.motCfg
  if 2 < mode ∨ 2 < path ∨ getN p 2 2 ≠ 0 then .no s eRange
  else if path = 1 ∧ !(s.port c).cyclic.enabled then .no s eState
  else if path = 2 ∧ (getN d 40 1 = 0 ∨ mode ≠ getN d 41 1) then .no s eRange
  else .ok (s.modMotion fun m => { m with modeNext := some (mode, path) })

/-- Whether the packet path is selected in a mode (R222); a SET_MODE that waits for its cycle counts. (DEDUCED, assumption 31.) -/
def State.onPath (s : State) (mode : Nat) : Bool :=
  let (m, p) := s.motion.modeNext.getD (s.motion.mode, s.motion.path)
  m == mode && p == 0

/-- SET_TORQUE (R222). -/
def opSetTorque (p : Bytes) (s : State) : Rep :=
  if !s.onPath 0 then .no s eState else .ok (s.modMotion fun m => { m with tqSet := getI p 0 4 })

/-- SET_SPEED (R222). -/
def opSetSpeed (p : Bytes) (s : State) : Rep :=
  if !s.onPath 1 then .no s eState
  else if getI p 4 4 < 0 then .no s eRange
  else .ok (s.modMotion fun m => { m with spdSet := getI p 0 4, accSet := getI p 4 4 })

/-- SET_POSITION (R222). -/
def opSetPosition (p : Bytes) (s : State) : Rep :=
  if !s.onPath 2 then .no s eState
  else if getI p 8 4 < 0 ∨ getN p 12 4 ≠ 0 then .no s eRange
  else .ok (s.modMotion fun m => { m with posSet := some (getI p 0 8), spdLimSet := getI p 8 4 })

/-- SET_LIMITS (R220): bytes 20 to 31 of R110 and 4 reserved. -/
def opSetLimits (p : Bytes) (s : State) : Rep :=
  if getI p 0 4 < 0 ∨ 0 < getI p 4 4 ∨ getI p 8 4 < 0 ∨ getN p 12 4 ≠ 0 then .no s eRange
  else .ok (s.modMotion fun m => { m with limP := getI p 0 4, limN := getI p 4 4, limS := getI p 8 4 })

/-- DISABLE (R334). -/
def execDisable (t : Tick) (c : Source) (q : Nat) (p : Bytes) (s : State) := runOp t c 0x0301 q p (opDisable p) s
/-- SET_MODE (R221). -/
def execSetMode (t : Tick) (c : Source) (q : Nat) (p : Bytes) (s : State) := runOp t c 0x0302 q p (opSetMode c p) s
/-- SET_TORQUE (R222). -/
def execSetTorque (t : Tick) (c : Source) (q : Nat) (p : Bytes) (s : State) := runOp t c 0x0303 q p (opSetTorque p) s
/-- SET_SPEED (R222). -/
def execSetSpeed (t : Tick) (c : Source) (q : Nat) (p : Bytes) (s : State) := runOp t c 0x0304 q p (opSetSpeed p) s
/-- SET_POSITION (R222). -/
def execSetPosition (t : Tick) (c : Source) (q : Nat) (p : Bytes) (s : State) := runOp t c 0x0305 q p (opSetPosition p) s
/-- SET_LIMITS (R220). -/
def execSetLimits (t : Tick) (c : Source) (q : Nat) (p : Bytes) (s : State) := runOp t c 0x0306 q p (opSetLimits p) s

end Sys2Proof.Machine
end

