-- ==== Sys2Proof/Machine/Colonnade.lean ====
section
/-! DEFINITION. The colonnade (R297 to R321): the frames of the ring, formation, the division of the demand, the sharing cycle, dropout and
readmission. -/
namespace Sys2Proof.Machine

/-! ### Configuration and frames (R301, R302, R318) -/

/-- COLONNADE in force. -/
def State.colCfg (s : State) : Bytes := s.cfg 0x0080
/-- Own member number. -/
def State.colMe (s : State) : Nat := getN s.colCfg 0 1
/-- N_MEMBERS. -/
def State.colN (s : State) : Nat := getN s.colCfg 1 1
/-- R_col. -/
def State.rCol (s : State) : Nat := getN s.colCfg 4 4
/-- The sharing period (R310). -/
def State.colPeriod (s : State) : Nat := getN s.colCfg 3 1 * s.ctrlCycle
/-- The own weight (R302). -/
def State.colWeight (s : State) : Nat := s.rEn * getN s.colCfg 8 2 / 256
/-- LEAD_ELIG. -/
def State.leadElig (s : State) : Bool := (getN s.colCfg 2 1).testBit 0
/-- Whether the ring port works (R298, R415): from RESET exit on, in every state with a clock. -/
def State.ringOn (s : State) : Bool := (match s.dev with | .off | .inReset | .watch => false | _ => true) && !s.linkHalted
/-- Whether the device may take part in a colonnade: its ring works under a sealed configuration with LINKS[0] = 1. -/
def State.colOn (s : State) : Bool := s.ringOn && s.up && s.sealedCfg.isSome && (s.cu 0x0001 11 1).testBit 0

/-- What the device puts on CLO in this command. -/
def State.clo (s : State) (f : List Bytes) : State := s.modCol fun c => { c with out := f }

/-- A list of member numbers as a bit mask. -/
def maskOf (l : List Nat) : BitVec 8 := l.foldl (fun (m : BitVec 8) i => m ||| (1#8 <<< i)) 0

/-- The comma and the bytes of a frame with a CRC-32C behind them. -/
def frame32 (b : Bytes) : Bytes := [0xBC#8] ++ b ++ le 4 (crc32c b).toNat

/-- Whether a frame has a TYPE, a length and its CRC-32C. (DEDUCED, assumption 67.) -/
def frameOk (ty n : Nat) (f : Bytes) : Bool :=
  f.length == n && getN f 1 1 == ty && getN f (n - 4) 4 == (crc32c ((f.drop 1).take (n - 5))).toNat

/-- A SHARE frame (R301). -/
def shareFrameOf (cyc leader : Nat) (dv fin : Bool) (drop : BitVec 8) (demand short : Int) (shares : Vector Int 8) : Bytes :=
  frame32 (le 1 0x53 ++ le 2 cyc ++ le 1 (leader % 8 + 8 * b2n dv + 16 * b2n fin) ++ le 1 drop.toNat ++ le 2 0 ++ leI 4 demand ++ leI 4 short ++
    (shares.toList.flatMap (leI 4)))

/-- A SHARE frame without a demand: of CYCLE 0, or with END (R304, R316). -/
def State.bareShare (s : State) (cyc : Nat) (fin : Bool) (drop : BitVec 8) : Bytes :=
  shareFrameOf cyc s.colMe false fin drop 0 0 (Vector.replicate 8 0)

/-- The ROLL frame this device sends (R302). -/
def State.rollOf (s : State) : Bytes :=
  let me := s.colMe
  let b := (1#8 <<< me).toNat
  frame32 (le 1 0x4C ++ le 1 me ++ le 1 b ++ le 1 (if s.leadElig then b else 0) ++ le 1 s.colN ++ le 2 0 ++ le 4 (getN s.colCfg 12 4) ++
    le 4 s.colPeriod ++ le 4 s.rCol ++ ((List.range 8).flatMap fun i => le 4 (if i = me then s.colWeight else 0)))

/-! ### Events and states (R305, R321) -/

/-- A stop of R314 that lasts while the device is DETACHED ends: the stacks become available at their next carrier zero. -/
def State.endSuspend (s : State) : State :=
  if !s.col.suspend then s else
  s.enStacks.foldl (fun s k => s.modStack k fun x =>
    if x.stop.kind = .select ∧ x.stop.cause = 0x8805 then { x with release := true } else x) (s.modCol fun c => { c with suspend := false })

/-- A change of the colonnade state with COL_STATE (R305). A member that goes to NONE in RUN takes up its own mode again. -/
def State.setCol (s : State) (new : Nat) : State :=
  let old := s.col.state
  if old = new then s else
  let s := (s.modCol fun c => { c with state := new, rollAt := s.time }).info 0x8801 3 s.colMe (le 1 new ++ le 1 old ++ le 1 s.col.leader)
  let s := if old = 4 then s.endSuspend else s
  if new = 0 then
    let s := s.modCol fun c => { c with short := 0, shareT := 0, demandV := false, limited := false, slow := false, leaveDue := false, leader := 255 }
    if (old = 3 ∨ old = 4) ∧ s.dev = .run then s.enterMode s.motion.mode none else s
  else s

/-- COL_FORM_FAIL (R304). -/
def State.formFail (s : State) (cause : Nat) : State := s.raise 0x8806 3 s.colMe (le 1 cause)

/-- A frame with a bad CRC, discarded by its consumer (R298). -/
def State.ringError (s : State) (ty : Nat) : State :=
  let s := s.modCol fun c => { c with frameErr := satN 4 (c.frameErr + 1) }
  s.raise 0x8807 3 s.colMe (le 1 ty ++ zeros 3 ++ le 4 s.col.frameErr)

/-- SHORTFALL of a frame, with COL_SHORTFALL where it becomes non-zero or returns to 0 (R309). -/
def State.setShort (s : State) (v : Int) : State :=
  let old := s.col.short
  let s := s.modCol fun c => { c with short := v }
  if (old = 0) = (v = 0) then s else s.raise 0x8804 3 s.colMe (zeros 4 ++ leI 4 v)

/-! ### The division of the demand (R307) -/

/-- The running values of the division: what is left, the free members, the steps given, and the quotients. -/
structure Division where
  left : Int
  fr   : List Nat
  n    : Vector Int 8
  x    : Vector Int 8

/-- The passes: members at their room leave the free set until none is over. -/
def Division.passes (room wt : Vector Int 8) : Nat → Division → Division
  | 0, d => d
  | k + 1, d =>
    if d.left ≤ 0 ∨ d.fr = [] then d else
    let w := (d.fr.map fun i => vget wt i 0).sum
    let share := fun (i : Nat) => let a := d.left * 65536 * vget wt i 0; if w = 0 then (Config.divZero a).floor else a.fdiv w
    let x := d.fr.foldl (fun v i => vmod v i fun _ => share i) d.x
    let full := d.fr.filter fun i => decide (vget room i 0 * 65536 ≤ vget x i 0)
    if full = [] then { d with x := x } else
    Division.passes room wt k
      { left := d.left - (full.map fun i => vget room i 0).sum, fr := d.fr.filter fun i => !full.contains i,
        n := full.foldl (fun v i => vmod v i fun _ => vget room i 0) d.n, x := x }

/-- One round of steps in an order: one step to each member that can take it, while steps are left. -/
def stepRound (up : Bool) (room : Vector Int 8) : List Nat → Nat × Vector Int 8 → Nat × Vector Int 8
  | [], r => r
  | i :: l, (m, n) =>
    let v := vget n i 0
    stepRound up room l
      (if m = 0 then (m, n)
       else if up then (if v < vget room i 0 then (m - 1, vmod n i (· + 1)) else (m, n))
       else if 0 < v then (m - 1, vmod n i (· - 1)) else (m, n))

/-- give_steps: rounds until every step is placed or no member can take one. -/
def giveSteps (up : Bool) (room : Vector Int 8) (order : List Nat) : Nat → Nat × Vector Int 8 → Vector Int 8
  | 0, r => r.2
  | k + 1, r =>
    let r' := stepRound up room order r
    if r'.1 = 0 ∨ r'.1 = r.1 then r'.2 else giveSteps up room order k r'

/-- The members in the order of a key, the lower number first on a tie. -/
def orderBy (key : Nat → Int) (down : Bool) (l : List Nat) : List Nat :=
  l.mergeSort fun a b => if key a = key b then decide (a ≤ b) else if down then decide (key b < key a) else decide (key a < key b)

/-- The division of a demand over a share set (R307): the shares, the carries and the free set. (DESIGN CHOICE, assumption 4.) (DESIGN CHOICE, assumption 66.) -/
def divide (d : Int) (set : List Nat) (capP capN wt carry : Vector Int 8) (frPrev : BitVec 8) : Vector Int 8 × Vector Int 8 × BitVec 8 :=
  let neg := decide (d < 0)
  let room := Vector.ofFn fun i : Fin 8 => max 0 (if neg then -capN[i] else capP[i]) * 4096
  let p := Division.passes room wt 8 { left := (d.natAbs : Int), fr := set, n := Vector.replicate 8 0, x := Vector.replicate 8 0 }
  let fr := maskOf p.fr
  let carry := if fr = frPrev then carry else Vector.replicate 8 0
  let signed := fun (n : Vector Int 8) => n.map fun v => if neg then -v else v
  if p.fr = [] ∨ p.left ≤ 0 then (signed p.n, carry, fr) else
  let head := (orderBy (fun i => vget wt i 0) true p.fr).headD 0
  let rest := p.left * 65536 - (p.fr.map fun i => vget p.x i 0).sum
  let x := vmod p.x head (· + rest)
  let a := fun (i : Nat) => vget x i 0 + vget carry i 0
  let n := p.fr.foldl (fun v i => vmod v i fun _ => clampI 0 (vget room i 0) ((a i).fdiv 65536)) p.n
  let m := p.left - (p.fr.map fun i => vget n i 0).sum
  let up := decide (0 < m)
  let order := orderBy (fun i => (a i).fmod 65536) up p.fr
  let n := giveSteps up room order m.natAbs (m.natAbs, n)
  let carry := p.fr.foldl (fun v i => vmod v i fun _ => a i - 65536 * vget n i 0) carry
  let carry := if carry.toList.all fun c => decide (c.natAbs < 65536) then carry else Vector.replicate 8 0
  (signed n, carry, fr)

/-! ### A device's own share and capacity (R306, R311) -/

/-- Σ T_LIM × T_RATED of the available sets in units of R_en. -/
def State.setsLim (s : State) : Rat := quot ((s.availSets.map fun k => ofQ24 (getN (s.stkCfg k) 68 4) * s.tRated k).sum) s.rEn

/-- A capacity of units of R_en in Q4.12 of R_col, rounded towards zero. -/
def State.toCap (s : State) (x : Rat) : Int := clampI 0 32767 (quot (x * s.rEn) s.rCol * 4096).floor

/-- CAP_P and CAP_N (R311); on the leader without the limits of MOTION. -/
def State.caps (s : State) (leader : Bool) : Int × Int :=
  let x := minR s.deratedLim s.setsLim
  if leader then (s.toCap x, -s.toCap x)
  else (s.toCap (minR x (ofQ24 (getN s.motCfg 28 4))), -s.toCap (minR x (-ofQ24 (getI s.motCfg 32 4))))

/-- AVAIL (R311, R317, R469). -/
def State.colAvail (s : State) (leader : Bool) : Bool :=
  s.availSets != [] && !s.pair.standby && (s.dev == .run || (leader && s.dev == .shelter))

/-- The actual torque in Q8.24 of R_col (R311). -/
def State.colTq (s : State) : Int := toQ24 (quot s.achieved s.rCol)

/-- The limits on an own share: those of R220 without commanded ones; on the leader only derating (R306, R311, R312). (DESIGN CHOICE, assumption 49.) (DESIGN CHOICE, assumption 66.) -/
def State.colLimits (s : State) : MLim :=
  let lim := s.deratedLim
  if s.col.state = 2 then { p := lim, n := -lim, s := 0 } else
  let l := (({ p := ofQ24 (getN s.motCfg 28 4), n := ofQ24 (getI s.motCfg 32 4), s := 0 } : MLim)).bound lim
  if s.degraded then l.bound (ofQ24 (s.cu 0x0068 36 4)) else l

/-- A share is converted with its remainder, clamped and handed to the sets, whose references are swapped 3 µs after the frame's stamp, the latest that R311
allows. (DESIGN CHOICE, assumption 63.) (DESIGN CHOICE, assumption 64.) -/
def State.takeShare (s : State) (share : Int) (stamp : Tick) : State :=
  let en : Int := s.rEn
  let q := share * s.rCol + s.col.rem
  let td := q.fdiv en
  let l := s.colLimits
  let td' := satI 4 (clampI (toQ24 l.n) (toQ24 l.p) td)
  let s := s.modCol fun c => { c with rem := q - td * en, shareT := td', limited := decide (td ≠ td') }
  let s := if td = td' then s else s.raise 0x8809 3 s.colMe (zeros 4 ++ leI 4 (satI 4 (td - td')))
  s.setRefs s.localTd (stamp + 300)

/-- The REPLY frame of this device (R301, R311, R315, R316). -/
def State.replyOf (s : State) (rejoin leaving : Bool) : Bytes :=
  let (cp, cn) := s.caps false
  let b := le 1 0x52 ++ le 1 (s.colMe + 8 * b2n (s.colAvail false && !rejoin) + 16 * b2n s.col.limited + 32 * b2n leaving + 64 * b2n rejoin +
      128 * b2n s.degraded) ++ le 2 s.col.cycle ++ leI 4 s.colTq ++ leI 2 cp ++ leI 2 cn
  [0xBC#8] ++ b ++ (le 2 (crc16 b).toNat).reverse

/-! ### Detachment and membership (R304, R314 to R316) -/

/-- A device enters DETACHED from MEMBER (R314): its share is 0, COL_DETACHED, and with DETACH_ACT = 1 a stop while it is detached. (DESIGN CHOICE, assumption 65.) -/
def State.detach (s : State) (cause : Nat) : State :=
  let s := (s.setCol 4).modCol fun c => { c with shareT := 0 }
  let (v, s) := s.raiseV 0x8805 3 s.colMe (le 1 cause)
  let s := s.setRefs s.localTd s.time
  if getN s.colCfg 16 1 = 1 ∧ v = some false then
    (s.stopAll s.enStacks .select 0x8805).modCol fun c => { c with suspend := true }
  else s

/-- What a valid SHARE frame says is noted (R320). -/
def State.noteShare (s : State) (f : Bytes) : State :=
  let drop := BitVec.ofNat 8 (getN f 5 1)
  let all := maskOf (List.range s.colN)
  let s := s.modCol fun c =>
    { c with leader := getN f 4 1 % 8, cycle := getN f 2 2, drop := drop, present := all &&& ~~~drop, demandV := (getN f 4 1).testBit 3,
             demand := getI f 8 4, shares := Vector.ofFn fun i : Fin 8 => getI f (16 + 4 * i.val) 4, lastFrame := s.stamp }
  s.setShort (getI f 12 4)

/-- A detached device's answer (R315): the frame passes on, a REPLY with REJOIN follows. -/
def State.answerDetached (s : State) (f : Bytes) : State := s.clo [f, s.replyOf true false]

/-- A member acts on a frame with its DROP bit clear (R311): its share, its REPLY, and its leave behind it (R316). -/
def State.answerMember (s : State) (f : Bytes) : State :=
  let s := s.takeShare (if s.col.demandV then vget s.col.shares s.colMe 0 else 0) s.stamp
  let leaving := s.col.leaveDue
  let s := s.clo [f, s.replyOf false leaving]
  if leaving then s.setCol 0 else s

/-- A device in FORMING, MEMBER or DETACHED acts on a SHARE frame of another leader (R304, R311, R314, R315). -/
def State.followShare (s : State) (f : Bytes) : State :=
  let old := s.col.state
  let fin := (getN f 4 1).testBit 4
  let drop := (getN f 5 1).testBit s.colMe
  let s := s.noteShare f
  if fin then (if old = 1 then s.formFail 0 else s).setCol 0 |>.clo [f]
  else if drop then
    (if old = 3 then s.detach 0 else s.setCol 4).answerDetached f
  else (if old = 3 then s else (s.setCol 3).modCol fun c => { c with rem := 0 }).answerMember f

/-- T_last in ns from a measured round trip (R300). (DESIGN CHOICE, assumption 66.) -/
def State.tLastOf (s : State) : Nat := (s.stamp - s.col.sk) * 10 + (s.colN - 1) * 680

/-- The ring is measured at the end of formation (R304 step 3): into LEADER, or the END frame and NONE. -/
def State.formMeasured (s : State) : State :=
  let tl := s.tLastOf
  let s := s.modCol fun c => { c with forming0 := false, tLast := tl }
  if 7600 < tl then ((s.clo [s.bareShare 1 true 0]).formFail 0).setCol 0
  else
    let absent := fun (i : Nat) => !s.col.seen.getLsbD i
    (s.modCol fun c =>
      { c with leader := s.colMe, cycle := 0, drop := 0, frPrev := 0, rem := 0, sk := 0, judged := true, slow := false, te := 0,
               members := Vector.ofFn fun i : Fin 8 => { weight := (c.members[i]).weight, dropped := absent i } }).setCol 2

/-- Own frames that return to a leader measure the ring (R300). (DESIGN CHOICE, assumption 64.) -/
def State.ringMeasured (s : State) : State :=
  let tl := s.tLastOf
  let slow := decide (7600 < tl) && s.dev == .run
  let was := s.col.slow
  let s := s.modCol fun c => { c with tLast := tl, slow := slow }
  if slow ∧ !was then s.raise 0x8808 3 s.colMe (zeros 4 ++ le 4 tl) else s

/-- SHARE_FRAME (R298, R304, R311, R314): a frame from CLI, `t` its stamp. A device that sent the frame itself takes it off the ring. (DESIGN CHOICE, assumption 61.) -/
def execShareFrame (t : Tick) (f : Bytes) (s : State) : Host.Outcome State Fault Refusal :=
  let s := (s.upTo t).clo []
  let own := getN f 4 1 % 8 == s.colMe
  .next <| if !s.ringOn then s
    else if !s.colOn then s.clo [f]
    else if !frameOk 0x53 52 f then
      (if s.col.state = 0 then s.clo [f] else (s.ringError 0x53).clo (if s.col.state = 2 then [] else [f]))
    else match s.col.state with
      | 0 => if own then s else s.clo [f]
      | 1 => if own then (if s.col.forming0 then s.formMeasured else s) else if getN f 2 2 = 0 then s.clo [f] else s.followShare f
      | 2 =>
        if own then s.ringMeasured
        else if getN f 4 1 % 8 < s.colMe then (((s.noteShare f).setCol 4).formFail 3).answerDetached f
        else s
      | _ => s.followShare f

/-! ### The leader (R300, R307, R310, R313, R315) -/

/-- The share set (R307). -/
def State.shareSet (s : State) : List Nat :=
  (List.range s.colN).filter fun i =>
    if i = s.colMe then s.colAvail true else let m := vget s.col.members i {}; !m.dropped && m.avail

/-- A demand divided over a set with the capacities last received and the own present ones; carries and free set are kept (R307). -/
def State.splitDemand (s : State) (d : Int) (set : List Nat) : Vector Int 8 × State :=
  let me := s.colMe
  let own := s.caps true
  let cap := fun (g : Member → Int) (o : Int) => Vector.ofFn fun i : Fin 8 => if i.val = me then o else g s.col.members[i]
  let wt := Vector.ofFn fun i : Fin 8 => if i.val = me then (s.colWeight : Int) else ((s.col.members[i]).weight : Int)
  let r := divide d set (cap (·.capP) own.1) (cap (·.capN) own.2) wt (Vector.ofFn fun i : Fin 8 => (s.col.members[i]).carry) s.col.frPrev
  (r.1, s.modCol fun c =>
    { c with frPrev := r.2.2, members := Vector.ofFn fun i : Fin 8 => { c.members[i] with carry := r.2.1[i] } })

/-- The next SHARE frame of the leader and its own share (R306 to R308, R310). -/
def State.sendShare (s : State) : State :=
  let dv := s.dev == .run || s.dev == .shelter
  let d := if dv then s.motion.td else 0
  let set := s.shareSet
  let (sh, s) := s.splitDemand d set
  let sh := if dv then sh else Vector.replicate 8 0
  let drop := maskOf ((List.range 8).filter fun i => i ≠ s.colMe && (decide (s.colN ≤ i) || (vget s.col.members i {}).dropped))
  let short := d - sh.toList.sum
  let cyc := (s.col.cycle + 1) % 65536
  let s := s.modCol fun c =>
    { c with cycle := cyc, drop := drop &&& maskOf (List.range s.colN), present := maskOf set, demandV := dv, demand := d, shares := sh, sk := s.time + 208, judged := false,
             members := c.members.map fun m => { m with replied := false, tq := 0 } }
  let s := (s.setShort short).clo [shareFrameOf cyc s.colMe dv false drop d short sh]
  s.takeShare (if dv then vget sh s.colMe 0 else 0) s.col.sk

/-- The partner of a pair: the other member number. -/
def State.partnerNo (s : State) : Nat := 1 - min 1 s.colMe

/-- A member is dropped (R313): its DROP bit from the next frame on. -/
def State.dropMember (s : State) (i cause : Nat) (event : Bool) : State :=
  let cyc := s.col.cycle
  let s := s.modCol fun c => { c with members := vmod c.members i fun m => { m with dropped := true, avail := false, misses := 0, rejoin := 0, rolled := false } }
  if event then s.raise 0x8802 3 i (le 1 cause ++ le 1 0 ++ le 2 cyc) else s

/-- The replies of one member are judged (R313, R315, R482). -/
def State.judgeMember (s : State) (i : Nat) : State :=
  let m := vget s.col.members i {}
  let put := fun (s : State) (f : Member → Member) => s.modCol fun c => { c with members := vmod c.members i f }
  if m.dropped then
    let n := getN s.colCfg 11 1
    if !m.replied then put s fun m => { m with rejoin := 0 }
    else if n ≠ 0 ∧ n ≤ m.rejoin ∧ m.rolled then
      (put s fun m => { m with dropped := false, avail := false, misses := 0, rejoin := 0 }).info 0x8803 3 i (zeros 2 ++ le 2 s.col.cycle)
    else s
  else if m.replied then
    if m.leaving then s.dropMember i 1 true else put s fun m => { m with misses := 0 }
  else if s.pair.query.isSome ∧ i = s.partnerNo then s
  else
    let s := (put s fun m => { m with misses := m.misses + 1 }).modCol fun c => { c with misses := satN 4 (c.misses + 1) }
    if 2 ≤ m.misses + 1 then s.dropMember i 0 true else s

/-- The judgement of a sharing cycle (R310 step 5): t_e, then every member. -/
def State.judge (s : State) : State :=
  let others := (List.range s.colN).filter (· ≠ s.colMe)
  let te := s.colTq + (others.map fun i => let m := vget s.col.members i {}; if m.replied then m.tq else 0).sum
  let s := s.modCol fun c => { c with judged := true, te := te }
  others.foldl (fun s i => s.judgeMember i) s

/-- SHARING_CYCLE (R310): at a carrier zero of the leader's time base, one sharing period after the last. (DESIGN CHOICE, assumption 13.) -/
def execSharingCycle (t : Tick) (s : State) : Host.Outcome State Fault Refusal :=
  let s := s.upTo t
  let zero := match s.sealedCfg with
    | some c => decide (c.t0 ≤ s.time) && (s.time - c.t0) % s.ctrlCycle == 0
    | none => false
  .next <| if s.colOn && s.col.state == 2 && zero && (s.col.sk == 0 || decide (s.col.sk + s.colPeriod ≤ s.time + 208)) then
      ((if s.col.judged then s else s.judge).clo []).sendShare
    else s

/-- REPLY_FRAME (R298, R301, R313): the leader takes it off the ring; a reply counts with its CRC, the CYCLE and a stamp up to D_k. -/
def execReplyFrame (t : Tick) (f : Bytes) (s : State) : Host.Outcome State Fault Refusal :=
  let s := (s.upTo t).clo []
  .next <| if !s.ringOn then s
    else if !(s.colOn && s.col.state == 2) then s.clo [f]
    else if !(f.length == 15 && getN f 1 1 == 0x52 && f.drop 13 == (le 2 (crc16 ((f.drop 1).take 12)).toNat).reverse) then s.ringError 0x52
    else
      let b := getN f 2 1
      let i := b % 8
      if getN f 3 2 = s.col.cycle ∧ s.stamp ≤ s.col.sk + 800 ∧ i < s.colN ∧ i ≠ s.colMe then
        let rejoin := b.testBit 6 && !b.testBit 3
        s.modCol fun c =>
          { c with members := vmod c.members i fun m =>
              { m with avail := b.testBit 3, limited := b.testBit 4, leaving := b.testBit 5, degr := b.testBit 7, tq := getI f 5 4, capP := getI f 9 2,
                       capN := getI f 11 2, replied := true, rejoin := if m.replied then m.rejoin else if rejoin then m.rejoin + 1 else 0 } }
      else s

/-- REPLY_DEADLINE (R310, R313): from D_k + 1 µs on. -/
def execReplyDeadline (t : Tick) (s : State) : Host.Outcome State Fault Refusal :=
  let s := s.upTo t
  .next <| if s.colOn && s.col.state == 2 && !s.col.judged && due (s.col.sk + 800) t then s.judge else s

/-! ### Formation (R302 to R304, R315) -/

/-- ROLL_SEND (R304, R315): one frame every 1 ms from FORMING, every 10 ms from DETACHED. -/
def execRollSend (t : Tick) (s : State) : Host.Outcome State Fault Refusal :=
  let s := s.upTo t
  .next <| if s.colOn && (s.col.state == 1 || s.col.state == 4) && decide (s.col.rollAt ≤ t) then
      (s.modCol fun c => { c with rollAt := s.time + msTicks (if c.state = 1 then 1 else 10) }).clo [s.rollOf]
    else s

/-- Whether this device is the candidate (R304 step 1). -/
def State.candidate (s : State) : Bool :=
  s.leadElig && (List.range s.colMe).all fun i => !(s.col.seen.getLsbD i && s.col.elig.getLsbD i)

/-- How many members have been seen. -/
def State.seenCount (s : State) : Nat := ((List.range 8).filter fun i => s.col.seen.getLsbD i).length

/-- Whether FORM_T has passed. -/
def State.formOver (s : State) : Bool := decide (s.col.formAt + msTicks s.col.formT ≤ s.time)

/-- The candidate completes formation where it may (R304 steps 1 to 3): the frame of CYCLE 0 measures the ring. -/
def State.formCheck (s : State) : State :=
  let n := s.seenCount
  if s.candidate && !s.col.forming0 && (n == s.colN || (s.formOver && decide (s.col.minPres ≤ n))) then
    (s.modCol fun c => { c with forming0 := true, sk := s.time + 208 }).clo [s.bareShare 0 false 0]
  else s

/-- A ROLL frame of another device is marked and passed on where its parameters are the own ones (R302). -/
def State.markRoll (s : State) (f : Bytes) : State :=
  let me := s.colMe
  if getN f 5 1 = s.colN ∧ getN f 8 4 = getN s.colCfg 12 4 ∧ getN f 12 4 = s.colPeriod ∧ getN f 16 4 = s.rCol then
    let o := getN f 2 1
    let s := if s.col.state = 2 ∧ o < 8 then
      s.modCol fun c => { c with members := vmod c.members o fun m => { m with rolled := m.dropped, weight := getN f (20 + 4 * o) 4 } } else s
    let bit := (1#8 <<< me).toNat
    let b := putB (putB (putB f 3 (le 1 (getN f 3 1 ||| bit))) 4 (le 1 (if s.leadElig then getN f 4 1 ||| bit else getN f 4 1)))
      (20 + 4 * me) (le 4 s.colWeight)
    s.clo [frame32 ((b.drop 1).take 51)]
  else (s.formFail 1).clo [f]

/-- ROLL_FRAME (R302, R304). -/
def execRollFrame (t : Tick) (f : Bytes) (s : State) : Host.Outcome State Fault Refusal :=
  let s := (s.upTo t).clo []
  .next <| if !s.ringOn then s
    else if !s.colOn || s.col.state == 0 then s.clo [f]
    else if !frameOk 0x4C 56 f then (s.ringError 0x4C).clo [f]
    else if getN f 2 1 = s.colMe then
      if s.col.state = 1 then
        (s.modCol fun c =>
          { c with seen := BitVec.ofNat 8 (getN f 3 1), elig := BitVec.ofNat 8 (getN f 4 1),
                   members := Vector.ofFn fun i : Fin 8 => { c.members[i] with weight := getN f (20 + 4 * i.val) 4 } }).formCheck
      else s
    else s.markRoll f

/-- FORMATION_TIMEOUT (R304): the candidate with enough members completes; any other device, one whose measuring frame has not come back among them, returns to
NONE. (DESIGN CHOICE, assumption 66.) -/
def execFormationTimeout (t : Tick) (s : State) : Host.Outcome State Fault Refusal :=
  let s := s.upTo t
  .next <| if s.colOn && s.col.state == 1 && due (max (s.col.formAt + msTicks s.col.formT) (if s.col.forming0 then s.col.sk + 760 else 0)) t then
      let s' := s.formCheck
      if s'.col.forming0 && !s.col.forming0 then s' else (s.formFail 2).setCol 0
    else s

/-- COL_DETACHED (R314): MEMBER_MISS periods without a valid SHARE frame, suspended by a network query (R482). -/
def execColDetached (t : Tick) (s : State) : Host.Outcome State Fault Refusal :=
  let s := s.upTo t
  .next <| if s.colOn && s.col.state == 3 && s.pair.query.isNone &&
      due (s.col.lastFrame + getN s.colCfg 10 1 * s.colPeriod + 200) t then s.detach 1 else s

/-! ### The packet commands (R303, R316, R320) -/

/-- COLONNADE_JOIN (R303). -/
def opColonnadeJoin (p : Bytes) (s : State) : Rep :=
  let m := getN p 2 1
  if !(s.sealedCfg.isSome && (s.cu 0x0001 11 1).testBit 0) || s.col.state != 0 then .no s eState
  else if getN p 0 2 < 100 ∨ 10000 < getN p 0 2 ∨ m < 2 ∨ s.colN < m ∨ getN p 3 5 ≠ 0 then .no s eRange
  else .ok ((s.modCol fun c =>
    { c with formAt := s.time, formT := getN p 0 2, minPres := m, seen := 0, elig := 0, forming0 := false, leaveDue := false, leader := 255,
             members := Vector.replicate 8 {} }).setCol 1)

/-- COLONNADE_LEAVE (R316). (DESIGN CHOICE, assumption 50.) (DESIGN CHOICE, assumption 61.) -/
def opColonnadeLeave (s : State) : Rep :=
  match s.col.state with
  | 0 => .no s eState
  | 2 => if s.dev = .run then .no s eState else .ok ((s.clo [s.bareShare ((s.col.cycle + 1) % 65536) true s.col.drop]).setCol 0)
  | 3 => .ok (s.modCol fun c => { c with leaveDue := true })
  | _ => .ok (s.setCol 0)

/-- COLONNADE_STATUS (R320). -/
def opColonnadeStatus (s : State) : Rep :=
  let c := s.col
  .ok s (le 1 c.state ++ le 1 s.colMe ++ le 1 c.leader ++ le 1 c.present.toNat ++ le 1 c.drop.toNat ++
    le 1 (b2n c.demandV + 2 * b2n c.limited + 4 * b2n c.slow) ++ le 2 c.cycle ++ leI 4 c.demand ++ leI 4 c.short ++
    (c.shares.toList.flatMap (leI 4)) ++ le 4 (if c.state = 2 then c.tLast else 0) ++ le 4 c.frameErr ++ le 4 c.misses ++ zeros 4)

/-- COLONNADE_JOIN (R303). -/
def execColonnadeJoin (t : Tick) (c : Source) (q : Nat) (p : Bytes) (s : State) := runOp t c 0x0800 q p (opColonnadeJoin p) s
/-- COLONNADE_LEAVE (R316). -/
def execColonnadeLeave (t : Tick) (c : Source) (q : Nat) (p : Bytes) (s : State) := runOp t c 0x0801 q p opColonnadeLeave s
/-- COLONNADE_STATUS (R320). -/
def execColonnadeStatus (t : Tick) (c : Source) (q : Nat) (p : Bytes) (s : State) := runOp t c 0x0802 q p opColonnadeStatus s

end Sys2Proof.Machine
end

