-- ==== Sys2Proof/Machine/Alcia.lean ====
section
/-! DEFINITION. The Alcia network below its received frames (R495 to R527): port states, transmit buffers, routing, errors, address claims,
time synchronisation, announcements, and the replies of source 2. Error counter steps are those of ISO 11898-1, which R495 and R496 name. -/
namespace Sys2Proof.Machine

/-! ### Configuration in use (R502, R524, R525): the blocks as written, before SEAL already -/

/-- A field of ALCIA p. -/
def State.alB (s : State) (p off n : Nat) : Nat := getN (s.blockOr (0x90 + p)) off n
/-- A field of ALCIA_NODE. -/
def State.nodeB (s : State) (off n : Nat) : Nat := getN (s.blockOr 0x92) off n
/-- The own address: segment in [11:6], node in [5:0]. -/
def State.alAddr (s : State) : Nat := s.nodeB 0 2
/-- The own segment. -/
def State.alSeg (s : State) : Nat := s.alAddr / 64
/-- Whether port `p` is a backbone port. -/
def State.backbone (s : State) (p : Nat) : Bool := (s.alB p 0 1).testBit 0
/-- SYNC_P in ticks. -/
def State.syncP (s : State) : Nat := msTicks (s.nodeB 4 2)
/-- Whether the link pair serves the network. -/
def State.alOn (s : State) : Bool := s.up && !s.linkHalted

/-- Ticks of a nominal bit times 80 (R497). -/
def State.nomQ (s : State) (p : Nat) : Nat := s.alB p 2 2 * (1 + s.alB p 4 1 + s.alB p 5 1 + s.alB p 6 1)
/-- The rate limits of R498 on a port's block, in 80 MHz clocks per bit. -/
def ratesOk (d : Bytes) : Bool :=
  let nom := getN d 2 2 * (1 + getN d 4 1 + getN d 5 1 + getN d 6 1)
  let dat := getN d 8 1 * (1 + getN d 9 1 + getN d 10 1)
  decide (80 ≤ nom) && decide (nom ≤ 640) && decide (10 ≤ dat) && decide (dat ≤ nom)

/-- The bridge of a segment (R511). -/
def State.isBridge (s : State) : Bool :=
  (s.alPort 0).state != 0 && (s.alPort 1).state != 0 && s.backbone 0 != s.backbone 1 && !s.alcia.conflict

/-- A port with a role, the lower first: the segment or the backbone port. -/
def State.rolePort (s : State) (bb : Bool) : Option Nat := [0, 1].find? fun p => s.backbone p == bb && (s.alPort p).state != 0

/-- A network event (R527). -/
def State.netEvent (s : State) (code p : Nat) (d : Bytes) : State := s.raise code 4 p d

/-- A change of a port's state with NET_PORT_STATE; ALpSTB is low while the port is active (R499, R503). -/
def State.setAl (s : State) (p new : Nat) : State :=
  let old := (s.alPort p).state
  if old = new then s else
  ((s.modAl p fun x => { x with state := new }).modPins fun x => { x with alStb := vmod x.alStb p fun _ => new == 0 }).netEvent 0x8820 p
    (le 1 new ++ le 1 old)

/-! ### Transmit buffers (R504, R505) -/

/-- The message code of an identifier (R500). -/
def identCode (i : Nat) : Nat := bitsN i 23 12
/-- The class of an identifier. -/
def identClass (i : Nat) : Nat := bitsN i 28 24
/-- An identifier from class, code and source address. -/
def mkIdent (cls code addr : Nat) : Nat := cls * 16777216 + code * 4096 + addr

/-- The frames of a port in the order in which they are sent: ascending identifier, in the order of acceptance. -/
def txInsert (f : TxFrame) : List TxFrame → List TxFrame
  | [] => [f]
  | x :: r => if f.ident < x.ident then f :: x :: r else x :: txInsert f r

/-- A frame accepted for sending on a port, with its stamp. (DESIGN CHOICE, assumption 89.) -/
def State.alPutAt (s : State) (p : Nat) (f : TxFrame) (u : Tick) : State :=
  s.modAl p fun x => { x with tx := txInsert { f with putAt := u } x.tx }

/-- A frame accepted for sending now. -/
def State.alPut (s : State) (p : Nat) (f : TxFrame) : State := s.alPutAt p f s.stamp

/-- Whether one of a port's 32 buffers for system frames and replies is free (R505). -/
def State.sysRoom (s : State) (p : Nat) : Bool := decide (((s.alPort p).tx.filter fun f => f.kind == 1 || f.kind == 2).length < 32)

/-- A system frame or a reply outside the queue, where a buffer is free. (DESIGN CHOICE, assumption 89.) -/
def State.alPutSys (s : State) (p : Nat) (f : TxFrame) : State := if s.sysRoom p then s.alPut p f else s

/-- A system frame with the own address. (DESIGN CHOICE, assumption 89.) -/
def State.alSys (s : State) (p cls code : Nat) (d : Bytes) : State :=
  s.alPutSys p { ident := mkIdent cls code s.alAddr, kind := 1, data := d }

/-- The frame a port is sending whose start-of-frame stamp is `sof` (R37, R503, R505): the first of those accepted by then, since a frame in progress is
not displaced; in ALONE a PROBE, in RECLAIM an ADDR_CLAIM. -/
def State.alHead (s : State) (p : Nat) (sof : Tick) : Option TxFrame :=
  let x := s.alPort p
  match x.state with
  | 1 => x.tx.find? fun f => decide (f.putAt ≤ sof)
  | 2 => x.tx.find? fun f => decide (f.putAt ≤ sof) && identCode f.ident == 0x0FF
  | 4 => x.tx.find? fun f => decide (f.putAt ≤ sof) && identCode f.ident == 0x007
  | _ => none

/-- The frames of a port with the count of acknowledgement errors restarted (R517). -/
def restart (l : List TxFrame) : List TxFrame := l.map fun f => { f with acks := 0 }

/-- The frame being sent is changed or, with none, leaves the port. -/
def State.modHead (s : State) (p : Nat) (sof : Tick) (g : TxFrame → Option TxFrame) : State :=
  match s.alHead p sof with
  | none => s
  | some f => s.modAl p fun x =>
    { x with tx := match x.tx.findIdx? (· == f), g f with
        | some i, some f' => x.tx.set i f'
        | some i, none => x.tx.eraseIdx i
        | none, _ => x.tx }

/-- NET_TX_DONE to the source of a user frame (R505). -/
def State.txDone (s : State) (p : Nat) (f : TxFrame) (status : Nat) (stamp : Tick) : State :=
  match f.src with
  | none => s
  | some c =>
    let e := { s.mkEvent 0x8825 0 4 p (le 4 f.handle ++ le 1 status ++ le 1 (satN 1 f.attempts)) with stamp := stamp }
    let s := if status = 0 then s else s.modAl p fun x => { x with returned := satN 4 (x.returned + 1) }
    (s.storeFor c e).recEvent 0x8825 0

/-- Every pending user frame of a port is returned with a status (R505). -/
def State.returnUsers (s : State) (p status : Nat) : State :=
  let l := (s.alPort p).tx.filter (·.kind == 0)
  let s := s.modAl p fun x => { x with tx := x.tx.filter (·.kind != 0) }
  l.foldl (fun s f => s.txDone p f status s.time) s

/-! ### Replies of source 2 (R507 to R510) -/

/-- The shortest frame length of R495 that holds `n` bytes. -/
def dlFor (n : Nat) : Nat := ([0, 1, 2, 3, 4, 5, 6, 7, 8, 12, 16, 20, 24, 32, 48].find? fun d => decide (n ≤ d)).getD 64

/-- Segment `i` of packet bytes for a node (R507). (DESIGN CHOICE, assumption 89.) -/
def rplSeg (node i tag : Nat) (b : Bytes) : Bytes :=
  let c := (b.drop (60 * i)).take 60
  let fin := decide (b.length ≤ 60 * (i + 1))
  let d := le 2 node ++ le 1 (i % 128 + 128 * b2n fin) ++ le 1 (c.length + 64 * (tag % 4)) ++ c
  fit (if fin then max 8 (dlFor d.length) else 64) d

/-- The next segment of the oldest reply of source 2 enters a buffer of the port its command came on (R510). -/
def State.alPump (s : State) : State :=
  match s.alcia.bound, (s.port .alcia).replies with
  | some (node, _, _), r :: _ =>
    let p := r.net
    if (s.alPort p).tx.any (·.kind == 2) || !s.sysRoom p then s else
    let b := r.bytes
    let i := s.alcia.rplPos
    s.alPutAt p { ident := mkIdent r.cls 0x811 s.alAddr, kind := 2, data := rplSeg node i r.tag b, last := decide (b.length ≤ 60 * (i + 1)) }
      (if i = 0 then min s.stamp r.queued else s.stamp)
  | _, _ => s

/-- Reply bytes to a node without the queue: a repetition, or the answer to a node that is not bound (R508, R509). -/
def State.alReplyTo (s : State) (p node cls tag : Nat) (b : Bytes) : State :=
  (List.range ((b.length + 59) / 60)).foldl (fun s i =>
    s.alPutSys p { ident := mkIdent cls 0x811 s.alAddr, kind := 1, data := rplSeg node i tag b }) s

/-- The binding ends (R509). -/
def State.unbind (s : State) : State :=
  match s.alcia.bound with
  | none => s
  | some (node, p, _) =>
    let s := s.modAlcia fun a => { a with bound := none, bindLate := false, rplPos := 0 }
    let s := s.modPort .alcia fun x => { x with replies := [], credits := 8 }
    ([0, 1].foldl (fun s q => s.modAl q fun x => { x with tx := x.tx.filter (·.kind != 2) }) s).netEvent 0x8828 p (le 2 node ++ le 1 1)

/-! ### Activation (R502) -/

/-- Whether a port may become active. -/
def State.mayActivate (s : State) (p : Nat) : Bool :=
  (s.block 1).isSome && (s.block 0x92).isSome && (s.block (0x90 + p)).isSome && (getN (s.blockOr 1) 10 1).testBit p &&
    ratesOk (s.blockOr (0x90 + p)) && (!s.backbone p || ((s.alPort (1 - p)).state == 1 && !s.backbone (1 - p) && !s.alcia.conflict))

/-- A port becomes active where it may: error counters and schedules start afresh. -/
def State.activate (s : State) (p : Nat) : State :=
  if (s.alPort p).state = 0 ∧ s.mayActivate p then
    ((s.modAl p fun x =>
      { x with tec := 0, rxErr := 0, activeAt := s.time, heardAt := s.time, followAt := s.time, sender := none, sending := false,
               syncAt := none, bridgeAt := none, annBase := none, annDone := false, brgCount := 0, brgAt := none, annAt := none,
               syncSentAt := none }).modAlcia fun a => { a with brgFirst := none, sumAt := none }).setAl p 1
  else s

/-- Every port that may become active does, the segment port before the backbone port. -/
def State.activateAll (s : State) : State := ((s.activate 0).activate 1).activate 0

/-- A port goes inactive: user frames are returned with status 3, a binding on it ends (R502, R509). -/
def State.alStop (s : State) (p : Nat) : State :=
  if (s.alPort p).state = 0 then s else
  let s := s.returnUsers p 3
  let s := match s.alcia.bound with
    | some (_, q, _) => if q = p then s.unbind else s
    | none => s
  (s.modAl p fun x => { x with tx := [], sending := false }).setAl p 0

/-- A restart of ports (R502): it ends a claim and a bridge conflict. -/
def State.alRestart (s : State) (ps : List Nat) : State :=
  let s := ps.foldl (fun s p => s.alStop p) s
  (s.modAlcia fun a => { a with claiming := false, conflict := false }).activateAll

/-! ### Routing (R512, R513) -/

/-- The valid entry with a key in one ROUTE block. -/
def routeIn (d : Bytes) (code dseg : Nat) : Option Nat :=
  ((List.range 512).map fun i => getN d (4 * i) 4).find? fun e => e.testBit 19 && bitsN e 11 0 == code && bitsN e 18 12 == dseg

/-- The route entry that decides a key: the exact one, else one for any segment; none before SEAL. -/
def State.route (s : State) (code dseg : Nat) : Option Nat :=
  if s.sealedCfg.isNone then none else
  let bl := s.blocks.filter fun b => decide (0x2000 ≤ b.1) && decide (b.1 ≤ 0x201F)
  match bl.findSome? fun b => routeIn b.2 code dseg with
  | some e => some e
  | none => bl.findSome? fun b => routeIn b.2 code 127

/-- Local delivery and the ports to send on (R512), for a frame that arrived on a port or the device's own. -/
def State.routeOf (s : State) (arrived : Option Nat) (code : Nat) (d : Bytes) : Bool × List Nat :=
  let grp := decide (code < 0x800)
  let dest := getN d 0 2 % 4096
  let dseg := if grp then 64 else dest / 64
  let ports := fun (l : List Nat) => l.filter fun p => some p != arrived
  match s.route code dseg with
  | some e => (e.testBit 22, ports ([0, 1].filter fun p => e.testBit (20 + p)))
  | none =>
    let seg := (s.rolePort false).toList
    let bb := if s.isBridge then (s.rolePort true).toList else []
    if grp then (match arrived with | none => (false, if seg = [] then [([0, 1].find? fun p => !s.backbone p).getD 0] else seg) | some _ => (false, []))
    else if dest = s.alAddr then (true, [])
    else match arrived with
      | none => (false, if dseg ≠ s.alSeg ∧ s.isBridge then bb else seg)
      | some p =>
        if !s.isBridge then (false, [])
        else if s.backbone p then (false, if dseg = s.alSeg then seg else [])
        else (false, if dseg = s.alSeg then [] else bb)

/-- A user frame delivered to the application's network queue (R506). -/
def State.alLocal (s : State) (p : Nat) (f : CanFrame) : State :=
  if s.appLive ∧ s.alcia.appQ.length < 256 then s.modAlcia fun a => { a with appQ := a.appQ ++ [f] }
  else s.modAl p fun x => { x with rxDrop := satN 2 (x.rxDrop + 1) }

/-- The lengths of R495. -/
def dlOk (n : Nat) : Bool := n ∈ [0, 1, 2, 3, 4, 5, 6, 7, 8, 12, 16, 20, 24, 32, 48, 64]

/-- ALCIA_SEND (R504). (DESIGN CHOICE, assumption 62.) (DESIGN CHOICE, assumption 90.) -/
def opAlciaSend (c : Source) (b : Bytes) (s : State) : Rep :=
  let id := getN b 0 4
  let fl := getN b 4 2
  let dl := getN b 6 2
  let d := b.drop 8
  let code := identCode id
  let fdf := fl.testBit 0
  let sel := fl / 4 % 4
  let (loc, ports) := if sel = 0 then s.routeOf none code d else (false, [0, 1].filter fun p => sel.testBit p)
  let sys := decide (code < 0x100) || (decide (0x800 ≤ code) && decide (code < 0x900))
  if id % 4096 ≠ 0 ∨ 2 ^ 29 ≤ id ∨ 16 ≤ fl ∨ sys ∨ identClass id < 2 ∨ !dlOk dl ∨ (fl.testBit 1 ∧ !fdf) ∨
      (!fdf ∧ (8 < dl ∨ ports.any fun p => !(s.alB p 0 1).testBit 1)) ∨ (0x800 ≤ code ∧ (dl < 2 ∨ getN d 0 2 % 64 = 0)) then .no s eRange
  else if (ports.any fun p => (s.alPort p).state == 0 || decide (3 ≤ (s.alPort p).state)) ∨ (ports = [] ∧ !loc) then .no s eState
  else if ports.any fun p => decide (32 ≤ ((s.alPort p).tx.filter (·.kind == 0)).length) then .no s eBusy (le 1 0)
  else
    let h := s.alcia.handle
    let f : TxFrame := { ident := id + s.alAddr, kind := 0, src := some c, fdf := fdf, brs := fl.testBit 1, data := d }
    let s := s.modAlcia fun a => { a with handle := (a.handle + max 1 ports.length) % 4294967296 }
    let s := if loc then s.alLocal (ports.headD 0)
        { ident := f.ident, extended := true, remote := false, fdf := f.fdf, brs := f.brs, data := d, sof := s.time } else s
    let s := if ports = [] then s.txDone 0 { f with handle := h } 0 s.time else s
    let r := ports.foldl (fun (a : Nat × State) p =>
      let g := { f with handle := a.1 % 4294967296 }
      (a.1 + 1, if (a.2.alPort p).state = 2 then a.2.txDone p g 1 a.2.time else a.2.alPut p g)) (h, s)
    .ok r.2 (le 4 h)

/-- ALCIA_SEND (R504). -/
def execAlciaSend (t : Tick) (c : Source) (q : Nat) (p : Bytes) (s : State) := runOp t c 0x0805 q p (opAlciaSend c p) s

/-! ### Sending (R505, R514, R517) -/

/-- ALCIA_FRAME_TX_DONE (R505): the frame being sent ended without error; `sof` is its stamp. The transmitter delay measured on it (R497) is a free
value. (DESIGN CHOICE, assumption 3.) -/
def execAlciaFrameTxDone (t : Tick) (p : Fin 2) (sof : Tick) (s : State) : Host.Outcome State Fault Refusal :=
  let s := (s.upTo t).alPump
  .next <| if !s.alOn then s else match s.alHead p sof with
    | none => s
    | some f =>
      let s := (s.modHead p sof fun _ => none).modAl p fun x => { x with tec := x.tec - 1, txN := (x.txN + 1) % 4294967296, tx := restart x.tx }
      let code := identCode f.ident
      let (q, s') := s.draw
      let s := if f.brs ∧ (s.alB p 0 1).testBit 2 then s'.modAl p fun x => { x with tdc := q % 101 } else s
      match f.kind with
      | 0 => s.txDone p { f with attempts := f.attempts + 1 } 0 sof
      | 1 =>
        if code = 0x001 then s.modAl p fun x => { x with syncAt := some (getN f.data 0 1, sof) }
        else if code = 0x0FF then (if (s.alPort p).state = 2 then s.setAl p 1 else s)
        else if code = 0x007 then s.modAlcia fun a => { a with claimSent := some (a.claimSent.getD sof) }
        else s
      | 2 =>
        if f.last then (((s.modAlcia fun a => { a with rplPos := 0 }).deliver .alcia)).alPump
        else (s.modAlcia fun a => { a with rplPos := a.rplPos + 1 }).alPump
      | _ => s

/-- DUPLICATE_ID (R519): no more frames with this address; the segment ports claim it again. -/
def State.duplicate (s : State) (p cause : Nat) : State :=
  let s := s.netEvent 0x8823 p (le 1 cause)
  let s := [0, 1].foldl (fun s q =>
    if (s.alPort q).state = 0 then s else
    let s := (s.returnUsers q 4).modAl q fun x => { x with tx := x.tx.filter (·.kind == 3), sending := false }
    s.setAl q (if s.backbone q then 0 else 4)) s
  s.modAlcia fun a => { a with rplPos := 0, claiming := true, claimK := 0, claimAt := s.time, claimSent := none, claimLow := false, dupErrs := [] }

/-- The outcome of a claim with NET_ADDR_RESULT (R520). -/
def State.claimEnd (s : State) (kept : Bool) : State :=
  let k := s.alcia.claimK
  let s := s.modAlcia fun a => { a with claiming := false }
  let s := [0, 1].foldl (fun s q =>
    let s := s.modAl q fun x => { x with tx := x.tx.filter fun f => identCode f.ident != 0x007 }
    if kept then (if (s.alPort q).state = 4 then s.setAl q 1 else s)
    else if (s.alPort q).state = 0 then s else s.setAl q 5) s
  let s := if kept then s.activateAll else s
  s.netEvent 0x8824 ((s.rolePort false).getD 0) (le 1 (b2n (!kept)) ++ le 1 k)

/-- A claim ended in a bit error: the next round, or the address is lost (R520). (DESIGN CHOICE, assumption 92.) -/
def State.claimFailed (s : State) : State :=
  if 5 ≤ s.alcia.claimK then s.claimEnd false else
  let s := s.modAlcia fun a => { a with claimK := a.claimK + 1, claimAt := s.time, claimSent := none }
  [0, 1].foldl (fun s q => s.modAl q fun x => { x with tx := x.tx.filter fun f => identCode f.ident != 0x007 }) s

/-- Bus-off (R518). -/
def State.busOff (s : State) (p : Nat) : State :=
  let s := (s.setAl p 3).returnUsers p 2
  let s := s.modAl p fun x => { x with busOffs := satN 4 (x.busOffs + 1), busOffAt := s.time }
  s.netEvent 0x8822 p (zeros 4 ++ le 4 (s.alPort p).busOffs)

/-- The frame being sent ends in an error: TEC rises by 8, one more attempt; any other frame's count of acknowledgement errors restarts; a PROBE of ALONE
is not sent again before its time (R517). -/
def State.txError (s : State) (p : Nat) (sof : Tick) (step : Nat) (ack : Bool) : State :=
  if (s.alPort p).state = 2 then
    (s.modHead p sof fun _ => none).modAl p fun x => { x with tec := x.tec + step }
  else s.modAl p fun x =>
    let ix := (s.alHead p sof).bind fun f => x.tx.findIdx? (· == f)
    { x with tec := x.tec + step,
             tx := x.tx.mapIdx fun i g =>
               if some i = ix then { g with attempts := g.attempts + 1, acks := g.acks + b2n ack } else { g with acks := 0 } }

/-- ALONE (R517): the sixteenth acknowledgement error of a frame. (DESIGN CHOICE, assumption 92.) -/
def State.alone (s : State) (p : Nat) : State :=
  let s := (s.setAl p 2).modAl p fun x => { x with tx := restart x.tx, probeAt := s.time }
  (s.netEvent 0x8821 p (le 2 (s.alPort p).tec)).returnUsers p 1

/-- ALCIA_TX_ERROR (R496, R517 to R520): an error in the frame that began at its stamp. (PRESUMED, assumption 60.) -/
def execAlciaTxError (t : Tick) (p : Fin 2) (e : TxErrorAt) (s : State) : Host.Outcome State Fault Refusal :=
  let s := (s.upTo t).alPump
  let x := s.alPort p
  .next <| if !s.alOn || x.state == 0 || x.state == 3 then s else
    let head := s.alHead p e.sof
    let s := s.modAl p fun x => { x with errors := (x.errors + 1) % 4294967296 }
    let s : State := match e.error with
      | .receive dom => s.modAl p fun x => { x with rxErr := min 255 (x.rxErr + if dom then 8 else 1) }
      | .acknowledgement dom =>
        if head.isNone then s else
        let passive := decide (127 < x.tec) || decide (127 < x.rxErr)
        let s := s.txError p e.sof (if passive && !dom then 0 else 8) true
        if (s.alHead p e.sof).any (fun f => decide (16 ≤ f.acks)) ∧ x.state = 1 then s.alone p else s
      | .transmit => if head.isNone then s else s.txError p e.sof 8 false
      | .bitAfterArbitration => match head with
        | none => s
        | some f =>
          let s := s.txError p e.sof 8 false
          if identCode f.ident = 0x007 then s.claimFailed
          else if f.kind = 3 then s
          else
            let l := s.stamp :: s.alcia.dupErrs.filter fun u => decide (s.stamp ≤ u + msTicks 1000)
            let s := s.modAlcia fun a => { a with dupErrs := l }
            if 3 ≤ l.length then s.duplicate p 0 else s
    if 255 < (s.alPort p).tec ∧ (s.alPort p).state ≠ 0 then s.busOff p else s

/-- BUS_OFF_RECOVERY (R518): after 128 occurrences of 11 recessive bits, no earlier than 1,408 nominal bit times. -/
def execBusOffRecovery (t : Tick) (p : Fin 2) (s : State) : Host.Outcome State Fault Refusal :=
  let s := s.upTo t
  .next <| if s.alOn && (s.alPort p).state == 3 && decide ((s.alPort p).busOffAt + 1408 * s.nomQ p * 5 / 4 ≤ s.time) then (s.modAl p fun x => { x with tec := 0, rxErr := 0, tx := restart x.tx }).setAl p 1 else s

/-- PROBE_SEND (R517): every 10 ms of ALONE. -/
def execProbeSend (t : Tick) (p : Fin 2) (s : State) : Host.Outcome State Fault Refusal :=
  let s := s.upTo t
  .next <| if s.alOn && (s.alPort p).state == 2 && !((s.alPort p).tx.any fun f => identCode f.ident == 0x0FF) &&
      decide ((s.alPort p).probeAt + msTicks 10 ≤ s.time) then
      (s.modAl p fun x => { x with probeAt := s.time }).alPut p { ident := mkIdent 31 0x0FF s.alAddr, kind := 1, data := [] }
    else s

/-! ### Address claims (R520) -/

/-- SERIAL as a number (R115). -/
def serialNo : Nat := natOf Config.serial.toList

/-- ADDR_CLAIM_SEND (R520): the wait of the round is over. -/
def execAddrClaimSend (t : Tick) (s : State) : Host.Outcome State Fault Refusal :=
  let s := s.upTo t
  let a := s.alcia
  let wait := msTicks 1 + serialNo / 2 ^ (10 * a.claimK) % 1024 * usTicks 100
  .next <| if s.alOn && a.claiming && a.claimSent.isNone && decide (a.claimAt + wait ≤ s.time) then
      [0, 1].foldl (fun s q =>
        if (s.alPort q).state = 4 ∧ !((s.alPort q).tx.any fun f => identCode f.ident == 0x007) then
          s.alPut q { ident := mkIdent 1 0x007 (s.alSeg * 64), kind := 1, data := le 2 s.alAddr ++ le 2 0 ++ Config.serial.toList }
        else s) s
    else s

/-- ADDR_CLAIM_DECISION (R520): 50 ms after the claim was sent. -/
def execAddrClaimDecision (t : Tick) (s : State) : Host.Outcome State Fault Refusal :=
  let s := s.upTo t
  .next <| match s.alcia.claimSent with
    | some u => if s.alOn && s.alcia.claiming && due (u + msTicks 50) t then s.claimEnd (!s.alcia.claimLow) else s
    | none => s

/-! ### Network time (R515, R516) -/

/-- NET_TIME (R527); the value in ticks. -/
def State.netTimeEvent (s : State) (p kind : Nat) (v : Int) : State := s.netEvent 0x8826 p (le 1 kind ++ zeros 3 ++ leI 4 (satI 4 (v * 10)))

/-- The priority this device sends with on a bus, 0 for a bridge relaying valid time; none where it is no candidate (R515). -/
def State.ownPrio (s : State) (p : Nat) : Option Nat :=
  let prio := s.nodeB 2 1
  if s.isBridge ∧ !s.backbone p ∧ s.alcia.valid then some 0
  else if prio = 0 ∨ (s.backbone p ∧ !s.isBridge) then none else some prio

/-- Whether a SYNC of a priority and address ranks better than another. -/
def ranks (a b : Nat × Nat) : Bool := decide (a.1 < b.1) || (a.1 == b.1 && decide (a.2 < b.2))

/-- Hops from the time master (R516): one more than those heard on the backbone. -/
def State.ownHops (s : State) (p : Nat) : Nat :=
  if s.isBridge && !s.backbone p && s.alcia.valid then (s.alPort (1 - p)).syncHops + 1 else 0

/-- SYNC_SEND (R516): by the sync sender, every SYNC_P. -/
def execSyncSend (t : Tick) (p : Fin 2) (s : State) : Host.Outcome State Fault Refusal :=
  let s := s.upTo t
  let x := s.alPort p
  .next <| match s.ownPrio p with
    | some prio =>
      if s.alOn && x.sending && x.state == 1 && x.syncSentAt.all fun u => decide (u + s.syncP ≤ s.time) then
        (s.modAl p fun x => { x with syncSeq := (x.syncSeq + 1) % 256, syncAt := none, syncSentAt := some s.time }).alSys p 0 0x001
          (le 1 x.syncSeq ++ le 1 prio ++ le 1 (s.ownHops p) ++ zeros 5)
      else s
    | none => s

/-- FOLLOW_UP_SEND (R516): its network time at the stamp of the SYNC. -/
def execFollowUpSend (t : Tick) (p : Fin 2) (s : State) : Host.Outcome State Fault Refusal :=
  let s := s.upTo t
  let x := s.alPort p
  .next <| match x.syncAt with
    | some (q, u) =>
      if s.alOn && x.sending && x.state == 1 then
        (s.modAl p fun x => { x with syncAt := none }).alSys p 0 0x002 (le 1 q ++ zeros 7 ++ le 8 (s.netTime u))
      else s
    | none => s

/-- Network time becomes invalid, with NET_TIME where it was valid (R516). -/
def State.timeInvalid (s : State) (p : Nat) : State :=
  let was := s.alcia.valid
  let s := s.modAlcia fun a => { a with valid := false, goodRun := 0 }
  let s := [0, 1].foldl (fun s q => if (s.ownPrio q).isNone then s.modAl q fun x => { x with sending := false } else s) s
  if was then s.netTimeEvent p 1 0 else s

/-- SYNC_TIMEOUT (R516): 5 × SYNC_P without a FOLLOW_UP. -/
def execSyncTimeout (t : Tick) (p : Fin 2) (s : State) : Host.Outcome State Fault Refusal :=
  let s := s.upTo t
  .next <| if s.alOn && !(s.alPort p).sending && (s.alPort p).state != 0 && ((s.alPort p).followLate || due ((s.alPort p).followAt + 5 * s.syncP) t) then
      (s.modAl p fun x => { x with followLate := false }).timeInvalid p
    else s

/-- SYNC_CANDIDATE_START (R515): 3 × SYNC_P without a better SYNC. -/
def execSyncCandidateStart (t : Tick) (p : Fin 2) (s : State) : Host.Outcome State Fault Refusal :=
  let s := s.upTo t
  .next <| match s.ownPrio p with
    | some prio =>
      if s.alOn && (s.alPort p).state == 1 && !(s.alPort p).sending && ((s.alPort p).heardLate || due ((s.alPort p).heardAt + 3 * s.syncP) t) then
        (s.modAl p fun x => { x with sending := true, heardLate := false, sender := some (prio, s.alAddr), syncAt := none, syncSentAt := none }).netTimeEvent p 3 0
      else s
    | none => s

/-- A SYNC received (R515, R516) with its start-of-frame stamp: a sender that hears a better one stops; the bus's sender is noted. One stamped after
the deadline of a candidate does not keep it from sending (R40). -/
def State.syncRx (s : State) (p addr prio seq hops : Nat) (sof : Tick) : State :=
  let x := s.alPort p
  let better := match s.ownPrio p with
    | some o => ranks (prio, addr) (o, s.alAddr)
    | none => true
  let stale := decide (x.heardAt + 3 * s.syncP < sof)
  let take := better && (match x.sender with
    | some q => x.sending || stale || !ranks q (prio, addr)
    | none => true)
  if !take then s else
  let new := x.sender.map Prod.snd != some addr
  let s := s.modAl p fun x =>
    { x with sender := some (prio, addr), sending := false, heardLate := !x.sending && (x.heardLate || stale), heardAt := max x.heardAt sof,
               syncAt := some (seq, sof), syncHops := hops }
  if new then s.netTimeEvent p 3 0 else s

/-- A FOLLOW_UP of the bus's sender (R516) with its start-of-frame stamp: a step from 10 µs on, else the rate; valid after two offsets below 1 µs. (DEDUCED, assumption 105.) -/
def State.followRx (s : State) (p addr seq tf : Nat) (sof : Tick) : State :=
  let x := s.alPort p
  match x.syncAt with
  | none => s
  | some (q, u) =>
    if x.sending ∨ q ≠ seq ∨ x.sender.map Prod.snd ≠ some addr then s else
    let o : Int := (tf : Int) - s.netTime u
    let s := s.modAl p fun x => { x with syncAt := none, followLate := x.followLate || decide (x.followAt + 5 * s.syncP < sof), followAt := max x.followAt sof, ofs := o }
    if 1000 ≤ o.natAbs then
      ((s.modAlcia fun a => { a with tOfs := a.tOfs + o }).netTimeEvent p 2 o).timeInvalid p
    else
      let rate := clampI (-200000) 200000 (roundR (quot (o * 1000000000) (4 * s.syncP : Nat)))
      let run := if o.natAbs < 100 then min 2 (s.alcia.goodRun + 1) else 0
      let was := s.alcia.valid
      let s := s.modAlcia fun a =>
        { a with tOfs := a.tOfs + ((s.time : Int) - a.tBase) * a.ratePpb / 1000000000, tBase := s.time, ratePpb := rate, goodRun := run,
                 valid := a.valid || run == 2 }
      if run = 2 ∧ !was then s.netTimeEvent p 0 o else s

/-! ### Announcements (R521, R522) -/

/-- The nodes of a bit map. -/
def popcount (b : BitVec 64) : Nat := ((List.range 64).filter fun i => b.getLsbD i).length
/-- The nodes known in the network. (DESIGN CHOICE, assumption 92.) -/
def State.netNodes (s : State) : Nat := (s.alcia.netMap.toList.map popcount).sum
/-- T_SLOT in ticks (R521). -/
def State.tSlot (s : State) (p : Nat) : Nat := 15000 * s.nomQ p / 80

/-- A roll call (R521): nodes that miss three in a row leave the segment map. -/
def State.rollCall (s : State) : State :=
  s.modAlcia fun a =>
    let miss := a.segMiss.map (· + 1)
    { a with segMiss := miss,
             segMap := (List.range 64).foldl (fun (m : BitVec 64) i => if 3 < vget miss i 0 then m &&& ~~~(1#64 <<< i) else m) a.segMap }

/-- When a bridge's next BRIDGE_ANNOUNCE on its segment port is due (R521): 5 ms after it became active, every 20 ms until 2 s after that, then every
1 s. (DESIGN CHOICE, assumption 92.) -/
def State.bridgeDue (s : State) (p : Nat) : Tick :=
  let x := s.alPort p
  let start := max x.activeAt (s.alPort (1 - p)).activeAt
  match x.brgAt with
  | none => start + msTicks 5
  | some u => u + (if u < start + msTicks 2000 then msTicks 20 else msTicks 1000)

/-- BRIDGE_ANNOUNCE_SEND (R521). -/
def execBridgeAnnounceSend (t : Tick) (s : State) : Host.Outcome State Fault Refusal :=
  let s := s.upTo t
  .next <| match s.rolePort false with
    | some p =>
      if s.alOn && s.isBridge && (s.alPort p).state == 1 && decide (s.bridgeDue p ≤ s.time) then
        let x := s.alPort p
        let roll := x.brgCount == 0 || decide (max x.activeAt (s.alPort (1 - p)).activeAt + msTicks 2000 < s.time)
        let s := s.modAlcia fun a => { a with brgFirst := some (a.brgFirst.getD s.time) }
        let s := s.modAl p fun x => { x with brgCount := x.brgCount + 1, brgAt := some s.time, annBase := if roll then some s.time else x.annBase, annDone := x.annDone && !roll }
        let s := if roll then s.rollCall else s
        let bb := match s.rolePort true with | some q => (s.alPort q).state == 1 | none => false
        s.alSys p 1 0x004 (le 1 s.alSeg ++ le 1 (b2n roll + 2 * b2n bb) ++ le 2 s.netNodes ++ zeros 4)
      else s
    | none => s

/-- ANNOUNCE_SEND (R521): in the node's slot after a roll call, or every 1 s without a bridge. -/
def execAnnounceSend (t : Tick) (s : State) : Host.Outcome State Fault Refusal :=
  let s := s.upTo t
  .next <| match s.rolePort false with
    | some p =>
      let x := s.alPort p
      let slot := s.alAddr % 64 * s.tSlot p
      let go := match x.annBase with
        | some b => !x.annDone && decide (b + slot ≤ s.time)
        | none => match x.annAt with
          | none => decide (x.activeAt + msTicks 30 + slot ≤ s.time)
          | some u => decide (u + msTicks 1000 ≤ s.time)
      if s.alOn && x.state == 1 && go then
        (s.modAl p fun x => { x with annDone := x.annBase.isSome, annAt := some s.time }).alSys p 2 0x003
          (le 2 s.alAddr ++ le 1 (b2n s.isBridge + 2 * b2n (s.pair.state != 0) + 4 * b2n (decide (2 ≤ s.col.state)) + 8 * b2n (s.nodeB 2 1 != 0)) ++
            le 1 s.dev.code ++ (s.versions.take 4))
      else s
    | none => s

/-- Whether a ROUTE_SUMMARY is due (R522): the first in its slot after the first BRIDGE_ANNOUNCE, then on a change of the segment map no more often than
every 10 ms, otherwise every 1 s. -/
def State.summaryDue (s : State) (p : Nat) : Bool :=
  let a := s.alcia
  match a.sumAt, a.brgFirst with
  | some u, _ => decide (u + (if a.segMap = a.sumMap then msTicks 1000 else msTicks 10) ≤ s.time)
  | none, some b => decide (b + msTicks 10 + s.alSeg * s.tSlot p ≤ s.time)
  | none, none => false

/-- ROUTE_SUMMARY_SEND (R522). -/
def execRouteSummarySend (t : Tick) (s : State) : Host.Outcome State Fault Refusal :=
  let s := s.upTo t
  .next <| match s.rolePort true with
    | some p =>
      if s.alOn && s.isBridge && (s.alPort p).state == 1 && s.summaryDue p then
        let s := s.modAlcia fun a => { a with netMap := vmod a.netMap s.alSeg fun _ => a.segMap, sumAt := some s.time, sumMap := a.segMap }
        s.alSys p 2 0x005 (le 1 s.alSeg ++ zeros 3 ++ le 8 s.alcia.segMap.toNat)
      else s
    | none => s

/-- SEGMENT_TIMEOUT (R522): 3 s without a summary. -/
def execSegmentTimeout (t : Tick) (g : Fin 64) (s : State) : Host.Outcome State Fault Refusal :=
  let s := s.upTo t
  .next <| match s.alcia.segSeen[g] with
    | some u =>
      if s.alOn && (s.alcia.segLate[g] || due (u + msTicks 3000) t) then
        s.modAlcia fun a => { a with segLate := a.segLate &&& ~~~(1#64 <<< g.val), netMap := vmod a.netMap g fun _ => 0, segSeen := vmod a.segSeen g fun _ => none }
      else s
    | none => s

/-! ### Transfers and binding (R508, R509) -/

/-- One frame or transfer ignored (R526). -/
def State.alIgnore (s : State) (p : Nat) : State := s.modAl p fun x => { x with ignored := satN 4 (x.ignored + 1) }

/-- CMD_TRANSFER_TIMEOUT (R508): 10 ms after the first frame. -/
def execCmdTransferTimeout (t : Tick) (node : Nat) (s : State) : Host.Outcome State Fault Refusal :=
  let s := s.upTo t
  .next <| match s.alcia.xfers.find? (·.node == node) with
    | some x =>
      if s.alOn && due (x.first + msTicks 10) t then
        (s.modAlcia fun a => { a with xfers := a.xfers.filter (·.node != node) }).alIgnore x.port
      else s
    | none => s

/-- BIND_TIMEOUT (R509). -/
def execBindTimeout (t : Tick) (s : State) : Host.Outcome State Fault Refusal :=
  let s := s.upTo t
  .next <| match s.alcia.bound with
    | some (_, _, u) => if s.alOn && s.owner != some .alcia && (s.alcia.bindLate || due (u + msTicks (s.nodeB 8 2)) t) then s.unbind else s
    | none => s

/-! ### NETWORK_STATUS (R526) -/

/-- NETWORK_STATUS. -/
def opNetworkStatus (b : Bytes) (s : State) : Rep :=
  let p := getN b 0 1
  if 1 < p then .no s eRange else
  let x := s.alPort p
  let a := s.alcia
  let est := if x.state = 3 then 2 else if 127 < x.tec ∨ 127 < x.rxErr then 1 else 0
  let segs := (List.range 64).foldl (fun (m : BitVec 64) i => if vget a.netMap i 0 = 0 then m else m ||| (1#64 <<< i)) 0
  .ok s (le 1 x.state ++ le 1 est ++ le 1 (satN 1 x.tec) ++ le 1 (satN 1 x.rxErr) ++ le 2 s.alAddr ++
    le 1 (b2n s.isBridge + 2 * b2n x.sending + 4 * b2n a.valid + 8 * b2n x.bridgeAt.isSome + 16 * b2n a.bound.isSome) ++ le 1 0 ++
    le 2 (match a.bound with | some (n, _, _) => n | none => 0) ++ le 2 (match x.sender with | some (_, d) => d | none => 0) ++
    le 4 x.txN ++ le 4 x.rxN ++ le 4 x.returned ++ le 4 x.fwdDrop ++ le 4 x.errors ++ le 4 x.ignored ++ le 2 x.filtered ++ le 2 x.rxDrop ++
    le 8 (if s.isBridge then segs.toNat else 0) ++ le 2 s.netNodes ++ le 2 (popcount a.segMap) ++ leI 4 (satI 4 (x.ofs * 10)) ++ le 1 x.tdc ++ zeros 7)

/-- NETWORK_STATUS (R526). -/
def execNetworkStatus (t : Tick) (c : Source) (q : Nat) (p : Bytes) (s : State) := runOp t c 0x0804 q p (opNetworkStatus p) s

end Sys2Proof.Machine
end

