-- ==== Sys2Proof/Machine/Dma.lean ====
section
/-! DEFINITION. The DMA engine (R452 to R461): translation by Sv39, transfer slots, descriptors, beats, faults with their resume points and
fault records. A level of a channel whose descriptor has not been read is 0. -/
namespace Sys2Proof.Machine

/-! ### Translation (R452, R453) -/

/-- What an access comes to: an address, a fault of the translation or the access with its KIND and LEVEL, or a fault of the walk's own
memory read with its physical address. -/
inductive Xlat
  | at_ (pa : Nat)
  | bad (kind level : Nat)
  | walk (kind level pa : Nat)
deriving DecidableEq, Repr

/-- The region code and the byte offset of a physical address of the application's map (R426). -/
def memPlace (pa : Nat) : Nat × Nat := if pa < 0x1000000000 then (6, pa - 0x08000000) else (10, pa - 0x1000000000)

/-- The uncorrectable words of a physical range. -/
def State.badWords (s : State) (pa n : Nat) : List (Nat × Nat) :=
  let (c, o) := memPlace pa
  s.integ.bad.filter fun w => w.1 == c && decide (w.2 < o + n) && decide (o < w.2 + 8)

/-- Sv39 flags of a page-table entry. -/
structure PteBits where
  v : Bool
  r : Bool
  w : Bool
  x : Bool
  g : Bool
  a : Bool
  d : Bool

/-- The flags of an entry. -/
def pteBits (e : Nat) : PteBits :=
  ⟨e.testBit 0, e.testBit 1, e.testBit 2, e.testBit 3, e.testBit 5, e.testBit 6, e.testBit 7⟩

/-- Whether a leaf permits an access (R452). (PRESUMED, assumption 84.) -/
def ptePermits (e : Nat) (write : Bool) : Bool :=
  let b := pteBits e
  b.a && (if write then b.w && b.d else b.r)

/-- The physical address a leaf of a level gives. -/
def ptePa (e level va : Nat) : Nat := bitsN e 53 10 * 4096 / 2 ^ (12 + 9 * level) * 2 ^ (12 + 9 * level) + va % 2 ^ (12 + 9 * level)

/-- A walk from a table down the levels (R452): the leaf with its level, or the fault. (PRESUMED, assumption 84.) -/
def State.walkPt (s : State) (va : Nat) : List Nat → Nat → Xlat ⊕ (Nat × Nat)
  | [], _ => .inl (.bad 0 0)
  | l :: r, base =>
    let pa := base + 8 * bitsN va (20 + 9 * l) (12 + 9 * l)
    if !s.inAppMap pa 8 then .inl (.walk 3 l pa)
    else if s.badWords pa 8 ≠ [] then .inl (.walk 2 l pa)
    else
      let e := natOf (Memory.readN s.mem pa 8)
      let b := pteBits e
      if !b.v || (!b.r && b.w) || bitsN e 63 54 != 0 then .inl (.bad 0 l)
      else if b.r || b.x then (if bitsN e 53 10 % 2 ^ (9 * l) = 0 then .inr (l, e) else .inl (.bad 0 l))
      else if b.a || b.d || e.testBit 4 then .inl (.bad 0 l)
      else s.walkPt va r (bitsN e 53 10 * 4096)

/-- Whether a cached translation covers an address for an ASID (R453). -/
def tlbHit (asid va : Nat) (x : Nat × Nat × Nat × Nat) : Bool :=
  let (a, page, l, e) := x
  (a == asid || (pteBits e).g) && page == bitsN va 38 (12 + 9 * l)

/-- The translation of one address of a channel with its access, and the state with the translation cached. A channel of the link pair uses
that pair's system table, which the manual does not give: it is the free table of `Config`. (DEDUCED, assumption 83.) (DESIGN CHOICE, assumption 85.) -/
def State.translate (s : State) (n va : Nat) (write : Bool) : Xlat × State :=
  if 8 ≤ n then (.at_ (Config.systemTable va), s) else
  let atp := (vget s.dma.ch n {}).atp
  let asid := bitsN atp 59 44
  if bitsN atp 63 60 ≠ 8 then (.bad 0 0xFF, s)
  else if bitsN va 63 38 ≠ 0 ∧ bitsN va 63 38 ≠ 2 ^ 26 - 1 then (.bad 0 2, s)
  else match s.dma.tlb.find? fun x => tlbHit asid va x && ptePermits x.2.2.2 write with
    | some (_, _, l, e) => (.at_ (ptePa e l va), s)
    | none => match s.walkPt va [2, 1, 0] (bitsN atp 43 0 * 4096) with
      | .inl f => (f, s)
      | .inr (l, e) =>
        if !ptePermits e write then (.bad 1 l, s) else
        let x := (asid, bitsN va 38 (12 + 9 * l), l, e)
        (.at_ (ptePa e l va), s.modDma fun d => { d with tlb := (x :: d.tlb.filter fun y => !tlbHit asid va y).take 64 })

/-- An access of `len` bytes within one page: its physical address where it may be made (R440, R424, R420). A write that merges into a word
reads it first. (DEDUCED, assumption 83.) -/
def State.access (s : State) (n va len : Nat) (write : Bool) : Xlat × State :=
  match s.translate n va write with
  | (.at_ pa, s) =>
    if 8 ≤ n then (.at_ pa, s)
    else if !s.inAppMap pa len then (.bad 3 0xFF, s)
    else
      let o := (memPlace pa).2
      let hurt := (s.badWords pa len).filter fun w => !write || decide (w.2 < o) || decide (o + len < w.2 + 8)
      match hurt with
      | w :: _ => (.bad 2 0xFF, s.uncorrectable w.1 w.2 0)
      | [] => (.at_ pa, s)
  | f => f

/-- Bytes stored at a physical address: whole words become good. (DEDUCED, assumption 83.) -/
def State.storePa (s : State) (pa : Nat) (b : Bytes) : State :=
  let gone := s.badWords pa b.length
  { s with mem := Memory.writeN s.mem pa b }.modInteg fun x => { x with bad := x.bad.filter fun w => !gone.contains w }

/-! ### Channels, slots and faults (R455, R457, R459, R460) -/

/-- DMA channel `n`. -/
def State.dmaCh (s : State) (n : Nat) : DmaCh := vget s.dma.ch n {}

/-- The level of a channel (R455). (DEDUCED, assumption 83.) -/
def State.chLevel (s : State) (n : Nat) : Nat := if n < 8 then (s.dmaCh n).prio else if n < 10 then 6 else if n < 14 then 5 else 4

/-- The slot of a channel is given up. -/
def State.freeSlot (s : State) (n : Nat) : State :=
  s.modDma fun d => { d with slots := d.slots.map fun x => match x with
    | some (m, o) => if m = n then none else some (m, o)
    | none => none }

/-- A channel is queued now. -/
def State.queueCh (s : State) (n : Nat) (f : DmaCh → DmaCh) : State :=
  let o := s.dma.order
  (s.modDma fun d => { d with order := d.order + 1 }).modCh n fun c => { f c with state := 1, queuedAt := o }

/-- The fault record without its SEQ (R460). -/
def faultRecord (n point kind acc level addr desc done stamp : Nat) : Bytes :=
  le 1 n ++ le 1 point ++ le 1 kind ++ le 1 acc ++ le 1 level ++ zeros 1 ++ le 8 addr ++ le 8 desc ++ le 4 done ++ zeros 4 ++ le 8 stamp ++
    zeros 8

/-- A channel stops in FAULTED (R459): POINT 4 for a fault of a walk, with the point of the access to complete; one record to post. -/
def State.dmaFault (s : State) (n point acc va : Nat) (x : Xlat) : State :=
  let c := s.dmaCh n
  let (pt, kind, level, addr) := match x with
    | .at_ pa => (point, 0, 0xFF, pa)
    | .bad k l => (point, k, l, va)
    | .walk k l pa => (4, k, l, pa)
  let r := faultRecord n pt kind acc level addr c.desc c.done s.stamp
  (s.modCh n fun c =>
    { c with state := 3, point := pt, resumeAt := point, record := if n < 8 then some ((c.record.getD []) ++ r) else none }).freeSlot n

/-- FAULT_RECORD_POST (R460): the oldest record of the channel goes to the fault queue where it has room. -/
def State.postRecord (s : State) (n : Nat) : State := match (s.dmaCh n).record with
  | none => s
  | some r =>
    let d := s.dma
    if (d.fqWrite + 256 - d.fqRead) % 256 = 64 then s else
    let rest := r.drop 46
    (s.modDma fun d => { d with fq := vmod d.fq (d.fqWrite % 64) fun _ => le 2 d.fqSeq ++ r.take 46, fqWrite := (d.fqWrite + 1) % 256,
                                fqSeq := (d.fqSeq + 1) % 65536, irqFq := true }).modCh n fun c =>
      { c with record := if rest = [] then none else some rest }

/-- FAULT_RECORD_POST (R460). -/
def execFaultRecordPost (t : Tick) (n : Fin 16) (s : State) : Host.Outcome State Fault Refusal :=
  let s := s.upTo t
  .next <| if s.up then s.postRecord n else s

/-- The pre-emption save (R458): STATUS 3, DONE and STAMP. (DEDUCED, assumption 83.) -/
def State.saveCh (s : State) (n : Nat) : State :=
  let c := s.dmaCh n
  match s.access n c.desc 64 true with
  | (.at_ pa, s) =>
    let s := ((s.storePa (pa + 3) (le 1 3)).storePa (pa + 32) (le 4 c.done)).storePa (pa + 40) (le 8 s.stamp)
    (s.freeSlot n).queueCh n fun c => { c with fetched := false, saving := false }
  | (f, s) => (s.modCh n fun c => { c with saving := true }).dmaFault n 3 3 c.desc f

/-- CMD start (R457): an IDLE channel is queued with its first descriptor. (DEDUCED, assumption 83.) -/
def State.dmaStart (s : State) (n : Nat) : State :=
  if (s.dmaCh n).state = 0 then
    s.queueCh n fun c => { c with desc := c.head, done := 0, completed := 0, fetched := false, saving := false, prio := 0, point := 0 }
  else s

/-- CMD resume (R459): a FAULTED channel whose record has been posted continues from its point; a save is made again first. (DEDUCED, assumption 83.) -/
def State.dmaResume (s : State) (n : Nat) : State :=
  let s := if (s.dmaCh n).state = 3 then s.postRecord n else s
  let c := s.dmaCh n
  if c.state ≠ 3 ∨ c.record.isSome then s
  else if c.saving then s.saveCh n
  else s.queueCh n fun c => { c with point := 0, fetched := c.resumeAt != 0 }

/-- CMD abort (R457): IDLE without write-back, DONE stays readable. -/
def State.dmaAbort (s : State) (n : Nat) : State :=
  if (s.dmaCh n).state = 0 then s else
  (s.modCh n fun c => { c with state := 0, fetched := false, saving := false }).freeSlot n

/-- DMA_CMD_START (R457). -/
def execDmaCmdStart (t : Tick) (n : Fin 16) (s : State) : Host.Outcome State Fault Refusal :=
  let s := s.upTo t
  .next <| if s.up then s.dmaStart n else s
/-- DMA_CMD_RESUME (R457, R459). -/
def execDmaCmdResume (t : Tick) (n : Fin 16) (s : State) : Host.Outcome State Fault Refusal :=
  let s := s.upTo t
  .next <| if s.up then s.dmaResume n else s
/-- DMA_CMD_ABORT (R457). -/
def execDmaCmdAbort (t : Tick) (n : Fin 16) (s : State) : Host.Outcome State Fault Refusal :=
  let s := s.upTo t
  .next <| if s.up then s.dmaAbort n else s

/-! ### Invalidation (R453, R454) -/

/-- A write of DTU_INVAL. -/
def State.dtuWrite (s : State) (v : Nat) : State := s.modDma fun d => { d with inval := bitsN v 17 0 + bitsN v 31 31 * 2147483648 }

/-- DTU_INVAL (R453, R454): the request stands until it completes. -/
def execDtuInval (t : Tick) (value : BitVec 32) (s : State) : Host.Outcome State Fault Refusal :=
  let s := s.upTo t
  .next <| if s.up then s.dtuWrite value.toNat else s

/-- Whether an invalidation keeps a cached translation: a global one outlives that of a single ASID (R453). -/
def invalKeeps (inval va : Nat) (x : Nat × Nat × Nat × Nat) : Bool :=
  let (a, page, l, e) := x
  let allVa := inval.testBit 16
  let allAs := inval.testBit 17
  !((allVa || page == bitsN va 38 (12 + 9 * l)) && (allAs || (a == inval % 65536 && !(pteBits e).g)))

/-- DTU_INVAL_COMPLETE (R453): GO reads 0, and every later beat walks again. -/
def execDtuInvalComplete (t : Tick) (s : State) : Host.Outcome State Fault Refusal :=
  let s := s.upTo t
  .next <| if s.dma.inval.testBit 31 then
      s.modDma fun d => { d with tlb := d.tlb.filter (invalKeeps d.inval d.invalVa), inval := d.inval % 2147483648 }
    else s

/-! ### Slots, descriptors, beats (R455, R456, R458) -/

/-- The queued channel that is served next: the highest level, then the oldest request. -/
def State.nextCh (s : State) : Option Nat :=
  (List.range 16).foldl (fun (b : Option Nat) n =>
    let c := s.dmaCh n
    if c.state ≠ 1 then b else match b with
      | none => some n
      | some m => if s.chLevel m < s.chLevel n ∨ (s.chLevel m = s.chLevel n ∧ c.queuedAt < (s.dmaCh m).queuedAt) then some n else b) none

/-- The channel that would yield: the lowest level, among equals the one granted last. -/
def State.victim (s : State) : Option Nat :=
  (s.dma.slots.toList.filterMap id).foldl (fun (b : Option (Nat × Nat)) x => match b with
    | none => some x
    | some y => if s.chLevel x.1 < s.chLevel y.1 ∨ (s.chLevel x.1 = s.chLevel y.1 ∧ y.2 < x.2) then some x else b) none |>.map (·.1)

/-- The first free slot. -/
def State.emptySlot (s : State) : Option Nat := [0, 1, 2, 3].find? fun i => (vget s.dma.slots i none).isNone

/-- A slot granted to a channel. -/
def State.grant (s : State) (i n : Nat) : State :=
  let o := s.dma.order
  (s.modDma fun d => { d with order := d.order + 1, slots := vmod d.slots i fun _ => some (n, o) }).modCh n fun c => { c with state := 2 }

/-- Whether every slot holds a lower level than a channel (R455). -/
def State.outranks (s : State) (n : Nat) : Bool := s.dma.slots.toList.all fun x => match x with
  | some (m, _) => decide (s.chLevel m < s.chLevel n)
  | none => false

/-- DMA_SLOT_GRANT (R455): a free slot, or, where every slot holds a lower level, that of the channel that yields, which saves and is queued again. -/
def execDmaSlotGrant (t : Tick) (s : State) : Host.Outcome State Fault Refusal :=
  let s := s.upTo t
  .next <| if !s.up then s else match s.nextCh with
    | none => s
    | some n => match s.emptySlot with
      | some i => s.grant i n
      | none => match s.victim with
        | none => s
        | some v =>
          if !s.outranks n then s else
          let s := if (s.dmaCh v).fetched then s.saveCh v else (s.freeSlot v).queueCh v id
          match s.emptySlot with
          | some i => s.grant i n
          | none => s

/-- Whether a descriptor is invalid (R458). -/
def badDesc (d : Bytes) : Bool :=
  getN d 0 2 / 16 != 0 || getN d 2 1 / 4 != 0 || getN d 36 4 != 0 || getN d 48 16 != 0 || getN d 4 4 == 0 ||
    ((getN d 0 2).testBit 2 && getN d 24 8 % 64 != 0)

/-- DMA_DESCRIPTOR_FETCH (R458, R459): GO = 0 ends the chain; a pre-empted descriptor continues from its DONE. (DEDUCED, assumption 83.) -/
def execDmaDescriptorFetch (t : Tick) (n : Fin 16) (s : State) : Host.Outcome State Fault Refusal :=
  let s := s.upTo t
  let c := s.dmaCh n
  .next <| if !s.up || c.state != 2 || c.fetched then s else
    match s.access n c.desc 64 false with
    | (.at_ pa, s) =>
      let d := Memory.readN s.mem pa 64
      if c.desc % 64 ≠ 0 then s.dmaFault n 0 0 c.desc (.bad 4 0xFF)
      else if getN d 0 1 % 2 = 0 then (s.modCh n fun c => { c with state := 0 }).freeSlot n
      else if badDesc d then s.dmaFault n 0 0 c.desc (.bad 4 0xFF)
      else s.modCh n fun c =>
        { c with fetched := true, ctrl := getN d 0 2, prio := getN d 2 1 % 4, len := getN d 4 4, src := getN d 8 8, dst := getN d 16 8,
                 nextD := getN d 24 8, done := if getN d 3 1 = 3 then min (getN d 32 4) (getN d 4 4) else 0 }
    | (f, s) => s.dmaFault n 0 0 c.desc f

/-- The completion write-back (R458): GO 0, STATUS 1, DONE and STAMP; then CHAIN is followed. -/
def State.writeBack (s : State) (n : Nat) : State :=
  let c := s.dmaCh n
  match s.access n c.desc 64 true with
  | (.at_ pa, s) =>
    let s := (((s.storePa pa (le 2 (c.ctrl - 1))).storePa (pa + 3) (le 1 1)).storePa (pa + 32) (le 4 c.len)).storePa (pa + 40) (le 8 s.stamp)
    let s := if c.ctrl.testBit 1 then s.modDma fun d => { d with irq := d.irq ||| (1#16 <<< n) } else s
    let s := s.modCh n fun c => { c with completed := (c.completed + 1) % 4294967296, fetched := false }
    if c.ctrl.testBit 2 then s.modCh n fun c => { c with desc := c.nextD, done := 0 }
    else (s.modCh n fun c => { c with state := 0 }).freeSlot n
  | (f, s) => s.dmaFault n 2 3 c.desc f

/-- The source bytes of a beat: a pattern, or memory of up to two pages; the faulting address with its fault otherwise. -/
def State.beatSource (s : State) (n va len : Nat) : ((Nat × Xlat) ⊕ Bytes) × State :=
  let a := min len (4096 - va % 4096)
  match s.access n va a false with
  | (.at_ p, s) =>
    if a = len then (.inr (Memory.readN s.mem p a), s)
    else match s.access n (va + a) (len - a) false with
      | (.at_ q, s) => (.inr (Memory.readN s.mem p a ++ Memory.readN s.mem q (len - a)), s)
      | (f, s) => (.inl (va + a, f), s)
  | (f, s) => (.inl (va, f), s)

/-- One beat at DONE (R456): translated whole, then written whole. -/
def State.beat (s : State) (n : Nat) : State :=
  let c := s.dmaCh n
  let va := c.dst + c.done
  let len := min (64 - va % 64) (c.len - c.done)
  let (src, s) :=
    if c.ctrl.testBit 3 then (.inr ((List.range len).map fun i => BitVec.ofNat 8 (c.src / 256 ^ ((c.done + i) % 8))), s)
    else s.beatSource n (c.src + c.done) len
  match src with
  | .inl (a, f) => s.dmaFault n 1 1 a f
  | .inr b => match s.access n va len true with
    | (.at_ pa, s) => (s.storePa pa b).modCh n fun c => { c with done := c.done + len }
    | (f, s) => s.dmaFault n 1 2 va f

/-- DMA_BEAT (R451, R456, R458): one beat, and after the last the completion write-back. -/
def execDmaBeat (t : Tick) (n : Fin 16) (s : State) : Host.Outcome State Fault Refusal :=
  let s := s.upTo t
  let c := s.dmaCh n
  .next <| if !s.up || c.state != 2 || !c.fetched || (decide (n.val < 10) && s.throttled) then s else
    let s := if c.done < c.len then s.beat n else s
    let c := s.dmaCh n
    if c.state = 2 ∧ c.len ≤ c.done then s.writeBack n else s

end Sys2Proof.Machine
end

