-- ==== Sys2Proof/Machine/Pair.lean ====
section
/-! DEFINITION. The redundant pair (R469 to R494): the bridle link's frames, heartbeats, the pair check, the mirror, arbitration and takeover;
and the carrier zero of the time base, at which the mirror is sent (R477). -/
namespace Sys2Proof.Machine

/-! ### Configuration, frames and states -/

/-- PAIR in force. -/
def State.pairCfg (s : State) : Bytes := s.cfg 0x0081
/-- Whether the device takes part in a pair (R475). -/
def State.pairOn (s : State) : Bool := s.up && !s.linkHalted && s.sealedCfg.isSome && (s.cu 0x0001 11 1).testBit 1
/-- OWN_ADDR. -/
def State.ownAddr (s : State) : Nat := getN s.pairCfg 4 2
/-- PARTNER_ADDR. -/
def State.partnerAddr (s : State) : Nat := getN s.pairCfg 6 2

/-- What the device sends on the bridle link in this command. -/
def State.bridle (s : State) (f : List Bytes) : State := s.modPair fun p => { p with out := p.out ++ f }

/-- The place of a frame type among the SEQ counters (R472). -/
def typeIx : Nat → Nat
  | 0x48 => 0 | 0x4D => 1 | 0x41 => 2 | _ => 3

/-- A frame is sent with the next SEQ of its TYPE (R472). -/
def State.sendBridle (s : State) (ty seg : Nat) (d : Bytes) : State :=
  let q := vget s.pair.seqs (typeIx ty) 0
  (s.modPair fun p => { p with seqs := vmod p.seqs (typeIx ty) fun n => (n + 1) % 65536 }).bridle
    [frame32 (le 1 ty ++ le 2 q ++ le 2 d.length ++ le 2 seg ++ d)]

/-- Whether a frame of a TYPE is whole (R472). -/
def bridleOk (ty : Nat) (f : Bytes) : Bool := decide (12 ≤ f.length) && frameOk ty (12 + getN f 4 2) f && decide (getN f 4 2 ≤ 256)

/-- The data of a frame. -/
def bridleData (f : Bytes) : Bytes := (f.drop 8).take (getN f 4 2)

/-- A frame with a bad CRC is discarded and counted (R472). -/
def State.bridleError (s : State) : State := s.modPair fun p => { p with frameErr := satN 4 (p.frameErr + 1) }

/-- The partner's member number (R494). -/
def State.pairEvent (s : State) (code : Nat) (d : Bytes) : State := s.raise code 3 s.partnerNo d

/-- A stamp of the partner in own device time (R474), the one nearest to now. -/
def State.toOwn (s : State) (x : Int) : Int :=
  (s.time : Int) + sturn32 ((x - s.pair.offset - s.time) % 4294967296).toNat

/-- A standby device releases its stacks, each at its next carrier zero (R486). (DESIGN CHOICE, assumption 96.) -/
def State.endStandby (s : State) : State :=
  if !s.pair.standby then s else
  s.enStacks.foldl (fun s k => s.modStack k fun x =>
    if x.stop.kind = .none ∧ x.fw = .pulseOff ∧ (s.dev = .run ∨ s.dev = .shelter) then { x with release := true } else x)
    (s.modPair fun p => { p with standby := false })

/-- A change of the pair state with PAIR_STATE (R475). In PAIRED the axes of AX_TAKE are held in OFF and a standby holds its stacks (R469, R487). -/
def State.setPair (s : State) (new : Nat) : State :=
  let old := s.pair.state
  if old = new then s else
  let s := (s.modPair fun p => { p with state := new, hbLate := false, checkAt := none }).pairEvent 0x8810 (le 1 new ++ le 1 old)
  if new = 2 then
    let s := [0, 1, 2, 3].foldl (fun s n => if s.axEn n && s.pairHolds n then ((s.stopAxis n true).setAx n 0).axOut n else s) s
    if getN s.pairCfg 0 1 = 2 then
      (s.enStacks.foldl (fun s k => s.modStack k fun x => if x.fw = .none then { x with fw := .pulseOff } else x)
        (s.modPair fun p => { p with standby := true })).settle
    else s
  else if new = 4 then s.endStandby else s

/-! ### Heartbeats (R472 to R474) -/

/-- LEAD_OK of R473. -/
def State.leadOk (s : State) : Bool := (s.dev == .run || s.dev == .shelter) && s.leadElig

/-- The HEARTBEAT data (R473). -/
def State.hbData (s : State) : Bytes :=
  let (echo, hold) := match s.pair.lastHb with
    | some (u, d) => (getN d 4 4, s.time - u)
    | none => (0, 0)
  le 1 s.dev.code ++ le 1 s.pair.state ++
    le 1 (b2n s.leadOk + 2 * b2n (s.col.state == 2) + 4 * b2n s.owner.isSome + 8 * b2n s.pair.leaving) ++ le 1 s.colMe ++
    le 4 (s.time % 4294967296) ++ le 4 echo ++ le 4 (satN 4 hold)

/-- HEARTBEAT_SEND (R472): at each multiple of 2,000 ticks. -/
def execHeartbeatSend (t : Tick) (s : State) : Host.Outcome State Fault Refusal :=
  let s := (s.upTo t).modPair fun p => { p with out := [] }
  .next <| if s.up && !s.linkHalted && (s.pairOn || s.pair.leaving) && s.time % 2000 == 0 then s.sendBridle 0x48 0 s.hbData else s

/-! ### The mirror (R477 to R479) -/

/-- A fraction in Q8.24 as a mirrored field. -/
def mq (r : Rat) : Int := toQ24 r

/-- The fields of segment 0. -/
def State.seg0 (s : State) : List Int :=
  let m := s.motion
  let l := s.limits
  let x := s.torsion
  let b := fun (v : Bool) => (b2n v : Int)
  ([(m.mode : Int), (m.path : Int), mq m.nRef, mq m.integ, m.posCmd, s.posLatch.count, (s.posLatch.aperture : Int), s.posLatch.speed, m.td, mq l.p, mq l.n, mq l.s,
    (s.stat : Int), mq x.nHat, mq x.tlHat, mq x.lff] : List Int) ++
  (x.modes.toList.flatMap fun k => [mq k.v, mq k.q, mq k.f, (k.state : Int)]) ++
  ([b x.snap, b (s.dev == .shelter), b m.shRef.isSome, mq (m.shRef.getD 0), (s.col.cycle : Int), s.col.demand] : List Int) ++
  ([0, 1].map fun i => (vget s.col.members i {}).carry)

/-- The fields of segment 1. -/
def State.seg1 (s : State) : List Int :=
  [0, 1, 2, 3].flatMap fun m =>
    let o := s.observer m
    let x := (s.stack o.lead).obs
    ([(o.state : Int), (turn32 x.theta : Int), roundR (x.omega * 65536), roundR (x.ed * 65536), roundR (x.eq * 65536),
      ((s.stack o.lead).sense.tc : Int)] : List Int)

/-- The fields of the segment of an axis. -/
def State.segAxis (s : State) (n : Nat) : List Int :=
  let a := s.axis n
  ([(a.state : Int), a.raw, a.gacc, a.gnum, a.refOfs, (b2n a.homed : Int), a.ppos, roundR (a.speed * 65536), roundR (a.acc * 65536), a.ra, a.rb,
    a.p0, (a.l : Int), a.d, a.mLast, (a.kind : Int), a.target, (a.vlim : Int), (a.alim : Int)] : List Int)

/-- The fields of segment 6. -/
def State.seg6 (s : State) : List Int :=
  let m := s.motion
  ([m.tqSet, m.spdSet, m.accSet, m.posSet.getD 0, (b2n m.posSet.isSome : Int), m.spdLimSet, mq s.sref.cmd] : List Int) ++
  ((List.range 16).map fun i => (getN (s.ownPacket.getD []) (4 * i) 4 : Int))

/-- The fields of the gear queue of an axis. -/
def queueFields (q : List GearEv) : List Int := (q.length : Int) :: q.flatMap fun e => [e.point, e.ratio, (e.ramp : Int), e.dir]

/-- Whether any SENSORLESS block is present. -/
def State.anySensorless (s : State) : Bool := [0, 1, 2, 3].any fun k => (s.block (0x50 + k)).isSome

/-- The segments sent every cycle (R477). -/
def State.segsOf (s : State) : List Nat := [0] ++ (if s.anySensorless then [1] else []) ++ ([0, 1, 2, 3].filter s.axEn).map (2 + ·) ++ [6]

/-- The data of a segment. -/
def State.segData (s : State) (i : Nat) : Bytes :=
  if i = 0 then fit 192 (Config.mirrorPack 0 s.seg0)
  else if i = 1 then fit 64 (Config.mirrorPack 1 s.seg1)
  else if i = 6 then fit 128 (Config.mirrorPack 6 s.seg6)
  else if i < 6 then fit 64 (Config.mirrorPack i (s.segAxis (i - 2)))
  else fit 192 (Config.mirrorPack i (queueFields (s.axis (i - 7)).queue))

/-- The ticks a bridle frame of `n` data bytes takes on the line, 20 ns a byte (R471, R477). -/
def bridleTicks (n : Nat) : Nat := 2 * (12 + n)

/-- Pending BULK frames start while each can end in the ticks left of a control cycle (R477). -/
def State.drainBulk (s : State) : Nat → List (Nat × Bytes) → State
  | _, [] => s.modPair fun p => { p with bulkQ := [] }
  | room, (seg, d) :: r =>
    if bridleTicks d.length ≤ room then (s.sendBridle 0x55 seg d).drainBulk (room - bridleTicks d.length) r
    else s.modPair fun p => { p with bulkQ := (seg, d) :: r }

/-- The ticks a control cycle leaves to BULK frames: those that its segments and heartbeats do not take (R472, R477). (DESIGN CHOICE, assumption 96.) -/
def State.bulkRoom (s : State) : Nat :=
  s.ctrlCycle - ((s.segsOf.map fun i => bridleTicks (s.segData i).length).sum + (s.ctrlCycle / 2000 + 1) * bridleTicks 16)

/-- The mirror of a control cycle (R477): every segment due, and the lowest gear queue still to be acknowledged, or BULK frames. (DESIGN CHOICE, assumption 96.) -/
def State.sendMirror (s : State) : State :=
  let cyc := match s.sealedCfg with
    | some c => (s.time - c.t0) / max 1 s.ctrlCycle % 256
    | none => 0
  let s := s.segsOf.foldl (fun s i => s.sendBridle 0x4D (256 * cyc + i) (s.segData i)) s
  let s := [0, 1, 2, 3].foldl (fun s n =>
    let q := (s.axis n).queue
    if s.axEn n && q != vget s.pair.sentQ n [] then
      s.modPair fun p => { p with sentQ := vmod p.sentQ n fun _ => q, slowDue := (p.slowDue.filter (·.1 != n)) ++ [(n, none)] }
    else s) s
  match (s.pair.slowDue.map Prod.fst).min? with
  | none => s.drainBulk s.bulkRoom s.pair.bulkQ
  | some n =>
    let q := vget s.pair.seqs 1 0
    (s.modPair fun p => { p with slowDue := p.slowDue.map fun x => if x.1 = n then (n, some q) else x }).sendBridle 0x4D (256 * cyc + 7 + n)
      (s.segData (7 + n))

/-- A standby's machine that took over its angle begins in TRACKING (R486): the mirrored angle at this stack's time. -/
def State.handOver (s : State) (k : Nat) : State :=
  let m := machineOf s.arrange k
  let o := s.observer m
  match o.handed with
  | none => s
  | some (th, w, u) =>
    if o.state = 0 ∧ (s.stack k).switching ∧ s.obsAngle m then
      let th' := fracTurn (th + w * (((s.time : Int) - u : Int) : Rat) / 100000000)
      let s := (s.machine m).foldl (fun s j => s.modStack j fun x => { x with obs := { x.obs with theta := th', omega := w } }) s
      (s.modObs m fun x => { x with handed := none, lead := k }).setObs m 4
    else s

/-- CARRIER_ZERO (R206, R477): of an enabled stack; at the time base the mirror of the control cycle is sent. -/
def execCarrierZero (t : Tick) (k : Fin 4) (s : State) : Host.Outcome State Fault Refusal :=
  let s := s.upTo t
  .next <| if !(s.sealedCfg.isSome && s.enabled k && s.awake && s.zeroAt k t) then s else
    let s := (s.carrierZero k).handOver k
    if k.val = s.timeBase ∧ s.pairOn ∧ s.pair.state ≠ 0 then (s.modPair fun p => { p with out := [] }).sendMirror else s

/-- A field of the held record. -/
def State.heldField (s : State) (seg f : Nat) : Int := Config.mirrorField seg f ((s.pair.held.lookup seg).getD [])

/-- The latch record of a feedback port nearest to a time. -/
def State.portNear (s : State) (p : Nat) (u : Int) : LatchRec :=
  (s.fbPort p).goods.foldl (fun (b : LatchRec) (x : LatchRec) =>
    if ((x.aperture : Int) - u).natAbs < ((b.aperture : Int) - u).natAbs then x else b) (s.fbPort p).latch

/-- The latch record of POS_PORT nearest to a time (R479). -/
def State.posNear (s : State) (u : Int) : LatchRec := if 5 < s.motion.posPort then s.posLatch else s.portNear s.motion.posPort u

/-- A count at a time from a latch record and the counts per revolution (R479). -/
def countAt (l : LatchRec) (cpr : Rat) (u : Int) : Rat :=
  (l.count : Rat) + (l.speed : Rat) / 4294967296 * cpr * (((u - l.aperture : Int) : Rat) / 100000000)

/-- The position offsets of a complete record (R479): of POS_PORT, and of each axis's master in the same way. -/
def State.mirrorOffsets (s : State) : State :=
  let tp := s.toOwn (s.heldField 0 6)
  let dm := Vector.ofFn fun n : Fin 4 =>
    let port := getN (s.axCfg n) 4 1
    if s.axEn n && decide (port ≤ 5) then roundR ((s.heldField (2 + n) 14 : Rat) - countAt (s.portNear port tp) (s.fbCpr port) tp) else 0
  s.modPair fun p => { p with delta := roundR ((s.heldField 0 5 : Rat) - countAt (s.posNear tp) s.posCpr tp), deltaM := dm }

/-- A segment of a record arrives (R478). (DESIGN CHOICE, assumption 94.) -/
def State.mirrorRx (s : State) (cyc seg : Nat) (d : Bytes) : State :=
  let s := if s.pair.partCyc ≠ cyc then
      s.modPair fun p => { p with part := [], partCyc := cyc, recDisc := if p.part = [] then p.recDisc else satN 4 (p.recDisc + 1) } else s
  let part := (s.pair.part.filter (·.1 != seg)) ++ [(seg, d)]
  if s.segsOf.all fun i => part.any (·.1 == i) then
    let s := s.modPair fun p => { p with part := [], held := part, recRx := satN 4 (p.recRx + 1) }
    let u := s.toOwn (s.heldField 0 6)
    (s.modPair fun p => { p with heldAt := some u.toNat }).mirrorOffsets
  else s.modPair fun p => { p with part := part }

/-! ### The pair check (R476, R531) -/

/-- The pair check: the values of R476 in its order, then the PROVIDES entries of the active images. (DESIGN CHOICE, assumption 93.) -/
def State.checkData (s : State) : Bytes :=
  let take := getN s.pairCfg 1 1
  let scope := fun (i : Nat) => i == 0x0014 || i == 0x0058 || (decide (0x70 ≤ i) && decide (i ≤ 0x73) && take.testBit (i - 0x70))
  let prov := [0, 1, 2, 3].flatMap fun k => match s.running k with
    | some i => (hdrEntries (i.hdr k) 64).flatMap fun e => le 2 e.1 ++ le 1 e.2.1 ++ le 1 e.2.2
    | none => []
  le 2 s.ownAddr ++ le 2 s.partnerAddr ++ le 1 (getN s.pairCfg 0 1) ++ le 4 (getN s.colCfg 12 4) ++ le 4 s.ctrlCycle ++ le 4 s.posCpr.floor.toNat ++
    le 2 (getN (s.stkCfg s.lowSet) 2 2) ++ (sha256 (s.printBytes scope)).toList ++ prov.take 204

/-- The cause of a mismatch with the partner's check (R476, R494). -/
def State.checkCause (s : State) (d : Bytes) : Option Nat :=
  let o := s.checkData
  let m := getN o 4 1
  let n := getN d 4 1
  if getN d 0 2 ≠ s.partnerAddr ∨ getN d 2 2 ≠ s.ownAddr then some 0
  else if !((m == 0 && n == 0) || (m == 1 && n == 2) || (m == 2 && n == 1)) then some 1
  else if getN d 5 4 ≠ getN o 5 4 then some 2
  else if getN d 9 4 ≠ getN o 9 4 then some 3
  else if getN d 13 6 ≠ getN o 13 6 then some 4
  else if (d.drop 19).take 32 ≠ (o.drop 19).take 32 then some 5
  else none

/-- A pair check arrives (R476): PAIRED, or PAIR_FAIL once per mismatch. -/
def State.checkRx (s : State) (d : Bytes) : State :=
  let s := s.modPair fun p => { p with provides := d.drop 51 }
  if s.pair.state ≠ 1 then s else
  match s.checkCause d with
  | none => (s.modPair fun p => { p with failSeen := none }).setPair 2
  | some c => if s.pair.failSeen = some c then s else (s.modPair fun p => { p with failSeen := some c }).pairEvent 0x8814 (le 1 c)

/-- PAIR_CHECK_SEND (R476): once per millisecond of LINKING. (DESIGN CHOICE, assumption 96.) -/
def execPairCheckSend (t : Tick) (s : State) : Host.Outcome State Fault Refusal :=
  let s := (s.upTo t).modPair fun p => { p with out := [] }
  .next <| if s.pairOn && s.pair.state == 1 && s.pair.checkAt.all (fun u => decide (u + msTicks 1 ≤ s.time)) then
      (s.modPair fun p => { p with checkAt := some s.time }).sendBridle 0x4D 0xFFFF s.checkData
    else s

/-- MIRROR_FRAME (R476, R478): a pair check, a gear queue with its ACK, or a segment of a record. -/
def execMirrorFrame (t : Tick) (f : Bytes) (s : State) : Host.Outcome State Fault Refusal :=
  let s := (s.upTo t).modPair fun p => { p with out := [] }
  .next <| if !(s.pairOn && s.pair.link) then s
    else if !bridleOk 0x4D f then s.bridleError
    else
      let seg := getN f 6 2
      let d := bridleData f
      if seg = 0xFFFF then s.checkRx d
      else if 7 ≤ seg % 256 ∧ seg % 256 ≤ 10 then
        (s.modPair fun p => { p with queues := vmod p.queues (seg % 256 - 7) fun _ => d }).sendBridle 0x41 0 (le 2 (getN f 2 2) ++ zeros 2)
      else if seg % 256 ≤ 6 then s.mirrorRx (seg / 256) (seg % 256) d
      else s

/-- MIRROR_ACK (R478). -/
def execMirrorAck (t : Tick) (f : Bytes) (s : State) : Host.Outcome State Fault Refusal :=
  let s := s.upTo t
  .next <| if !(s.pairOn && s.pair.link) then s
    else if !bridleOk 0x41 f then s.bridleError
    else s.modPair fun p => { p with slowDue := p.slowDue.filter fun x => x.2 != some (getN f 8 2) }

/-! ### Takeover (R483 to R488) -/

/-- Whether the held record is stale (R484), or there is none. -/
def State.recStale (s : State) : Bool := match s.pair.heldAt with
  | some u => decide (4 * s.ctrlCycle + 7000 < s.time - u)
  | none => true

/-- The speed integrator with which the first T_d equals a value (R484). -/
def State.presetTd (s : State) (td : Int) : State :=
  let kp : Rat := (getN s.motCfg 8 4 : Rat) / 65536
  s.modMotion fun m => { m with td := td, preset := false, integ := ofQ24 td - kp * (m.nRef - m.nFilt) - s.tqFf - s.addTorque }

/-- The setpoints of segment 6 (R485). -/
def State.takeSetpoints (s : State) : State :=
  let h := s.heldField 6
  let s := s.modMotion fun m =>
    { m with tqSet := h 0, spdSet := h 1, accSet := h 2, posSet := if h 4 = 1 then some (h 3) else none, spdLimSet := h 5 }
  match s.owner with
  | some c => s.modPort c fun p => { p with cyclic := if p.cyclic.enabled then
      { p.cyclic with applied := some (p.cyclic.applied.getD ((List.range 16).flatMap fun i => leI 4 (h (7 + i)))) } else p.cyclic }
  | none => s

/-- The motion channel continues from the held record (R484, R490). -/
def State.takeMotion (s : State) : State :=
  let h := s.heldField 0
  let q := fun (i : Nat) => ofQ24 (h i)
  if s.recStale then
    let age := match s.pair.heldAt with | some u => (s.time - u) / 100 | none => 4294967295
    let s := s.pairEvent 0x8815 (zeros 4 ++ le 4 (satN 4 age))
    let td := if s.pair.heldAt.isSome then h 8 else s.motion.td
    ((s.modMotion fun m => { m with td := td }).enterMode 1 none)
  else
    let s := s.modMotion fun m =>
      { m with mode := (h 0).toNat, path := (h 1).toNat, modeNext := none, nRef := q 2, posCmd := h 4, limP := h 9, limN := h 10, limS := h 11,
               posOfs := s.pair.delta, shRef := if h 26 = 1 then some (q 27) else none }
    let s := s.modTorsion fun x =>
      { x with nHat := q 13, tlHat := q 14, lff := q 15, snap := h 24 == 1,
               modes := Vector.ofFn fun i : Fin 2 =>
                 { x.modes[i] with v := q (16 + 4 * i), q := q (17 + 4 * i), f := q (18 + 4 * i), state := (h (19 + 4 * i)).toNat } }
    let s := (s.takeSetpoints).presetTd (h 8)
    if h 25 = 1 ∧ s.dev = .run then
      (({ s with dev := .shelter } : State).modMotion fun m => { m with path := 2, shLimits := true }).info 0x836B 2 0 (le 1 0)
    else s

/-- An observer's angle taken over by a standby device (R486). -/
def State.takeAngles (s : State) : State :=
  if s.recStale then s else
  [0, 1, 2, 3].foldl (fun s m =>
    let h := fun (i : Nat) => s.heldField 1 (6 * m + i)
    if s.obsAngle m && machineOf s.arrange m == m && h 0 == 4 then
      s.modObs m fun o => { o with handed := some ((h 1 : Rat) / 4294967296, (h 2 : Rat) / 65536, (s.toOwn (h 5)).toNat) }
    else s) s

/-- The held gear queue of an axis, its points in own master counts (R487). (DEDUCED, assumption 95.) -/
def State.heldQueue (s : State) (n : Nat) : List GearEv :=
  let d := vget s.pair.queues n []
  if d = [] then [] else
  let g := fun (i : Nat) => Config.mirrorField (7 + n) i d
  (List.range (min 8 (g 0).toNat)).map fun i =>
    { point := g (1 + 4 * i) - vget s.pair.deltaM n 0, ratio := g (2 + 4 * i), ramp := (g (3 + 4 * i)).toNat, dir := g (4 + 4 * i) }

/-- An axis of AX_TAKE is precharged and enters the mirrored state (R487): a geared one with the steps of its master's travel since the record. (DEDUCED, assumption 95.) -/
def State.takeAxis (s : State) (n : Nat) : State :=
  let h := s.heldField (2 + n)
  let st := (h 0).toNat
  if s.pair.heldAt.isNone ∨ st = 0 ∨ 5 < st ∨ (s.axis n).state ≠ 0 then s else
  let dm := vget s.pair.deltaM n 0
  let port := getN (s.axCfg n) 4 1
  let s := s.axGo n st
  let s := s.modAxis n fun a =>
    { a with refOfs := h 4, homed := h 5 == 1 && !(st != 3 && s.axType n == 0), ppos := if st = 3 then h 1 * 4294967296 else h 6, speed := (h 7 : Rat) / 65536,
             acc := (h 8 : Rat) / 65536, gacc := h 2, gnum := h 3, ra := h 9, rb := h 10, p0 := h 11 - dm, l := (h 12).toNat, d := h 13, mLast := h 14 - dm,
             kind := (h 15).toNat, target := h 16, vlim := (h 17).toNat, alim := (h 18).toNat, queue := s.heldQueue n, imm := [], release := false }
  let a := s.axis n
  if st = 3 ∧ port ≤ 5 then
    let m' := (s.fbPort port).latch.count
    (s.gearTravel n a.mLast m' (reached a.queue a.mLast m')).modAxis n fun a => { a with mLast := m' }
  else if s.axType n = 0 then s.modAxis n fun a => { a with raw := h 1 } else s

/-- Takeover (R483): the partner leaves the share set, a member succeeds as leader, the own share is the demand over itself alone; the record is
taken up, a standby begins, the axes of AX_TAKE follow. (DESIGN CHOICE, assumption 96.) -/
def State.takeover (s : State) (cause : Nat) : State :=
  let member := s.col.state == 3
  let s := s.modCol fun c => { c with members := vmod c.members s.partnerNo fun m => { m with dropped := true, avail := false, misses := 0, rejoin := 0, rolled := false } }
  let d := if member then (if s.recStale then s.col.demand else s.heldField 0 29) else s.col.demand
  let s := if member then
      let cyc := if s.recStale then s.col.cycle else (s.heldField 0 28).toNat % 65536
      (s.modCol fun c =>
        { c with leader := s.colMe, cycle := cyc, frPrev := 0, sk := s.time, judged := true, slow := false, te := s.colTq,
                 members := c.members.map fun m => { m with carry := 0 } }).setCol 2
    else s
  let on := s.dev == .run || s.dev == .shelter
  let (sh, s) := if s.col.state = 2 then s.splitDemand d (if s.colAvail true then [s.colMe] else []) else (Vector.replicate 8 0, s)
  let short := if s.col.state = 2 then d - sh.toList.sum else 0
  let s := s.modPair fun p => { p with takeovers := satN 4 (p.takeovers + 1), lastCause := cause, lastAt := s.time, query := none }
  let s := s.pairEvent 0x8811 (le 1 cause ++ le 1 (b2n member) ++ le 2 0 ++ leI 4 short)
  let s := s.setPair 4
  let s := if member then s.takeMotion else s
  let s := if s.col.state = 2 then (s.setShort short).takeShare (if on then vget sh s.colMe 0 else 0) s.time else s
  let s := if member ∧ s.owner.isNone ∧ s.dev = .run then s.modMotion fun m => { m with ownLost := some 0 } else s
  let s := if getN s.pairCfg 0 1 = 2 then s.takeAngles else s
  [0, 1, 2, 3].foldl (fun s n => if s.axEn n && (getN s.pairCfg 1 1).testBit n then s.takeAxis n else s) s

/-- YIELDED (R481, R494): pulse-off on every stack, NONE in the colonnade, FAULT. -/
def State.yield (s : State) (answered : Bool) : State :=
  let s := ((s.modPair fun p => { p with query := none }).setPair 6).setCol 0
  s.pairEvent 0x8813 (le 1 (b2n (!answered)))

/-- The rows of R481 that a query decides; `lead` is the partner's LEAD_OK, none without an answer. -/
def State.queryOutcome (s : State) (lead : Option Bool) : State := match lead with
  | some false => s.takeover 1
  | _ => if s.ownAddr < s.partnerAddr then s.takeover 2 else s.yield lead.isSome

/-- The PAIR_QUERY or PAIR_ANSWER to the partner on a port (R481, R523). -/
def State.pairMessage (s : State) (p code : Nat) : State := s.alSys p 0 code (le 2 s.partnerAddr ++ le 2 0 ++ s.hbData)

/-! ### Link, loss and arbitration (R471, R480, R481, R488, R491) -/

/-- A valid heartbeat (R474, R475, R480, R488, R491), at its stamp (R41); one stamped after the deadline of R480 does not meet it (R40). (DESIGN CHOICE, assumption 94.) -/
def State.hbRx (s : State) (d : Bytes) : State :=
  let tx := getN d 4 4
  let echo := getN d 8 4
  let hold := getN d 12 4
  let fl := getN d 2 1
  let s := if echo = 0 ∧ hold = 0 then s else
    s.modPair fun p =>
      let rt := sturn32 (((s.stamp : Int) - echo) % 4294967296).toNat - hold
      let delay := rt.toNat
      { p with delay := delay, offset := sturn32 (((tx : Int) + roundR ((delay : Rat) / 2) - s.stamp) % 4294967296).toNat }
  let late := s.pair.state == 2 && (s.pair.lastHb.any fun h => decide (h.1 + 6600 < s.stamp))
  let s := s.modPair fun p => { p with lastHb := some (s.stamp, d), hbLate := p.hbLate || late, hbRx := satN 4 (p.hbRx + 1) }
  let leaving := fl.testBit 3
  match s.pair.state with
  | 2 =>
    if leaving then s.setPair 4
    else if getN d 0 1 = 8 ∧ fl.testBit 1 ∧ s.col.state = 3 ∧ (s.dev = .run ∨ s.dev = .shelter) then s.takeover 3
    else if s.dev = .fault ∧ fl.testBit 1 ∧ s.col.state = 2 then s.setCol 4
    else s
  | 3 =>
    let s := s.modPair fun p => { p with query := none }
    if leaving then s.setPair 4 else (s.setPair 2).pairEvent 0x8812 (le 1 1)
  | 4 | 5 | 6 => if leaving then s else s.setPair 1
  | _ => s

/-- HEARTBEAT (R474). -/
def execHeartbeat (t : Tick) (f : Bytes) (s : State) : Host.Outcome State Fault Refusal :=
  let s := s.upTo t
  .next <| if !(s.pairOn && s.pair.link) then s
    else if !(bridleOk 0x48 f && f.length == 28) then s.bridleError
    else s.hbRx (bridleData f)

/-- BRIDLE_LINK_UP (R471). -/
def execBridleLinkUp (t : Tick) (s : State) : Host.Outcome State Fault Refusal :=
  let s := s.upTo t
  .next <| if s.pairOn then s.modPair fun p => { p with link := true } else s

/-- HEARTBEAT_LOSS (R480): 66 µs after the last heartbeat in PAIRED; the ROLL frame follows. -/
def execHeartbeatLoss (t : Tick) (s : State) : Host.Outcome State Fault Refusal :=
  let s := s.upTo t
  .next <| match s.pair.lastHb with
    | some (u, _) =>
      if s.pairOn && s.pair.state == 2 && (s.pair.hbLate || due (u + 6600) t) then
        ((s.setPair 3).modPair fun p => { p with hbLate := false, rollAt := s.time + 224, query := none }).clo [s.rollOf]
      else s
    | none => s

/-- ARBITRATION_OUTCOME (R481): the ROLL frame returns within 10 µs of its last bit, or does not (R40). -/
def execArbitrationOutcome (t : Tick) (r : RollReturn) (s : State) : Host.Outcome State Fault Refusal :=
  let s := s.upTo t
  .next <| if !(s.pairOn && s.pair.state == 3 && s.pair.query.isNone) then s else
    match r with
    | .partnerSeen => if s.pair.rollAt + 1000 < s.stamp then s else (s.setPair 5).pairEvent 0x8812 (le 1 0)
    | .partnerUnseen => if s.pair.rollAt + 1000 < s.stamp then s else s.takeover 0
    | .timeout =>
      if !due (s.pair.rollAt + 1000) t then s else
      let ports := [0, 1].filter fun p => (s.alPort p).state != 0
      if ports = [] then s.queryOutcome none
      else ports.foldl (fun s p => s.pairMessage p 0x801) (s.modPair fun p => { p with query := some s.time })

/-- PAIR_QUERY_TIMEOUT (R481): no answer within NET_T. -/
def execPairQueryTimeout (t : Tick) (s : State) : Host.Outcome State Fault Refusal :=
  let s := s.upTo t
  .next <| match s.pair.query with
    | some u => if s.pairOn && s.pair.state == 3 && due (u + msTicks (getN s.pairCfg 2 1)) t then s.queryOutcome none else s
    | none => s

/-! ### PAIR_STATUS (R493) -/

/-- PAIR_STATUS. -/
def opPairStatus (s : State) : Rep :=
  let p := s.pair
  let c := s.pairCfg
  let (hb, fl) := match p.lastHb with | some (_, d) => (getN d 0 1, getN d 2 1) | none => (0, 0)
  .ok s (le 1 p.state ++ le 1 (getN c 0 1) ++
    le 1 (b2n p.link + 2 * b2n (fl.testBit 0) + 4 * b2n (fl.testBit 1) + 8 * b2n (s.col.state == 2) + 16 * b2n (!s.recStale)) ++ le 1 hb ++
    le 2 (getN c 4 2) ++ le 2 (getN c 6 2) ++ le 8 (p.heldAt.getD 0) ++ le 4 p.hbRx ++ le 4 p.frameErr ++ le 4 p.recRx ++ le 4 p.recDisc ++
    le 4 p.takeovers ++ leI 4 p.offset ++ le 4 (p.delay * 5) ++ le 1 p.lastCause ++ zeros 3 ++ le 8 p.lastAt ++ zeros 8)

/-- PAIR_STATUS (R493). -/
def execPairStatus (t : Tick) (c : Source) (q : Nat) (p : Bytes) (s : State) := runOp t c 0x0803 q p opPairStatus s

end Sys2Proof.Machine
end

