-- ==== Sys2Proof/Machine/Update.lean ====
section
/-! DEFINITION. Firmware update (R528 to R549): sessions, verification, trial and confirmation, the relay over the bridle link and the recovery
commands of SILL. -/
namespace Sys2Proof.Machine

/-! ### Sessions (R538 to R541) -/

/-- The slot size of a kind (R528). -/
def slotSize : Nat → Nat
  | 0 => 2097152 | 1 => 262144 | 2 => 2097152 | _ => 8388608

/-- The header checks of an offer (R539). -/
def hdrOk (h : Bytes) : Bool :=
  h.take 4 == [0x4C, 0x54, 0x42, 0x49] && decide (getN h 4 1 ≤ 3) && getN h 5 1 == 1 && getN h 7 1 == 0 && getN h 15 1 == 0 &&
    decide (1024 ≤ hdrSize h) && decide (hdrSize h ≤ slotSize (getN h 4 1)) && (h.drop 20).take 12 == zeros 12 &&
    (h.drop 256).take 192 == zeros 192

/-- The options of an offer are legal (R539): no reserved bit, a rate of the table. -/
def optsOk (p : Bytes) : Bool := decide (getN p 0 4 < 16) && decide (getN p 0 4 / 2 ≤ 5)

/-- An update event (R549); SILL raises none. (DESIGN CHOICE, assumption 100.) -/
def State.updEvent (s : State) (code : Nat) (d : Bytes) : State := if s.dev = .sill then s else s.raise code 2 0 d

/-- UPD_SESSION of the present session. -/
def State.sessionEvent (s : State) (what : Nat) : State :=
  s.updEvent 0x8901 (le 1 what ++ le 1 s.upd.kind ++ le 1 s.upd.holder)

/-- The session closes (R539, R540): without activation its slot is empty. -/
def State.closeSession (s : State) (keep : Bool) : State :=
  s.modUpd fun u =>
    { u with slots := if keep then u.slots else u.emptied, session := 0, holder := 0, kind := 255, header := [], body := [], erased := 0, baud := 1,
             baudNext := none, offerAt := none }

/-- UPDATE_OFFER to this device (R539); a relayed one keeps its stamp and SEQ (R543). (DESIGN CHOICE, assumption 97.) -/
def opUpdateOffer (holder seq : Nat) (p : Bytes) (s : State) : Rep :=
  let h := p.drop 4
  if !optsOk p || !hdrOk h || (s.dev == .sill && getN p 0 4 != 0) then .no s eRange else
  let b := getN p 0 4 / 2
  let s := s.modUpd fun u =>
    { u with session := 1, holder := holder, kind := getN h 4 1, header := h, body := [], erased := 0, lastAt := s.stamp, late := false,
             baudNext := if holder = 4 ∧ b ≠ 0 then some (b, some s.time) else none,
             offerAt := if holder = 5 then some (s.stamp, seq) else none }
  .ok ((s.modUpd fun u => { u with slots := u.emptied }).sessionEvent 0)

/-- UPDATE_DATA (R540). (DESIGN CHOICE, assumption 97.) -/
def opUpdateData (p : Bytes) (s : State) : Rep :=
  let want := 512 + s.upd.body.length
  let d := p.drop 8
  if getN p 4 4 ≠ 0 then .no s eRange
  else if getN p 0 4 ≠ want then .no s eRange (le 4 want)
  else if hdrSize s.upd.header < want + d.length then .no s eLength
  else .ok (s.modUpd fun u => { u with body := u.body ++ d }) (le 4 (want + d.length))

/-- The set a candidate is judged with (R532); in SILL the kinds with an authentic image (R546). -/
def State.judgedSet (s : State) : ImageSet :=
  fun k => (s.active k).bind fun i => if s.dev == .sill && !authentic i then none else some (i.hdr k)

/-- What the candidate fails (R530, R532, R534): 0 where it passes. -/
def State.verdict (s : State) : Nat :=
  let u := s.upd
  if !authentic { header := u.header, body := u.body } then eAuth
  else if hdrSvn u.header < u.counter then eRollback
  else if !s.compatible s.judgedSet u.kind u.header then eCompat else 0

/-- UPDATE_VERIFY (R540): a failure starts the download again; a success leaves the image in the slot. -/
def opUpdateVerify (s : State) : Rep :=
  let v := s.verdict
  let u := s.upd
  if v ≠ 0 then ⟨v, [], s.modUpd fun u => { u with session := 1, body := [] }⟩
  else
    let ix := 2 * u.kind + (1 - s.bootRec.bit u.kind)
    .ok ((s.modUpd fun u =>
      { u with session := 2, slots := vmod u.slots ix fun _ => some { header := u.header, body := u.body } }).sessionEvent 1)

/-- The conditions of UPDATE_ACTIVATE on the device (R541); SILL needs none of them (R546). (DEDUCED, assumption 101.) -/
def State.mayActivateImage (s : State) : Bool :=
  s.dev == .sill ||
    ((s.dev == .unconfigured || s.dev == .ready || (s.dev == .fault && s.allPulseOff)) &&
     ([0, 1, 2, 3].all fun n => (s.axis n).state == 0 || (s.axis n).state == 1 || (s.axis n).state == 6) &&
     (!(s.sealedCfg.isSome && (s.cu 0x0001 11 1).testBit 1) ||
       (s.pair.state == 2 && (match s.pair.lastHb with | some (_, d) => getN d 0 1 == 6 | none => false))))

/-- UPDATE_ACTIVATE (R541, R546): a boot record with the new slot; outside SILL on trial, and the reset of R102. -/
def opUpdateActivate (s : State) : Rep :=
  let u := s.upd
  let k := u.kind
  if !s.mayActivateImage then .no s eState
  else if !s.compatible s.judgedSet k u.header then .no s eCompat
  else
    let sill := s.dev == .sill
    let slot := 1 - s.bootRec.bit k
    let s := s.writeRec fun r => { r with slots := r.slots ^^^ (1#4 <<< k), trial := if sill then 255 else k, tries := if sill then r.tries else 3 }
    let s := s.updEvent 0x8902 (le 1 k ++ le 1 slot ++ zeros 2 ++ hdrVersion u.header)
    let s := if sill then s else
      s.modPower fun w => { w with resetDue := w.resetDue ++ [(.service, s.time, if u.holder = 5 then some s.time else none)] }
    .ok (s.closeSession true)

/-- UPDATE_ABORT (R538). -/
def opUpdateAbort (s : State) : Rep := .ok ((s.sessionEvent 2).closeSession false)

/-- The effect of an update opcode of a holder. -/
def opUpdate (op holder seq : Nat) (p : Bytes) (s : State) : Rep :=
  if op = 0x0902 then opUpdateOffer holder seq p s
  else if op = 0x0903 then opUpdateData p s
  else if op = 0x0904 then opUpdateVerify s
  else if op = 0x0905 then opUpdateActivate s
  else opUpdateAbort s

/-- LAST of UPDATE_STATUS (R547). (DESIGN CHOICE, assumption 97.) -/
def State.lastUpd (s : State) (status : Nat) : State := s.modUpd fun u => { u with lastRes := status }

/-! ### The relay (R544) -/

/-- A packet as the host laid it out (R93). -/
def packetBytes (op seq : Nat) (p : Bytes) : Bytes :=
  let b := [0xB5#8] ++ le 1 0 ++ le 2 op ++ le 2 seq ++ le 2 p.length ++ p
  b ++ le 4 (crc32c b).toNat

/-- Bytes to the partner in BULK frames of up to 256, their place as SEG (R472), which wait for a control cycle that has room (R477). -/
def State.sendBulk (s : State) (b : Bytes) : State :=
  s.modPair fun p => { p with out := [], bulkQ := p.bulkQ ++ (List.range ((b.length + 255) / 256)).map fun i => (i, (b.drop (256 * i)).take 256) }

/-- A service-port packet forwarded to the partner. -/
def State.forward (s : State) (op seq : Nat) (p : Bytes) : State :=
  (s.touchUpd.modUpd fun u => { u with relayOps := u.relayOps ++ [(op, seq)] }).sendBulk (packetBytes op seq p)

/-- A packet that a relay forwarded and that the partner will not answer any more is answered here (R98): the status is open. (DESIGN CHOICE, assumption 98.) -/
def State.answerRelayed (s : State) (x : Nat × Nat) : State :=
  (s.draw.2.modUpd fun u => { u with relayOps := u.relayOps.drop 1 }).queueReply .service { status := s.draw.1 % 65536, seq := x.2 }

/-- The relay closes; every packet it forwarded gets its reply. (DESIGN CHOICE, assumption 98.) -/
def State.closeRelay (s : State) : State :=
  (s.upd.relayOps.foldl State.answerRelayed s).modUpd fun u =>
    { u with session := 0, holder := 0, kind := 255, header := [], baud := 1, baudNext := none }

/-- A relay that is lost, with UPD_SESSION_LOST (R549). -/
def State.loseRelay (s : State) (cause : Nat) : State := (s.updEvent 0x8905 (le 1 cause ++ le 1 s.upd.kind)).closeRelay

/-- An offer with TARGET 1: a relay is opened where the pair is PAIRED. (DESIGN CHOICE, assumption 98.) -/
def State.openRelay (s : State) (c : Source) (seq : Nat) (p : Bytes) : State :=
  if !optsOk p then (s.reject c seq eRange).lastUpd eRange
  else if s.pair.state ≠ 2 then (s.reject c seq eState).lastUpd eState
  else
    let b := getN p 0 4 / 2
    let s := s.modUpd fun u =>
      { u with session := 3, holder := 4, kind := getN p 8 1, header := p.drop 4, body := [], lastAt := s.stamp, late := false, baudNext := if b = 0 then none else some (b, none) }
    s.forward 0x0902 seq p

/-- A relayed offer with the stamp of a service-port offer loses its session to it (R543); its reply on the way to the partner becomes E_BUSY. -/
def State.offerTie (s : State) : State :=
  match s.upd.offerAt with
  | some (t, seq) =>
    if t = s.stamp ∧ s.upd.session = 1 ∧ s.upd.holder = 5 then
      (s.closeSession false).sendBulk ({ status := eBusy, seq := seq, data := le 1 4 ++ zeros 2 : Reply }).bytes
    else s
  | none => s

/-- An update packet of the service port that holds its credit: over an open relay to the partner, else to this device. -/
def State.carryUpd (s : State) (c : Source) (op seq : Nat) (p : Bytes) : State :=
  if c = .service ∧ s.upd.session = 3 ∧ 0x0903 ≤ op then (s.noteRecv c).forward op seq p
  else
    let s := if op = 0x0902 then (s.noteRecv c).offerTie else s.noteRecv c
    match s.objection op c p with
    | some (st, d) => (s.reject c seq st d).lastUpd st
    | none =>
      if op = 0x0902 ∧ getN p 0 4 % 2 = 1 then s.openRelay c seq p else
      let r := opUpdate op 4 seq p s
      let s' := (r.st.queueReply c { status := r.status, seq := seq, data := r.data }).lastUpd r.status
      if r.status = 0 then s' else s'.countReject

/-- An update packet as its source delivers it, correct in its transport. -/
def State.submitUpd (s : State) (c : Source) (op seq : Nat) (p : Bytes) : State :=
  if !s.listens then s else
  let s := s.countPacket
  if (s.port c).credits = 0 then s.overCredit c seq else (s.takeCredit c).carryUpd c op seq p

/-- A relayed packet on the device it is for: the checks 10, 12, 13 and 14 with holder 5, and the reply to the partner (R543, R544). -/
def State.runRelayed (s : State) (b : Bytes) : State :=
  let op := getN b 2 2
  let seq := getN b 4 2
  let p := (b.drop 8).take (getN b 6 2)
  if op < 0x0902 ∨ 0x0906 < op ∨ !s.listens then s else
  let s := if s.upd.holder = 5 then s.touchUpd else s
  let r : Rep :=
    if anyState &&& s.dev.bit = 0 || !s.updOk op 5 then .no s eState
    else match s.updBusy op 5 with
      | some d => .no s eBusy d
      | none => if lenOk op p then opUpdate op 5 seq p s else .no s eLength
  let rep : Reply := { status := r.status, seq := seq, data := r.data }
  (r.st.lastUpd r.status).sendBulk rep.bytes

/-- A reply of the partner on the relaying device (R544): returned unchanged; the relay closes with the partner's session. A reply that no
packet waits for is dropped: none is left, or NC says that the reply answers no packet with a credit (R98). (DESIGN CHOICE, assumption 98.) -/
def State.relayReply (s : State) (b : Bytes) : State :=
  if s.upd.session ≠ 3 ∨ s.upd.relayOps = [] ∨ (getN b 1 1).testBit 1 then s else
  let st := getN b 2 2
  let op : Nat := (s.upd.relayOps.head?.getD (0, 0)).1
  let d := (b.drop 8).take (getN b 6 2)
  let s := s.touchUpd.queueReply .service { cyc := (getN b 1 1).testBit 0, status := st, seq := getN b 4 2, data := d }
  let baud := if op = 0x0902 then s.upd.baudNext.map fun b => (b.1, some s.time) else s.upd.baudNext
  let s := (s.modUpd fun u => { u with relayOps := u.relayOps.drop 1, baudNext := baud }).lastUpd st
  if (op = 0x0902 ∧ st ≠ 0) ∨ ((op = 0x0905 ∨ op = 0x0906) ∧ st = 0) then s.closeRelay else s

/-- BULK_FRAME (R472, R544): packets begin with 0xB5, replies with 0x5B; the last frame of one completes it. -/
def execBulkFrame (t : Tick) (f : Bytes) (s : State) : Host.Outcome State Fault Refusal :=
  let s := s.upTo t
  .next <| if !(s.pairOn && s.pair.link) then s
    else if !bridleOk 0x55 f then s.bridleError
    else
      let seg := getN f 6 2
      let had := if seg = 0 then [] else s.pair.relayIn
      if had.length ≠ 256 * seg then s.modPair fun p => { p with relayIn := [] } else
      let b := had ++ bridleData f
      if b.length < 12 ∨ b.length < 12 + getN b 6 2 then s.modPair fun p => { p with relayIn := b } else
      let s := s.modPair fun p => { p with relayIn := [], out := [] }
      if b.head? = some 0xB5#8 then s.runRelayed b
      else if b.head? = some 0x5B#8 then s.relayReply b else s

/-- BRIDLE_LINK_DOWN (R471, R544). -/
def execBridleLinkDown (t : Tick) (s : State) : Host.Outcome State Fault Refusal :=
  let s := s.upTo t
  .next <| if !s.pair.link then s else
    let s := s.modPair fun p => { p with link := false, part := [], relayIn := [], bulkQ := [] }
    if s.upd.session = 3 then s.loseRelay 0 else s

/-- RELAY_TIMEOUT (R544): 10 s without traffic. -/
def execRelayTimeout (t : Tick) (s : State) : Host.Outcome State Fault Refusal :=
  let s := s.upTo t
  .next <| if s.upd.session = 3 ∧ (s.upd.late ∨ due (s.upd.lastAt + msTicks 10000) t) then s.loseRelay 1 else s

/-- UPDATE_SESSION_TIMEOUT (R540): 10 s without a packet from the session's owner. -/
def execUpdateSessionTimeout (t : Tick) (s : State) : Host.Outcome State Fault Refusal :=
  let s := s.upTo t
  .next <| if (s.upd.session = 1 ∨ s.upd.session = 2) ∧ (s.upd.late ∨ due (s.upd.lastAt + msTicks 10000) t) then (s.sessionEvent 3).closeSession false else s

/-- SLOT_ERASE_SECTOR (R539, R548): one more sector of 64 KB of the slot is erased; none after POWER_FAIL (R66). -/
def execSlotEraseSector (t : Tick) (s : State) : Host.Outcome State Fault Refusal :=
  let s := s.upTo t
  .next <| if s.upd.session = 1 ∧ !s.power.powerFail ∧ s.upd.erased < slotSize s.upd.kind / 65536 then s.modUpd fun u => { u with erased := u.erased + 1 } else s

/-! ### Recovery in SILL (R546) -/

/-- A recovery frame that holds its credit: its own opcodes only, TARGET and BAUD 0, the reply with SYNC 0x5A. (DESIGN CHOICE, assumption 100.) -/
def State.sillCommand (s : State) (op seq : Nat) (p : Bytes) : State :=
  let s := s.noteRecv .service
  let r : Rep :=
    if op < 0x0902 ∨ 0x0905 < op then .no s eOpcode
    else if !s.updOk op 4 then .no s eState
    else if lenOk op p then opUpdate op 4 seq p s else .no s eLength
  let s' := (r.st.queueReply .service { status := r.status, seq := seq, data := r.data, sill := true }).lastUpd r.status
  if r.status = 0 then s' else s'.countReject

/-! ### UPDATE_STATUS and UPDATE_CONFIRM (R542, R547) -/

/-- UPDATE_STATUS. -/
def opUpdateStatus (s : State) : Rep :=
  let u := s.upd
  let r := s.bootRec
  let other := fun (k : Nat) => s.slot k (1 - r.bit k)
  let auth := [0, 1, 2, 3].foldl (fun n k => n + b2n ((other k).any authentic) * 2 ^ k) 0
  .ok s (le 1 u.session ++ le 1 u.holder ++ le 1 u.kind ++ le 1 r.trial ++ le 1 r.tries ++ le 1 (r.slots.toNat + 16 * auth) ++ le 1 r.hist.toNat ++
    le 1 (if s.dev = .sill then u.sillMask.toNat else 0) ++ le 4 u.received ++ le 4 (if u.session = 0 then 0 else hdrSize u.header) ++
    le 2 u.counter ++ le 2 s.svnTarget ++ le 2 (if u.session = 3 ∨ u.holder = 5 then s.partnerAddr else 0) ++ le 2 u.lastRes ++
    (([0, 1, 2, 3].map fun k => match other k with | some i => hdrVersion (i.hdr k) | none => zeros 4).flatten) ++ zeros 24)

/-- UPDATE_CONFIRM (R542): the record first, then the fuses. (DESIGN CHOICE, assumption 99.) -/
def opUpdateConfirm (p : Bytes) (s : State) : Rep :=
  let k := getN p 0 1
  if getN p 1 3 ≠ 0 then .no s eRange
  else if s.bootRec.trial ≠ k ∨ 4 ≤ k then .no s eState
  else
    let s := (s.writeRec fun r => { r with trial := 255, hist := if r.hist.getLsbD 0 then 3 else 0 }).blowFuses
    .ok ((s.modUpd fun u => { u with trialBoot := false }).updEvent 0x8903 (le 1 k ++ le 1 0 ++ le 2 s.upd.counter))

/-- UPDATE_STATUS (R547). -/
def execUpdateStatus (t : Tick) (c : Source) (q : Nat) (p : Bytes) (s : State) := runOp t c 0x0900 q p opUpdateStatus s
/-- UPDATE_CONFIRM (R542). -/
def execUpdateConfirm (t : Tick) (c : Source) (q : Nat) (p : Bytes) (s : State) := runOp t c 0x0901 q p (opUpdateConfirm p) s

/-- A row of the service-only opcodes: device time to the packet's stamp, then the packet. -/
def runUpd (t : Tick) (c : Source) (op seq : Nat) (p : Bytes) (s : State) : Host.Outcome State Fault Refusal :=
  .next ((s.upTo t).submitUpd c op seq p)

/-- UPDATE_OFFER (R539). -/
def execUpdateOffer (t : Tick) (c : Source) (q : Nat) (p : Bytes) (s : State) := runUpd t c 0x0902 q p s
/-- UPDATE_DATA (R540). -/
def execUpdateData (t : Tick) (c : Source) (q : Nat) (p : Bytes) (s : State) := runUpd t c 0x0903 q p s
/-- UPDATE_VERIFY (R540). -/
def execUpdateVerify (t : Tick) (c : Source) (q : Nat) (p : Bytes) (s : State) := runUpd t c 0x0904 q p s
/-- UPDATE_ACTIVATE (R541). -/
def execUpdateActivate (t : Tick) (c : Source) (q : Nat) (p : Bytes) (s : State) := runUpd t c 0x0905 q p s
/-- UPDATE_ABORT (R538). -/
def execUpdateAbort (t : Tick) (c : Source) (q : Nat) (p : Bytes) (s : State) := runUpd t c 0x0906 q p s

end Sys2Proof.Machine
end

