-- ==== Sys2Proof/Machine/SealRules.lean ====
section
/-! DEFINITION. The cross-block rules of CHECK and SEAL (R132): every failure as block ID, rule a to h as 0 to 7, offset and status, and the first
of them in the order of R132. -/
namespace Sys2Proof.Machine

/-- A failure: block ID, rule, offset, status. -/
abbrev SealFail := Nat × Nat × Nat × Nat

/-- A failure unless the rule holds. -/
def ff (id rule off : Nat) (ok : Bool) : List SealFail := if ok then [] else [(id, rule, off, eRange)]

/-- The offset of a failure of a whole block. -/
abbrev whole : Nat := 0xFFFF

/-- Whether a block is present. -/
def State.present (s : State) (id : Nat) : Bool := (s.block id).isSome

/-- A byte string as the signed 32-bit words it holds. -/
def words4 : Bytes → List Int
  | a :: b :: c :: d :: r => getI [a, b, c, d] 0 4 :: words4 r
  | _ => []

/-- The places at which a predicate on consecutive elements fails, counted from `i`. -/
def failsFrom (f : Nat → Int → Int → Bool) : Nat → List Int → List Int → List Nat
  | i, x :: r, y :: r' => if f i x y then failsFrom f (i + 1) r r' else i :: failsFrom f (i + 1) r r'
  | _, _, _ => []

/-! ### Rules a to f -/

/-- Rule a, on DEVICE. -/
def State.ruleA (s : State) : List SealFail :=
  ff 1 0 0 (s.stackEn != 0) ++ ff 1 0 1 (s.enabled s.timeBase)

/-- The blocks that the configuration requires (R125, R126, R401). -/
def State.required (s : State) : List Nat :=
  let links := s.cu 1 11 1
  let al := s.cu 1 10 1
  [0x0014, 0x0068, 0x0F00] ++ (s.enStacks.flatMap fun k => [0x10 + k, 0x20 + k, 0x30 + k, 0x60 + k]) ++
  (if s.cu 1 8 1 = 0 then [] else [0x0024]) ++ (([0, 1, 2, 3].filter s.axEn).map (0x70 + ·)) ++ (((List.range 6).filter s.fbEn).map (0x40 + ·)) ++
  (if links.testBit 0 then [0x0080] else []) ++ (if links.testBit 1 then [0x0081] else []) ++
  (([0, 1].filter fun p => al.testBit p).map (0x90 + ·)) ++ (if al = 0 then [] else [0x0092]) ++ (if s.cu 1 12 1 = 1 then [0x00C0] else []) ++
  (s.enStacks.flatMap fun k => ((List.range 8).flatMap fun j => [0x1000 + 16 * k + j, 0x1000 + 16 * (4 + k) + j]) ++ [0x1000 + 16 * (8 + k)]) ++
  (([0, 1, 2, 3].filter fun n => s.axEn n && s.axBit n 1).map fun n => 0x1000 + 16 * (12 + n))

/-- Rule b, on the missing block itself. -/
def State.ruleB (s : State) : List SealFail := s.required.flatMap fun i => ff i 1 whole (s.present i)

/-- Rule c: R34 on the STACK block, R36 on DEVICE. -/
def State.ruleC (s : State) : List SealFail :=
  let tb := s.ctrlCycle
  (s.enStacks.flatMap fun k => ff (0x10 + k) 2 4 ([1, 2, 3, 4, 5, 6, 7, 8].any fun n => s.carrierP k == tb * n || s.carrierP k * n == tb)) ++
  ff 1 2 11 (s.cu 1 11 1 == 0 || decide (tb ≤ 10000))

/-- Whether a named feedback port is enabled, where a value above 5 names none. -/
def State.portOk (s : State) (n : Nat) : Bool := decide (5 < n) || s.fbEn n

/-- Rule d, on the block that holds the reference. -/
def State.ruleD (s : State) : List SealFail :=
  (s.enStacks.flatMap fun k =>
    ff (0x10 + k) 3 1 (s.portOk (s.angSrcCfg k)) ++ ff (0x30 + k) 3 0 (s.cu (0x30 + k) 0 1 % 32 == 31) ++
    (if s.present (0x50 + k) then ff (0x50 + k) 3 47 (s.portOk (s.cu (0x50 + k) 47 1)) else [])) ++
  ff 0x14 3 3 (s.portOk (s.cu 0x14 3 1)) ++
  (((List.range 6).filter s.fbEn).flatMap fun n =>
    ff (0x40 + n) 3 36 (s.cu (0x40 + n) 35 1 != 1 || s.fbEn (s.cu (0x40 + n) 36 1)) ++
    ff (0x40 + n) 3 34 (s.fbMode n != 6 || s.cu (0x40 + n) 33 1 != 2 || s.fbEn (s.cu (0x40 + n) 34 1))) ++
  (([0, 1, 2, 3].filter s.axEn).flatMap fun n => [2, 3, 4].flatMap fun o => ff (0x70 + n) 3 o (s.portOk (s.cu (0x70 + n) o 1))) ++
  (if (s.cu 1 11 1).testBit 1 then ff 0x81 3 1 (s.cu 0x81 1 1 &&& (15 - s.cu 1 8 1) == 0) else [])

/-- Rule e, on DEVICE. -/
def State.ruleE (s : State) : List SealFail :=
  ff 1 4 2 (s.enStacks.all fun k => (machineStacks s.arrange k).all s.enabled)

/-- Whether FB5 is reserved for the Kingpost (R250). -/
def State.fb5Kp (s : State) : Bool := s.archB && (s.cu 0x0F00 1 1 == 1 || s.cu 0x0F00 1 1 == 2)

/-- Whether a port is not one reserved for the Kingpost. -/
def State.notKp (s : State) (n : Nat) : Bool := n != 5 || !s.fb5Kp

/-- Rule f, on SAFETY_MAIN with the offset of the safety field (R375, R397, R405, R250). -/
def State.ruleF (s : State) : List SealFail :=
  let en := s.stackEn
  let kp := s.cu 0x0F00 1 1
  let b0 := s.cu 0x0F03 0 1
  let b1 := s.cu 0x0F03 16 1
  let mode5 := s.fbMode 5
  ff 0x0F00 5 0 (s.archB || (decide (s.enStacks.length ≤ 2) && s.cu 1 11 1 == 0)) ++
  ff 0x0F00 5 1 ((kp == 0) == !s.archB && (kp != 1 || mode5 == 1 || mode5 == 2) && (kp != 2 || mode5 == 6) &&
    s.notKp (s.cu 0x14 3 1) && s.enStacks.all fun k => s.notKp (s.angSrcCfg k)) ++
  ((List.range 8).flatMap fun n =>
    let fn := s.cu 0x0F01 (8 * n + 1) 1
    let m := s.cu 0x0F01 (8 * n + 2) 1
    ff 0x0F00 5 (8 * n + 2) (s.cu 0x0F01 (8 * n) 1 == 0 ||
      (m &&& (15 - en) == 0 && (fn != 2 || m == en) && (fn != 3 || m &&& (b0 ||| b1) != 0)))) ++
  ff 0x0F00 5 16 (b0 &&& b1 == 0) ++ ff 0x0F00 5 3 (s.cu 0x0F00 3 1 &&& (15 - en) == 0) ++ ff 0x0F00 5 whole (!s.deliveryInForce)

/-! ### Rule g: power stage and field engines -/

/-- The dissipation of a gate channel in W (R151): mode, gate charge in nC, supply swing in 0.1 V, carrier period in ticks. -/
def chPower (mode qg swing p : Nat) : Rat := if mode = 2 then 15 / 100 else 10 / 100 + (qg * swing : Nat) / (100 * p : Nat)

/-- The dissipation of a phase and of a chopper channel of a stack. -/
def State.chPowers (s : State) (k : Nat) : Rat × Rat :=
  let g := s.cfg (0x20 + k)
  let sw := getN g 6 1 + getN g 7 1
  (chPower (getN g 0 1 % 4) (getN g 2 2) sw (s.carrierP k), chPower (getN g 0 1 / 4 % 4) (getN g 4 2) sw (s.carrierP k))

/-- f_max of an axis in Hz (R172, R367). -/
def State.axFmax (s : State) (n : Nat) : Rat :=
  if s.axType n = 0 then getN (s.axCfg n) 23 1 * 1000 else (getN (s.axCfg n) 6 1 * 100000000 : Nat) / (s.ctrlCycle : Nat)

/-- The dissipation of one half-bridge of an axis in W (R172). -/
def State.hbPower (s : State) (n : Nat) : Rat := 5 / 100 + 30 * (s.cu 0x24 (8 * n + 6) 2 : Rat) * s.axFmax n / 1000000000

/-- The module dissipation in W (R565). -/
def State.modulePower (s : State) : Rat :=
  20 + ([0, 16].map fun o => if s.cu 0x0F03 o 1 = 0 then (0 : Rat) else 12 / 10).sum +
  (s.enStacks.map fun k => 6 * (s.chPowers k).1 + (s.chPowers k).2).sum +
  (([0, 1, 2, 3].filter s.axEn).map fun n => (usedHb (s.axType n) : Rat) * s.hbPower n).sum

/-- t_s − t_c of a stack in ticks (R176). -/
def State.tsTc (s : State) (k : Nat) : Nat := 5 * ((3 * s.cu (0x30 + k) 8 2 - 3) / 2 + 3)

/-- The sample centres of a stack as streams of offset and period. -/
def State.streams (s : State) (k : Nat) : List (Nat × Nat) :=
  let p := s.carrierP k
  let o := s.cu (0x10 + k) 8 4
  if s.cu (0x10 + k) 0 1 % 2 = 1 then [(o, p), (o + p / 2, p)] else [(o, p)]

/-- The sin/cos ports requested at each sample centre of a stack (R194). -/
def State.sinCosAt (s : State) (k : Nat) : Nat :=
  ((List.range 6).filter fun n => s.fbMode n == 2 && (s.angSrcCfg k == n || k == s.timeBase)).length

/-- The most sin/cos pairs requested from 1 µs before a sample centre of a stack up to it (R196). -/
def State.sinCosBurst (s : State) (k : Nat) : Nat :=
  let all := s.enStacks.flatMap fun j => (s.streams j).map fun x => (s.sinCosAt j, x)
  let l := s.enStacks.foldl (fun n j => Nat.lcm n (s.carrierP j)) 1
  ((s.streams k).flatMap fun x => (List.range (l / x.2)).map fun i =>
    let t := x.1 + i * x.2
    (all.map fun y => if (t + y.2.2 - y.2.1 % y.2.2) % y.2.2 ≤ 100 then y.1 else 0).sum).foldl max 0

/-- The failures of the two flux maps and the advance table of a stack (R215, R227), on the segments. -/
def State.tableFails (s : State) (k : Nat) : List SealFail :=
  let seg := fun (t j : Nat) => if s.present (0x1000 + 16 * t + j) then words4 (s.blockOr (0x1000 + 16 * t + j)) else []
  ((List.range 8).flatMap fun j =>
    let d := seg k j
    let q := seg (4 + k) j
    let before := if j = 0 then [] else (seg (4 + k) (j - 1)).drop 448
    ((failsFrom (fun i x y => i % 64 == 63 || decide (x < y)) 0 d (d.drop 1)).map fun i => (0x1000 + 16 * k + j, 6, 4 * (i + 1), eRange)) ++
    ((failsFrom (fun _ x y => decide (x < y)) 0 before q).map fun i => (0x1000 + 16 * (4 + k) + j, 6, 4 * i, eRange)) ++
    ((failsFrom (fun _ x y => decide (x < y)) 0 q (q.drop 64)).map fun i => (0x1000 + 16 * (4 + k) + j, 6, 4 * (i + 64), eRange))) ++
  (let a := seg (8 + k) 0
   (failsFrom (fun _ x _ => decide (0 ≤ x) && decide (x ≤ 0x40000000)) 0 a a).map fun i => (0x1000 + 16 * (8 + k), 6, 4 * i, eRange))

/-- Rule g of one stack: STACK, GATE, SENSE, DCLINK and its tables. (DEDUCED, assumption 28.) (DEDUCED, assumption 29.) -/
def State.ruleStack (s : State) (k : Nat) : List SealFail :=
  let S := s.cfg (0x10 + k)
  let p := s.carrierP k
  let m := (s.machine k).headD k
  let M := s.cfg (0x10 + m)
  let r := s.cfg (0x30 + k)
  let g := s.cfg (0x20 + k)
  let deg := getN r 82 1 % 2 == 1
  ff (0x10 + k) 6 0 (getN S 0 1 % 2 == getN M 0 1 % 2) ++ ff (0x10 + k) 6 1 (getN S 1 1 == getN M 1 1) ++
  ff (0x10 + k) 6 2 (getN S 2 2 == getN M 2 2) ++ ff (0x10 + k) 6 4 (getN S 4 4 == getN M 4 4) ++
  ff (0x10 + k) 6 8 (k != s.timeBase || getN S 8 4 == 0) ++
  ff (0x10 + k) 6 48 (decide (getN S 48 2 * 10 * p ≤ (1 + getN S 0 1 % 2) * 100000000)) ++
  ff (0x10 + k) 6 50 (decide (getN S 50 2 * 20 * p ≤ 100000000)) ++
  ff (0x10 + k) 6 1 (getN S 1 1 != 0x10 || s.present (0x50 + k)) ++
  ff (0x20 + k) 6 7 ((getN g 0 1 % 4 == 2 || decide ((s.chPowers k).1 ≤ 12 / 10)) && (getN g 0 1 / 4 % 4 == 2 || decide ((s.chPowers k).2 ≤ 12 / 10))) ++
  ff (0x30 + k) 6 (if deg then 82 else 14) ((getN r 14 1 == 0 && !deg) || decide (4 * minVector r ≤ p)) ++
  ff (0x30 + k) 6 8 (s.sinCosAt k == 0 || decide ((s.sinCosBurst k + 1) * 25 + 2 ≤ s.tsTc k)) ++
  ff (0x60 + k) 6 10 (decide (s.cu (0x60 + k) 10 2 * 1000 ≤ 9 * getN r 24 4)) ++ s.tableFails k

/-- Rule g of MOTION (R219, R227) and the module dissipation on the lowest GATE block (R565). -/
def State.ruleMotion (s : State) : List SealFail :=
  let m := s.cfg 0x14
  ff 0x14 6 2 (decide (5000 ≤ s.ctrlCycle * getN m 2 1)) ++
  ff 0x14 6 58 ((getN m 40 1 != 3 || decide (2500 ≤ getN m 58 2 * getN m 52 2)) && (getN m 40 1 != 4 || decide (2500 ≤ getN m 58 2 * getN m 56 2))) ++
  (match s.enStacks.head? with
   | some k => ff (0x20 + k) 6 whole (decide (s.modulePower ≤ 48))
   | none => [])

/-! ### Rule g: feedback, sensorless operation, torsion -/

/-- The smallest gap other than 0 between the events of two streams. -/
def gapOf (a b : Nat × Nat) : Nat :=
  let g := Nat.gcd a.2 b.2
  let r := (a.1 + b.1 * (g - 1)) % g
  if r = 0 then g else min r (g - r)

/-- The stacks whose sample centres request the frames of a port (R237). -/
def State.portUsers (s : State) (n : Nat) : List Nat := s.enStacks.filter fun k => s.angSrcCfg k == n || k == s.timeBase

/-- Whether R237 holds for a serial port. -/
def State.serialOk (s : State) (n : Nat) : Bool :=
  let f := s.cfg (0x40 + n)
  let bits := getN f 16 1 + getN f 17 1 + getN f 18 1 + getN f 19 1
  let frame : Rat := ((bits + 5) * 10000 : Nat) / (getN f 22 2 : Nat) + getN f 28 2
  let evs := (s.portUsers n).flatMap s.streams
  ((s.portUsers n).all fun k => decide (frame - getN f 26 2 ≤ (s.tsTc k : Rat) - 10)) &&
  (evs.all fun a => evs.all fun b => decide (frame + 10 * getN f 24 2 ≤ gapOf a b))

/-- Rule g of FEEDBACK n (R255). (DEDUCED, assumption 28.) -/
def State.ruleFb (s : State) (n : Nat) : List SealFail :=
  let id := 0x40 + n
  let f := s.cfg id
  let uses := s.enStacks.filter fun k => s.angSrcCfg k == n
  let mode := getN f 0 1
  let ap := getN f 36 1
  let dp := getN f 34 1
  ff id 6 4 (mode != 5 || uses.all fun k => s.cu (0x10 + k) 2 2 % getN f 4 4 == 0) ++
  ff id 6 28 ((mode != 3 && mode != 4) || s.serialOk n) ++
  ff id 6 35 (getN f 35 1 != 2 || uses.all fun k => s.present (0x50 + k)) ++
  (if getN f 35 1 = 1 then ff id 6 36 (s.cu (0x40 + ap) 0 1 == 5 && s.notKp ap) else []) ++
  (if mode = 6 ∧ getN f 33 1 = 2 then ff id 6 34 (!(s.cu (0x40 + dp) 0 1 == 6 && s.cu (0x40 + dp) 33 1 == 2) && s.notKp dp) else [])

/-- The longest update interval among the sets of a list, in ticks: the longer one of an odd carrier period. -/
def State.tuMax (s : State) (ks : List Nat) : Nat :=
  (ks.map fun k => if s.double k then s.carrierP k - s.carrierP k / 2 else s.carrierP k).foldl max 0

/-- T_o in ticks (R219). -/
def State.tOuter (s : State) : Nat := s.ctrlCycle * s.cu 0x14 2 1

/-- Rule g of SENSORLESS k, where present (R264, R269, R276). (DEDUCED, assumption 28.) -/
def State.ruleSl (s : State) (k : Nat) : List SealFail :=
  if !s.present (0x50 + k) then [] else
  let id := 0x50 + k
  let d := s.cfg id
  ff id 6 3 (decide (((getN d 1 1 + 2) * (2 * getN d 2 1 + getN d 3 1) + 1 : Nat) * s.tuRat k ≤ 3000000)) ++
  ff id 6 32 (decide (getN d 32 2 * 1000 + s.tuMax (s.machine (machineOf s.arrange k)) + s.tOuter + 2700 ≤ 200000)) ++
  ff id 6 24 (decide (getN d 24 4 ≤ s.cu (0x10 + k) 20 4)) ++ ff id 6 8 (decide (getN d 8 4 ≤ s.cu (0x10 + k) 20 4)) ++
  ff id 6 47 (s.notKp (getN d 47 1)) ++ ff id 6 whole (s.angSrcCfg k != 0x10 || decide (0 < (s.flux k 0 0).pd))

/-- Rule g of TORSION (R291, R295), its values after reset where it is absent. (DEDUCED, assumption 28.) -/
def State.ruleTorsion (s : State) : List SealFail :=
  let d := s.cfg 0x58
  let b := fun (i : Nat) => (getN d 0 1).testBit i
  let tO := s.tOuter
  let act := getN d 1 1
  ff 0x58 6 60 (decide (s.cu 0x14 36 4 < getN d 60 4)) ++ ff 0x58 6 8 (decide (getN d 8 2 * 20 * tO ≤ 100000000)) ++
  (if b 2 || b 3 then ff 0x58 6 18 (decide (getN d 18 2 * tO ≤ 100000000)) ++ ff 0x58 6 16 (decide (20 * getN d 8 2 ≤ getN d 16 2)) else []) ++
  ff 0x58 6 22 (!b 3 || b 2 || getN d 20 2 != 0 || getN d 22 2 != 0) ++
  ff 0x58 6 1 (act == 0 || (b 4 && decide (tO + s.tuMax s.enStacks + 2900 ≤ 100000) &&
    (decide (act < 2) || s.cu 0x0F03 0 1 != 0 || s.cu 0x0F03 16 1 != 0)))

/-! ### Rule g: axes, groups, network, thermal, application -/

/-- Rule g of AXIS n, its AUXDRV record and its advance table (R172, R367). -/
def State.ruleAxis (s : State) (n : Nat) : List SealFail :=
  let id := 0x70 + n
  let d := s.axCfg n
  let ty := s.axType n
  let p := s.ctrlCycle
  let div := getN d 6 1
  let hall := getN d 3 1
  ff id 6 2 (if ty = 0 then getN d 2 1 == 0xFF else decide (getN d 2 1 ≤ 5)) ++
  ff id 6 3 (if ty = 0 then hall == 0xFF else ty != 1 || (decide (hall ≤ 5) && s.fbMode hall == 5)) ++
  ff id 6 7 (ty != 1 || 5 < hall || getN d 7 1 % s.cu (0x40 + hall) 4 4 == 0) ++
  ([2, 3, 4].flatMap fun o => ff id 6 o (s.notKp (getN d o 1))) ++
  ff id 6 16 (decide (getN d 16 2 * getN d 8 4 ≤ 200000000)) ++
  ff id 6 6 (ty == 0 || decide (2500 * div ≤ p)) ++ ff id 6 26 (ty == 0 || decide (getN d 26 2 * 10 * p ≤ 100000000 * div)) ++
  ff id 6 52 (ty != 0 || decide (getN d 52 4 * p ≤ 6400000000)) ++ ff 0x24 6 (8 * n + 6) (decide (s.hbPower n ≤ 30 / 100)) ++
  (if s.axBit n 1 then
    let a := (words4 ((s.blockOr (0x1000 + 16 * (12 + n))).take 128))
    (failsFrom (fun _ x _ => decide (0 ≤ x) && decide (x ≤ 0x40000000)) 0 a a).map fun i => (0x1000 + 16 * (12 + n), 6, 4 * i, eRange)
   else [])

/-- Rule g of COLONNADE and PAIR (R319, R470). -/
def State.ruleGroups (s : State) : List SealFail :=
  let links := s.cu 1 11 1
  let c := s.cfg 0x80
  let d := s.cfg 0x81
  (if links.testBit 0 then
    ff 0x80 6 3 (decide (2500 ≤ s.ctrlCycle * getN c 3 1) && decide (s.ctrlCycle * getN c 3 1 ≤ 10000)) ++ ff 0x80 6 4 (decide (s.rEn ≤ getN c 4 4)) ++
    ff 0x80 6 whole s.archB
   else []) ++
  (if links.testBit 1 then
    ff 0x81 6 whole (links.testBit 0 && getN c 1 1 == 2 && (getN c 2 1).testBit 0) ++ ff 0x81 6 6 (getN d 4 2 != getN d 6 2) ++
    ff 0x81 6 4 (s.cu 1 10 1 == 0 || getN d 4 2 == s.cu 0x92 0 2)
   else [])

/-- Rule g of ALCIA p (R498, R524). (DEDUCED, assumption 28.) -/
def State.ruleAlcia (s : State) (p : Nat) : List SealFail :=
  let d := s.cfg (0x90 + p)
  let q := getN d 2 2 * (1 + getN d 4 1 + getN d 5 1 + getN d 6 1)
  let q2 := getN d 8 1 * (1 + getN d 9 1 + getN d 10 1)
  let other := (s.cu 1 10 1).testBit (1 - p)
  let r := getN d 0 1 % 2
  let r' := s.cu (0x90 + (1 - p)) 0 1 % 2
  ff (0x90 + p) 6 6 (decide (80 ≤ q) && decide (q ≤ 640)) ++ ff (0x90 + p) 6 10 (decide (10 ≤ q2) && decide (q2 ≤ q)) ++
  ff (0x90 + p) 6 0 (if r = 1 then other && r' == 0 else !(other && r' == 0))

/-- The places of two equal keys: of the later one. -/
def sameKeys : List (Nat × Nat) → List Nat → List Nat
  | [], _ => []
  | (i, k) :: r, seen => if seen.contains k then i :: sameKeys r seen else sameKeys r (k :: seen)

/-- Rule g of the ROUTE blocks (R513). -/
def State.ruleRoutes (s : State) : List SealFail :=
  let es := (s.blocks.filter fun b => decide (0x2000 ≤ b.1) && decide (b.1 ≤ 0x201F)).flatMap fun b =>
    ((words4 b.2).zipIdx.map fun x => (512 * (b.1 - 0x2000) + x.2, (x.1 % 4294967296).toNat)).filter fun e => e.2.testBit 19
  let at4 := fun (i o : Nat) => ((0x2000 + i / 512, 6, 4 * (i % 512) + o, eRange) : SealFail)
  ((sameKeys (es.map fun e => (e.1, bitsN e.2 18 0)) []).map fun i => at4 i 1) ++
  (es.flatMap fun e =>
    let code := bitsN e.2 11 0
    let dseg := bitsN e.2 18 12
    let grp := decide (code < 0x800)
    let sys := decide (code < 0x100) || (decide (0x800 ≤ code) && decide (code < 0x900))
    (if sys then [at4 e.1 0] else []) ++ (if (grp && decide (dseg < 64)) || (!grp && dseg == 64) then [at4 e.1 1] else []) ++
    (if bitsN e.2 21 20 &&& (3 - s.cu 1 10 1) != 0 then [at4 e.1 2] else []))

/-- Rule g of THERMAL (R559) and APP (R444); a change of APP_MB under a live program is E_STATE. -/
def State.ruleRest (s : State) : List SealFail :=
  ff 0xA0 6 6 ([0, 1, 2, 3].all fun n => let u := s.cu 0xA0 6 1 / 4 ^ n % 4; !(u == 1 || u == 2) || s.enabled n) ++
  ff 0xC0 6 0 (match s.running 3 with
    | some i => decide (hdrSize (i.hdr 3) ≤ s.cu 0xC0 0 4 * 1048576)
    | none => true) ++
  (if s.appLive ∧ s.cu 0xC0 0 4 ≠ s.app.appMb then [(0xC0, 6, 0, eState)] else [])

/-! ### The first failure -/

/-- Rule g. -/
def State.ruleG (s : State) : List SealFail :=
  (s.enStacks.flatMap s.ruleStack) ++ s.ruleMotion ++ (((List.range 6).filter s.fbEn).flatMap s.ruleFb) ++ (s.enStacks.flatMap s.ruleSl) ++
  s.ruleTorsion ++ (([0, 1, 2, 3].filter s.axEn).flatMap s.ruleAxis) ++ s.ruleGroups ++
  (([0, 1].filter fun p => (s.cu 1 10 1).testBit p).flatMap s.ruleAlcia) ++ s.ruleRoutes ++ s.ruleRest

/-- Rule h (SEAL only), on SAFETY_MAIN. -/
def State.ruleH (s : State) : List SealFail :=
  if s.lastLogged = some s.safetyPrint ∨ s.logRoom then [] else [(0x0F00, 7, whole, eState)]

/-- Whether a failure comes before another: block, rule, offset, status. -/
def failBefore (a b : SealFail) : Bool :=
  decide (a.1 < b.1) || (a.1 == b.1 && (decide (a.2.1 < b.2.1) || (a.2.1 == b.2.1 && (decide (a.2.2.1 < b.2.2.1) ||
    (a.2.2.1 == b.2.2.1 && decide (a.2.2.2 < b.2.2.2))))))

/-- The first failure of the blocks as written (R132): block ID, offset, status. -/
def State.firstFail (s : State) (sealing : Bool) : Option (Nat × Nat × Nat) :=
  let s := { s with sealedCfg := some { fingerprint := [], safetyFp := [], t0 := 0 } }
  if !s.present 1 then some (1, whole, eRange) else
  let l := s.ruleA ++ s.ruleB ++ s.ruleC ++ s.ruleD ++ s.ruleE ++ s.ruleF ++ s.ruleG ++ (if sealing then s.ruleH else [])
  (l.foldl (fun (b : Option SealFail) f => match b with
    | some g => if failBefore f g then some f else some g
    | none => some f) none).map fun f => (f.1, f.2.2.1, f.2.2.2)

/-- The 8 bytes of R133. -/
def failData (f : Nat × Nat × Nat) : Bytes := le 2 f.1 ++ le 2 f.2.1 ++ le 2 f.2.2 ++ zeros 2

end Sys2Proof.Machine
end

