-- ==== Sys2Proof/Machine/Thermal.lean ====
section
/-! DEFINITION. Thermal management (R550 to R561): the readings, the bands, derating, the overtemperature trip, the throttle level and the
critical die temperature. -/
namespace Sys2Proof.Machine

/-! ### Readings (R550 to R552) -/

/-- A temperature in °C in 0.1 °C. (DEDUCED, assumption 87.) -/
def tenths (r : Rat) : Int := roundR (r * 10)

/-- THERMAL in force. -/
def State.thermCfg (s : State) : Bytes := s.cfg 0x00A0

/-- PT_USE of PT input `k`. -/
def State.ptUse (s : State) (k : Nat) : Nat := getN s.thermCfg 6 1 / 4 ^ k % 4

/-- The temperature of an NTC from its voltage in µV (R551). -/
def State.ntcTemp (s : State) (u : Nat) : Int :=
  let d := s.thermCfg
  let r := quot (10000 * (u : Rat)) (2500000 - (u : Rat))
  let inv := 1 / (5963 / 20) + Config.ln (quot r (getN d 0 4)) / (getN d 4 2 : Rat)
  tenths (quot 1 inv - 5463 / 20)

/-- The temperature of a PT1000 from its resistance in mΩ (R551). (PRESUMED, assumption 86.) -/
def State.ptTemp (s : State) (m : Nat) : Int :=
  let r : Rat := ((m : Rat) - (getN s.thermCfg 8 2 : Rat)) / 1000
  let a : Rat := 39083 / 10000000
  let b : Rat := 5775 / 10000000000
  tenths (if r < 1000 then Config.ptCold r else (a - Config.sqrt (a * a - 4 * b * (r / 1000 - 1))) / (2 * b))

/-- What one conversion says: a temperature, or why it is broken (R552, R561). -/
inductive Verdict | good (t : Int) | bad (cause : Nat)

/-- A value against its valid range. -/
def inRange (v lo hi t : Int) : Verdict := if v < lo then .bad 0 else if hi < v then .bad 1 else .good t

/-- A die sensor. -/
def dieVerdict : Option Int → Verdict
  | none => .bad 3
  | some v => inRange v (-550) 1750 v

/-- An NTC. -/
def State.ntcVerdict (s : State) : Option Nat → Verdict
  | none => .bad 2
  | some u => inRange u 50000 2450000 (s.ntcTemp u)

/-- A PT1000. -/
def State.ptVerdict (s : State) : Option Nat → Verdict
  | none => .bad 2
  | some m => inRange m 600000 2500000 (s.ptTemp m)

/-- A reading after an evaluation: a broken one is 200 °C until 100 good evaluations in a row (R552). -/
def Reading.next (r : Reading) : Verdict → Reading
  | .bad _ => { value := 2000, broken := true, good := 0 }
  | .good t => if r.broken && decide (r.good + 1 < 100) then { value := 2000, broken := true, good := r.good + 1 } else { value := t }

/-- TEMP_SENSOR_FAULT where a reading becomes broken (R552, R561). (DEDUCED, assumption 87.) -/
def State.sensorEvent (s : State) (r : Reading) (v : Verdict) (sensor : Nat) : State := match v with
  | .bad c => if r.broken then s else s.raise 0x8401 2 0 (le 1 sensor ++ le 1 c)
  | .good _ => s

/-- The mean that an evaluation uses of a converted input (R550, R552): that of the conversions since the one before, else the last there was; none once no
conversion has completed for 10 ms. -/
def TempAcc.reading (a : TempAcc) (now : Tick) : Option Nat :=
  if a.last + 1000000 ≤ now then none
  else (if a.n = 0 then a.mean else some (roundR ((a.sum : Rat) / a.n))).map Int.toNat

/-- The conversions are counted afresh from an evaluation on. -/
def TempAcc.evaluated (a : TempAcc) : TempAcc :=
  { a with sum := 0, n := 0, mean := if a.n = 0 then a.mean else some (roundR ((a.sum : Rat) / a.n)) }

/-- A converted input without a reading yet, in the first 10 ms: it keeps what it shows. (DESIGN CHOICE, assumption 120.) -/
def TempAcc.early (a : TempAcc) (now : Tick) : Bool := a.n == 0 && a.mean.isNone && decide (now < a.last + 1000000)

/-- The readings of an evaluation with their events. Before SEAL the NTC and PT readings raise nothing; after it an unused input is not evaluated
and shows 0 (R552, R560). -/
def State.readTemps (s : State) (x : ThermalInput) : State :=
  let s := (List.range 6).foldl (fun (s : State) i =>
    let v := dieVerdict (vget x.die i none)
    (s.sensorEvent (vget s.thermal.die i {}) v i).modThermal fun t => { t with die := vmod t.die i (·.next v) }) s
  let on := s.sealedCfg.isSome
  let s := (List.range 4).foldl (fun (s : State) i =>
    let a := vget s.thermal.acc i {}
    let v := s.ntcVerdict (a.reading s.stamp)
    let used := s.enabled i
    if a.early s.stamp then s else
    let s := if on && used then s.sensorEvent (vget s.thermal.ntc i {}) v (8 + i) else s
    s.modThermal fun t => { t with ntc := vmod t.ntc i fun r => if on && !used then {} else r.next v }) s
  let s := (List.range 4).foldl (fun (s : State) i =>
    let a := vget s.thermal.acc (4 + i) {}
    let v := s.ptVerdict (a.reading s.stamp)
    let used := s.enabled i && s.ptUse i != 0
    if a.early s.stamp then s else
    let s := if on && used then s.sensorEvent (vget s.thermal.pt i {}) v (12 + i) else s
    s.modThermal fun t => { t with pt := vmod t.pt i fun r => if on && !used then {} else r.next v }) s
  s.modThermal fun t => { t with acc := t.acc.map TempAcc.evaluated }

/-! ### What a reading does -/

/-- The stack temperature (R553). -/
def State.stackTemp (s : State) (k : Nat) : Int :=
  let n := (vget s.thermal.ntc k {}).value
  if s.ptUse k = 1 then max n (vget s.thermal.pt k {}).value else n

/-- The winding temperature of a set, where a sensor is assigned (R553). -/
def State.wdgTemp (s : State) (k : Nat) : Option Int := if s.ptUse k = 2 then some (vget s.thermal.pt k {}).value else none

/-- TBk of a stack (R152, R163), in 0.1 °C. -/
def State.tb (s : State) (k i : Nat) : Int := s.ci (0x20 + k) (16 + 2 * i) 2

/-- The band of a temperature without hysteresis (R152). -/
def State.bandOf (s : State) (k : Nat) (t : Int) : Nat := (([1, 2, 3].filter fun i => s.tb k i ≤ t).max?).getD 0

/-- The band after an evaluation (R152): it falls below `i` only under TB i − 3 K. -/
def State.bandNextOf (s : State) (k old : Nat) (t : Int) : Nat :=
  let up := s.bandOf k t
  if old < up then up else (([1, 2, 3].filter fun i => decide (i ≤ old) && decide (s.tb k i - 30 ≤ t)).max?).getD 0

/-- A band decision with BAND_CHANGE; it applies at the next carrier zero (R152, R153). -/
def State.bandCycle (s : State) (k : Nat) : State :=
  let x := s.stack k
  let old := x.bandNext.getD x.band
  let t := s.stackTemp k
  let new := s.bandNextOf k old t
  if new = old then s else
  (s.modStack k fun x => { x with bandNext := some new }).info 0x8305 1 k (le 1 old ++ le 1 new ++ leI 2 t)

/-- A derating factor between two temperatures (R554). -/
def derate (lo hi t : Int) : Rat := clampR 0 1 (quot ((hi - t : Int) : Rat) ((hi - lo : Int) : Rat))

/-- The derating factor of a stack in an evaluation, with THERMAL_DERATE (R554). -/
def State.derateCycle (s : State) (k : Nat) : State :=
  let g := fun (o : Nat) => getI s.thermCfg o 2
  let ks := derate (g 10) (g 12) (s.stackTemp k)
  let kw := match s.wdgTemp k with
    | some t => derate (g 16) (g 18) t
    | none => 1
  let new := minR ks kw
  let old := vget s.thermal.k k 1
  let s := s.modThermal fun t => { t with k := vmod t.k k fun _ => new }
  if (old = 1 ∧ new < 1) ∨ (old < 1 ∧ new = 1) then
    s.info 0x8402 1 k (le 2 (min 65535 (toUfix 32 16 new)) ++ le 1 (b2n (decide (kw < ks))))
  else s

/-- The trip of a stack in an evaluation (R555); true where it raised STACK_OVERTEMP. (DESIGN CHOICE, assumption 88.) -/
def State.tripCycle (s : State) (k : Nat) : Bool × State :=
  let g := fun (o : Nat) => getI s.thermCfg o 2
  let ts := s.stackTemp k
  let byStack := decide (g 14 ≤ ts)
  let byWdg := match s.wdgTemp k with
    | some t => decide (g 20 ≤ t)
    | none => false
  let hit := byStack || byWdg
  let n := vget s.thermal.hot k 0
  let s := s.modThermal fun t =>
    { t with hot := vmod t.hot k fun n => if hit then min 2 (n + 1) else 0, cool := vmod t.cool k fun n => if hit then 0 else min 2 (n + 1) }
  if hit ∧ n = 1 then
    (true, s.raise 0x8403 1 k (le 1 (b2n (!byStack)) ++ le 1 0 ++ leI 2 (if byStack then ts else (s.wdgTemp k).getD 0)))
  else (false, s)

/-- T_die (R556). (DEDUCED, assumption 87.) -/
def State.tDie (s : State) : Int := (([0, 1, 2, 3].map fun i => (vget s.thermal.die i {}).value).max?).getD 0

/-- The throttle level that a temperature calls for (R556). -/
def throttleLevel (start step old : Nat) (t : Int) : Nat :=
  let up := (clampI 0 15 (quot ((t - start : Int) : Rat) step).ceil).toNat
  if old < up then up
  else ((List.range old).find? fun l : Nat => decide (t < (start : Int) + (l : Int) * step - 30)).getD old

/-- The throttle level in an evaluation, with THROTTLE (R451, R556). -/
def State.throttleCycle (s : State) : State :=
  let d := s.thermCfg
  let old := s.thermal.level
  let new := throttleLevel (getN d 22 2) (getN d 24 1) old s.tDie
  if new = old then s else
  ((s.modThermal fun t => { t with level := new }).modApp fun a => { a with throttleNext := new }).info 0x8404 2 0
    (le 1 new ++ le 1 old ++ leI 2 s.tDie)

/-- The critical die temperature (R557, R558): on the enabled stacks that the trip has not stopped in the same evaluation. (DESIGN CHOICE, assumption 88.) -/
def State.critCycle (s : State) (stopped : List Nat) : State :=
  let vals := (List.range 6).map fun i => (vget s.thermal.die i {}).value
  let top := vals.max?.getD 0
  let hit := decide (getI s.thermCfg 26 2 ≤ top)
  let s := s.modThermal fun t => { t with crit := if hit then min 2 (t.crit + 1) else 0 }
  if s.thermal.crit = 2 ∧ s.enStacks ≠ [] ∧ (s.faultObj ⟨13, 2, 0⟩).held.all (·.1 != 0x8405) then
    let s := (s.stopAll (s.enStacks.filter fun k => !stopped.contains k) .select 0x8405).releaseAxes
    s.raise 0x8405 2 0 (le 1 (vals.findIdx (· == top)) ++ le 1 0 ++ leI 2 top)
  else s

/-- THERMAL_EVALUATION (R550): at a multiple of 1 ms, while the firmware runs. -/
def execThermalEvaluation (t : Tick) (x : ThermalInput) (s : State) : Host.Outcome State Fault Refusal :=
  let s := s.upTo t
  .next <| if !(s.up && s.stamp % 100000 == 0) || vget s.integ.halted 0 false then s else
    let s := s.readTemps x
    let (hot, s) := s.enStacks.foldl (fun (a : List Nat × State) k =>
      let r := ((a.2.bandCycle k).derateCycle k).tripCycle k
      (if r.1 then a.1 ++ [k] else a.1, r.2)) ([], s)
    (s.critCycle hot).throttleCycle

/-- GET_TEMPERATURES (R560). -/
def opGetTemperatures (s : State) : Rep :=
  let x := s.thermal
  let shown := fun (on : Bool) (r : Reading) => leI 2 (if on then r.value else 0)
  let ntcOn := fun (k : Nat) => s.enabled k
  let ptOn := fun (k : Nat) => s.enabled k && s.ptUse k != 0
  let bit := fun (i : Nat) (b : Bool) => b2n b * 2 ^ i
  .ok s (((List.range 6).flatMap fun i => leI 2 (vget x.die i {}).value) ++
    ((List.range 4).flatMap fun k => shown (ntcOn k) (vget x.ntc k {})) ++
    ((List.range 4).flatMap fun k => shown (ptOn k) (vget x.pt k {})) ++
    le 1 (((List.range 4).map fun k => bit k (ntcOn k && (vget x.ntc k {}).broken) + bit (4 + k) (ptOn k && (vget x.pt k {}).broken)).sum) ++
    le 1 (((List.range 6).map fun i => bit i (vget x.die i {}).broken).sum) ++ le 1 x.level ++ le 1 0)

/-- GET_TEMPERATURES (R560). -/
def execGetTemperatures (t : Tick) (c : Source) (q : Nat) (p : Bytes) (s : State) := runOp t c 0x0405 q p opGetTemperatures s

end Sys2Proof.Machine
end

