-- ==== Sys2Proof/Machine/Lifecycle.lean ====
section
/-! DEFINITION. The configuration and the drive's lifecycle (R125 to R141, R432): blocks written and read, CHECK, SEAL, UNSEAL, ENABLE and
CLEAR_FAULT. -/
namespace Sys2Proof.Machine

/-! ### Blocks (R127 to R131) -/

/-- WRITE_BLOCK (R128, R130); the blocks of R502 restart their ports. -/
def opWriteBlock (p : Bytes) (s : State) : Rep :=
  let id := getN p 0 2
  match blockFails (ordinaryLayout id) p with
  | some (o, l) => .no s eRange (le 2 o ++ le 2 l)
  | none =>
    let s := s.putBlock p
    .ok (if id = 0x0001 ∨ id = 0x0092 then s.alRestart [0, 1] else if id = 0x0090 ∨ id = 0x0091 then s.alRestart [id - 0x0090] else s)

/-- READ_BLOCK (R131). -/
def opReadBlock (p : Bytes) (s : State) : Rep :=
  let id := getN p 0 2
  if (blockLayout id).isNone ∨ 1 < getN p 2 2 then .no s eRange
  else .ok s (le 2 id ++ le 2 (b2n (s.present id)) ++ s.blockOr id)

/-- CHECK (R133). -/
def opCheck (s : State) : Rep := .ok s (match s.firstFail false with | some f => failData f | none => zeros 8)

/-- GET_FINGERPRINT (R136). -/
def opGetFingerprint (s : State) : Rep := .ok s (match s.sealedCfg with | some c => c.fingerprint | none => zeros 32)

/-! ### What SEAL and UNSEAL start afresh -/

/-- A stack without a running configuration: what the Kingpost holds stays. -/
def Stack.idle (x : Stack) : Stack :=
  { band := x.band, fw := .pulseOff, kpOff := x.kpOff, kpAsc := x.kpAsc, ov3 := x.ov3, ov3Act := none, stLimit := x.stLimit, stStamps := x.stStamps }

/-- A feedback port that does not count: the levels at its pins stay. -/
def FbPort.idle (p : FbPort) : FbPort :=
  { state := p.state, lvA := p.lvA, lvB := p.lvB, lvZ := p.lvZ, sinMv := p.sinMv, cosMv := p.cosMv, loss := p.loss, rejCount := p.rejCount,
    quadErrs := p.quadErrs }

/-- An axis at rest: the switch levels stay. -/
def Axis.idle (a : Axis) : Axis :=
  { state := a.state, sw := a.sw.map fun w => { active := w.active } }

/-- A safety pair at rest: the contacts stay as they stand. -/
def PairSt.idle (p : PairSt) : PairSt := { a := { closed := p.a.closed }, b := { closed := p.b.closed } }

/-- Every part that a configuration drives, at rest. What the Kingpost latched still needs an accepted acknowledgement (R25, R381). -/
def State.atRest (s : State) : State :=
  { s with
    stk := s.stk.map Stack.idle
    fb := s.fb.map FbPort.idle
    obs := s.obs.map fun o => ({ state := o.state, lead := o.lead } : Observer)
    gates := s.gates.map fun g =>
      { g.at s.time with pwm := false, step := 0, stepOn := 0, stepOff := 0, onLo := false, onHi := false, offLo := false, offHi := false }
    legLock := Vector.replicate 12 false
    bkLock := Vector.replicate 4 false
    motion := {}
    torsion := {}
    sref := { mv := s.sref.mv, high := s.sref.high, lastEdge := s.time }
    sarA := {}
    sarB := {}
    aux := { axes := s.aux.axes.map Axis.idle, disabled := s.aux.disabled, stCount := s.aux.stCount }
    col := { frameErr := s.col.frameErr, misses := s.col.misses }
    safety := { s.safety with
      fns := [], request := 0, discr := false, posFault := false, kpEdges := none, kpLast := none, kpSpeed := 0, dpSpeed := 0, dpSpeedAt := s.time, xcSince := none, ackNeeded := false,
      ackOwed := s.safety.ackOwed || !s.safety.fns.isEmpty || s.safety.discr || s.safety.posFault,
      commUntil := none, commMask := 0, dpPairs := s.safety.dpPairs.map PairSt.idle, kpPairs := s.safety.kpPairs.map PairSt.idle } }

/-! ### SEAL (R134) -/

/-- Step 5 on one enabled stack: band, calibration, modes and adapted steps of its channels (R148, R152, R198). -/
def State.sealStack (s : State) (k : Nat) : State :=
  let d := s.cfg (0x20 + k)
  let b := s.bandOf k (s.stackTemp k)
  let o := bandAt b
  let s := s.modStack k fun x =>
    { x with band := b, sense := { cal := calStart (s.cfg (0x30 + k)), calFrom := s.time, lastZero := s.time }, fe := { angleSrc := s.angSrcCfg k } }
  let lim := fun (v : Nat) => min (getN d (o + 17) 1) (max (getN d (o + 16) 1) v)
  { s with gates := Vector.ofFn fun ch : Fin 28 =>
      let g := s.gate ch
      let q := if isBk ch then 4 else 0
      if chStack ch = k then
        { g with mode := if isBk ch then getN d 0 1 / 4 % 4 else getN d 0 1 % 4, noCmd := false, stepOn := lim (getN d (o + q) 1),
                 stepOff := lim (getN d (o + q + 2) 1) }
      else g }

/-- Step 5 on one enabled feedback port (R233, R249): it counts after ENC_PUP. -/
def State.sealPort (s : State) (n : Nat) : State :=
  let s := s.modPins fun p => { p with fbSup := vmod p.fbSup n fun _ => true }
  (s.modFb n fun p => { p with pup := getN (s.fbCfg n) 54 2 != 0 }).fbUnref n 6

/-- Step 5 on one enabled axis (R344). -/
def State.sealAxis (s : State) (n : Nat) : State :=
  let m := getN (s.axCfg n) 4 1
  let p := getN (s.axCfg n) 2 1
  s.modAxis n fun a =>
    { a with calFrom := s.time, cal := a.cal.map fun c => { c with ofsRun := true }, mLast := if m ≤ 5 then (s.fbPort m).count else 0, ppos := if p ≤ 5 then (s.fbPort p).count * 4294967296 else 0 }

/-- The torsion modes at SEAL (R285, R286), with TORSION_MODE where a mode leaves OFF. -/
def State.sealTorsion (s : State) : State :=
  let d := s.cfg 0x58
  let tid := (getN d 0 1).testBit 2
  let one := fun (init : Nat) =>
    let f : Rat := if init = 0 then Config.sqrt ((getN d 16 2 * getN d 18 2 : Nat) / 100) else (init : Rat) / 10
    ({ f := f, state := if tid then 1 else if init ≠ 0 then 3 else 0, rampAt := if !tid && init != 0 then some s.time else none } : TorsMode)
  let s := s.modTorsion fun t => { t with modes := #v[one (getN d 20 2), one (getN d 22 2)] }
  [0, 1].foldl (fun s k =>
    let m := vget s.torsion.modes k {}
    if m.state = 0 then s else s.torsInfo 0x8353 (le 1 (k + 1) ++ le 1 m.state ++ le 2 0 ++ le 4 (toUfix 32 0 (m.f * 1000)))) s

/-- The motion channel at SEAL (R220, R221). -/
def State.sealMotion (s : State) : State :=
  let m := s.cfg 0x14
  s.modMotion fun x =>
    { x with mode := getN m 0 1, path := getN m 1 1, limP := getN m 28 4, limN := getI m 32 4, limS := getN m 36 4, posPort := getN m 3 1 }

/-- The Kingpost with its copy of the safety blocks (R134 step 3, R325, R394): it grants once acknowledged, or at once where
neither ACK_AT_START nor an earlier latch (R25) asks for it. -/
def State.sealKingpost (s : State) : State :=
  let ack := (s.cu 0x0F00 2 1).testBit 0 || s.safety.ackOwed
  (s.modSafety fun x => { x with kpState := if x.kpState = 3 then 3 else if ack then 1 else 2, ackNeeded := ack }).releaseOv3

/-- A pair that stands open with KIND not 0 is in demand in both channels. -/
def State.sealPairs (s : State) : State :=
  let s := (List.range 8).foldl (fun s n =>
    if s.pairKind n = 0 then s else
    [Channel.drivePair, .kingpost].foldl (fun s ch =>
      let p := s.pairSt ch n
      if p.a.closed && p.b.closed then s else
      s.modPairSt ch n fun p =>
        { p with demand := true, bothLow := !p.a.closed && !p.b.closed,
                 mate := if p.a.closed == p.b.closed then none else some (if p.a.closed then .b else .a, false, s.chNow ch s.kpNow) }) s) s
  s

/-- The functions of the pairs in demand start (R380). -/
def State.startDemands (s : State) : State :=
  (List.range 8).foldl (fun s n => [Channel.drivePair, .kingpost].foldl (fun s ch =>
    if s.pairKind n != 0 && (s.pairSt ch n).demand then s.pairStart ch n else s) s) s

/-- A change of APP_MB discards the recorder ring (R444). -/
def State.sealApp (s : State) : State :=
  let mb := s.cu 0x00C0 0 4
  let s := if mb = s.app.appMb then s else
    (s.modRecorder fun r => { r with ring := [], staged := 0, trigDue := false, preKept := 0, invalid := [] }).modApp fun a => { a with appMb := mb }
  s

/-- AUTOSTART (R444). -/
def State.autostart (s : State) : State :=
  if (s.cu 0x0001 12 1).testBit 0 && (s.cu 0x00C0 4 1).testBit 0 && (s.app.state == 1 || s.app.state == 4) then s.startApp 6 else s

/-- The latch record of an observer at SEAL (R257): IDLE, counted from 0. -/
def State.sealObserver (s : State) (m : Nat) : State :=
  if (s.machine m).any s.hasObs then s.modObs m fun o => { o with latch := { o.latch with state := obsLatchState o.state } } else s

/-- Steps 4 to 6 of SEAL on blocks that pass: the log entry, the configuration applied, the carriers started, READY. (DESIGN CHOICE, assumption 30.) -/
def State.doSeal (s : State) (c : Source) : State :=
  let sfp := s.safetyPrint
  let s := if s.lastLogged = some sfp then s else s.logAppend c 1 (getN (s.blockOr 0x0F00) 0 1) sfp
  let s : State := { s.atRest with sealedCfg := some { fingerprint := s.cfgPrint, safetyFp := sfp, t0 := s.time } }
  let s := s.modSafety fun x => { x with session := none, pwLen := 0 }
  let s := s.enStacks.foldl (fun s k => s.sealStack k) s
  let s := ((List.range 6).filter s.fbEn).foldl (fun s n => s.sealPort n) s
  let s := ([0, 1, 2, 3].filter s.axEn).foldl (fun s n => s.sealAxis n) s
  let s := [0, 1, 2, 3].foldl (fun s m => s.sealObserver m) s
  let s := ((s.sealTorsion).sealMotion.sealPairs).sealApp
  let s := s.modThermal fun t => { t with k := Vector.replicate 4 1, hot := Vector.replicate 4 0, cool := Vector.replicate 4 2, crit := 0 }
  let s := s.sealKingpost.settle
  let s := if (s.cu 0x0001 11 1).testBit 1 then (s.modPair fun p => { p with leaving := false, failSeen := none }).setPair 1 else s
  s.toReady.startDemands.autostart

/-- The first safety block that the Kingpost refuses: it checks the ranges of its copy again (R134 step 3, R405). -/
def State.kpRefuses (s : State) : Option Nat :=
  (s.blocks.find? fun b => decide (0x0F00 ≤ b.1) && decide (b.1 ≤ 0x0F0F) && (safetyLayout b.1).any fun y => (y.check b.2).isSome).map (·.1)

/-- SEAL (R132, R134). -/
def opSeal (c : Source) (s : State) : Rep := match s.firstFail true, s.kpRefuses with
  | some f, _ => ⟨f.2.2, failData f, s⟩
  | none, some i => .no s eRange (failData (i, whole, eRange))
  | none, none => .ok (s.doSeal c) s.cfgPrint

/-! ### CLEAR_FAULT (R140, R249, R346, R429, R432) -/

/-- Whether the clearing condition of a held fault holds (R429, R555). (DEDUCED, assumption 74.) -/
def State.clearOk (s : State) (vinOk : Bool) (k : FaultKey) (code : Nat) : Bool :=
  match k.cls with
  | 2 | 3 | 7 | 8 | 11 => true
  | 4 => code != 0x850B && s.inPulseOff k.stack && (code != 0x8403 || vget s.thermal.cool k.stack 0 == 2)
  | 5 =>
    let y := (s.stack k.obj).sense
    s.inPulseOff k.obj && ((code != 0x8313 && code != 0x8314) || !((vget y.stuck 4 none).isSome || y.udcOver))
  | 6 => s.inPulseOff k.obj
  | 9 => (s.machine (machineOf s.arrange k.obj)).all s.inPulseOff
  | 10 => code != 0x8607 || (s.axis k.obj).state == 0 || (s.axis k.obj).state == 1 || (s.axis k.obj).state == 6
  | 13 => code != 0x8405 && s.allPulseOff && (code != 0x8121 || vinOk)
  | _ => false

/-- Whether any fault of a code is held. -/
def State.heldCode (s : State) (code : Nat) : Bool := s.faults.objs.any fun o => o.held.any (·.1 == code)

/-- Whether any fault is held on a fault object that a test accepts. -/
def State.heldOn (s : State) (f : FaultKey → Bool) : Bool := s.faults.objs.any fun o => !o.held.isEmpty && f o.key

/-- Whether VIN is at or above 16.8 V, where POWER_FAIL asks for it: the level is open (DESIGN CHOICE, assumption 3). (DESIGN CHOICE, assumption 33.) -/
def State.vinLevel (s : State) : Bool × State :=
  if s.heldCode 0x8121 then let (q, s) := s.draw; (decide (168 ≤ q), s) else (true, s)

/-- The held faults whose condition fails. -/
def State.dropClear (s : State) (vinOk : Bool) : State :=
  s.modFaults fun f => { f with objs := f.objs.map fun o => { o with held := o.held.filter fun h => !s.clearOk vinOk o.key h.1 } }

/-- The ban on image writes of POWER_FAIL ends with its held fault (R66). (DESIGN CHOICE, assumption 111.) -/
def State.endPowerFail (s : State) : State := s.modPower fun p => { p with powerFail := p.powerFail && s.heldCode 0x8121 }

/-- Lockouts of a stack in pulse-off (R159, R161): the soft turn-off complete, the comparators below threshold; what they read is open
(DESIGN CHOICE, assumption 3). -/
def State.unlockStack (s : State) (k : Nat) : State :=
  let quiet := fun (s : State) (chs : List Nat) => chs.foldl (fun (a : Bool × State) ch =>
    let (q, s) := a.2.draw
    (a.1 && (s.gate ch).out != .softOff && q % 2 == 0, s)) (true, s)
  let s := [0, 1, 2].foldl (fun s x =>
    let l := 3 * k + x
    if vget s.legLock l false then
      let (ok, s) := quiet s [2 * l, 2 * l + 1]
      if ok then { s with legLock := vmod s.legLock l fun _ => false } else s
    else s) s
  if vget s.bkLock k false then
    let (ok, s) := quiet s [24 + k]
    if ok then { s with bkLock := vmod s.bkLock k fun _ => false } else s
  else s

/-- What CLEAR_FAULT ends on a stack in pulse-off (R159, R179, R185, R186, R329). (DESIGN CHOICE, assumption 33.) -/
def State.clearStack (s : State) (k : Nat) : State :=
  if !s.inPulseOff k then s else
  let s := s.modStack k fun x =>
    { x with chop := { x.chop with isOpen := false },
             sense := { x.sense with failed := none, dcFailed := false, undecided := false, sumFailed := false, decide := false, pending := none,
                                     udcLost := x.sense.udcLost && ((vget x.sense.stuck 4 none).isSome || x.sense.udcOver) } }
  s.unlockStack k

/-- What CLEAR_FAULT ends on a machine in pulse-off (R258, R274): the replaced angle source, a failed observer. -/
def State.clearMachine (s : State) (m : Nat) : State :=
  let ks := s.machine m
  if ks = [] ∨ machineOf s.arrange m ≠ m ∨ !ks.all s.inPulseOff then s else
  let swapped := ks.any fun k => (s.stack k).fe.angleSrc != s.angSrcCfg k
  let s := ks.foldl (fun s k => s.modStack k fun x => { x with fe := { x.fe with angleSrc := s.angSrcCfg k } }) s
  let s := if swapped then s.modMotion fun x => { x with posPort := s.cu 0x14 3 1 } else s
  if (s.observer m).state = 7 then s.setObs m 0 else s

/-- What CLEAR_FAULT does to a feedback port (R249). -/
def State.clearPort (s : State) (n : Nat) : State :=
  let p := s.fbPort n
  if p.state = 4 ∧ !s.heldOn (fun k => k.cls == 2 && k.obj == n) ∧ s.fbGood n then s.fbUnref n 5
  else if p.state = 3 ∧ !s.heldOn (fun k => k.cls == 3 && k.obj == n) then s.setFb n 2 5
  else s

/-- What CLEAR_FAULT does to an axis (R346, R363). (DEDUCED, assumption 74.) -/
def State.clearAxis (s : State) (n : Nat) : State :=
  let st := (s.axis n).state
  let s := if st = 0 ∨ st = 1 ∨ st = 6 then s.modAxis n fun a => { a with sw := a.sw.map fun w => { w with faulty := false } } else s
  if st = 6 ∧ !s.heldOn (fun k => k.cls == 10 && (k.obj == n || k.obj == 255)) then s.setAx n 0 else s

/-- Whether a held fault keeps a stop reaction on stack `k`. -/
def State.stackHeld (s : State) (k : Nat) : Bool :=
  s.heldOn fun f =>
    ((f.cls == 4 || f.cls == 5 || f.cls == 6 || f.cls == 7) && f.stack == k) || (f.cls == 9 && machineOf s.arrange f.obj == machineOf s.arrange k) ||
    f.cls == 8 || f.cls == 11 || (f.cls == 2 && (s.stack k).fe.angleSrc == f.obj)

/-- In RUN and SHELTER a stack whose held faults have all been cleared takes part again at its next carrier zero (R432). -/
def State.rejoin (s : State) (k : Nat) : State :=
  let x := s.stack k
  if (s.dev = .run ∨ s.dev = .shelter) ∧ s.motion.stop.isNone ∧ x.stop.kind ≠ .none ∧ x.stop.cause ≠ 0 ∧
      !(s.col.suspend && x.stop.cause == 0x8805) ∧ !s.stackHeld k then s.modStack k fun x => { x with release := true }
  else s

/-- FAULT is left when nothing of classes 2 to 11 and 13 is held (R140). -/
def State.leaveFault (s : State) : State :=
  if s.dev ≠ .fault ∨ s.blocking ∨ s.fatal then s else
  let s := s.modFaults fun f => { f with entry := false }
  if s.sealedCfg.isSome then s.toReady.safetyDev else s.setDev .unconfigured

/-- Every held fault whose condition holds is cleared, with what follows. -/
def State.clearFaults (s : State) : State :=
  let (vin, s) := s.vinLevel
  let s := (s.dropClear vin).endPowerFail
  let s := s.enStacks.foldl (fun s k => s.clearStack k) s
  let s := [0, 1, 2, 3].foldl (fun s m => s.clearMachine m) s
  let s := ((List.range 6).filter s.fbEn).foldl (fun s n => s.clearPort n) s
  let s := s.modAux fun a => { a with busOv := a.busOv && s.heldCode 0x8603 }
  let s := ([0, 1, 2, 3].filter s.axEn).foldl (fun s n => s.clearAxis n) s
  (s.enStacks.foldl (fun s k => s.rejoin k) s).leaveFault.settle

/-- A held fault as CLEAR_FAULT names it. -/
def faultData (k : FaultKey) : Bytes := le 1 k.cls ++ le 1 k.level ++ le 1 k.obj ++ le 1 0

/-- CLEAR_FAULT (R432). -/
def opClearFault (s : State) : Rep :=
  match s.heldFaults.find? fun x => x.1.cls == 14 with
  | some x => .no s eState (faultData x.1)
  | none =>
    let s := s.clearFaults
    .ok s (match s.heldFaults.head? with | some x => faultData x.1 | none => zeros 4)

/-! ### ENABLE and UNSEAL (R138, R139) -/

/-- Whether a condition that clears itself is pending on a stack (R161, R324, R431). -/
def State.pendingFault (s : State) (k : Nat) : Bool :=
  (s.stack k).chop.uv || ([6 * k, 6 * k + 1, 6 * k + 2, 6 * k + 3, 6 * k + 4, 6 * k + 5, 24 + k].any fun c => (s.gate c).uvPos || (s.gate c).uvNeg)

/-- Whether ENABLE is accepted in READY (R138). -/
def State.mayEnable (s : State) : Bool :=
  !s.heldOn (fun _ => true) && s.safety.fns.isEmpty && s.enStacks.all fun k => s.kpGrants k && !s.pendingFault k

/-- Step 1 of R138: gate enable is requested, RUN; a brake begins the sequence of R386, a standby device holds its stacks (R469). -/
def State.doEnable (s : State) : State :=
  let s := s.modSafety fun x => { x with request := s.enMask }
  let s := s.enStacks.foldl (fun s k => s.modStack k fun x =>
    { x with stop := {}, release := false, fw := if s.pair.standby then .pulseOff else .none, fe := x.fe.force { x.fe.newest with switch := true } }) s
  let s := s.modMotion fun m => { m with brakeHold := if s.brakesInUse = [] then none else some s.time }
  (s.setDev .run).settle

/-- ENABLE. -/
def opEnable (s : State) : Rep := if s.mayEnable then .ok s.doEnable else .no s eState

/-- Whether UNSEAL is accepted (R139). (DEDUCED, assumption 101.) -/
def State.mayUnseal (s : State) (vinOk : Bool) : Bool :=
  s.col.state == 0 && ([0, 1, 2, 3].all fun n => (s.axis n).state == 0 || (s.axis n).state == 1 || (s.axis n).state == 6) &&
  (s.dev != .fault || s.faults.objs.all fun o => o.held.all fun h => s.clearOk vinOk o.key h.1)

/-- UNSEAL takes effect (R139). (DESIGN CHOICE, assumption 32.) -/
def State.doUnseal (s : State) : State :=
  let s := if s.dev = .fault then s.modFaults fun f => { f with entry := false, objs := f.objs.map fun o => { o with held := [] } } else s
  let s := if s.pair.state = 0 then s else (s.modPair fun p => { p with leaving := true, query := none, standby := false, held := [], heldAt := none }).setPair 0
  let s := (List.range 6).foldl (fun s n => s.setFb n 0 7) s
  let s := [0, 1, 2, 3].foldl (fun s m => s.setObs m 0) s
  let s := [0, 1, 2, 3].foldl (fun s n => (s.setAx n 0).axOut n) s
  let s := (s.atRest.modSafety fun x => { x with kpState := if x.kpState = 3 then 3 else 0 }).setBrakes [0, 1]
  let s := s.modPins fun p => { p with fbSup := Vector.replicate 6 false }
  ({ s with sealedCfg := none }.setDev .unconfigured).settle

/-- UNSEAL. -/
def opUnseal (s : State) : Rep :=
  let (vin, s') := if s.dev = .fault then s.vinLevel else (true, s)
  if s'.mayUnseal vin then .ok s'.doUnseal else .no s' eState

/-! ### The rows -/

/-- WRITE_BLOCK (R128). -/
def execWriteBlock (t : Tick) (c : Source) (q : Nat) (p : Bytes) (s : State) := runOp t c 0x0200 q p (opWriteBlock p) s
/-- READ_BLOCK (R131). -/
def execReadBlock (t : Tick) (c : Source) (q : Nat) (p : Bytes) (s : State) := runOp t c 0x0201 q p (opReadBlock p) s
/-- CHECK (R133). -/
def execCheck (t : Tick) (c : Source) (q : Nat) (p : Bytes) (s : State) := runOp t c 0x0202 q p opCheck s
/-- SEAL (R134). -/
def execSealConfig (t : Tick) (c : Source) (q : Nat) (p : Bytes) (s : State) := runOp t c 0x0203 q p (opSeal c) s
/-- UNSEAL (R139). -/
def execUnsealConfig (t : Tick) (c : Source) (q : Nat) (p : Bytes) (s : State) := runOp t c 0x0204 q p opUnseal s
/-- GET_FINGERPRINT (R136). -/
def execGetFingerprint (t : Tick) (c : Source) (q : Nat) (p : Bytes) (s : State) := runOp t c 0x0205 q p opGetFingerprint s
/-- ENABLE (R138). -/
def execEnable (t : Tick) (c : Source) (q : Nat) (p : Bytes) (s : State) := runOp t c 0x0300 q p opEnable s
/-- CLEAR_FAULT (R432). -/
def execClearFault (t : Tick) (c : Source) (q : Nat) (p : Bytes) (s : State) := runOp t c 0x0307 q p opClearFault s

end Sys2Proof.Machine
end

