-- ==== Sys2Proof/Machine/Watch.lean ====
section
/-! DEFINITION. Sleep and wake (R79 to R86, R141, R252): the ENTER_WATCH command, the entry sequence, the wake sources and the wake sequence. -/
namespace Sys2Proof.Machine

/-! ### Entry (R81, R82) -/

/-- Whether ENTER_WATCH is accepted in READY (R81). (DEDUCED, assumption 101.) -/
def State.mayWatch (s : State) : Bool :=
  s.allPulseOff && s.col.state == 0 && ([0, 1, 2, 3].all fun n => (s.axis n).state == 0 || (s.axis n).state == 6) && s.upd.session == 0 &&
    s.app.state != 2

/-- Cyclic exchange of a source disabled (R109, R141). -/
def State.cyclicOff (s : State) (c : Source) : State :=
  if !(s.port c).cyclic.enabled then s else
  s.modPort c fun p => { p with cyclic := { p.cyclic with enabled := false, held := none, rejected := none, offSince := s.time } }

/-- What step 1 of R82 does: ownership and cyclic exchange end, user frames return with status 3, a binding ends, network time is no longer valid,
the pair link says LEAVING (R141, R489, R504, R509, R516); recording stops (R464). (DESIGN CHOICE, assumption 36.) -/
def State.watchStep1 (s : State) : State :=
  let s := match s.owner with | some c => s.dropOwner c | none => s
  let s := [Source.host, .app, .alcia, .service].foldl State.cyclicOff s
  let s := ((s.returnUsers 0 3).returnUsers 1 3).unbind
  let s := s.timeInvalid ((s.rolePort false).getD 0)
  let s := if s.pair.state = 0 then s else s.modPair fun p => { p with leaving := true, query := none }
  if s.recorder.state = 1 ∨ s.recorder.state = 2 then s.recState 3 4 else s

/-- ENTER_WATCH. -/
def opEnterWatch (s : State) : Rep :=
  if s.mayWatch then .ok (s.watchStep1.modWatch fun w => { w with entry := some s.time, waking := none }) else .no s eState

/-- ENTER_WATCH (R81). -/
def execEnterWatch (t : Tick) (c : Source) (q : Nat) (p : Bytes) (s : State) := runOp t c 0x0107 q p opEnterWatch s

/-- The first step of R84: the sensor supplies of the enabled ports return, with ENC_PUP from then (R252). -/
def State.wakeStep1 (s : State) : State :=
  ((List.range 6).filter s.fbEn).foldl (fun s n =>
    (s.modPins fun p => { p with fbSup := vmod p.fbSup n fun _ => true }).modFb n fun f => { f with pup := getN (s.fbCfg n) 54 2 != 0 }) s

/-- WATCH_ENTRY_COMPLETE (R82): the flushes are complete, the clocks stop, sensor supplies switch off and the transceivers stand by; a wake event kept
during the entry begins the wake at once (R83). (DESIGN CHOICE, assumption 35.) (DESIGN CHOICE, assumption 36.) -/
def execWatchEntryComplete (t : Tick) (s : State) : Host.Outcome State Fault Refusal :=
  let s := s.upTo t
  .next <| if s.watch.entry.isNone ∨ !s.up then s else
    let s := (s.flushHist.sysXfer 8 9 s.recorder.staged).modRecorder fun r => { r with staged := 0 }
    let s := s.modPins fun p =>
      { p with dsck := false, fbSup := Vector.replicate 6 false, alStb := Vector.replicate 2 true, miso := [], svtx := [] }
    let s := (s.modPair fun p => { p with out := [] }).modCol fun c => { c with out := [] }
    let s := s.modWatch fun w => { w with entry := none, srefEntry := s.sref.mv, srefMv := s.sref.mv }
    let s : State := { s with dev := .watch }
    if s.watch.waking.isSome then s.wakeStep1 else s

/-! ### Wake (R83, R84) -/

/-- Whether a wake source is enabled (R83). (DESIGN CHOICE, assumption 39.) -/
def State.wakeEnabled (s : State) (w : WakeSource) : Bool :=
  let word := s.cu 1 4 1
  match w with
  | .hcs | .safetyInput => true
  | .al0 => word.testBit 0
  | .al1 => word.testBit 1
  | .sref => word.testBit 2 && s.cu 0x14 40 1 != 0

/-- A wake source fires: in WATCH the wake begins, during the entry it is kept (R83); the first one counts. (DESIGN CHOICE, assumption 35.) -/
def State.wake (s : State) (w : WakeSource) : State :=
  if !s.wakeEnabled w ∨ s.watch.waking.isSome then s
  else if s.dev = .watch then (s.modWatch fun x => { x with waking := some w }).wakeStep1
  else if s.watch.entry.isSome then s.modWatch fun x => { x with waking := some w }
  else s

/-- WAKE_EVENT (R83). -/
def execWakeEvent (t : Tick) (w : WakeSource) (s : State) : Host.Outcome State Fault Refusal := .next ((s.upTo t).wake w)

/-- WATCH_SREF_SAMPLE (R83): every 10 ms a voltage is compared with the one at entry, the edges of a pulse signal are counted. (DESIGN CHOICE, assumption 39.) -/
def execWatchSrefSample (t : Tick) (mv : Int) (edges : Nat) (s : State) : Host.Outcome State Fault Refusal :=
  let s := s.upTo t
  let mode := s.cu 0x14 40 1
  .next <| if s.dev ≠ .watch then s else
    let s := s.modWatch fun w => { w with srefMv := mv }
    let hit := if mode = 1 ∨ mode = 2 then decide (50 * s.cu 1 5 1 < (mv - s.watch.srefEntry).natAbs)
      else (mode == 3 || mode == 4) && decide (4 ≤ edges)
    if hit then s.wake .sref else s

/-- The wake event's source byte (R435). -/
def wakeCode : WakeSource → Nat
  | .hcs => 0 | .safetyInput => 1 | .al0 => 2 | .al1 => 3 | .sref => 4

/-- Device time on wake (R32): the value at entry plus the sleep duration in ticks, rounded down. -/
def wakeTime (entry cycles : Nat) : Nat := entry + cycles * 100000000 / 32768

/-- A feedback port on wake (R252): it goes on from its count in UNREF; what its inputs did in WATCH is not counted. (DESIGN CHOICE, assumption 37.) -/
def State.wakePort (s : State) (n : Nat) : State :=
  let s := s.modFb n fun p =>
    { p with edges := [], lastEdge := none, hall := none, tRef := none, refNext := false, refDue := none, gapHi := none, turned := false,
             qcPreset := false, serialAny := true }
  if (s.fbPort n).state = 0 ∨ (s.fbPort n).state = 4 then s else s.fbUnref n 4

/-- The state at step 5: READY, SAFE_STOP where a safety function became active (R85), FAULT where a fault that blocks READY is held (R431). (DEDUCED, assumption 38.) -/
def State.wakeDev (s : State) : State :=
  if s.blocking ∨ s.fatal then s.setDev .fault else s.toReady.safetyDev

/-- WAKE_COMPLETE (R84): device time resumes and the carriers restart from zero, the ports resume, and WAKE tells source, oscillator and duration. (DESIGN CHOICE, assumption 37.) -/
def execWakeComplete (t : Tick) (sleepCycles : Nat) (s : State) : Host.Outcome State Fault Refusal :=
  .next <| match s.watch.waking with
    | none => s
    | some w =>
      if s.dev ≠ .watch then s else
      let t0 := wakeTime s.time sleepCycles
      let s : State := { s with time := max t0 t, stamp := max t0 t, sealedCfg := s.sealedCfg.map fun c => { c with t0 := t0 } }
      let s := s.modWatch fun x => { x with entry := none, waking := none, listenFrom := s.time }
      let s := (s.modPower fun p => { p with pllBLost := false, ddrLost := false }).modSafety fun x => { x with wdLast := s.kpNow, wdServed := false, dpSpeedAt := s.time, xcSince := none }
      let s := s.enStacks.foldl (fun s k => s.modStack k fun x =>
        { x with sense := { x.sense with lastZero := t0 }, fe := { x.fe with judged := none, cycles := 0, cmpNext := [] },
                 chop := { x.chop with below := none, above := none, hist := [] } }) s
      let s := s.modPins fun p =>
        { p with dsck := true, alStb := #v[(s.alPort 0).state == 0, (s.alPort 1).state == 0] }
      let s := (s.modPair fun p => { p with leaving := false }).modSref fun x =>
        { x with lastEdge := s.time, lastRise := none, lastFall := none, lowSince := none, badSince := none, quiet := none }
      let s := s.modThermal fun x => { x with acc := x.acc.map fun a => { a with last := s.time } }
      let s := ((List.range 6).filter s.fbEn).foldl (fun s n => s.wakePort n) s
      s.wakeDev.aonReport.info 0x8124 2 0 (le 1 (wakeCode w) ++ le 1 (b2n (!s.power.xtalOk)) ++ zeros 2 ++ le 4 (satN 4 sleepCycles))

/-- WAKE_TIMEOUT (R84): RESET with WAKEF. -/
def execWakeTimeout (t : Tick) (s : State) : Host.Outcome State Fault Refusal :=
  let s := s.upTo t
  .next <| if s.dev = .watch ∧ s.watch.waking.isSome then s.enterReset 512 else s

end Sys2Proof.Machine
end

