-- ==== Sys2Proof/Machine/HostPort.lean ====
section
/-! DEFINITION. Command transport (R87 to R112, R446, R447, R537, R546): windows of the host port, packets of the service port and of the internal
port, cyclic process data, and the registers a program writes. -/
namespace Sys2Proof.Machine

/-! ### From opcode to handler (R113) -/

/-- What an opcode that has passed the checks 1 to 13 does; the update opcodes go their own way (R538). -/
def handler (c : Source) (seq op : Nat) (p : Bytes) : State → Rep := match op with
  | 0x0100 => opNop p | 0x0101 => opIdentify | 0x0102 => opResetDevice c p | 0x0103 => opTakeOwnership c seq p
  | 0x0104 => opReleaseOwnership | 0x0105 => opReadEvents c p | 0x0106 => opAckEvents c p | 0x0107 => opEnterWatch
  | 0x0108 => opSetCyclic c p | 0x0109 => opGetTime
  | 0x0200 => opWriteBlock p | 0x0201 => opReadBlock p | 0x0202 => opCheck | 0x0203 => opSeal c | 0x0204 => opUnseal
  | 0x0205 => opGetFingerprint
  | 0x0300 => opEnable | 0x0301 => opDisable p | 0x0302 => opSetMode c p | 0x0303 => opSetTorque p | 0x0304 => opSetSpeed p
  | 0x0305 => opSetPosition p | 0x0306 => opSetLimits p | 0x0307 => opClearFault | 0x0308 => opCalibration p
  | 0x0400 => opGetState c | 0x0401 => opGetMeasurements p | 0x0402 => opGetFaults | 0x0403 => opReadFaultHistory p
  | 0x0404 => opGetCounters | 0x0405 => opGetTemperatures
  | 0x0500 => opSafetyLogin c p | 0x0501 => opSafetyLogout c | 0x0502 => opWriteSafetyBlock c p | 0x0503 => opReadSafetyLog p
  | 0x0504 => opAckSafetyLog p | 0x0505 => opGetSafetyStatus | 0x0506 => opRequestSafetyFunction p | 0x0507 => opChangePassword c p
  | 0x0600 => opAxisMove p | 0x0601 => opAxisStop p | 0x0602 => opAxisHome p | 0x0603 => opGearSet p | 0x0604 => opGearEvent p
  | 0x0605 => opAxisStatus p
  | 0x0700 => opRecorderSetup p | 0x0701 => opRecorderArm | 0x0702 => opRecorderRead p | 0x0703 => opRecorderTrigger
  | 0x0704 => opAppControl p | 0x0705 => opAppMessage p
  | 0x0800 => opColonnadeJoin p | 0x0801 => opColonnadeLeave | 0x0802 => opColonnadeStatus | 0x0803 => opPairStatus
  | 0x0804 => opNetworkStatus p | 0x0805 => opAlciaSend c p
  | 0x0900 => opUpdateStatus | 0x0901 => opUpdateConfirm p
  | _ => fun s => .no s eOpcode

/-- A packet that has passed the checks 1 to 8 with its credit taken. -/
def State.dispatch (s : State) (c : Source) (op seq : Nat) (p : Bytes) : State :=
  if 0x0902 ≤ op ∧ op ≤ 0x0906 then s.carryUpd c op seq p else s.carryOut c op seq p (handler c seq op p)

/-! ### The transport checks (R97) -/

/-- Whether the header received marks a cyclic packet (R94). -/
def isCyc (w : Bytes) : Bool := getN w 1 1 % 2 == 1

/-- Checks 3 to 8 on a window's bytes: the status of the first that fails, or opcode and payload. `cut`: the window ends within a byte; `cyc`: the
length of the source's cyclic window. -/
def transport (w : Bytes) (cut : Bool) (cyc : Option Nat) : Nat ⊕ (Nat × Bytes) :=
  let n := getN w 6 2
  let op := getN w 2 2
  if w.length < 8 then .inl eFrame
  else if 4096 < n then .inl eLength
  else if w.length < 12 + n ∨ cut ∨ (w.drop (12 + n)).any (· != 0) ∨ (isCyc w ∧ cyc.any (· != w.length)) then .inl eFrame
  else if (crc32c (w.take (8 + n))).toNat ≠ getN w (8 + n) 4 then .inl eCrc
  else if 2 ≤ getN w 1 1 then .inl eRange
  else if (opInfo op).isNone ∨ isCyc w ≠ (op == 0x0310) then .inl eOpcode
  else .inr (op, (w.drop 8).take n)

/-! ### Cyclic packets (R107 to R112) -/

/-- The newest complete cyclic reply of a source (R107). -/
def State.cyclicReply (s : State) (c : Source) (seq status : Nat) (done : Bool) : State :=
  let r : Reply := { cyc := true, nc := true, status := status, seq := seq, data := s.cyclicData c done, queued := s.time }
  let s := s.modPort c fun p =>
    { p with cyclic := { p.cyclic with reply := some r, replyPrev := p.cyclic.reply, fresh := true, superseded := 0 } }
  if c = .app then s.modApp fun a => { a with cycReply := r.bytes, cycCount := (a.cycCount + 1) % 4294967296 } else s

/-- A cyclic packet rejected (R97, R109): it is answered with its code, and its interval counts as missed. (DESIGN CHOICE, assumption 20.) -/
def State.rejectCyc (s : State) (c : Source) (seq status : Nat) : State :=
  let s := s.countReject.modPort c fun p => { p with cyclic := { p.cyclic with rejected := some (seq, status) } }
  s.cyclicReply c seq status false

/-- Check 14 of a cyclic packet (R110, R111). -/
def cycFieldsOk (p : Bytes) : Bool :=
  decide (getN p 0 2 < 16) && decide (getN p 2 1 ≤ 2) && getN p 3 1 == 0 && decide (0 ≤ getI p 20 4) && decide (getI p 24 4 ≤ 0) &&
    decide (0 ≤ getI p 28 4) && (p.drop 56).all (· == 0)

/-- A cyclic packet that has passed the checks 1 to 8: checks 9 to 14, then it is held for its latch tick; an earlier one of the interval is
superseded (R108). (DESIGN CHOICE, assumption 20.) (DESIGN CHOICE, assumption 22.) -/
def State.cyclicIn (s : State) (c : Source) (seq : Nat) (p : Bytes) (stamp : Tick) : State :=
  let s := s.noteRecv c
  match s.objection 0x0310 c p with
  | some (st, _) => s.rejectCyc c seq st
  | none =>
    if !(s.port c).cyclic.enabled then s.rejectCyc c seq eState
    else if !cycFieldsOk p then s.rejectCyc c seq eRange
    else
      let again := (s.port c).cyclic.held.isSome
      let s := if again then s.modCounters fun k => { k with superseded := satN 4 (k.superseded + 1) } else s
      s.modPort c fun x =>
        { x with cyclic := { x.cyclic with held := some (stamp, seq, p), superseded := if again then x.cyclic.superseded + 1 else x.cyclic.superseded } }

/-- A window with a packet on a source: a cyclic packet without credits, any other against one (R97, R98). -/
def State.packetIn (s : State) (c : Source) (w : Bytes) (cut : Bool) (cyc : Option Nat) (stamp : Tick) : State :=
  let s := s.countPacket
  let seq := getN w 4 2
  if isCyc w then
    match transport w cut cyc with
    | .inl st => s.rejectCyc c seq st
    | .inr (_, p) => s.cyclicIn c seq p stamp
  else if (s.port c).credits = 0 then s.overCredit c seq
  else
    let s := s.takeCredit c
    match transport w cut cyc with
    | .inl st => s.reject c seq st
    | .inr (op, p) => s.dispatch c op seq p

/-- What a packet's control word does at its latch tick (R111), with the status of its reply: ENABLE by its change from the packet applied before,
a stop that is not in force yet, CLEAR by its change between two packets. (DESIGN CHOICE, assumption 21.) -/
def State.ctrlWord (s : State) (prev : Option Bytes) (p : Bytes) : Nat × State :=
  let bit := fun (b : Bytes) (i : Nat) => (getN b 0 2).testBit i
  let was := prev.any fun b => bit b 0
  let (st, s) :=
    if bit p 1 then (0, if s.motion.stop.any (·.quick) then s else s.startStop true 0)
    else if !bit p 0 then (0, if s.motion.stop.isSome then s else s.startStop false 0)
    else if !was && s.dev == .ready then let r := opEnable s; (r.status, r.st)
    else (0, s)
  if bit p 2 && prev.any fun b => !bit b 2 then
    let r := opClearFault s
    (if st = 0 then r.status else st, r.st)
  else (st, s)

/-- A held packet is applied (R108). (DESIGN CHOICE, assumption 20.) (DESIGN CHOICE, assumption 21.) (DESIGN CHOICE, assumption 23.) -/
def State.latchApply (s : State) (c : Source) (seq : Nat) (p : Bytes) : State :=
  let prev := (s.port c).cyclic.applied
  let s := s.modPort c fun x => { x with cyclic := { x.cyclic with applied := some p, lastSeq := seq, missed := 0 } }
  let s := s.modApp fun a => { a with appBytes := (p.drop 48).take 8 }
  let s := if s.motion.path = 1 ∨ s.motion.modeNext.any (·.2 == 1) then s.modMotion fun m =>
      { m with posSet := some (getI p 12 8), limP := getI p 20 4, limN := getI p 24 4, limS := getI p 28 4 } else s
  let (st, s) := s.ctrlWord prev p
  s.cyclicReply c seq st true

/-- A missed cycle (R109): CYCLIC_MISS, at CYC_MISS of them CYCLIC_LOST and the loss of ownership; a packet that found its source without ownership
at the latch tick is answered E_LOCKED. (DESIGN CHOICE, assumption 20.) -/
def State.latchMiss (s : State) (c : Source) (rejected : Option (Nat × Nat)) : State :=
  let n := (s.port c).cyclic.missed + 1
  let s := s.modPort c fun x => { x with cyclic := { x.cyclic with missed := n } }
  let s := (s.modCounters fun k => { k with missed := satN 4 (k.missed + 1) }).raise 0x8103 2 (sourceId c) []
  let s := if n = (s.port c).cyclic.missMax then (s.raise 0x8104 2 (sourceId c) []).loseOwner c else s
  match rejected with
  | some (q, st) => s.cyclicReply c q st false
  | none => s

/-- Whether `t` is a latch tick of a source's exchange (R108). (DESIGN CHOICE, assumption 22.) -/
def State.latchTick (s : State) (c : Source) (t : Tick) : Bool :=
  let x := (s.port c).cyclic
  match s.sealedCfg with
  | some k => x.enabled && decide (x.lastLatch < t) && decide (k.t0 + x.offset ≤ t) && (t - k.t0 - x.offset) % s.ctrlCycle == 0
  | none => false

/-- CYCLIC_LATCH (R97, R108, R109): the last valid packet of the interval is applied; an interval without one, or with a rejected one, counts as
missed. (DESIGN CHOICE, assumption 20.) -/
def execCyclicLatch (t : Tick) (c : Source) (s : State) : Host.Outcome State Fault Refusal :=
  let s := s.upTo t
  .next <| if !(s.up && !s.linkHalted && s.latchTick c t) then s else
    let x := (s.port c).cyclic
    let s := s.modPort c fun p => { p with cyclic := { p.cyclic with lastLatch := t, rejected := none } }
    match x.held with
    | none => s.latchMiss c none
    | some (u, q, p) =>
      if t < u then s.latchMiss c none else
      let s := s.modPort c fun p => { p with cyclic := { p.cyclic with held := none } }
      if s.owner = some c then (if x.rejected.isSome then s.latchMiss c none else s).latchApply c q p else s.latchMiss c (some (q, eLocked))

/-! ### Windows of the host port (R87 to R92) -/

/-- What HMISO carries in a window of `n` bytes: the status word, then the reply, then zeros (R90). -/
def misoBytes (n status : Nat) (r : Option Reply) : Bytes := fit n (le 4 status ++ match r with | some x => x.bytes | none => [])

/-- Whether a window that began at `b` is taken: not one that began before step 5 of a wake (R85). -/
def State.hears (s : State) (b : Tick) : Bool := s.listens && decide (s.watch.listenFrom ≤ b)

/-- The port status word of a window that began at `b` (R90). -/
def State.statusAt (s : State) (b : Tick) : Nat := (s.asOf .host b).statusWord .host

/-- A discarded window still carries the status word, while the host port runs (R85, R90, R114). -/
def State.deafWindow (s : State) (n : Nat) (b : Tick) : State :=
  s.modPins fun p => { p with miso := if s.driving then misoBytes n (s.statusAt b) none else [] }

/-- The end of a window of `n` bytes that began at `b`, in which the oldest reply of then was sent: delivered once its last CRC byte has been
clocked out (R90, R91). -/
def State.hostDeliver (s : State) (n : Nat) (b : Tick) : State :=
  match (s.port .host).replies with
  | r :: _ => if r.queued ≤ b ∧ 4 + r.bytes.length ≤ n then s.deliver .host else s
  | [] => s

/-- A window that sends the oldest reply queued as it began. -/
def State.replyWindow (s : State) (n : Nat) (b : Tick) : State :=
  let m := misoBytes n (s.statusAt b) ((s.asOf .host b).port .host).replies.head?
  (s.hostDeliver n b).modPins fun p => { p with miso := m }

/-- A cyclic window sends the newest cyclic reply complete as it began (R90, R107). -/
def State.cyclicWindow (s : State) (n : Nat) (b : Tick) : State :=
  let x := (s.port .host).cyclic
  let newest := x.reply.all fun r => decide (r.queued ≤ b)
  let m := misoBytes n (s.statusAt b) (if newest then x.reply else x.replyPrev)
  let s := if 80 ≤ n ∧ newest then s.modPort .host fun p => { p with cyclic := { p.cyclic with fresh := false } } else s
  s.modPins fun p => { p with miso := m }

/-- A discarded window or byte (R89, R447, R537). -/
def State.hostSync (s : State) (c : Source) : State :=
  (s.modCounters fun k => { k with hostSync := satN 4 (k.hostSync + 1) }).info 0x8101 2 (sourceId c) []

/-- PACKET_WINDOW (R89): the delivery first, then the packet (R98). -/
def execPacketWindow (a : WindowAt) (rest : Bytes) (cut : Bool) (s : State) : Host.Outcome State Fault Refusal :=
  let s := s.upTo a.t
  let w := 0xB5#8 :: rest
  .next <| if !s.hears a.fall then s.deafWindow w.length a.fall else
    (if isCyc w then s.cyclicWindow w.length a.fall else s.replyWindow w.length a.fall).packetIn .host w cut (some 80) s.stamp

/-- POLL_WINDOW (R89). -/
def execPollWindow (a : WindowAt) (len : Nat) (s : State) : Host.Outcome State Fault Refusal :=
  let s := s.upTo a.t
  .next <| if !s.hears a.fall then s.deafWindow len a.fall else s.replyWindow len a.fall

/-- REPEAT_WINDOW (R91). -/
def execRepeatWindow (a : WindowAt) (len : Nat) (s : State) : Host.Outcome State Fault Refusal :=
  let s := s.upTo a.t
  .next <| if !s.hears a.fall then s.deafWindow len a.fall else
    let m := misoBytes len (s.statusAt a.fall) (s.port .host).delivered
    s.modPins fun p => { p with miso := m }

/-- DISCARDED_WINDOW (R89). -/
def execDiscardedWindow (a : WindowAt) (first : Byte) (len : Nat) (s : State) : Host.Outcome State Fault Refusal :=
  let s := s.upTo a.t
  .next <| if !s.hears a.fall then s.deafWindow len a.fall
    else if first = 0xB5 ∨ first = 0x00 ∨ first = 0x3C then s else (s.deafWindow len a.fall).hostSync .host

/-- CYCLIC (R107, R108): a packet of opcode 0x0310 in the cyclic window of its source; a payload of another length does not fit that window, where
the source has one. -/
def execCyclic (t : Tick) (c : Source) (seq : Nat) (p : Bytes) (s : State) : Host.Outcome State Fault Refusal :=
  let s := s.upTo t
  .next <| if !s.listens then s else
    let s := (if c = .host then s.cyclicWindow (p.length + 16) t else s).countPacket
    if p.length ≠ 64 ∧ c ≠ .service then s.rejectCyc c seq eFrame else s.cyclicIn c seq p s.stamp

/-! ### The service port (R537, R546) -/

/-- SERVICE_PORT_PACKET (R537). -/
def execServicePortPacket (t : Tick) (rest : Bytes) (s : State) : Host.Outcome State Fault Refusal :=
  let s := s.upTo t
  .next <| if !s.listens then s else s.packetIn .service (0xB5#8 :: rest) false none s.stamp

/-- SERVICE_PACKET_GAP (R537): the packet is not complete and fails check 5, unless an earlier check fails. -/
def execServicePacketGap (t : Tick) (rest : Bytes) (s : State) : Host.Outcome State Fault Refusal :=
  let s := s.upTo t
  let w := 0xB5#8 :: rest
  .next <| if !s.listens ∨ (8 ≤ w.length ∧ 12 + getN w 6 2 ≤ w.length) then s else s.packetIn .service w true none s.stamp

/-- SERVICE_REPLY_SENT (R537): the reply is delivered; a rate of UPDATE_OFFER applies from the reply it waits for on (R539). -/
def execServiceReplySent (t : Tick) (s : State) : Host.Outcome State Fault Refusal :=
  let s := s.upTo t
  .next <| match s.listens, (s.port .service).replies with
    | true, r :: _ =>
      let s := (s.deliver .service).modPins fun p => { p with svtx := r.bytes }
      match s.upd.baudNext with
      | some (b, some q) => if r.queued = q then s.modUpd fun u => { u with baud := b, baudNext := none } else s
      | _ => s
    | _, _ => s

/-- SERVICE_BYTE_OUTSIDE_PACKET (R537). -/
def execServiceByteOutsidePacket (t : Tick) (s : State) : Host.Outcome State Fault Refusal :=
  let s := s.upTo t
  .next <| if s.listens then s.hostSync .service else s

/-- The reply to a recovery frame that its transport fails. -/
def State.rejectSill (s : State) (seq status : Nat) : State :=
  (s.queueReply .service { status := status, seq := seq, sill := true }).countReject

/-- SILL_RECOVERY_FRAME (R546): the layout and the checks of a packet with SYNC 0xA5. -/
def execSillRecoveryFrame (t : Tick) (rest : Bytes) (s : State) : Host.Outcome State Fault Refusal :=
  let s := s.upTo t
  let w := 0xA5#8 :: rest
  let seq := getN w 4 2
  .next <| if s.dev ≠ .sill ∨ !s.listens then s else
    let s := s.countPacket
    if (s.port .service).credits = 0 then s.overCredit .service seq
    else
      let s := s.takeCredit .service
      match transport w false none with
      | .inl st => s.rejectSill seq st
      | .inr (op, p) => s.sillCommand op seq p

/-! ### The internal port (R446, R447) -/

/-- Bytes stored into a slot, which grows as needed. -/
def storeAt (b : Bytes) (off : Nat) (v : Bytes) : Bytes := putB (fit (max b.length (off + v.length)) b) off v

/-- A doorbell write: COUNT bytes of a slot as one window; what lies behind the bytes written reads as 0. (DESIGN CHOICE, assumption 18.) -/
def State.doorbell (s : State) (v : Nat) : State :=
  let slot := bitsN v 3 0
  let n := bitsN v 20 8
  if 8 < slot ∨ n = 0 ∨ !s.listens then s else
  let w := fit n (vget s.app.slots slot [])
  if w.head? = some 0xB5#8 then s.packetIn .app w false (some 76) s.stamp else s.hostSync .app

/-- CMD_DOORBELL (R447). -/
def execCmdDoorbell (t : Tick) (v : BitVec 32) (s : State) : Host.Outcome State Fault Refusal := .next ((s.upTo t).doorbell v.toNat)

/-- The reply slot contents as the program reads them: the queued replies from REPLY_SLOT on, else what was there last. -/
def State.replySlotBytes (s : State) (j : Nat) : Bytes :=
  match (s.port .app).replies[(j + 9 - s.app.replySlot) % 9]? with
  | some r => r.bytes
  | none => vget s.app.replyMem j []

/-- A write of REPLY_DONE. (DESIGN CHOICE, assumption 18.) -/
def State.replyDone (s : State) (v : Nat) : State :=
  let j := bitsN v 3 0
  match (s.port .app).replies with
  | r :: _ =>
    if j = s.app.replySlot then
      (s.modApp fun a => { a with replySlot := (j + 1) % 9, replyMem := vmod a.replyMem j fun _ => r.bytes }).deliver .app
    else s
  | [] => s

/-- REPLY_DONE (R447). -/
def execReplyDone (t : Tick) (v : BitVec 32) (s : State) : Host.Outcome State Fault Refusal :=
  let s := s.upTo t
  .next <| if s.listens then s.replyDone v.toNat else s

/-! ### Other register writes (R16, R440, R446, R454, R457) -/

/-- A number with its byte `i` replaced. -/
def setByte (v i : Nat) (b : Byte) : Nat := v - v / 256 ^ i % 256 * 256 ^ i + b.toNat * 256 ^ i

/-- One byte written into the registers of a DMA channel (R457). -/
def State.pokeCh (s : State) (n o : Nat) (b : Byte) : State :=
  if o < 8 then (if n < 8 then s.modCh n fun c => { c with atp := setByte c.atp o b } else s)
  else if o < 16 then s.modCh n fun c => { c with head := setByte c.head (o - 8) b }
  else if o = 16 then
    match b.toNat with
    | 1 => s.dmaStart n
    | 2 => s.dmaResume n
    | 3 => s.dmaAbort n
    | _ => s
  else s

/-- One byte written into the global registers (R454): the ones before DTU_INVAL's last, FQ_READ, nothing else. (DESIGN CHOICE, assumption 19.) -/
def State.pokeDtu (s : State) (o : Nat) (b : Byte) : State :=
  if o < 8 then s.modDma fun d => { d with invalVa := setByte d.invalVa o b }
  else if o < 12 then s.dtuWrite (setByte s.dma.inval (o - 8) b)
  else if o = 13 then s.modDma fun d => { d with fqRead := b.toNat }
  else s

/-- One byte written into the internal port's window: a command slot (R446); the other places are the device's. (DESIGN CHOICE, assumption 19.) -/
def State.pokePort (s : State) (o : Nat) (b : Byte) : State :=
  let put := fun (i r : Nat) => s.modApp fun a => { a with slots := vmod a.slots i fun x => storeAt x r [b] }
  if o < 0x8800 then (if o % 0x1100 < 4108 then put (o / 0x1100) (o % 0x1100) else s)
  else if o < 0x8800 + 76 then put 8 (o - 0x8800)
  else s

/-- One byte written at an address. (DESIGN CHOICE, assumption 19.) -/
def State.poke (s : State) (a : Nat) (b : Byte) : State :=
  if s.inAppMap a 1 then s.storePa a [b]
  else if 0x02000000 ≤ a ∧ a < 0x02000400 then s.pokeCh ((a - 0x02000000) / 64) (a % 64) b
  else if 0x02000400 ≤ a ∧ a < 0x02000500 then s.pokeDtu (a - 0x02000400) b
  else if 0x02010000 ≤ a ∧ a < 0x02024000 then s.pokePort (a - 0x02010000) b
  else s

/-- Whether an access lies in the physical map of the application (R440): the DMA window, the internal port's, L2 and the application's DRAM. -/
def State.mapped (s : State) (a n : Nat) : Bool :=
  (decide (0x02000000 ≤ a) && decide (a + n ≤ 0x02002000)) || (decide (0x02010000 ≤ a) && decide (a + n ≤ 0x02030000)) || s.inAppMap a n

/-- Bytes written from an address on. (DESIGN CHOICE, assumption 19.) -/
def State.pokes (s : State) (a : Nat) : Bytes → State
  | [] => s
  | b :: r => (s.poke a b).pokes (a + 1) r

/-- REGISTER_WRITE (R16, R24): a 32-bit write of a port register or of DTU_INVAL acts as one, anything else byte by byte; one outside the
application's map changes nothing and is a fault of the program that runs. (DEDUCED, assumption 103.) -/
def execRegisterWrite (t : Tick) (addr : Nat) (data : Bytes) (s : State) : Host.Outcome State Fault Refusal :=
  let s := s.upTo t
  .next <| if !s.up then s
    else if !s.mapped addr data.length then (if s.app.state = 2 then s.appFault 2 addr else s)
    else if addr = 0x02024000 ∧ data.length = 4 then s.doorbell (natOf data)
    else if addr = 0x0202400C ∧ data.length = 4 then (if s.listens then s.replyDone (natOf data) else s)
    else if addr = 0x02000408 ∧ data.length = 4 then s.dtuWrite (natOf data)
    else s.pokes addr data

end Sys2Proof.Machine
end

