-- ==== Sys2Proof/Machine/AlciaRx.lean ====
section
/-! DEFINITION. Frames the Alcia ports receive (R495, R496, R501, R506 to R512, R515 to R523). -/
namespace Sys2Proof.Machine

/-! ### Remote commands (R507 to R510) -/

/-- The answer to a node that is not bound (R509). -/
def State.remoteBusy (s : State) (p node cls tag seq bound : Nat) : State :=
  let r : Reply := { nc := true, status := eBusy, seq := seq, data := le 1 2 ++ le 2 bound }
  s.alReplyTo p node cls tag r.bytes

/-- A node becomes bound (R509): eight credits, no replies. (DESIGN CHOICE, assumption 25.) -/
def State.bind (s : State) (p node : Nat) : State :=
  let s := (s.modAlcia fun a => { a with bound := some (node, p, s.stamp), bindLate := false, rplPos := 0 }).modPort .alcia fun x => { x with replies := [], credits := 8 }
  s.netEvent 0x8828 p (le 2 node ++ le 1 0)

/-- A window of the bound node, one stamped after BIND_T too late to keep the binding (R40): a repetition, or a packet whose replies take class, TAG and port of its transfer (R508, R510); a cyclic one is first
answered with the newest cyclic reply (R107). -/
def State.boundWindow (s : State) (p node cls tag : Nat) (w : Bytes) (stamp : Tick) : State :=
  let late := s.owner != some .alcia && s.alcia.bound.any fun b => decide (b.2.2 + msTicks (s.nodeB 8 2) < stamp)
  let s := s.modAlcia fun a => { a with bound := a.bound.map (fun b => (b.1, b.2.1, max b.2.2 stamp)), bindLate := a.bindLate || late }
  if w.length = 1 then
    match (s.port .alcia).delivered with
    | some r => s.alReplyTo p node cls tag r.bytes
    | none => s
  else
    let s := match isCyc w, (s.port .alcia).cyclic.reply with
      | true, some r =>
        (s.alReplyTo p node cls tag r.bytes).modPort .alcia fun x => { x with cyclic := { x.cyclic with fresh := false } }
      | _, _ => s
    let k := (s.port .alcia).replies.length
    let s := s.packetIn .alcia w false (some 76) stamp
    s.modPort .alcia fun x =>
      { x with replies := x.replies.take k ++ (x.replies.drop k).map fun r => { r with cls := cls, tag := tag, net := p } }

/-- A transfer that ended with LAST (R508, R509). (DEDUCED, assumption 24.) (DESIGN CHOICE, assumption 25.) -/
def State.remoteWindow (s : State) (p node cls tag : Nat) (w : Bytes) (stamp : Tick) : State :=
  if !s.listens then s
  else if !(w.head? == some 0xB5#8 || w == [0x3C#8]) then s.hostSync .alcia
  else
    let own := s.nodeB 6 2
    let s := if s.alcia.bound.isNone ∧ (own = 0 ∨ own = node) then s.bind p node else s
    match s.alcia.bound with
    | some (n, _, _) => if n = node then s.boundWindow p node cls tag w stamp else s.remoteBusy p node cls tag (getN w 4 2) n
    | none => s.remoteBusy p node cls tag (getN w 4 2) 0

/-- Whether a CMD_SEG is well formed (R507). -/
def segOk (d : Bytes) : Bool :=
  let n := getN d 3 1 % 64
  decide (n ≤ 60) && decide (4 + n ≤ d.length) && ((getN d 2 1).testBit 7 || (d.length == 64 && n == 60))

/-- A CMD_SEG addressed to this device (R508). (DESIGN CHOICE, assumption 25.) -/
def State.cmdSeg (s : State) (p node cls : Nat) (d : Bytes) (sof : Tick) : State :=
  let ix := getN d 2 1 % 128
  let tag := getN d 3 1 / 64
  let old := s.alcia.xfers.find? (·.node == node)
  let rest := s.alcia.xfers.filter (·.node != node)
  let dropped := fun (s : State) => (s.modAlcia fun a => { a with xfers := rest }).alIgnore p
  let start : Option Transfer :=
    if ix = 0 then some { node := node, port := p, tag := tag, next := 0, cls := cls, first := sof, bytes := [] } else old
  let s := if ix = 0 ∧ old.isSome then s.alIgnore p else s
  match start with
  | none => s
  | some x =>
    if !segOk d ∨ x.next ≠ ix ∨ x.tag ≠ tag ∨ x.first + msTicks 10 < sof then dropped s else
    let b := x.bytes ++ (d.drop 4).take (getN d 3 1 % 64)
    if 4112 < b.length then dropped s
    else if (getN d 2 1).testBit 7 then (s.modAlcia fun a => { a with xfers := rest }).remoteWindow p node x.cls tag b sof
    else s.modAlcia fun a => { a with xfers := rest ++ [{ x with next := ix + 1, bytes := b }] }

/-! ### System messages (R501) -/

/-- The classes and lengths of R501. -/
def sysOk (code cls n : Nat) : Bool := match code with
  | 0x001 => cls == 0 && n == 8
  | 0x002 => cls == 0 && n == 16
  | 0x003 => cls == 2 && n == 8
  | 0x004 => cls == 1 && n == 8
  | 0x005 => cls == 2 && n == 12
  | 0x007 => cls == 1 && n == 12
  | 0x0FF => cls == 31 && n == 0
  | 0x801 | 0x802 => cls == 0 && n == 20
  | 0x810 | 0x811 => decide (2 ≤ cls) && decide (8 ≤ n)
  | _ => false

/-- An ANNOUNCE on the segment (R521). -/
def State.announceRx (s : State) (p : Nat) (d : Bytes) : State :=
  let a := getN d 0 2
  if s.backbone p ∨ a / 64 ≠ s.alSeg then s else
  s.modAlcia fun x => { x with segMap := x.segMap ||| (1#64 <<< (a % 64)), segMiss := vmod x.segMiss (a % 64) fun _ => 0 }

/-- A second bridge of the segment (R511): of the two, the one with the higher node number stops. -/
def State.bridgeConflict (s : State) (p addr : Nat) : State :=
  let stop := decide (addr % 64 < s.alAddr % 64)
  let s := if stop then
      match s.rolePort true with
      | some q => (s.alStop q).modAlcia fun a => { a with conflict := true }
      | none => s
    else s
  s.netEvent 0x8827 p (le 2 addr ++ le 1 (b2n stop))

/-- A BRIDGE_ANNOUNCE on the segment (R511, R521). -/
def State.bridgeRx (s : State) (p addr : Nat) (d : Bytes) (sof : Tick) : State :=
  if s.backbone p ∨ getN d 0 1 ≠ s.alSeg then s else
  let roll := (getN d 1 1).testBit 0
  let s := if s.isBridge ∧ addr ≠ s.alAddr then s.bridgeConflict p addr else s
  let s := s.modAl p fun x =>
    if roll || x.annBase.isNone then { x with bridgeAt := some sof, annBase := some sof, annDone := false } else { x with bridgeAt := some sof }
  if roll then s.rollCall else s

/-- A ROUTE_SUMMARY on the backbone, which bridges keep (R522). -/
def State.summaryRx (s : State) (p : Nat) (d : Bytes) (sof : Tick) : State :=
  let g := getN d 0 1
  if !s.isBridge ∨ !s.backbone p then s else
  let late := (vget s.alcia.segSeen g none).any fun u => decide (u + msTicks 3000 < sof)
  s.modAlcia fun a =>
    { a with netMap := vmod a.netMap g fun _ => BitVec.ofNat 64 (getN d 4 8), segSeen := vmod a.segSeen g fun _ => some sof,
             segLate := if late then a.segLate ||| (1#64 <<< g) else a.segLate }

/-- An ADDR_CLAIM for the own address with another serial number (R519, R520), with its start-of-frame stamp. -/
def State.claimRx (s : State) (p : Nat) (d : Bytes) (sof : Tick) : State :=
  let serial := getN d 4 8
  if getN d 0 2 ≠ s.alAddr ∨ serial = serialNo ∨ (s.alPort 0).state = 5 ∨ (s.alPort 1).state = 5 then s
  else if s.alcia.claiming then (if serial < serialNo ∧ s.alcia.claimSent.all (fun u => decide (sof ≤ u + msTicks 50)) then s.modAlcia fun a => { a with claimLow := true } else s)
  else s.duplicate p 1

/-- PAIR_QUERY and PAIR_ANSWER for this device (R481, R523); an answer stamped after NET_T is none (R40). -/
def State.pairRx (s : State) (p code addr : Nat) (d : Bytes) (sof : Tick) : State :=
  let paired := s.sealedCfg.isSome && (s.cu 0x0001 11 1).testBit 1 && addr == s.partnerAddr
  if code = 0x801 then (if paired then s.pairMessage p 0x802 else s.alIgnore p)
  else if paired ∧ s.pair.state = 3 ∧ s.pair.query.any (fun u => decide (sof ≤ u + msTicks (getN s.pairCfg 2 1))) then
    (s.modPair fun x => { x with query := none }).queryOutcome (some ((getN d 6 1).testBit 0))
  else s

/-- A system frame that this device consumes. -/
def State.systemRx (s : State) (p : Nat) (f : CanFrame) : State :=
  let d := f.data
  let addr := f.ident % 4096
  match identCode f.ident with
  | 0x001 => s.syncRx p addr (getN d 1 1) (getN d 0 1) (getN d 2 1) f.sof
  | 0x002 => s.followRx p addr (getN d 0 1) (getN d 8 8) f.sof
  | 0x003 => s.announceRx p d
  | 0x004 => s.bridgeRx p addr d f.sof
  | 0x005 => s.summaryRx p d f.sof
  | 0x007 => s.claimRx p d f.sof
  | 0x801 => s.pairRx p 0x801 addr d f.sof
  | 0x802 => s.pairRx p 0x802 addr d f.sof
  | 0x810 => s.cmdSeg p addr (identClass f.ident) d f.sof
  | _ => s

/-! ### Reception (R495, R496, R512) -/

/-- A frame forwarded on a port (R505, R512). (DESIGN CHOICE, assumption 91.) -/
def State.forwardOn (s : State) (f : CanFrame) (q : Nat) : State :=
  let x := s.alPort q
  if x.state = 0 then s
  else if 64 ≤ (x.tx.filter (·.kind == 3)).length then s.modAl q fun y => { y with fwdDrop := satN 4 (y.fwdDrop + 1) }
  else s.alPut q { ident := f.ident, kind := 3, fdf := f.fdf, brs := f.brs, data := f.data }

/-- A frame by its key (R512): system group frames are consumed, addressed ones where they are for this device. (DESIGN CHOICE, assumption 91.) -/
def State.frameRx (s : State) (p : Nat) (f : CanFrame) : State :=
  let code := identCode f.ident
  let sys := decide (code < 0x100) || (decide (0x800 ≤ code) && decide (code < 0x900))
  if sys ∧ !sysOk code (identClass f.ident) f.data.length then s.alIgnore p
  else if sys ∧ (code < 0x100 ∨ getN f.data 0 2 % 4096 = s.alAddr) then s.systemRx p f
  else
    let (loc, ports) := s.routeOf (some p) code f.data
    let s := if loc then s.alLocal p f else s.modAl p fun x => { x with filtered := satN 2 (x.filtered + 1) }
    ports.foldl (fun s q => s.forwardOn f q) s

/-- ALCIA_FRAME_RX (R495, R496, R512): a frame received without error. What REC becomes from above 127 is a free value of 119 to 127. (DESIGN CHOICE, assumption 3.) (PRESUMED, assumption 60.) -/
def execAlciaFrameRx (t : Tick) (p : Fin 2) (f : CanFrame) (s : State) : Host.Outcome State Fault Refusal :=
  let s := (s.upTo t).alPump
  let x := s.alPort p
  .next <| if !s.alOn || x.state == 0 || x.state == 3 then s else
    let (q, s') := s.draw
    let s := if 127 < x.rxErr then s'.modAl p fun x => { x with rxErr := 119 + q % 9 } else s.modAl p fun x => { x with rxErr := x.rxErr - 1 }
    let s := s.modAl p fun x => { x with rxN := (x.rxN + 1) % 4294967296 }
    (if !f.extended || f.remote then s.alIgnore p else s.frameRx p f).alPump

end Sys2Proof.Machine
end

