-- ==== Sys2Proof/Machine/Dispatch.lean ====
section
/-! DEFINITION. The dispatch: one arm per command, each a direct call of that command's meaning. -/
namespace Sys2Proof.Machine

/-- The effect of a command on everything but the queue. (DESIGN CHOICE, assumption 13.) -/
def exec (i : Instr) (s : State) : Host.Outcome State Fault Refusal :=
  match i with
  | .packetWindow t rest cutByte => Sys2Proof.Machine.execPacketWindow t rest cutByte s
  | .pollWindow t len => Sys2Proof.Machine.execPollWindow t len s
  | .repeatWindow t len => Sys2Proof.Machine.execRepeatWindow t len s
  | .discardedWindow t first len => Sys2Proof.Machine.execDiscardedWindow t first len s
  | .servicePortPacket t rest => Sys2Proof.Machine.execServicePortPacket t rest s
  | .servicePacketGap t rest => Sys2Proof.Machine.execServicePacketGap t rest s
  | .sillRecoveryFrame t rest => Sys2Proof.Machine.execSillRecoveryFrame t rest s
  | .cmdDoorbell t value => Sys2Proof.Machine.execCmdDoorbell t value s
  | .replyDone t value => Sys2Proof.Machine.execReplyDone t value s
  | .cyclic t src seq payload => Sys2Proof.Machine.execCyclic t src seq payload s
  | .cyclicLatch t src => Sys2Proof.Machine.execCyclicLatch t src s
  | .nop t src seq payload => Sys2Proof.Machine.execNop t src seq payload s
  | .identify t src seq payload => Sys2Proof.Machine.execIdentify t src seq payload s
  | .resetDevice t src seq payload => Sys2Proof.Machine.execResetDevice t src seq payload s
  | .takeOwnership t src seq payload => Sys2Proof.Machine.execTakeOwnership t src seq payload s
  | .releaseOwnership t src seq payload => Sys2Proof.Machine.execReleaseOwnership t src seq payload s
  | .readEvents t src seq payload => Sys2Proof.Machine.execReadEvents t src seq payload s
  | .ackEvents t src seq payload => Sys2Proof.Machine.execAckEvents t src seq payload s
  | .enterWatch t src seq payload => Sys2Proof.Machine.execEnterWatch t src seq payload s
  | .watchEntryComplete t => Sys2Proof.Machine.execWatchEntryComplete t s
  | .setCyclic t src seq payload => Sys2Proof.Machine.execSetCyclic t src seq payload s
  | .getTime t src seq payload => Sys2Proof.Machine.execGetTime t src seq payload s
  | .writeBlock t src seq payload => Sys2Proof.Machine.execWriteBlock t src seq payload s
  | .readBlock t src seq payload => Sys2Proof.Machine.execReadBlock t src seq payload s
  | .check t src seq payload => Sys2Proof.Machine.execCheck t src seq payload s
  | .sealConfig t src seq payload => Sys2Proof.Machine.execSealConfig t src seq payload s
  | .unsealConfig t src seq payload => Sys2Proof.Machine.execUnsealConfig t src seq payload s
  | .getFingerprint t src seq payload => Sys2Proof.Machine.execGetFingerprint t src seq payload s
  | .enable t src seq payload => Sys2Proof.Machine.execEnable t src seq payload s
  | .disable t src seq payload => Sys2Proof.Machine.execDisable t src seq payload s
  | .setMode t src seq payload => Sys2Proof.Machine.execSetMode t src seq payload s
  | .setTorque t src seq payload => Sys2Proof.Machine.execSetTorque t src seq payload s
  | .setSpeed t src seq payload => Sys2Proof.Machine.execSetSpeed t src seq payload s
  | .setPosition t src seq payload => Sys2Proof.Machine.execSetPosition t src seq payload s
  | .setLimits t src seq payload => Sys2Proof.Machine.execSetLimits t src seq payload s
  | .clearFault t src seq payload => Sys2Proof.Machine.execClearFault t src seq payload s
  | .calibrationStop t src seq payload => Sys2Proof.Machine.execCalibrationStop t src seq payload s
  | .calibrationStart t src seq payload => Sys2Proof.Machine.execCalibrationStart t src seq payload s
  | .calibrationRestore t src seq payload => Sys2Proof.Machine.execCalibrationRestore t src seq payload s
  | .getState t src seq payload => Sys2Proof.Machine.execGetState t src seq payload s
  | .getMeasurements t src seq payload => Sys2Proof.Machine.execGetMeasurements t src seq payload s
  | .getFaults t src seq payload => Sys2Proof.Machine.execGetFaults t src seq payload s
  | .readFaultHistory t src seq payload => Sys2Proof.Machine.execReadFaultHistory t src seq payload s
  | .getCounters t src seq payload => Sys2Proof.Machine.execGetCounters t src seq payload s
  | .getTemperatures t src seq payload => Sys2Proof.Machine.execGetTemperatures t src seq payload s
  | .safetyLogin t src seq payload => Sys2Proof.Machine.execSafetyLogin t src seq payload s
  | .safetyLogout t src seq payload => Sys2Proof.Machine.execSafetyLogout t src seq payload s
  | .writeSafetyBlock t src seq payload => Sys2Proof.Machine.execWriteSafetyBlock t src seq payload s
  | .readSafetyLog t src seq payload => Sys2Proof.Machine.execReadSafetyLog t src seq payload s
  | .ackSafetyLog t src seq payload => Sys2Proof.Machine.execAckSafetyLog t src seq payload s
  | .getSafetyStatus t src seq payload => Sys2Proof.Machine.execGetSafetyStatus t src seq payload s
  | .requestSafetyFunction t src seq payload => Sys2Proof.Machine.execRequestSafetyFunction t src seq payload s
  | .changePassword t src seq payload => Sys2Proof.Machine.execChangePassword t src seq payload s
  | .axisMove t src seq payload => Sys2Proof.Machine.execAxisMove t src seq payload s
  | .axisStop t src seq payload => Sys2Proof.Machine.execAxisStop t src seq payload s
  | .axisHome t src seq payload => Sys2Proof.Machine.execAxisHome t src seq payload s
  | .gearEngage t src seq payload => Sys2Proof.Machine.execGearEngage t src seq payload s
  | .gearDisengage t src seq payload => Sys2Proof.Machine.execGearDisengage t src seq payload s
  | .gearSetRatioNow t src seq payload => Sys2Proof.Machine.execGearSetRatioNow t src seq payload s
  | .gearEvent t src seq payload => Sys2Proof.Machine.execGearEvent t src seq payload s
  | .axisStatus t src seq payload => Sys2Proof.Machine.execAxisStatus t src seq payload s
  | .recorderSetup t src seq payload => Sys2Proof.Machine.execRecorderSetup t src seq payload s
  | .recorderArm t src seq payload => Sys2Proof.Machine.execRecorderArm t src seq payload s
  | .recorderRead t src seq payload => Sys2Proof.Machine.execRecorderRead t src seq payload s
  | .recorderTrigger t src seq payload => Sys2Proof.Machine.execRecorderTrigger t src seq payload s
  | .appStart t src seq payload => Sys2Proof.Machine.execAppStart t src seq payload s
  | .appStop t src seq payload => Sys2Proof.Machine.execAppStop t src seq payload s
  | .appSuspend t src seq payload => Sys2Proof.Machine.execAppSuspend t src seq payload s
  | .suspendComplete t => Sys2Proof.Machine.execSuspendComplete t s
  | .appMessage t src seq payload => Sys2Proof.Machine.execAppMessage t src seq payload s
  | .colonnadeJoin t src seq payload => Sys2Proof.Machine.execColonnadeJoin t src seq payload s
  | .colonnadeLeave t src seq payload => Sys2Proof.Machine.execColonnadeLeave t src seq payload s
  | .colonnadeStatus t src seq payload => Sys2Proof.Machine.execColonnadeStatus t src seq payload s
  | .pairStatus t src seq payload => Sys2Proof.Machine.execPairStatus t src seq payload s
  | .networkStatus t src seq payload => Sys2Proof.Machine.execNetworkStatus t src seq payload s
  | .alciaSend t src seq payload => Sys2Proof.Machine.execAlciaSend t src seq payload s
  | .updateStatus t src seq payload => Sys2Proof.Machine.execUpdateStatus t src seq payload s
  | .updateConfirm t src seq payload => Sys2Proof.Machine.execUpdateConfirm t src seq payload s
  | .updateOffer t src seq payload => Sys2Proof.Machine.execUpdateOffer t src seq payload s
  | .updateData t src seq payload => Sys2Proof.Machine.execUpdateData t src seq payload s
  | .updateVerify t src seq payload => Sys2Proof.Machine.execUpdateVerify t src seq payload s
  | .updateActivate t src seq payload => Sys2Proof.Machine.execUpdateActivate t src seq payload s
  | .updateAbort t src seq payload => Sys2Proof.Machine.execUpdateAbort t src seq payload s
  | .updateSessionTimeout t => Sys2Proof.Machine.execUpdateSessionTimeout t s
  | .relayTimeout t => Sys2Proof.Machine.execRelayTimeout t s
  | .slotEraseSector t => Sys2Proof.Machine.execSlotEraseSector t s
  | .registerWrite t addr data => Sys2Proof.Machine.execRegisterWrite t addr data s
  | .dmaCmdStart t ch => Sys2Proof.Machine.execDmaCmdStart t ch s
  | .dmaCmdResume t ch => Sys2Proof.Machine.execDmaCmdResume t ch s
  | .dmaCmdAbort t ch => Sys2Proof.Machine.execDmaCmdAbort t ch s
  | .dtuInval t value => Sys2Proof.Machine.execDtuInval t value s
  | .dtuInvalComplete t => Sys2Proof.Machine.execDtuInvalComplete t s
  | .dmaSlotGrant t => Sys2Proof.Machine.execDmaSlotGrant t s
  | .dmaDescriptorFetch t ch => Sys2Proof.Machine.execDmaDescriptorFetch t ch s
  | .dmaBeat t ch => Sys2Proof.Machine.execDmaBeat t ch s
  | .faultRecordPost t ch => Sys2Proof.Machine.execFaultRecordPost t ch s
  | .driveMessageInterrupt t => Sys2Proof.Machine.execDriveMessageInterrupt t s
  | .throttlePeriod t => Sys2Proof.Machine.execThrottlePeriod t s
  | .appWatchdogExpiry t => Sys2Proof.Machine.execAppWatchdogExpiry t s
  | .programFault t addr cause => Sys2Proof.Machine.execProgramFault t addr cause s
  | .programExit t => Sys2Proof.Machine.execProgramExit t s
  | .recorderFlush t => Sys2Proof.Machine.execRecorderFlush t s
  | .vinOn t selfTestOk => Sys2Proof.Machine.execVinOn t selfTestOk s
  | .vinLow t vin => Sys2Proof.Machine.execVinLow t vin s
  | .powerFail t vin => Sys2Proof.Machine.execPowerFail t vin s
  | .vinReset t => Sys2Proof.Machine.execVinReset t s
  | .aonMin t => Sys2Proof.Machine.execAonMin t s
  | .vinHigh t vin => Sys2Proof.Machine.execVinHigh t vin s
  | .vinHighLasting t => Sys2Proof.Machine.execVinHighLasting t s
  | .vinOvr t => Sys2Proof.Machine.execVinOvr t s
  | .vinOvrRelease t => Sys2Proof.Machine.execVinOvrRelease t s
  | .railFault t rail => Sys2Proof.Machine.execRailFault t rail s
  | .resetExit t => Sys2Proof.Machine.execResetExit t s
  | .xtal32Qualified t => Sys2Proof.Machine.execXtal32Qualified t s
  | .xtal32Fail t cause => Sys2Proof.Machine.execXtal32Fail t cause s
  | .xtal32Retry t => Sys2Proof.Machine.execXtal32Retry t s
  | .resetNLow t lowNs => Sys2Proof.Machine.execResetNLow t lowNs s
  | .resetNRelease t lowMs => Sys2Proof.Machine.execResetNRelease t lowMs s
  | .kpResetHoldEnd t selfTestOk => Sys2Proof.Machine.execKpResetHoldEnd t selfTestOk s
  | .clockFault t => Sys2Proof.Machine.execClockFault t s
  | .pllLockLoss t pll => Sys2Proof.Machine.execPllLockLoss t pll s
  | .bootComplete t => Sys2Proof.Machine.execBootComplete t s
  | .dramClearComplete t => Sys2Proof.Machine.execDramClearComplete t s
  | .wakeEvent t source => Sys2Proof.Machine.execWakeEvent t source s
  | .watchSrefSample t mv edges => Sys2Proof.Machine.execWatchSrefSample t mv edges s
  | .wakeComplete t sleepCycles => Sys2Proof.Machine.execWakeComplete t sleepCycles s
  | .wakeTimeout t => Sys2Proof.Machine.execWakeTimeout t s
  | .watchdogService t word => Sys2Proof.Machine.execWatchdogService t word s
  | .watchdogExpiry t => Sys2Proof.Machine.execWatchdogExpiry t s
  | .ownTimeoutExpiry t src => Sys2Proof.Machine.execOwnTimeoutExpiry t src s
  | .carrierZero t stack => Sys2Proof.Machine.execCarrierZero t stack s
  | .decimatedSample t stack sample => Sys2Proof.Machine.execDecimatedSample t stack sample s
  | .dsStuck t input bit => Sys2Proof.Machine.execDsStuck t input bit s
  | .fieldEngineCycle t stack => Sys2Proof.Machine.execFieldEngineCycle t stack s
  | .chopperOpen t stack cause => Sys2Proof.Machine.execChopperOpen t stack cause s
  | .chopperShort t stack => Sys2Proof.Machine.execChopperShort t stack s
  | .dcUndervoltage t stack => Sys2Proof.Machine.execDcUndervoltage t stack s
  | .dcUndervoltageClear t stack => Sys2Proof.Machine.execDcUndervoltageClear t stack s
  | .ov3Trip t stack => Sys2Proof.Machine.execOv3Trip t stack s
  | .reconstructionSample t stack sample => Sys2Proof.Machine.execReconstructionSample t stack sample s
  | .calPeriodEnd t target => Sys2Proof.Machine.execCalPeriodEnd t target s
  | .sarSlot t conv value => Sys2Proof.Machine.execSarSlot t conv value s
  | .outerLoopCycle t => Sys2Proof.Machine.execOuterLoopCycle t s
  | .stopChange t stack cause => Sys2Proof.Machine.execStopChange t stack cause s
  | .stopStandstill t => Sys2Proof.Machine.execStopStandstill t s
  | .stopTimeout t => Sys2Proof.Machine.execStopTimeout t s
  | .srefTestCurrent t uStartMv uEndMv => Sys2Proof.Machine.execSrefTestCurrent t uStartMv uEndMv s
  | .srefWireBreak t kind => Sys2Proof.Machine.execSrefWireBreak t kind s
  | .srefWireBreakEnd t => Sys2Proof.Machine.execSrefWireBreakEnd t s
  | .shortCircuit t ch sinceT0 => Sys2Proof.Machine.execShortCircuit t ch sinceT0 s
  | .gateSupplyUv t ch rail => Sys2Proof.Machine.execGateSupplyUv t ch rail s
  | .noCommandTimeout t ch => Sys2Proof.Machine.execNoCommandTimeout t ch s
  | .boosterFault t ch expected => Sys2Proof.Machine.execBoosterFault t ch expected s
  | .plateauTimeout t ch => Sys2Proof.Machine.execPlateauTimeout t ch s
  | .transitionMeasured t ch edge ns => Sys2Proof.Machine.execTransitionMeasured t ch edge ns s
  | .millerClampEngage t ch => Sys2Proof.Machine.execMillerClampEngage t ch s
  | .shootThroughAttempt t leg => Sys2Proof.Machine.execShootThroughAttempt t leg s
  | .thermalEvaluation t readings => Sys2Proof.Machine.execThermalEvaluation t readings s
  | .feedbackEdge t port edge => Sys2Proof.Machine.execFeedbackEdge t port edge s
  | .hallChange t port code => Sys2Proof.Machine.execHallChange t port code s
  | .toothEdge t port t5 => Sys2Proof.Machine.execToothEdge t port t5 s
  | .serialFrame t port frame => Sys2Proof.Machine.execSerialFrame t port frame s
  | .indexLatch t port => Sys2Proof.Machine.execIndexLatch t port s
  | .fbSignalLoss t port pair => Sys2Proof.Machine.execFbSignalLoss t port pair s
  | .fbSupply t port cause => Sys2Proof.Machine.execFbSupply t port cause s
  | .encPupEnd t port => Sys2Proof.Machine.execEncPupEnd t port s
  | .probeEnd t m => Sys2Proof.Machine.execProbeEnd t m s
  | .startEvaluation t m => Sys2Proof.Machine.execStartEvaluation t m s
  | .handoverTimeout t m => Sys2Proof.Machine.execHandoverTimeout t m s
  | .catchAttempt t m => Sys2Proof.Machine.execCatchAttempt t m s
  | .obsLossLasting t m => Sys2Proof.Machine.execObsLossLasting t m s
  | .snapSbcRequest t => Sys2Proof.Machine.execSnapSbcRequest t s
  | .axisCycle t => Sys2Proof.Machine.execAxisCycle t s
  | .holdCurrentTimeout t ax => Sys2Proof.Machine.execHoldCurrentTimeout t ax s
  | .stepperChopTrip t ax bridge => Sys2Proof.Machine.execStepperChopTrip t ax bridge s
  | .stepperToffEnd t ax bridge => Sys2Proof.Machine.execStepperToffEnd t ax bridge s
  | .refreshSequence t hb => Sys2Proof.Machine.execRefreshSequence t hb s
  | .prechargeDone t ax bootMv => Sys2Proof.Machine.execPrechargeDone t ax bootMv s
  | .bootstrapUv t hb => Sys2Proof.Machine.execBootstrapUv t hb s
  | .auxBusOv t volt => Sys2Proof.Machine.execAuxBusOv t volt s
  | .auxShootThroughAttempt t hb => Sys2Proof.Machine.execAuxShootThroughAttempt t hb s
  | .axOvercurrent t shunt => Sys2Proof.Machine.execAxOvercurrent t shunt s
  | .switchChange t ax input level stable since => Sys2Proof.Machine.execSwitchChange t ax input level stable since s
  | .sharingCycle t => Sys2Proof.Machine.execSharingCycle t s
  | .shareFrame t frame => Sys2Proof.Machine.execShareFrame t frame s
  | .replyFrame t frame => Sys2Proof.Machine.execReplyFrame t frame s
  | .replyDeadline t => Sys2Proof.Machine.execReplyDeadline t s
  | .rollSend t => Sys2Proof.Machine.execRollSend t s
  | .rollFrame t frame => Sys2Proof.Machine.execRollFrame t frame s
  | .formationTimeout t => Sys2Proof.Machine.execFormationTimeout t s
  | .colDetached t => Sys2Proof.Machine.execColDetached t s
  | .heartbeatSend t => Sys2Proof.Machine.execHeartbeatSend t s
  | .heartbeat t frame => Sys2Proof.Machine.execHeartbeat t frame s
  | .mirrorFrame t frame => Sys2Proof.Machine.execMirrorFrame t frame s
  | .pairCheckSend t => Sys2Proof.Machine.execPairCheckSend t s
  | .mirrorAck t frame => Sys2Proof.Machine.execMirrorAck t frame s
  | .bulkFrame t frame => Sys2Proof.Machine.execBulkFrame t frame s
  | .bridleLinkUp t => Sys2Proof.Machine.execBridleLinkUp t s
  | .bridleLinkDown t => Sys2Proof.Machine.execBridleLinkDown t s
  | .heartbeatLoss t => Sys2Proof.Machine.execHeartbeatLoss t s
  | .arbitrationOutcome t roll => Sys2Proof.Machine.execArbitrationOutcome t roll s
  | .pairQueryTimeout t => Sys2Proof.Machine.execPairQueryTimeout t s
  | .alciaFrameRx t port frame => Sys2Proof.Machine.execAlciaFrameRx t port frame s
  | .alciaFrameTxDone t port sof => Sys2Proof.Machine.execAlciaFrameTxDone t port sof s
  | .alciaTxError t port error => Sys2Proof.Machine.execAlciaTxError t port error s
  | .busOffRecovery t port => Sys2Proof.Machine.execBusOffRecovery t port s
  | .probeSend t port => Sys2Proof.Machine.execProbeSend t port s
  | .addrClaimSend t => Sys2Proof.Machine.execAddrClaimSend t s
  | .addrClaimDecision t => Sys2Proof.Machine.execAddrClaimDecision t s
  | .syncSend t port => Sys2Proof.Machine.execSyncSend t port s
  | .followUpSend t port => Sys2Proof.Machine.execFollowUpSend t port s
  | .syncTimeout t port => Sys2Proof.Machine.execSyncTimeout t port s
  | .syncCandidateStart t port => Sys2Proof.Machine.execSyncCandidateStart t port s
  | .bridgeAnnounceSend t => Sys2Proof.Machine.execBridgeAnnounceSend t s
  | .announceSend t => Sys2Proof.Machine.execAnnounceSend t s
  | .routeSummarySend t => Sys2Proof.Machine.execRouteSummarySend t s
  | .segmentTimeout t segment => Sys2Proof.Machine.execSegmentTimeout t segment s
  | .cmdTransferTimeout t node => Sys2Proof.Machine.execCmdTransferTimeout t node s
  | .bindTimeout t => Sys2Proof.Machine.execBindTimeout t s
  | .testPulseWindow t tp high => Sys2Proof.Machine.execTestPulseWindow t tp high s
  | .safetyInputChange t kt channel pair contact level => Sys2Proof.Machine.execSafetyInputChange t kt channel pair contact level s
  | .siDiscrepancy t kt channel pair => Sys2Proof.Machine.execSiDiscrepancy t kt channel pair s
  | .ss1EnvelopeCheck t kt channel => Sys2Proof.Machine.execSs1EnvelopeCheck t kt channel s
  | .ss1End t kt channel => Sys2Proof.Machine.execSs1End t kt channel s
  | .brakeSetTimeEnd t channel brake => Sys2Proof.Machine.execBrakeSetTimeEnd t channel brake s
  | .ss1Timeout t kt => Sys2Proof.Machine.execSs1Timeout t kt s
  | .brakeReleaseRequest t brake => Sys2Proof.Machine.execBrakeReleaseRequest t brake s
  | .brakeReleaseComplete t brake => Sys2Proof.Machine.execBrakeReleaseComplete t brake s
  | .brakeTestPulse t brake switch readsOff => Sys2Proof.Machine.execBrakeTestPulse t brake switch readsOff s
  | .brakeOvercurrent t brake => Sys2Proof.Machine.execBrakeOvercurrent t brake s
  | .kpPositionEdge t kt => Sys2Proof.Machine.execKpPositionEdge t kt s
  | .kpSpeedTimeout t kt => Sys2Proof.Machine.execKpSpeedTimeout t kt s
  | .safetyChannelDiscrepancy t kt kind => Sys2Proof.Machine.execSafetyChannelDiscrepancy t kt kind s
  | .kpPositionFault t kt cause => Sys2Proof.Machine.execKpPositionFault t kt cause s
  | .safeAckPress t kt => Sys2Proof.Machine.execSafeAckPress t kt s
  | .safeAckRelease t kt => Sys2Proof.Machine.execSafeAckRelease t kt s
  | .safeAckStuck t kt => Sys2Proof.Machine.execSafeAckStuck t kt s
  | .commissioningGrantExpiry t kt => Sys2Proof.Machine.execCommissioningGrantExpiry t kt s
  | .readbackMismatch t kt => Sys2Proof.Machine.execReadbackMismatch t kt s
  | .loginLockoutEnd t => Sys2Proof.Machine.execLoginLockoutEnd t s
  | .lockstepMismatch t engine pc => Sys2Proof.Machine.execLockstepMismatch t engine pc s
  | .debugAttached t => Sys2Proof.Machine.execDebugAttached t s
  | .scrubBurst t region burst words rewritten => Sys2Proof.Machine.execScrubBurst t region burst words rewritten s
  | .alertN t addr repeated => Sys2Proof.Machine.execAlertN t addr repeated s
  | .faultHistoryAppend t => Sys2Proof.Machine.execFaultHistoryAppend t s
  | .pwmEdge t stack edge => Sys2Proof.Machine.execPwmEdge t stack edge s
  | .holdSwitchEngage t ch => Sys2Proof.Machine.execHoldSwitchEngage t ch s
  | .boostSoftEnd t ch => Sys2Proof.Machine.execBoostSoftEnd t ch s
  | .gateSupplyUvEnd t ch rail => Sys2Proof.Machine.execGateSupplyUvEnd t ch rail s
  | .fbSignalLossEnd t port pair => Sys2Proof.Machine.execFbSignalLossEnd t port pair s
  | .vbrkLow t brake => Sys2Proof.Machine.execVbrkLow t brake s
  | .brakeCoilCurrentLow t brake => Sys2Proof.Machine.execBrakeCoilCurrentLow t brake s
  | .srefEdge t high => Sys2Proof.Machine.execSrefEdge t high s
  | .axisPwmPeriod t ax => Sys2Proof.Machine.execAxisPwmPeriod t ax s
  | .commandResetDue t => Sys2Proof.Machine.execCommandResetDue t s
  | .serviceReplySent t => Sys2Proof.Machine.execServiceReplySent t s
  | .serviceByteOutsidePacket t => Sys2Proof.Machine.execServiceByteOutsidePacket t s

end Sys2Proof.Machine
end

