-- ==== Sys2Proof/Safety.lean ====
section
/-! DEFINITION. What counts as a safe run, in the terms the statements use: when a packet is taken and how it is answered, and what
every step keeps true of the machine (`State.Inv`). -/
namespace Sys2Proof.Machine

/-! ### Packets -/

/-- Whether a packet of an opcode is taken and passes the checks 8 to 13 of R97: the device listens, the source holds a credit
(R98), and no check rejects it. -/
def State.takes (s : State) (c : Source) (op : Nat) (p : Bytes) : Prop :=
  s.listens = true ∧ 0 < (s.port c).credits ∧ s.objection op c p = none

/-- The state in which an admitted packet of a source is carried out: it is counted (R113), its credit is taken (R98) and the time of
the source's last packet is noted (R105). -/
def State.charged (s : State) (c : Source) : State :=
  (s.countPacket.takeCredit c).noteRecv c

/-- The state with the reply OK and its data queued for a source (R96, R117). -/
def State.answered (s : State) (c : Source) (seq : Nat) (d : Bytes := []) : State :=
  s.queueReply c { seq := seq, data := d }

/-! ### What every step keeps -/

/-- The queued replies whose delivery returns a credit (R98). -/
def Port.owed (p : Port) : Nat := p.replies.countP fun r => !r.nc

/-- What R98 adds up for a source: the credits it holds, the replies queued with NC = 0 and, on the service port, the packets a relay has
forwarded and not yet answered (R544). -/
def State.inUse (s : State) (c : Source) : Nat :=
  (s.port c).credits + (s.port c).owed + (if c = .service then s.upd.relayOps.length else 0)

/-- R98: the sum is eight. -/
def State.creditsBalance (s : State) (c : Source) : Prop := s.inUse c = 8

/-- The event queue of a source (R120): at most 512 records, a 16-bit ESEQ, a saturating 32-bit count of the lost ones. -/
def Port.queueOk (p : Port) : Prop := p.events.length ≤ 512 ∧ p.eseqNext < 2 ^ 16 ∧ p.lost < 2 ^ 32

/-- The counters of GET_COUNTERS are 32-bit (R113). -/
def Counters.ok (c : Counters) : Prop :=
  c.packets < 2 ^ 32 ∧ c.rejections < 2 ^ 32 ∧ c.overCredit < 2 ^ 32 ∧ c.hostSync < 2 ^ 32 ∧ c.missed < 2 ^ 32 ∧ c.superseded < 2 ^ 32 ∧
    c.overflow < 2 ^ 32

/-- Every block held is one of the manual's, as long as its layout says, and passes every check inside a block (R127, R128). -/
def blocksOk (l : List (Nat × Bytes)) : Prop :=
  ∀ b ∈ l, ∃ y, blockLayout b.1 = some y ∧ b.2.length = y.size ∧ y.check b.2 = none

/-- What every step keeps: the credits of every source balance (R98), the event queues and counters keep their bounds (R113, R120), only
blocks that pass their checks are held (R128), in ascending order of ID (R136), the staging queue holds at most 1,024 records (R433), and
memory has its canonical form. -/
structure State.Inv (s : State) : Prop where
  credits  : ∀ c, s.creditsBalance c
  queues   : ∀ c, (s.port c).queueOk
  counters : s.counters.ok
  blocks   : blocksOk s.blocks
  sorted   : s.blocks.Pairwise fun a b => a.1 < b.1
  staging  : s.faults.staging.length ≤ 1024
  memory   : Memory.wf s.mem = true

/-- The commands that may change a block, memory or a source's credits: packets and the windows that bring or fetch them, register and DMA transfers, the
events that reset the device or stop its program, and the ends of a delivery, a binding, a relay or an update session. -/
def outward : Instr → Bool
  | .packetWindow .. | .pollWindow .. | .servicePortPacket .. | .servicePacketGap .. | .sillRecoveryFrame .. | .cmdDoorbell .. | .replyDone ..
  | .nop .. | .identify .. | .resetDevice .. | .takeOwnership .. | .releaseOwnership .. | .readEvents .. | .ackEvents .. | .enterWatch ..
  | .setCyclic .. | .getTime .. | .writeBlock .. | .readBlock .. | .check .. | .sealConfig .. | .unsealConfig .. | .getFingerprint .. | .enable ..
  | .disable .. | .setMode .. | .setTorque .. | .setSpeed .. | .setPosition .. | .setLimits .. | .clearFault .. | .calibrationStop ..
  | .calibrationStart .. | .calibrationRestore .. | .getState .. | .getMeasurements .. | .getFaults .. | .readFaultHistory .. | .getCounters ..
  | .getTemperatures .. | .safetyLogin .. | .safetyLogout .. | .writeSafetyBlock .. | .readSafetyLog .. | .ackSafetyLog .. | .getSafetyStatus ..
  | .requestSafetyFunction .. | .changePassword .. | .axisMove .. | .axisStop .. | .axisHome .. | .gearEngage .. | .gearDisengage ..
  | .gearSetRatioNow .. | .gearEvent .. | .axisStatus .. | .recorderSetup .. | .recorderArm .. | .recorderRead .. | .recorderTrigger ..
  | .appStart .. | .appStop .. | .appSuspend .. | .appMessage .. | .colonnadeJoin .. | .colonnadeLeave .. | .colonnadeStatus .. | .pairStatus ..
  | .networkStatus .. | .alciaSend .. | .updateStatus .. | .updateConfirm .. | .updateOffer .. | .updateData .. | .updateVerify ..
  | .updateActivate .. | .updateAbort .. | .updateSessionTimeout .. | .relayTimeout .. | .registerWrite .. | .dmaCmdResume .. | .dmaSlotGrant ..
  | .dmaBeat .. | .appWatchdogExpiry .. | .programFault .. | .programExit .. | .vinReset .. | .aonMin .. | .vinOvr .. | .railFault ..
  | .resetNLow .. | .clockFault .. | .pllLockLoss .. | .wakeTimeout .. | .watchdogService .. | .watchdogExpiry .. | .bulkFrame ..
  | .bridleLinkDown .. | .alciaFrameRx .. | .alciaFrameTxDone .. | .bindTimeout .. | .commandResetDue .. | .serviceReplySent .. => true
  | _ => false

end Sys2Proof.Machine
end

