-- ==== Sys2Proof/Certificates/Slice0/Obligations.lean ====
section
/-! DEFINITION. The statements about the model: one proposition each. -/
open Sys2Proof Sys2Proof.Machine

/-! ### Session and queries -/

/-- A step carries out the command at the front of the queue on the state with the queue's rest. On an empty queue the block idles (the model's
choice, assumption 1). -/
def Obligations.StepRunsTheQueue : Prop :=
  (∀ (c : Instr) (s : State), step { s with pending := c :: s.pending } = exec c s) ∧
  (∀ s : State, s.pending = [] → step s = .next s)

/-- NOP copies its payload, IDENTIFY names the module, GET_TIME gives device time and network time, GET_STATE the state, owner, STAT and queue,
GET_COUNTERS the counters: each admitted packet is answered OK with its data, and nothing else changes (R113, R115, R116). READ_EVENTS shows up to the
count of the oldest records and removes none; ACK_EVENTS removes the records up to and including the one it names, where the queue has lost none, and
answers how many remain (R120). Completion is stated of NOP, IDENTIFY, READ_EVENTS, ACK_EVENTS, GET_TIME, GET_STATE, GET_COUNTERS. -/
def Obligations.QueriesAndEventQueue : Prop :=
  (∀ (t : Tick) (c : Source) (q : Nat) (p : Bytes) (s : State), let u := s.upTo t
    (u.takes c 0x0100 p → exec (.nop t c q p) s = .next ((u.charged c).answered c q p)) ∧
    (u.takes c 0x0101 p → ∃ d : Bytes, exec (.identify t c q p) s = .next ((u.charged c).answered c q d) ∧
      d.take 8 = [0x4C, 0x54, 0x42, 0x2D, 0x34, 0x38, 0x32, 0x30] ∧ (d.drop 9).take 2 = le 1 u.dev.code ++ le 1 (b2n u.safety.debug) ∧
      (d.drop 12).take 12 = le 4 u.power.cause.toNat ++ Config.serial.toList) ∧
    (u.takes c 0x0109 p → exec (.getTime t c q p) s = .next ((u.charged c).answered c q
      (le 8 u.time ++ le 8 (u.netTime u.time) ++ le 1 (b2n u.alcia.valid) ++ zeros 7))) ∧
    (u.takes c 0x0400 p → exec (.getState t c q p) s = .next ((u.charged c).answered c q
      (le 1 u.dev.code ++ le 1 u.ownerId ++ le 2 u.stat ++ le 1 (b2n u.safety.debug) ++ le 1 (b2n u.sealedCfg.isSome) ++
        le 2 (u.port c).events.length ++ le 8 u.time))) ∧
    (u.takes c 0x0404 p → exec (.getCounters t c q p) s = .next ((u.charged c).answered c q
      (le 4 (satN 4 (u.counters.packets + 1)) ++ le 4 u.counters.rejections ++ le 4 u.counters.overCredit ++ le 4 u.counters.hostSync ++
        le 4 u.counters.missed ++ le 4 u.counters.superseded ++ le 4 u.counters.overflow ++ zeros 20)))) ∧
  (∀ (t : Tick) (c : Source) (q : Nat) (p : Bytes) (s : State), let u := s.upTo t
    (u.takes c 0x0105 p → 1 ≤ getN p 0 2 → getN p 0 2 ≤ 170 →
      exec (.readEvents t c q p) s = .next ((u.charged c).answered c q
        ((((u.port c).events.take (getN p 0 2)).map EventRec.bytes).flatten))) ∧
    (∀ (pre post : List EventRec) (e : EventRec), u.takes c 0x0106 p → (u.port c).events = pre ++ e :: post → e.eseq = getN p 0 2 →
      (∀ x ∈ pre, x.eseq ≠ getN p 0 2) → (u.port c).lost = 0 →
      exec (.ackEvents t c q p) s = .next (((u.charged c).modPort c fun x => { x with events := post }).answered c q (le 2 post.length))))

/-- TAKE_OWNERSHIP gives motion to a source where nobody owns it, with its OWN_TIMEOUT (R104, R105); outside SHELTER nothing else changes.
RELEASE_OWNERSHIP takes it back and ends the owner's safety session (R104, R397). OWN_TIMEOUT_EXPIRY takes it from an owner that has been silent for
its OWN_TIMEOUT, or whose next packet came after it (R40), with OWNERSHIP_LOST, and in RUN the next outer-loop cycle reacts (R105). RESET_DEVICE with
its key is answered and resets the device once the reply has gone, 10 ms after it at the latest, each accepted one for itself (R102); SET_CYCLIC
stages the exchange of its source (R108). Completion is stated of RESET_DEVICE, TAKE_OWNERSHIP, RELEASE_OWNERSHIP, SET_CYCLIC, OWN_TIMEOUT_EXPIRY. -/
def Obligations.OwnershipResetAndCyclicSetup : Prop :=
  (∀ (t : Tick) (c : Source) (q : Nat) (p : Bytes) (s : State), let u := s.upTo t
    (u.takes c 0x0103 p → 1 ≤ getN p 0 4 → getN p 0 4 ≤ 60000 → u.owner = none → u.dev ≠ .shelter →
      exec (.takeOwnership t c q p) s = .next ((({ u.charged c with owner := some c }.modPort c
        fun x => { x with ownMs := getN p 0 4, lastOk := max x.lastOk u.stamp, ownLate := false, tookAt := some (u.stamp, q) })).answered c q
          (le 1 (sourceId c)))) ∧
    (∀ o, u.takes c 0x0104 p → u.owner = some o → u.safety.session ≠ some o →
      exec (.releaseOwnership t c q p) s = .next ({ u.charged c with owner := none }.answered c q)) ∧
    (u.owner = some c → (u.port c).cyclic.enabled = false →
      (u.port c).ownLate = true ∨ max (u.port c).lastOk (u.port c).cyclic.offSince + msTicks (u.port c).ownMs + 100 ≤ t →
      exec (.ownTimeoutExpiry t c) s = .next (let v := (({ u with owner := none } : State).endSession c).raise 0x8105 2 (sourceId c) []
        if v.dev = .run then v.modMotion fun m => { m with ownLost := some (sourceId c) } else v))) ∧
  (∀ (t : Tick) (c : Source) (q : Nat) (p : Bytes) (s : State), let u := s.upTo t
    (u.takes c 0x0102 p → getN p 0 4 = 0x4820B0C5 →
      exec (.resetDevice t c q p) s =
        .next (((u.charged c).modPower fun w => { w with resetDue := w.resetDue ++ [(c, u.time, none)] }).answered c q)) ∧
    (∀ t', u.takes c 0x0102 p → getN p 0 4 = 0x4820B0C5 → u.time + 1000000 ≤ t' →
      ∃ v w, exec (.resetDevice t c q p) s = .next v ∧ exec (.commandResetDue t') v = .next w ∧ w.dev = .inReset ∧ w.power.nextCause.getLsbD 7 = true) ∧
    (u.takes c 0x0108 p → getN p 0 1 = 1 → 1 ≤ getN p 1 1 → getN p 1 1 ≤ 16 → getN p 2 2 = 0 →
      getN p 4 4 + 500 ≤ u.ctrlCycle →
      exec (.setCyclic t c q p) s = .next (((u.charged c).modPort c fun x => { x with cyclic := { x.cyclic with
        enabled := true, missMax := getN p 1 1, offset := getN p 4 4, held := none, rejected := none, missed := 0, superseded := 0,
        applied := none, reply := none, fresh := false, lastLatch := u.time } }).answered c q)) ∧
    (u.takes c 0x0108 p → getN p 0 1 = 0 → 1 ≤ getN p 1 1 → getN p 1 1 ≤ 16 → getN p 2 2 = 0 →
      getN p 4 4 + 500 ≤ u.ctrlCycle →
      exec (.setCyclic t c q p) s = .next (((u.charged c).modPort c fun x => { x with cyclic := { x.cyclic with
        enabled := false, missMax := getN p 1 1, offset := getN p 4 4, offSince := u.time } }).answered c q)))

/-! ### Supplies, reset and clocks -/

/-- VIN_ON brings the device from OFF into RESET with POR, and with PIN while RESET_N is held low, and ends the hold of PFAIL in RESET; the Kingpost
self-tests decide its state (R65, R70, R76, R372). VIN_OVR_RELEASE ends the hold of VINOV, after which the same self-tests run (R65, R70). VIN_RESET
and VIN_OVR put a running device into RESET with PFAIL or VINOV and its hold (R65); AON_MIN puts it into OFF. Each leaves what R77 says a reset
leaves: the configuration is gone, the credits are eight, nobody owns motion, fault counts restart, and the fault history, the images and the safety
change log are kept. VIN_LOW and VIN_HIGH raise their events and operation continues (R65); VIN above VIN_HIGH for 1 s withdraws every guarantee
(R438); POWER_FAIL takes SELECT on the switching stacks, raises its event and completes the appends to the fault history (R66). Completion is stated
of VIN_ON, VIN_LOW, POWER_FAIL, VIN_RESET, AON_MIN, VIN_HIGH, VIN_HIGH_LASTING, VIN_OVR, VIN_OVR_RELEASE. -/
def Obligations.SupplySupervised : Prop :=
  (∀ (t : Tick) (ok : Bool) (s : State),
    (s.dev = .off → exec (.vinOn t ok) s = .next (({ s with dev := .inReset }.modPower fun p =>
      { p with nextCause := if p.rstPin then 3 else 1, vinHold := false, ovrHold := false }).modSafety fun x =>
        { x with kpState := if ok then 0 else 3, cause := if ok then 0 else 7 })) ∧
    (s.dev = .inReset → s.power.vinHold = true → exec (.vinOn t ok) s = .next ((s.modPower fun p => { p with vinHold := false }).modSafety
      fun x => { x with kpState := if ok then 0 else 3, cause := if ok then 0 else 7 })) ∧
    (s.dev = .inReset → s.power.ovrHold = true → exec (.vinOvrRelease ⟨t, ok⟩) s = .next ((s.modPower fun p => { p with ovrHold := false }).modSafety
      fun x => { x with kpState := if ok then 0 else 3, cause := if ok then 0 else 7 })) ∧
    (s.dev ≠ .inReset → exec (.vinOvrRelease ⟨t, ok⟩) s = .next ((s.upTo t).modPower fun p => { p with ovrHold := false }))) ∧
  (∀ (t : Tick) (s : State), s.dev ≠ .off → s.dev ≠ .inReset →
    ∃ v w x, exec (.vinReset t) s = .next v ∧ exec (.vinOvr t) s = .next w ∧ exec (.aonMin t) s = .next x ∧
      v.dev = .inReset ∧ v.power.vinHold = true ∧ v.power.nextCause = 4#32 ∧
      w.dev = .inReset ∧ w.power.ovrHold = true ∧ w.power.nextCause = 256#32 ∧ x.dev = .off ∧
      ∀ r ∈ [v, w, x], r.blocks = [] ∧ r.sealedCfg = none ∧ r.owner = none ∧ r.safety.debug = false ∧ r.faults.objs = [] ∧
        r.mem = [] ∧ (∀ c, (r.port c).credits = 8) ∧ r.faults.hist = s.faults.hist ∧ r.upd.counter = s.upd.counter ∧
        r.upd.recs = s.upd.recs ∧ (s.upd.session ≠ 2 → r.upd.slots = s.upd.slots) ∧ r.safety.log = s.safety.log ∧
        r.safety.stored = s.safety.stored ∧ r.pending = s.pending) ∧
  (∀ (t : Tick) (vin : Nat) (s : State), let u := s.upTo t
    (u.awake = true → exec (.vinLow t vin) s =
      .next ((u.modPower fun p => { p with vin := vin, vinHigh := false }).raise 0x8120 2 0 (le 2 vin))) ∧
    (u.awake = true → exec (.vinHigh t vin) s =
      .next ((u.modPower fun p => { p with vin := vin, vinHigh := true }).raise 0x8122 2 0 (le 2 vin))) ∧
    (u.awake = true → u.power.vinHigh = true → exec (.vinHighLasting t) s = .next (u.lapseFault 0x3F 0x8122)) ∧
    (u.awake = true → u.dev ≠ .boot → exec (.powerFail t vin) s = .next (((((u.modPower fun p =>
      { p with vin := vin, powerFail := true, vinHigh := false }).stopAll (u.enStacks.filter fun k => (u.stack k).switching) .select
        0x8121).raise 0x8121 2 0 (le 2 vin ++ le 1 u.dev.code))).flushHist)))

/-- RESET_N low for 2 µs or longer resets a device that is not OFF, with bit PIN, and a pulse shorter than 0.5 µs is ignored (R72); after the release
RSTLOW shows the milliseconds it was low, saturated at 65,535 (R75, R76). The reset of RESET_DEVICE comes 10 µs after its reply is delivered, or 10 ms
after the reply is queued, with bit CMD (R102). RESET ends when no hold is left and RESET_N is high: device time starts at 0, the reset-cause word is
complete and the images are selected (R70, R74, R536); the memory that BOOT will find not to respond leaves its record (R51). Completion is stated of
RESET_EXIT, RESET_N_LOW, RESET_N_RELEASE, COMMAND_RESET_DUE. -/
def Obligations.ResetsBeginAndEnd : Prop :=
  (∀ (t : Tick) (ns ms : Nat) (s : State), let u := s.upTo t
    (ns < 500 → exec (.resetNLow t ns) s = .next u) ∧
    (2000 ≤ ns → s.dev ≠ .off → ∃ v, exec (.resetNLow t ns) s = .next v ∧ v.dev = .inReset ∧ v.power.rstPin = true ∧
      v.power.nextCause.getLsbD 1 = true ∧ v.pending = s.pending) ∧
    (u.power.rstPin = true → u.power.nextCause.getLsbD 1 = true →
      exec (.resetNRelease t ms) s = .next (u.modPower fun p =>
        { p with rstPin := false, nextCause := BitVec.ofNat 32 (p.nextCause.toNat % 65536 + 65536 * min ms 65535) }))) ∧
  (∀ (t : Tick) (c : Source) (q d : Tick) (s : State), let u := s.upTo t
    (s.dev ≠ .off → (c, q, some d) ∈ u.power.resetDue → d + 1000 ≤ t →
      ∃ v, exec (.commandResetDue t) s = .next v ∧ v.dev = .inReset ∧ v.power.nextCause.getLsbD 7 = true) ∧
    (s.dev ≠ .off → (c, q, none) ∈ u.power.resetDue → q + 1000000 ≤ t →
      ∃ v, exec (.commandResetDue t) s = .next v ∧ v.dev = .inReset ∧ v.power.nextCause.getLsbD 7 = true) ∧
    (∀ mem, s.dev = .inReset → s.power.rstPin = false → s.power.vinHold = false → s.power.ovrHold = false → s.power.kpHold = none →
      exec (.resetExit ⟨t, mem⟩) s = .next ((({ s with time := 0, stamp := 0, pins := {} }.modPower fun p =>
        { p with cause := p.nextCause, nextCause := 0, dramBusy := true }).bootSelect).memCheck mem)))

/-- A rail outside its window resets the device with RAIL, for VKP with KPRAIL (R69); a fault of VCORE or VIO33 and a clock fault are the Kingpost's:
it keeps its safe state with cause 5 or 4 and holds the logic die in reset (R31, R74). At the end of the hold it runs its self-tests (R74, R372). The
complement of the challenge, no sooner than WD_T / 8 after the last service and no later than WD_T, services the Kingpost's watchdog, counted in the
Kingpost's own ticks, and a new challenge is drawn; a wrong word, one too soon or too late, or no service within WD_T, is an expiry: the safe state
with cause 6 and a reset of the logic die with bit WDOG (R373). Completion is stated of RAIL_FAULT, KP_RESET_HOLD_END, CLOCK_FAULT, WATCHDOG_SERVICE,
WATCHDOG_EXPIRY. -/
def Obligations.FaultResetsAndWatchdog : Prop :=
  (∀ (t : Tick) (r : Rail) (ok : Bool) (s : State),
    (s.dev ≠ .off → s.dev ≠ .inReset → ¬(s.dev = .watch ∧ railOffInWatch r = true) → ∃ v, exec (.railFault t r) s = .next v ∧
      v.dev = .inReset ∧ v.power.nextCause.getLsbD 3 = true ∧ (v.power.nextCause.getLsbD 4 = true ↔ r = .vkp) ∧
      (v.power.kpHold = some .rail ↔ r = .vcore ∨ r = .vio33) ∧ (r = .vcore ∨ r = .vio33 → v.safety.kpState = 3 ∧ v.safety.cause = 5)) ∧
    (s.dev ≠ .off → s.dev ≠ .watch → ∃ v, exec (.clockFault t) s = .next v ∧ v.dev = .inReset ∧ v.power.nextCause.getLsbD 5 = true ∧
      v.power.kpHold = some .clock ∧ v.safety.kpState = 3 ∧ v.safety.cause = 4) ∧
    (s.dev = .inReset → s.power.kpHold ≠ none → ∃ v, exec (.kpResetHoldEnd t ok) s = .next v ∧ v.power.kpHold = none ∧
      v.safety.kpState = (if ok then 0 else 3) ∧ v.safety.cause = (if ok then 0 else 7))) ∧
  (∀ (t : Tick) (kt : Nat) (w : BitVec 16) (s : State), let u := (s.upTo t).upKt kt
    (u.wdRuns = true → w = ~~~u.safety.challenge → kt ≤ u.safety.wdLast + u.wdT →
      u.safety.wdServed = false ∨ u.wdT ≤ 8 * (kt - u.safety.wdLast) →
      exec (.watchdogService ⟨t, kt⟩ w) s = .next ({ u with fresh := u.fresh + 1 }.modSafety fun x =>
        { x with challenge := BitVec.ofNat 16 (Config.freeValue u.fresh), wdLast := kt, wdServed := true })) ∧
    (u.wdRuns = true → w ≠ ~~~u.safety.challenge ∨ u.safety.wdLast + u.wdT < kt ∨
        (u.safety.wdServed = true ∧ 8 * (kt - u.safety.wdLast) < u.wdT) → ∃ v, exec (.watchdogService ⟨t, kt⟩ w) s = .next v ∧ v.dev = .inReset ∧
      v.power.nextCause.getLsbD 6 = true ∧ v.power.kpHold = some .wdog ∧ v.safety.kpState = 3 ∧ v.safety.cause = 6) ∧
    (u.wdRuns = true → u.safety.wdLast + u.wdT < kt → ∃ v, exec (.watchdogExpiry ⟨t, kt⟩) s = .next v ∧ v.dev = .inReset ∧
      v.power.nextCause.getLsbD 6 = true ∧ v.power.kpHold = some .wdog ∧ v.safety.kpState = 3 ∧ v.safety.cause = 6))

/-- The crystal once qualified carries the always-on domain; where it is not qualified or stops, the domain runs on the oscillator and XTAL32_FAIL is
raised; a retry changes nothing by itself (R71). BOOT ends in UNCONFIGURED, or in FAULT where the Kingpost failed its self-tests (R123, R371): stated
for a Kingpost that passed, no image fallback, nothing left to report and no fault held; a BOOT whose memory does not respond does not end (R51). The
end of the clearing lets DRAM be used (R124). Completion is stated of XTAL32_QUALIFIED, XTAL32_FAIL, XTAL32_RETRY, BOOT_COMPLETE,
DRAM_CLEAR_COMPLETE. -/
def Obligations.BootReachesUnconfigured : Prop :=
  (∀ (t : Tick) (s : State), let u := s.upTo t
    (u.dev ≠ .off → exec (.xtal32Qualified t) s = .next (u.modPower fun p => { p with xtalOk := true })) ∧
    (u.awake = true → u.power.xtalOk = true → exec (.xtal32Fail t .stopped) s =
      .next ((u.modPower fun p => { p with xtalOk := false }).raise 0x8123 2 0 [1])) ∧
    (u.awake = true → u.power.xtalOk = false → exec (.xtal32Fail t .notQualified) s =
      .next ((u.modPower fun p => { p with xtalOk := false }).raise 0x8123 2 0 [0])) ∧
    exec (.xtal32Retry t) s = .next u) ∧
  (∀ (t : Tick) (s : State), let u := s.upTo t
    (s.dev = .boot → s.power.memFail = none → s.safety.kpState ≠ 3 → s.upd.fallback = [] → s.power.late = [] → s.faults.objs = [] →
      ∃ v, exec (.bootComplete t) s = .next v ∧ v.dev = .unconfigured ∧
      v.safety.wdLast = u.kpNow ∧ v.app.state = (if s.upd.loaded.getLsbD 3 then 1 else 0) ∧ v.pending = s.pending) ∧
    (s.dev = .boot → s.power.memFail.isSome = true → exec (.bootComplete t) s = .next u) ∧
    (u.awake = true → u.dev ≠ .boot → exec (.dramClearComplete t) s = .next (u.modPower fun p => { p with dramBusy := false })))

/-! ### Sleep -/

/-- ENTER_WATCH where R81 accepts it starts the entry of R82 with its first step: the owner's ownership ends, then every cyclic exchange, the queued
user frames return with status 3, a binding ends, network time is no longer valid, a pair says LEAVING and a recording stops; anywhere else it is
answered E_STATE. A packet that arrives over an Alcia binding is left out: that binding ends with the command (assumption 12). Completion is stated of
ENTER_WATCH. -/
def Obligations.WatchEntryBegins : Prop :=
  ∀ (t : Tick) (c : Source) (q : Nat) (p : Bytes) (s : State), let u := s.upTo t
    let v := u.charged c
    let v := match v.owner with | some o => v.dropOwner o | none => v
    let v := (((([Source.host, .app, .alcia, .service].foldl State.cyclicOff v).returnUsers 0 3).returnUsers 1 3).unbind)
    let v := v.timeInvalid ((v.rolePort false).getD 0)
    let v := if v.pair.state = 0 then v else v.modPair fun x => { x with leaving := true, query := none }
    let v := if v.recorder.state = 1 ∨ v.recorder.state = 2 then v.recState 3 4 else v
    (u.takes c 0x0107 p → u.mayWatch = true → c ≠ .alcia → exec (.enterWatch t c q p) s =
      .next ((v.modWatch fun w => { w with entry := some v.time, waking := none }).answered c q)) ∧
    (u.takes c 0x0107 p → u.mayWatch = false → exec (.enterWatch t c q p) s = .next ((u.charged c).reject c q eState))

/-- At the end of the entry the staged records are in the fault history and the recorder's in flash, the ΔΣ clock has stopped, the sensor supplies are
off, nothing is on the serial outputs and the transceivers stand by (R82); a wake source that is enabled starts the wake (R83). WAKE_COMPLETE: device
time resumes at the value at entry plus the sleep duration in ticks, rounded down (R32), which is the carriers' new zero; the ΔΣ clock runs, the
watchdog starts afresh and no wake is in progress; the feedback ports resume, the device goes on in the state of `wakeDev`, what the always-on domain
kept is reported, and WAKE tells source, oscillator and duration (R84, R85). Completion is stated of WATCH_ENTRY_COMPLETE, WAKE_EVENT,
WATCH_SREF_SAMPLE, WAKE_COMPLETE, WAKE_TIMEOUT. -/
def Obligations.WatchEntersAndWakes : Prop :=
  (∀ (t : Tick) (w : WakeSource) (mv : Int) (n : Nat) (s : State), let u := s.upTo t
    (u.watch.entry.isSome = true → u.dev = .ready → u.watch.waking = none → u.up = true →
      exec (.watchEntryComplete t) s = .next (
        let v := ((u.flushHist.sysXfer 8 9 u.recorder.staged).modRecorder fun r => { r with staged := 0 }).modPins fun x =>
          { x with dsck := false, fbSup := Vector.replicate 6 false, alStb := Vector.replicate 2 true, miso := [], svtx := [] }
        let v := ((v.modPair fun x => { x with out := [] }).modCol fun x => { x with out := [] }).modWatch fun x =>
          { x with entry := none, srefEntry := u.sref.mv, srefMv := u.sref.mv }
        { v with dev := .watch })) ∧
    (s.dev = .watch → s.watch.waking = none → s.wakeEnabled w = true →
      exec (.wakeEvent t w) s = .next (s.modWatch fun x => { x with waking := some w }).wakeStep1) ∧
    (s.wakeEnabled w = false → exec (.wakeEvent t w) s = .next u) ∧
    (s.wakeEnabled .hcs = true ∧ s.wakeEnabled .safetyInput = true) ∧
    (s.dev = .watch → s.cu 0x14 40 1 = 1 → (mv - s.watch.srefEntry).natAbs ≤ 50 * s.cu 1 5 1 →
      exec (.watchSrefSample t mv n) s = .next (s.modWatch fun x => { x with srefMv := mv })) ∧
    (s.dev = .watch → s.cu 0x14 40 1 = 1 → (s.cu 1 4 1).testBit 2 = true → s.watch.waking = none →
      50 * s.cu 1 5 1 < (mv - s.watch.srefEntry).natAbs →
      exec (.watchSrefSample t mv n) s = .next (s.modWatch fun x => { x with srefMv := mv, waking := some .sref }).wakeStep1) ∧
    (s.dev = .watch → s.watch.waking.isSome = true →
      ∃ v, exec (.wakeTimeout t) s = .next v ∧ v.dev = .inReset ∧ v.power.nextCause.getLsbD 9 = true)) ∧
  (∀ (t : Tick) (n : Nat) (w : WakeSource) (s : State), s.dev = .watch → s.watch.waking = some w →
    exec (.wakeComplete t n) s = .next (
      let d := s.time + n * 100000000 / 32768
      let v : State := { s with
        time := max d t, stamp := max d t, sealedCfg := s.sealedCfg.map fun c => { c with t0 := d }
        watch := { s.watch with entry := none, waking := none, listenFrom := max d t }
        power := { s.power with pllBLost := false, ddrLost := false } }
      let v := v.modSafety fun x => { x with wdLast := v.kpNow, wdServed := false, dpSpeedAt := v.time, xcSince := none }
      let v := v.enStacks.foldl (fun s k => s.modStack k fun x =>
        { x with sense := { x.sense with lastZero := d }, fe := { x.fe with judged := none, cycles := 0, cmpNext := [] }
                 chop := { x.chop with below := none, above := none, hist := [] } }) v
      let v := (v.modPins fun p => { p with dsck := true, alStb := #v[(v.alPort 0).state == 0, (v.alPort 1).state == 0] }).modPair fun p =>
        { p with leaving := false }
      let v := (v.modSref fun x => { x with lastEdge := v.time, lastRise := none, lastFall := none, lowSince := none, badSince := none, quiet := none }
        ).modThermal fun x => { x with acc := x.acc.map fun a => { a with last := v.time } }
      (((List.range 6).filter v.fbEn).foldl (fun s k => s.wakePort k) v).wakeDev.aonReport.info 0x8124 2 0
        (le 1 (wakeCode w) ++ le 1 (b2n (!s.power.xtalOk)) ++ zeros 2 ++ le 4 (satN 4 n))))

/-! ### The configuration -/

/-- WRITE_BLOCK of a block whose checks pass keeps its data under its ID in place of any earlier copy (R128); one that fails is answered E_RANGE with
the offset and limit of R130, and the blocks stay. READ_BLOCK answers the ID, whether the block is present, and its data as written, or its values
after reset (R131); CHECK answers the first failure of the rules of R132, or zeros, and changes nothing (R133); GET_FINGERPRINT answers the
fingerprint as sealed (R136). Completion is stated of WRITE_BLOCK, READ_BLOCK, CHECK, GET_FINGERPRINT. -/
def Obligations.ConfigurationWrittenAndRead : Prop :=
  (∀ (t : Tick) (c : Source) (q : Nat) (p : Bytes) (s : State), let u := s.upTo t
    (u.takes c 0x0200 p → blockFails (ordinaryLayout (getN p 0 2)) p = none → getN p 0 2 ∉ [0x0001, 0x0090, 0x0091, 0x0092] →
      exec (.writeBlock t c q p) s = .next (({ u.charged c with blocks := blockInsert (getN p 0 2) (p.drop 4) u.blocks }).answered c q)) ∧
    (∀ l, u.takes c 0x0200 p → blockFails (ordinaryLayout (getN p 0 2)) p = some l →
      exec (.writeBlock t c q p) s = .next ((u.charged c).reject c q eRange (le 2 l.1 ++ le 2 l.2))) ∧
    (∀ (id x : Nat) (d : Bytes) (l : List (Nat × Bytes)), (l.Pairwise fun a b => a.1 < b.1) →
      (blockInsert id d l).lookup x = if x = id then some d else l.lookup x)) ∧
  (∀ (t : Tick) (c : Source) (q : Nat) (p : Bytes) (s : State), let u := s.upTo t
    (u.takes c 0x0201 p → (blockLayout (getN p 0 2)).isSome = true → getN p 2 2 ≤ 1 →
      exec (.readBlock t c q p) s = .next ((u.charged c).answered c q
        (le 2 (getN p 0 2) ++ le 2 (b2n (u.block (getN p 0 2)).isSome) ++ u.blockOr (getN p 0 2)))) ∧
    (u.takes c 0x0202 p → u.firstFail false = none → exec (.check t c q p) s = .next ((u.charged c).answered c q (zeros 8))) ∧
    (∀ f, u.takes c 0x0202 p → u.firstFail false = some f → exec (.check t c q p) s = .next ((u.charged c).answered c q
      (le 2 f.1 ++ le 2 f.2.1 ++ le 2 f.2.2 ++ zeros 2))) ∧
    (∀ g, u.takes c 0x0205 p → u.sealedCfg = some g →
      exec (.getFingerprint t c q p) s = .next ((u.charged c).answered c q g.fingerprint)))

/-- SEAL of blocks that pass every rule applies the configuration and answers its fingerprint; blocks that fail are answered with the first failure,
and safety blocks that the Kingpost refuses with the first of them (R405), and nothing is sealed (R133, R134). UNSEAL in READY gives the configuration
up where R139 accepts it. Both keep the blocks. ENABLE where R138 accepts it requests gate enable of every enabled stack, ends their stops and changes
to RUN; anywhere else it is answered E_STATE. A held fault of the Kingpost's safe state keeps CLEAR_FAULT from clearing anything (R432), and otherwise
CLEAR_FAULT clears each held fault whose condition holds. Completion is stated of SEAL, UNSEAL, ENABLE, CLEAR_FAULT. -/
def Obligations.SealEnableAndClear : Prop :=
  (∀ (t : Tick) (c : Source) (q : Nat) (p : Bytes) (s : State), let u := s.upTo t
    (u.takes c 0x0203 p → u.firstFail true = none → u.kpRefuses = none → exec (.sealConfig t c q p) s =
      .next (((u.charged c).doSeal c).answered c q (sha256 (u.printBytes fun _ => true)).toList) ∧
      ((u.charged c).doSeal c).blocks = u.blocks) ∧
    (∀ f, u.takes c 0x0203 p → u.firstFail true = some f → f.2.2 ≠ 0 →
      exec (.sealConfig t c q p) s = .next ((u.charged c).reject c q f.2.2 (failData f))) ∧
    (∀ i, u.takes c 0x0203 p → u.firstFail true = none → u.kpRefuses = some i →
      exec (.sealConfig t c q p) s = .next ((u.charged c).reject c q eRange (le 2 i ++ le 2 0xFFFF ++ le 2 eRange ++ zeros 2))) ∧
    (u.takes c 0x0204 p → u.dev = .ready → u.mayUnseal true = true → exec (.unsealConfig t c q p) s =
      .next ((u.charged c).doUnseal.answered c q) ∧ (u.charged c).doUnseal.blocks = u.blocks)) ∧
  (∀ (t : Tick) (c : Source) (q : Nat) (p : Bytes) (s : State), let u := s.upTo t
    (u.takes c 0x0300 p → u.mayEnable = true → exec (.enable t c q p) s = .next (
      let v := (u.charged c).modSafety fun x => { x with request := u.enMask }
      let v := u.enStacks.foldl (fun v k => v.modStack k fun x => { x with
        stop := {}, release := false, fw := if v.pair.standby then .pulseOff else .none
        fe := x.fe.force { x.fe.newest with switch := true } }) v
      let v := v.modMotion fun m => { m with brakeHold := if v.brakesInUse = [] then none else some v.time }
      (v.setDev .run).settle.answered c q)) ∧
    (u.takes c 0x0300 p → u.mayEnable = false → exec (.enable t c q p) s = .next ((u.charged c).reject c q eState)) ∧
    (u.takes c 0x0307 p → (∀ h ∈ u.heldFaults, h.1.cls ≠ 14) → exec (.clearFault t c q p) s =
      .next ((u.charged c).clearFaults.answered c q (match (u.charged c).clearFaults.heldFaults.head? with
        | some h => faultData h.1 | none => zeros 4))) ∧
    (∀ h, u.takes c 0x0307 p → (u.heldFaults.find? fun x => x.1.cls == 14) = some h →
      exec (.clearFault t c q p) s = .next ((u.charged c).reject c q eState (faultData h.1))))

/-! ### The motion channel -/

/-- SET_MODE, SET_TORQUE, SET_SPEED, SET_POSITION and SET_LIMITS with legal fields keep what they set (R220 to R222), SET_MODE for the next outer-loop
cycle; the setpoints are accepted where their mode and the command path are selected, or pending (the model's reading, assumption 31), and answered
E_STATE otherwise. Completion is stated of SET_MODE, SET_TORQUE, SET_SPEED, SET_POSITION, SET_LIMITS. -/
def Obligations.MotionSetpointsKept : Prop :=
  ∀ (t : Tick) (c : Source) (q : Nat) (p : Bytes) (s : State), let u := s.upTo t
    (u.takes c 0x0302 p → getN p 0 1 ≤ 2 → getN p 2 2 = 0 →
      getN p 1 1 = 0 ∨ (getN p 1 1 = 1 ∧ (u.port c).cyclic.enabled = true) ∨
        (getN p 1 1 = 2 ∧ u.cu 0x0014 40 1 ≠ 0 ∧ getN p 0 1 = u.cu 0x0014 41 1) →
      exec (.setMode t c q p) s = .next (((u.charged c).modMotion fun m => { m with modeNext := some (getN p 0 1, getN p 1 1) }).answered c q)) ∧
    (u.takes c 0x0303 p → u.onPath 0 = true →
      exec (.setTorque t c q p) s = .next (((u.charged c).modMotion fun m => { m with tqSet := getI p 0 4 }).answered c q)) ∧
    (u.takes c 0x0304 p → u.onPath 1 = true → 0 ≤ getI p 4 4 →
      exec (.setSpeed t c q p) s = .next (((u.charged c).modMotion fun m =>
        { m with spdSet := getI p 0 4, accSet := getI p 4 4 }).answered c q)) ∧
    (u.takes c 0x0305 p → u.onPath 2 = true → 0 ≤ getI p 8 4 → getN p 12 4 = 0 →
      exec (.setPosition t c q p) s = .next (((u.charged c).modMotion fun m =>
        { m with posSet := some (getI p 0 8), spdLimSet := getI p 8 4 }).answered c q)) ∧
    (u.takes c 0x0306 p → 0 ≤ getI p 0 4 → getI p 4 4 ≤ 0 → 0 ≤ getI p 8 4 → getN p 12 4 = 0 →
      exec (.setLimits t c q p) s = .next (((u.charged c).modMotion fun m =>
        { m with limP := getI p 0 4, limN := getI p 4 4, limS := getI p 8 4 }).answered c q)) ∧
    (u.takes c 0x0303 p → u.onPath 0 = false → exec (.setTorque t c q p) s = .next ((u.charged c).reject c q eState))

/-- DISABLE is answered OK and changes nothing in READY; in RUN and SHELTER, with every stack able to ramp and no stop in force, DISABLE 0 begins the
normal stop of the whole drive (R334), and a value above 1 is answered E_RANGE. OUTER_LOOP_CYCLE (R219): without a sealed configuration, and at any
other moment than the one that is due, no cycle runs; a cycle first takes speed, position and stamp of POS_PORT's aperture at its beginning, and then
runs its parts in order. Completion is stated of DISABLE, OUTER_LOOP_CYCLE. -/
def Obligations.OuterLoopAndStops : Prop :=
  (∀ (t : Tick) (c : Source) (q : Nat) (p : Bytes) (s : State), let u := s.upTo t
    (u.takes c 0x0301 p → getN p 0 1 ≤ 1 → u.dev = .ready → exec (.disable t c q p) s = .next ((u.charged c).answered c q)) ∧
    (u.takes c 0x0301 p → getN p 0 1 ≤ 1 → (∀ k ∈ u.enStacks, u.canRamp k = true) → u.motion.stop = none → getN p 0 1 = 0 →
      u.dev = .run ∨ u.dev = .shelter → exec (.disable t c q p) s =
        .next (((u.charged c).modMotion fun m => { m with stop := some { quick := false } }).answered c q)) ∧
    (u.takes c 0x0301 p → 1 < getN p 0 1 → exec (.disable t c q p) s = .next ((u.charged c).reject c q eRange))) ∧
  (∀ (t : Tick) (took : Nat) (s : State), let u := s.upTo t
    (u.sealedCfg = none ∨ u.motion.outerAt ≠ some t → exec (.outerLoopCycle ⟨t, took⟩) s = .next u) ∧
    (u.sealedCfg.isSome = true → u.awake = true → u.motion.outerAt = some t → vget u.integ.halted 0 false = false →
      exec (.outerLoopCycle ⟨t, took⟩) s =
      .next (let v := ((u.recCycle 5 t).modMotion fun m => { m with outerAt := none }).outerOverrun took
        let v := v.readMotion.ss1Cycle.srefCycle.shelterLeave.ownReact.obsChecks.overSpeed.noSet
        (v.modeChange.stopCycle.snapCycle.shelterRef.pathChange.torqueCycle (t + took) u.torsFrozen).modAux fun a =>
          { a with cycleAt := some (t + took) })) ∧
    (let l := u.motion.outerRec.getD u.posLatch;
      u.readMotion.motion.n = quot ((l.speed : Rat) / 4294967296) u.nRated ∧
      u.readMotion.motion.pos = l.count + u.motion.posOfs ∧ u.readMotion.motion.stamp = l.aperture ∧
      u.readMotion.dev = u.dev ∧ u.readMotion.blocks = u.blocks ∧ u.readMotion.stk = u.stk))

/-- The SREF input in modes 3 and 4: a rising edge completes a period with its high time (R223); in mode 2 a test current of 1 ms tells a voltage that
rises by more than 1 V (R223); a wire break commands 0 at once and raises SREF_WIRE_BREAK, and ends where the input has been valid for 100 ms with c
in the deadband throughout (R224); how long it has been so, and how long the periods lie outside their range, is kept beside. Completion is stated of
SREF_TEST_CURRENT, SREF_WIRE_BREAK, SREF_WIRE_BREAK_END, SREF_EDGE. -/
def Obligations.SrefInputFollowed : Prop :=
  ∀ (t : Tick) (u0 u1 : Int) (kind : WireBreakKind) (s : State), let u := s.upTo t
    (∀ r f, u.sealedCfg.isSome = true → u.awake = true → u.cu 0x0014 40 1 = 3 ∨ u.cu 0x0014 40 1 = 4 → u.sref.high = false →
      u.sref.lastRise = some r → u.sref.lastFall = some f → r ≤ f →
      exec (.srefEdge t true) s = .next ((u.srefQuiet.modSref fun x => { x with
        high := true, lastEdge := u.time, lastRise := some u.time,
        period := some (u.time - r, f - r) }).srefPeriod.srefQuiet)) ∧
    (u.sealedCfg.isSome = true → u.awake = true → u.cu 0x0014 40 1 = 3 ∨ u.cu 0x0014 40 1 = 4 → u.sref.high = true →
      exec (.srefEdge t false) s = .next ((u.srefQuiet.modSref fun x =>
        { x with high := false, lastEdge := u.time, lastFall := some u.time }).srefPeriod.srefQuiet)) ∧
    (u.sealedCfg.isSome = true → u.awake = true → u.cu 0x0014 40 1 = 2 →
      exec (.srefTestCurrent t u0 u1) s = .next ((u.modSref fun x =>
        { x with holdTo := u.time + 200000, rises := if 1000 < u1 - u0 then x.rises + 1 else 0 }).srefQuiet)) ∧
    (∃ o, u.srefQuiet = u.modSref fun x => { x with quiet := o }) ∧ (∃ o, u.srefPeriod = u.modSref fun x => { x with badSince := o }) ∧
    (u.sealedCfg.isSome = true → u.awake = true → u.sref.broken = false → u.wireBroken kind = true →
      exec (.srefWireBreak t kind) s = .next (let w := (u.modSref fun x => { x with broken := true, filt := 0, cmd := 0 }).srefQuiet.raise 0x8323 2 0 (le 1 (u.cu 0x0014 40 1) ++ le 1 (wireCode kind))
        if w.dev = .shelter then w.startStop false 0x8323 else w)) ∧
    (∀ f, u.sealedCfg.isSome = true → u.awake = true → u.sref.broken = true → u.srefValid = true → u.srefC = 0 → u.sref.quiet = some f →
      f + 10000000 ≤ u.time → exec (.srefWireBreakEnd t) s = .next (u.modSref fun x => { x with broken := false, rises := 0 }))

/-! ### Safety: sessions, blocks and logs -/

/-- SAFETY_LOGIN with the password in force opens a session of its source and is logged; five wrong ones in a row lock every login for 60 s; the
lockout ends by itself (R397). SAFETY_LOGOUT ends the session (R397); CHANGE_PASSWORD stores salt and digest of the new password in the other slot and
appends to the change log (R398, R399). WRITE_SAFETY_BLOCK needs the session of its source and is otherwise WRITE_BLOCK (R397); READ_SAFETY_LOG
answers up to 64 entries from an index on, and ACK_SAFETY_LOG marks the entries up to one as acknowledged (R400); GET_SAFETY_STATUS answers the safety
status and changes nothing (R407). Completion is stated of SAFETY_LOGIN, SAFETY_LOGOUT, WRITE_SAFETY_BLOCK, READ_SAFETY_LOG, ACK_SAFETY_LOG,
GET_SAFETY_STATUS, CHANGE_PASSWORD, LOGIN_LOCKOUT_END. -/
def Obligations.SafetySessionsAndBlocks : Prop :=
  (∀ (t : Tick) (c : Source) (q : Nat) (p : Bytes) (s : State), let u := s.upTo t
    (u.takes c 0x0500 p → u.lockedOut = false → u.pwOk p = true → exec (.safetyLogin t c q p) s =
      .next ((((u.charged c).modSafety fun x => { x with
        session := some c, pwLen := p.length, logins := satN 4 (x.logins + 1), failures := 0,
        lockedTo := none }).info 0x850D 2 0 (le 1 0 ++ le 1 (sourceId c))).answered c q)) ∧
    (u.takes c 0x0500 p → u.lockedOut = false → u.pwOk p = false → u.safety.failures = 4 → u.safety.session = none →
      exec (.safetyLogin t c q p) s =
      .next ((((u.charged c).modSafety fun x => { x with failures := 5, lockedTo := some (u.time + 6000000000) }).info 0x850D 2 0
        (le 1 1 ++ le 1 (sourceId c))).reject c q eAuth)) ∧
    (u.takes c 0x0500 p → u.lockedOut = true → exec (.safetyLogin t c q p) s =
      .next (((u.charged c).info 0x850D 2 0 (le 1 2 ++ le 1 (sourceId c))).reject c q eAuth)) ∧
    (∀ e, u.safety.lockedTo = some e → e ≤ u.time →
      exec (.loginLockoutEnd t) s = .next (u.modSafety fun x => { x with lockedTo := none })) ∧
    (u.takes c 0x0501 p → u.safety.session = some c →
      exec (.safetyLogout t c q p) s = .next (((u.charged c).modSafety fun x => { x with session := none, pwLen := 0 }).answered c q)) ∧
    (u.takes c 0x0507 p → u.safety.session = some c → u.pwOk (p.take u.safety.pwLen) = true → pwForm (p.drop u.safety.pwLen) = true →
      u.logRoom = true →
      exec (.changePassword t c q p) s =
        .next (let v := (u.charged c).logAppend c 2 ((u.safety.log.getLast?.map (·.arch)).getD 0) ((u.safety.log.getLast?.map (·.fp)).getD (zeros 32))
          (v.modSafety fun x => { x with
            stored := some { salt := (Config.salt v.safety.pwWrites).toList,
                             digest := (passwordDigest (Config.salt v.safety.pwWrites).toList (p.drop u.safety.pwLen)).toList }
            altSlot := !x.altSlot, pwWrites := x.pwWrites + 1 }).answered c q)) ∧
    (u.takes c 0x0507 p → u.safety.session ≠ some c → exec (.changePassword t c q p) s = .next ((u.charged c).reject c q eAuth))) ∧
  (∀ (t : Tick) (c : Source) (q : Nat) (p : Bytes) (s : State), let u := s.upTo t
    (u.takes c 0x0502 p → u.safety.session = some c → blockFails (safetyLayout (getN p 0 2)) p = none →
      exec (.writeSafetyBlock t c q p) s =
        .next (({ u.charged c with blocks := blockInsert (getN p 0 2) (p.drop 4) u.blocks }).answered c q)) ∧
    (u.takes c 0x0502 p → u.safety.session ≠ some c → exec (.writeSafetyBlock t c q p) s = .next ((u.charged c).reject c q eAuth)) ∧
    (u.takes c 0x0503 p → getN p 0 2 = 0xFFFF → exec (.readSafetyLog t c q p) s =
      .next ((u.charged c).answered c q ((u.safety.log.take 64).flatMap LogEntry.bytes))) ∧
    (∀ pre e post, u.takes c 0x0504 p → u.safety.log = pre ++ e :: post → e.index = getN p 0 2 → (∀ x ∈ pre, x.index ≠ getN p 0 2) →
      exec (.ackSafetyLog t c q p) s = .next (((u.charged c).modSafety fun x =>
        { x with log := (pre ++ [e]).map (fun y => { y with acked := true }) ++ post }).answered c q)) ∧
    (u.takes c 0x0505 p → ∃ d : Bytes, exec (.getSafetyStatus t c q p) s = .next ((u.charged c).answered c q d) ∧
      d.take 2 = le 1 (b2n u.archB) ++ le 1 u.safety.kpState ∧ (d.drop 16).take 1 = le 1 u.safety.cause))

/-- REQUEST_SAFETY_FUNCTION starts STO, SS1 or SBC on the stacks of its mask, all of them enabled, SS1 on every enabled one (R406). The
acknowledgement: a press is timed; one held for more than 10 s is stuck; on release a stuck press, one of more than 5 s (R392) and one above the
zero-speed limit (R393) acknowledge nothing and say so; in architecture A any other acknowledges (R393). Completion is stated of
REQUEST_SAFETY_FUNCTION, SAFE_ACK_PRESS, SAFE_ACK_RELEASE, SAFE_ACK_STUCK. -/
def Obligations.FunctionRequestedAndAcknowledged : Prop :=
  (∀ (t : Tick) (c : Source) (q : Nat) (p : Bytes) (s : State), let u := s.upTo t
    let mask := BitVec.ofNat 4 (getN p 1 1)
    (u.takes c 0x0506 p → 1 ≤ getN p 0 1 → getN p 0 1 ≤ 3 → 1 ≤ getN p 1 1 → getN p 1 1 ≤ 15 → getN p 2 2 = 0 → mask &&& ~~~u.enMask = 0 →
      (getN p 0 1 = 2 → mask = u.enMask) → (getN p 0 1 = 3 → u.brakesOf mask ≠ []) →
      exec (.requestSafetyFunction t c q p) s = .next (((u.charged c).requestFn (getN p 0 1) mask 8).answered c q)) ∧
    (u.takes c 0x0506 p → 1 ≤ getN p 0 1 → getN p 0 1 ≤ 3 → mask &&& ~~~u.enMask ≠ 0 →
      exec (.requestSafetyFunction t c q p) s = .next ((u.charged c).reject c q eRange))) ∧
  (∀ (t : Tick) (kt : Nat) (a : Nat) (s : State), let u := (s.upTo t).upKt kt
    let v := u.modSafety fun x => { x with pressAt := none, stuck := false }
    (u.dev ≠ .off → u.dev ≠ .inReset → exec (.safeAckPress t kt) s = .next (u.modSafety fun x => { x with pressAt := some kt })) ∧
    (u.safety.pressAt = some a → u.safety.stuck = false → a + msKt 10000 < kt → exec (.safeAckStuck t kt) s =
      .next ((u.modSafety fun x => { x with stuck := true }).info 0x8506 2 0 (le 1 3))) ∧
    (u.safety.pressAt = some a → u.safety.stuck = true → exec (.safeAckRelease t kt) s = .next (v.info 0x8506 2 0 (le 1 4))) ∧
    (u.safety.pressAt = some a → u.safety.stuck = false → a + msKt 5000 < kt → exec (.safeAckRelease t kt) s = .next (v.info 0x8506 2 0 (le 1 2))) ∧
    (u.safety.pressAt = some a → u.safety.stuck = false → kt ≤ a + msKt 5000 → (u.zeroSpd : Rat) < absR u.safety.dpSpeed → exec (.safeAckRelease t kt) s =
      .next (v.info 0x8506 2 0 (le 1 1))) ∧
    (u.safety.pressAt = some a → u.safety.stuck = false → kt ≤ a + msKt 5000 → absR u.safety.dpSpeed ≤ (u.zeroSpd : Rat) → u.archB = false → exec (.safeAckRelease t kt) s =
      .next ((v.info 0x8506 2 0 (le 1 0)).acknowledge kt)))

/-! ### Integrity and the fault history -/

/-- A lock-step mismatch halts its engine and the Kingpost enters its safe state; where the firmware still runs, LOCKSTEP_MISMATCH tells engine and
address (R414, R415). With debug attached the comparators stay silent; an attached debugger sets the flag, both brakes are set and gate enable goes
(R418). A burst of clean words that is the next of its region's pass changes no data: the next burst of the region follows, and the marks of its words
go; any other burst of clean words is an early write-back and changes nothing (R420 to R422). ALERT_N is kept as an alert, and a second one for the
same command is an uncorrectable error of that access (R425). Completion is stated of LOCKSTEP_MISMATCH, DEBUG_ATTACHED, SCRUB_BURST, ALERT_N. -/
def Obligations.IntegrityUnitReacts : Prop :=
  (∀ (t : Tick) (e : Engine) (pc : BitVec 32) (s : State), let u := s.upTo t
    (u.safety.debug = true → exec (.lockstepMismatch t e pc) s = .next u) ∧
    (u.up = true → u.safety.debug = false → vget u.integ.halted (engineIx e) true = false → exec (.lockstepMismatch t e pc) s =
      .next (let w := u.checkLine (engineIx e)
        if w.up then w.raise 0x8113 (match e with | .field _ => 1 | _ => 2) (match e with | .field k => k.val | _ => 0)
          (le 1 (min (engineIx e) 2) ++ zeros 3 ++ le 4 pc.toNat) else w)) ∧
    (u.checkLine (engineIx e) = (let c := if engineIx e = 0 then 1 else if engineIx e = 1 then 2 else 3
      let v := (u.modInteg fun x => { x with halted := vmod x.halted (engineIx e) fun _ => true }).kpSafe c
      if engineIx e = 0 then v.modAux fun a => { a with disabled := true, hb := a.hb.map fun h => h.command 0 0 u.time false false } else v)) ∧
    (u.up = true → u.safety.debug = false → exec (.debugAttached t) s =
      .next (let w := ((u.modSafety fun x => { x with debug := true, commMask := 0, commUntil := none }).setBrakes [0, 1]).settle
        if w.up then w.info 0x8114 2 0 (le 1 w.dev.code) else w))) ∧
  (∀ (t : Tick) (r : MemRegion) (b a : Nat) (rw : Bool) (s : State), let u := s.upTo t
    (u.clockRuns = true → b < regionSize r / 64 → u.scrubPass r b = false → exec (.scrubBurst t r b (List.replicate 8 .clean) rw) s = .next u) ∧
    (u.clockRuns = true → b < regionSize r / 64 → u.scrubPass r b = true → ∃ v, exec (.scrubBurst t r b (List.replicate 8 .clean) rw) s = .next v ∧
      v = u.modInteg (fun x => { x with
        scrub := vmod x.scrub (regionCode r) fun _ => (b + 1) % (regionSize r / 64), scrubAt := vmod x.scrubAt (regionCode r) fun _ => some u.time
        marks := x.marks.filter fun m => m.1 != regionCode r || !((List.range 8).any fun i => m.2.1 == 64 * b + 8 * i) })) ∧
    (u.clockRuns = true → exec (.alertN t a false) s = .next (u.modInteg fun x => { x with alert := some a })) ∧
    (u.clockRuns = true → u.integ.alert = some a → exec (.alertN t a true) s =
      .next ((u.modInteg fun x => { x with alert := none }).uncorrectable 10 a 2)))

/-- FAULT_HISTORY_APPEND moves the oldest staged record over a system channel that is idle to the region in use (R23, R433); READ_FAULT_HISTORY
answers the records from a number on (R437); GET_FAULTS answers the withdrawn guarantees, the classes and counts and the held faults (R439).
Completion is stated of GET_FAULTS, READ_FAULT_HISTORY, FAULT_HISTORY_APPEND. -/
def Obligations.FaultHistoryKeptAndRead : Prop :=
  ∀ (t : Tick) (c : Source) (q : Nat) (p : Bytes) (s : State), let u := s.upTo t
    (∀ e f r n, u.up = true → u.faults.staging = (e, f) :: r → u.sysIdle 14 15 = some n → exec (.faultHistoryAppend t) s =
      .next (((u.sysPost n 32).appendHist e (f + 4 * b2n (!u.linkHalted))).modFaults fun x => { x with staging := r })) ∧
    (u.sysIdle 14 15 = none → exec (.faultHistoryAppend t) s = .next u) ∧
    (∀ e f, (vget u.faults.hist u.histRegion []).length < 65535 → u.histRegion < 2 →
      vget (u.appendHist e f).faults.hist u.histRegion [] = vget u.faults.hist u.histRegion [] ++
        [{ recNo := vget u.faults.histNext u.histRegion 0, format := u.histFormat, flags := f, event := e }]) ∧
    (u.takes c 0x0403 p → getN p 0 4 = 0xFFFFFFFF → vget u.faults.hist u.histRegion [] = [] → exec (.readFaultHistory t c q p) s =
      .next ((u.charged c).answered c q (le 4 (vget u.faults.histNext u.histRegion 0) ++ le 2 0 ++ le 1 u.histFormat ++ zeros 1))) ∧
    (∀ r l, u.takes c 0x0403 p → getN p 0 4 = 0xFFFFFFFF → vget u.faults.hist u.histRegion [] = r :: l → (r :: l).length ≤ 127 →
      exec (.readFaultHistory t c q p) s = .next ((u.charged c).answered c q
        (le 4 r.recNo ++ le 2 (r :: l).length ++ le 1 ((r :: l).getLast (by simp)).format ++ zeros 1 ++ (r :: l).flatMap HistRec.bytes))) ∧
    (u.takes c 0x0402 p → u.heldFaults = [] → exec (.getFaults t c q p) s = .next ((u.charged c).answered c q
      (le 1 u.faults.lapsed.toNat ++ le 1 0 ++ le 2 0 ++ (((List.range 14).map fun i => le 4 (vget u.faults.occ (i + 1) 0)).flatten) ++ zeros 8)))

/-! ### The recorder -/

/-- RECORDER_SETUP keeps its setup and makes the recorder idle (R462); RECORDER_ARM arms an idle or stopped one and RECORDER_TRIGGER triggers an armed
one with its time (R464); RECORDER_READ answers bytes of a stopped recorder's frames (R466); RECORDER_FLUSH moves 4 KB of the staging buffer to the
ring over a system channel that is idle, and the last part once the recorder is stopped (R23, R465). Completion is stated of RECORDER_SETUP,
RECORDER_ARM, RECORDER_READ, RECORDER_TRIGGER, RECORDER_FLUSH. -/
def Obligations.RecorderCommands : Prop :=
  ∀ (t : Tick) (c : Source) (q : Nat) (p : Bytes) (s : State), let u := s.upTo t
    (u.takes c 0x0700 p → u.recSetupOk p = true → u.recorder.state = 0 → exec (.recorderSetup t c q p) s =
      .next ((({ u.charged c with recorder := { setup := some p } } : State)).answered c q)) ∧
    (∀ w, u.takes c 0x0701 p → u.recorder.setup = some w → u.recorder.state = 0 → exec (.recorderArm t c q p) s =
      .next (((({ u.charged c with recorder := { setup := some w } } : State)).recState 1 0).answered c q)) ∧
    (u.takes c 0x0703 p → u.recorder.state = 1 → exec (.recorderTrigger t c q p) s =
      .next ((((u.charged c).recState 2 0).modRecorder fun r => { r with trigAt := some u.stamp, trigDue := true }).answered c q (le 8 u.stamp))) ∧
    (u.takes c 0x0703 p → u.recorder.state ≠ 1 → exec (.recorderTrigger t c q p) s = .next ((u.charged c).reject c q eState)) ∧
    (∀ w, u.takes c 0x0702 p → u.recorder.state = 3 → u.recorder.setup = some w → 1 ≤ getN p 8 4 → getN p 8 4 ≤ 4096 →
      getN p 0 8 + getN p 8 4 ≤ u.recKept.length * frameSize w → exec (.recorderRead t c q p) s =
      .next ((u.charged c).answered c q ((((u.recKept.map u.recRead).flatten).drop (getN p 0 8)).take (getN p 8 4)))) ∧
    (∀ n, 4096 ≤ u.recorder.staged → u.sysIdle 8 9 = some n →
      exec (.recorderFlush t) s = .next ((u.sysPost n 4096).modRecorder fun r => { r with staged := r.staged - 4096 })) ∧
    (∀ n, 0 < u.recorder.staged → u.recorder.staged < 4096 → u.recorder.state = 3 → u.sysIdle 8 9 = some n →
      exec (.recorderFlush t) s = .next ((u.sysPost n u.recorder.staged).modRecorder fun r => { r with staged := 0 }))

/-! ### The application partition -/

/-- APP_CONTROL: start of a program that may run, suspend of a running one, and stop answer the program state (R443); a stop from another source than
the program ends the program and restores the eight credits of its port (R98, R443, R447). The suspension is complete once no application channel is
busy (R443). Completion is stated of APP_START, APP_STOP, APP_SUSPEND, SUSPEND_COMPLETE. -/
def Obligations.ProgramControlled : Prop :=
  ∀ (t : Tick) (c : Source) (q : Nat) (s : State), let u := s.upTo t
    (u.takes c 0x0704 [1, 0, 0, 0] → u.sealedCfg.isSome = true → (u.cu 0x0001 12 1).testBit 0 = true → u.app.state = 1 ∨ u.app.state = 3 ∨ u.app.state = 4 →
      u.power.pllBLost = false → u.power.ddrLost = false → exec (.appStart t c q [1, 0, 0, 0]) s =
      .next (((u.charged c).startApp 0).answered c q (le 1 2 ++ le 1 u.app.stopCause ++ zeros 2))) ∧
    (u.takes c 0x0704 [2, 0, 0, 0] → u.app.state = 2 → exec (.appSuspend t c q [2, 0, 0, 0]) s =
      .next (((u.charged c).modApp fun x => { x with suspendReq := true }).answered c q (le 1 2 ++ le 1 u.app.stopCause ++ zeros 2))) ∧
    (u.takes c 0x0704 [0, 0, 0, 0] → u.app.state = 2 ∨ u.app.state = 3 → c ≠ .app → exec (.appStop t c q [0, 0, 0, 0]) s =
      .next (((u.charged c).endApp 0).answered c q (le 1 4 ++ le 1 0 ++ zeros 2))) ∧
    (u.takes c 0x0704 [0, 0, 0, 0] → u.app.state ≠ 2 → u.app.state ≠ 3 → exec (.appStop t c q [0, 0, 0, 0]) s =
      .next ((u.charged c).answered c q (le 1 u.app.state ++ le 1 u.app.stopCause ++ zeros 2))) ∧
    (u.up = true → u.app.state = 2 → u.app.suspendReq = true → u.appDmaIdle = true → exec (.suspendComplete t) s =
      .next ((u.modApp fun x => { x with suspendReq := false }).setApp 3 0))

/-- APP_MESSAGE reaches a live program's inbound queue of 64 KB and answers the program's standing reply (R449); without a program it is answered
E_STATE. A drive message interrupts the running program (R450). A program ends with its cause: its exit 1, a program fault 2, its watchdog 3, an
uncorrectable error in its memory 4 (R442, R445); the loss of a side PLL is such an error, of PLL B with cause 5 (R80; the two causes are the model's
reading, assumption 40). A program that ended is STOPPED with its cause, and its port holds eight credits and no reply. Completion is stated of
APP_MESSAGE, DRIVE_MESSAGE_INTERRUPT, THROTTLE_PERIOD, APP_WATCHDOG_EXPIRY, PROGRAM_FAULT, PROGRAM_EXIT, PLL_LOCK_LOSS. -/
def Obligations.ProgramMessagesAndEnds : Prop :=
  (∀ (t : Tick) (c : Source) (q : Nat) (p : Bytes) (s : State), let u := s.upTo t
    (u.takes c 0x0705 p → u.app.state = 2 ∨ u.app.state = 3 → (u.app.inbound.map List.length).sum + p.length ≤ 65536 →
      exec (.appMessage t c q p) s = .next (((u.charged c).modApp fun x => { x with inbound := x.inbound ++ [p] }).answered c q u.app.standing)) ∧
    (u.takes c 0x0705 p → u.app.state ≠ 2 → u.app.state ≠ 3 → exec (.appMessage t c q p) s = .next ((u.charged c).reject c q eState)) ∧
    (u.takes c 0x0705 p → u.app.state = 2 ∨ u.app.state = 3 → 65536 < (u.app.inbound.map List.length).sum + p.length →
      exec (.appMessage t c q p) s = .next ((u.charged c).reject c q eBusy (le 1 3))) ∧
    (u.up = true → u.app.state = 2 → u.app.inbound ≠ [] →
      exec (.driveMessageInterrupt t) s = .next (u.modApp fun x => { x with irq := true, reserved := false })) ∧
    (u.up = true → u.time % 1600 = 0 → exec (.throttlePeriod t) s = .next (u.modApp fun x => { x with throttle := x.throttleNext }))) ∧
  (∀ (t : Tick) (a : Nat) (s : State), let u := s.upTo t
    (u.up = true → u.app.state = 2 → exec (.programExit t) s = .next (u.endApp 1)) ∧
    (u.up = true → u.app.state = 2 → exec (.programFault t a .program) s = .next (u.appFault 2 a)) ∧
    (u.up = true → u.app.state = 2 ∨ u.app.state = 3 → u.inAppMap a 1 = true → u.app.memFault = some (a / 8 * 8) →
      exec (.programFault t a .uncorrectable) s = .next (u.appFault 4 a)) ∧
    (u.up = true → u.app.state = 2 → u.cu 0x00C0 8 2 ≠ 0 → u.app.wdLast + msTicks (u.cu 0x00C0 8 2) + 100 ≤ t →
      exec (.appWatchdogExpiry t) s = .next (u.appFault 3 0)) ∧
    (u.up = true → u.app.state = 2 → exec (.pllLockLoss t .ddr) s =
      .next (((u.modPower fun x => { x with ddrLost := true }).modApp fun x => { x with irq := true }).appFault 4 0)) ∧
    (u.up = true → u.app.state ≠ 2 → u.app.state ≠ 3 → exec (.pllLockLoss t .pllB) s =
      .next ((u.modPower fun x => { x with pllBLost := true }).modApp fun x => { x with irq := true })) ∧
    (∀ n, u.endApp n = (
      let v := (((u.haltDma.loseOwner .app).modPort .app fun x => { x with replies := [], credits := 8 }).modApp fun x => { x with suspendReq := false, reserved := false })
      (v.modApp fun x => { x with state := 4, stopCause := n }).info 0x8701 2 0 (le 1 4 ++ le 1 v.app.state ++ le 1 n))))

/-! ### DMA -/

/-- CMD start queues an IDLE channel with its first descriptor, resume continues a FAULTED one from its point once its record is posted, abort makes a
channel IDLE without write-back (R457, R459); a fault record goes to the fault queue in the order of the faults (R460). A slot goes to the queued
channel of the highest level, the oldest request among equals (R455): a free slot, or, where every slot holds a lower level, the slot of the channel
that yields, which is queued again (stated for one that has not read its descriptor); where some slot holds its level or a higher one nothing happens.
A write of DTU_INVAL stands as GO until it completes; then the cached translations it names are gone and every later access walks again (R453, R454).
Completion is stated of DMA_CMD_START, DMA_CMD_RESUME, DMA_CMD_ABORT, DTU_INVAL, DTU_INVAL_COMPLETE, DMA_SLOT_GRANT, FAULT_RECORD_POST. -/
def Obligations.DmaChannelsAndSlots : Prop :=
  (∀ (t : Tick) (n : Fin 16) (s : State), let u := s.upTo t
    (u.up = true → (u.dmaCh n).state = 0 → exec (.dmaCmdStart t n) s = .next ((u.modDma fun d => { d with order := d.order + 1 }).modCh n fun c =>
      { c with
        desc := c.head, done := 0, completed := 0, fetched := false, saving := false, prio := 0, point := 0, state := 1,
               queuedAt := u.dma.order })) ∧
    (u.up = true → (u.dmaCh n).state ≠ 0 → exec (.dmaCmdStart t n) s = .next u) ∧
    (u.up = true → (u.dmaCh n).state ≠ 0 → exec (.dmaCmdAbort t n) s =
      .next ((u.modCh n fun c => { c with state := 0, fetched := false, saving := false }).freeSlot n)) ∧
    (u.up = true → (u.dmaCh n).state = 3 → (u.dmaCh n).record = none → (u.dmaCh n).saving = false → exec (.dmaCmdResume t n) s =
      .next ((u.modDma fun d => { d with order := d.order + 1 }).modCh n fun c =>
        { c with point := 0, fetched := c.resumeAt != 0, state := 1, queuedAt := u.dma.order })) ∧
    (u.up = true → (u.dmaCh n).state ≠ 3 → exec (.dmaCmdResume t n) s = .next u) ∧
    (∀ r, u.up = true → (u.dmaCh n).record = some r → r.length = 46 → (u.dma.fqWrite + 256 - u.dma.fqRead) % 256 ≠ 64 →
      exec (.faultRecordPost t n) s = .next ((u.modDma fun d =>
        { d with
        fq := vmod d.fq (d.fqWrite % 64) fun _ => le 2 d.fqSeq ++ r, fqWrite := (d.fqWrite + 1) % 256, fqSeq := (d.fqSeq + 1) % 65536,
                 irqFq := true }).modCh n fun c => { c with record := none })) ∧
    (∀ r, u.up = true → (u.dmaCh n).record = some r → (u.dma.fqWrite + 256 - u.dma.fqRead) % 256 = 64 → exec (.faultRecordPost t n) s = .next u)) ∧
  (∀ (t : Tick) (v : BitVec 32) (s : State), let u := s.upTo t
    (∀ n i, u.up = true → u.nextCh = some n → u.emptySlot = some i → exec (.dmaSlotGrant t) s =
      .next ((u.modDma fun d => { d with order := d.order + 1, slots := vmod d.slots i fun _ => some (n, u.dma.order) }).modCh n fun c =>
        { c with state := 2 })) ∧
    (∀ n, u.up = true → u.nextCh = some n → u.emptySlot = none → u.outranks n = false → exec (.dmaSlotGrant t) s = .next u) ∧
    (∀ n w i, u.up = true → u.nextCh = some n → u.emptySlot = none → u.victim = some w → u.outranks n = true → (u.dmaCh w).fetched = false →
      ((u.freeSlot w).queueCh w id).emptySlot = some i → exec (.dmaSlotGrant t) s = .next (((u.freeSlot w).queueCh w id).grant i n)) ∧
    (∀ n, u.nextCh = some n → n < 16 ∧ (u.dmaCh n).state = 1 ∧ ∀ m, m < 16 → (u.dmaCh m).state = 1 → u.chLevel m ≤ u.chLevel n) ∧
    (u.up = true → exec (.dtuInval t v) s = .next (u.modDma fun d => { d with inval := bitsN v.toNat 17 0 + bitsN v.toNat 31 31 * 2147483648 })) ∧
    (u.dma.inval.testBit 31 = true → exec (.dtuInvalComplete t) s =
      .next (u.modDma fun d => { d with tlb := d.tlb.filter (invalKeeps d.inval d.invalVa), inval := d.inval % 2147483648 })))

/-- DMA_DESCRIPTOR_FETCH of a channel of the application partition at an aligned descriptor that its translation reaches: GO = 0 ends the chain, a
valid descriptor's fields are taken (R458). A beat of a pattern descriptor writes the bytes of the pattern from DONE on to the destination and nothing
else of memory, and moves DONE on (R451, R456). Completion is stated of DMA_DESCRIPTOR_FETCH, DMA_BEAT. -/
def Obligations.DmaDescriptorsAndBeats : Prop :=
  ∀ (t : Tick) (n : Fin 16) (a : Nat) (v : State) (s : State), let u := s.upTo t
    let ch := u.dmaCh n
    (u.up = true → ch.state = 2 → ch.fetched = false → u.access n ch.desc 64 false = (.at_ a, v) → ch.desc % 64 = 0 →
      getN (Memory.readN v.mem a 64) 0 1 % 2 = 0 →
      exec (.dmaDescriptorFetch t n) s = .next ((v.modCh n fun c => { c with state := 0 }).freeSlot n)) ∧
    (let d := Memory.readN v.mem a 64;
      u.up = true → ch.state = 2 → ch.fetched = false → u.access n ch.desc 64 false = (.at_ a, v) → ch.desc % 64 = 0 →
      getN d 0 1 % 2 = 1 → badDesc d = false → getN d 3 1 ≠ 3 →
      exec (.dmaDescriptorFetch t n) s = .next (v.modCh n fun c =>
        { c with
        fetched := true, ctrl := getN d 0 2, prio := getN d 2 1 % 4, len := getN d 4 4, src := getN d 8 8, dst := getN d 16 8,
                 nextD := getN d 24 8, done := 0 })) ∧
    (let va := ch.dst + ch.done; let len := min (64 - va % 64) (ch.len - ch.done);
      u.up = true → ch.state = 2 → ch.fetched = true → 10 ≤ n.val ∨ u.throttled = false → ch.ctrl.testBit 3 = true → ch.done + len < ch.len →
      u.access n va len true = (.at_ a, v) → (v.dmaCh n) = ch →
      exec (.dmaBeat t n) s = .next ((v.storePa a ((List.range len).map fun i => BitVec.ofNat 8 (ch.src / 256 ^ ((ch.done + i) % 8)))).modCh n
        fun c => { c with done := c.done + len }) ∧
      ∀ x, Memory.wf v.mem = true → x < a ∨ a + len ≤ x → Memory.read (v.storePa a ((List.range len).map fun i =>
        BitVec.ofNat 8 (ch.src / 256 ^ ((ch.done + i) % 8)))).mem x = Memory.read v.mem x)

/-! ### Sensing and temperatures -/

/-- DECIMATED_SAMPLE at the t_s of a sample centre takes each measured value as full scale × (y − OFS) × (1 + GAIN) of the decimator's output y, with
t_c and t_s (R175 to R177); then come the calibration data, the range and sum checks, the latches of the feedback ports and the outer-loop cycle that
begins (R179, R183, R187, R219, R231). At any other tick, and without a sealed configuration, nothing changes but device time. DS_STUCK on the general
input raises its event and has no other effect (R179). RECONSTRUCTION_SAMPLE in a zero vector feeds the DC-link offset where its calibration runs
(R187); in a usable active vector of a half-period that reconstructs it gives a phase current and its pair check (R180, R183); one of a vector shorter
than the least usable time, or of a stack that does not switch, is not used (R178, R180). Completion is stated of DECIMATED_SAMPLE, DS_STUCK,
RECONSTRUCTION_SAMPLE. -/
def Obligations.SamplesTaken : Prop :=
  (∀ (t : Tick) (k : Fin 4) (m : MainSample) (i : Fin 24) (b : Bool) (s : State), let u := s.upTo t
    (u.sealedCfg = none → exec (.decimatedSample t k m) s = .next u) ∧
    (∀ tc e, u.sealedCfg.isSome = true → u.enabled k = true → u.awake = true → u.centreOf k t = some tc → winCentre (u.cu (0x30 + k) 8 2) t = some e →
      exec (.decimatedSample t k m) s =
      .next (let d := u.cfg (0x30 + k)
        let n := getN d 8 2
        let v := u.modStack k fun x => { x with
        sense := let y := x.sense
          { y with
        tc := tc, ts := t, fresh := true
        iU := physical (getN d 16 4) (sinc3 n m.u) (y.correction 0 tc).1 (y.correction 0 tc).2
        iV := physical (getN d 16 4) (sinc3 n m.v) (y.correction 1 tc).1 (y.correction 1 tc).2
        iW := physical (getN d 16 4) (sinc3 n m.w) (y.correction 2 tc).1 (y.correction 2 tc).2
        iDc := physical (getN d 20 4) (sinc3 n m.idc) (y.correction 3 tc).1 0
        uDc := physical (getN d 24 4) (sinc3 n m.udc) (getI d 60 4) 0, gen := physical (getN d 28 4) (sinc3 n m.gen) 0 0 } }
        ((((v.calSample k e tc m).unstick k e m).overRange k m).sumCheck k |>.fbLatchAll k t tc).cycleBegin k tc t)) ∧
    (u.centreOf k t = none → exec (.decimatedSample t k m) s = .next u) ∧
    (∀ j, dsSlot i = (j, 5) → u.sealedCfg.isSome = true → u.enabled j = true → u.awake = true → (u.cu (0x30 + j) 0 1).testBit 5 = true →
      exec (.dsStuck t i b) s = .next ((u.modStack j fun x =>
        { x with sense := { x.sense with stuck := vmod x.sense.stuck 5 fun _ => some (t, b) } }).occur 0x8313 1 j
        (le 1 i ++ le 1 (b2n b))).st) ∧
    (u.sealedCfg = none → exec (.dsStuck t i b) s = .next u)) ∧
  (∀ (t : Tick) (k : Fin 4) (m : RecSample) (s : State), let u := s.upTo t
    (m.lasts < minVector (u.cfg (0x30 + k)) → exec (.reconstructionSample t k m) s = .next u) ∧
    ((u.stack k).switching = false → exec (.reconstructionSample t k m) s = .next u) ∧
    (let d := u.cfg (0x30 + k);
      u.sealedCfg.isSome = true → u.enabled k = true → u.awake = true → (u.stack k).switching = true → (u.stack k).sense.dcFailed = false →
      minVector d ≤ m.lasts → (recWindow d m.start).2 = t →
      (vecPhase m.vec = none → (getN d 72 1).testBit 0 = true → u.obsBusy (machineOf u.arrange k) = false →
        exec (.reconstructionSample t k m) s = .next (u.modStack k fun x => { x with sense := { x.sense with cal := vmod x.sense.cal 3 fun c =>
          if c.ofsRun then { c with sums := c.sums.add 0 (sinc3 (getN d 10 2) m.idc : Rat) 1 } else c } })) ∧
      (∀ x sg, vecPhase m.vec = some (x, sg) → (u.halfSet k m.start).gives = true →
        exec (.reconstructionSample t k m) s = .next (u.recValue k (recWindow d m.start).1 m.start x sg m)) ∧
      (∀ x sg, vecPhase m.vec = some (x, sg) → (u.halfSet k m.start).gives = false → exec (.reconstructionSample t k m) s = .next u)))

/-- CALIBRATION stop keeps the present offset and gain as the targets of the inputs it names and stops their accumulation, restore asks for their
configured values, start runs them where SENSE allows it (R188, R198). GET_MEASUREMENTS answers the record of an enabled stack's last completed cycle
(R228), GET_TEMPERATURES the readings with their break flags (R560): nothing changes but the reply. Completion is stated of CALIBRATION_STOP,
CALIBRATION_START, CALIBRATION_RESTORE, GET_MEASUREMENTS, GET_TEMPERATURES. -/
def Obligations.CalibrationAndMeasurements : Prop :=
  (∀ (t : Tick) (c : Source) (q : Nat) (k : Fin 4) (s : State), let u := s.upTo t
    (u.takes c 0x0308 (le 1 k ++ [0, 3, 0]) → exec (.calibrationStop t c q (le 1 k ++ [0, 3, 0])) s =
      .next (((u.charged c).modStack k fun x => { x with sense := { x.sense with cal := Vector.ofFn fun i : Fin 4 => let y := x.sense.cal[i]
        { y with
        sums := {}, rest := {}, ofsTgt := y.ofs, gainTgt := if i = 3 then y.gainTgt else y.gain, ofsRun := false,
                 gainRun := y.gainRun && i == 3 } } }).answered c q)) ∧
    (u.takes c 0x0308 (le 1 k ++ [2, 3, 0]) → u.inPulseOff k = true → exec (.calibrationRestore t c q (le 1 k ++ [2, 3, 0])) s =
      .next (((u.charged c).modStack k fun x => { x with sense := { x.sense with cal := Vector.ofFn fun i : Fin 4 => let y := x.sense.cal[i]
        { y with restore := y.restore ||| (if i = 3 then 1 else 3) } } }).answered c q)) ∧
    (u.takes c 0x0308 (le 1 k ++ [2, 3, 0]) → u.inPulseOff k = false →
      exec (.calibrationRestore t c q (le 1 k ++ [2, 3, 0])) s = .next ((u.charged c).reject c q eState)) ∧
    (u.takes c 0x0308 (le 1 k ++ [1, 2, 0]) → (u.cu (0x30 + k) 72 1).testBit 2 = true → exec (.calibrationStart t c q (le 1 k ++ [1, 2, 0])) s =
      .next (((u.charged c).modStack k fun x => { x with sense := { x.sense with cal := Vector.ofFn fun i : Fin 4 => let y := x.sense.cal[i]
        { y with sums := {}, rest := {}, gainRun := y.gainRun || i != 3 } } }).answered c q))) ∧
  (∀ (t : Tick) (c : Source) (q : Nat) (p : Bytes) (s : State), let u := s.upTo t
    (u.takes c 0x0401 p → getN p 0 1 < 4 → u.enabled (getN p 0 1) = true →
      exec (.getMeasurements t c q p) s = .next ((u.charged c).answered c q (u.measRecord (getN p 0 1)))) ∧
    (u.takes c 0x0401 p → u.enabled (getN p 0 1) = false → exec (.getMeasurements t c q p) s = .next ((u.charged c).reject c q eRange)) ∧
    (u.takes c 0x0405 p → ∃ d : Bytes, exec (.getTemperatures t c q p) s = .next ((u.charged c).answered c q d) ∧ d.length = 32 ∧
      d.take 12 = ((List.range 6).flatMap fun i => leI 2 (vget u.thermal.die i {}).value) ∧ (d.drop 30).take 1 = le 1 u.thermal.level))

/-- THERMAL_EVALUATION runs at a multiple of 1 ms of device time while the firmware runs (R550): the readings are taken, every enabled stack's band,
derating and trip follow, then the die limit and the throttling; outside those times nothing changes. CAL_PERIOD_END evaluates the inputs of its
target once CAL_T has passed (R188, R193), and a SAR slot delivers its value to the request in progress and starts the next one, whose requests that
come by themselves are put first (R194, R195). Completion is stated of CAL_PERIOD_END, SAR_SLOT, THERMAL_EVALUATION. -/
def Obligations.PeriodicEvaluations : Prop :=
  ∀ (t : Tick) (x : ThermalInput) (k : Fin 4) (v : Int) (s : State), let u := s.upTo t
    (u.up = true → u.stamp % 100000 = 0 → vget u.integ.halted 0 false = false → exec (.thermalEvaluation t x) s =
      .next (let w := u.readTemps x
        let r := w.enStacks.foldl (fun (a : List Nat × State) k => let y := ((a.2.bandCycle k).derateCycle k).tripCycle k
          (if y.1 then a.1 ++ [k] else a.1, y.2)) ([], w)
        (r.2.critCycle r.1).throttleCycle)) ∧
    (u.stamp % 100000 ≠ 0 → exec (.thermalEvaluation t x) s = .next u) ∧
    (u.sealedCfg.isSome = true → u.awake = true → u.enabled k = true →
      (u.stack k).sense.calFrom + msTicks (1000 * u.cu (0x30 + k) 73 1) ≤ t → exec (.calPeriodEnd t (.stack k)) s =
      .next (((((u.calInput k 3).calInput k 0).calInput k 1).calInput k 2).modStack k fun x => { x with sense := { x.sense with calFrom := t } })) ∧
    (u.sealedCfg.isSome = true → u.awake = true → u.axEn k = true → (u.axis k).calFrom + msTicks (1000 * u.cu 0x30 73 1) ≤ t →
      exec (.calPeriodEnd t (.axis k)) s = .next ((u.auxCal k).modAxis k fun a => { a with calFrom := t })) ∧
    (u.awake = true → u.sarA.slot = none → exec (.sarSlot t .a v) s = .next ((u.sarPeriodic .a).sarStart .a)) ∧
    (∀ r, u.awake = true → u.sarB.slot = some r → exec (.sarSlot t .b v) s = .next (((u.sarResult .b r (u.time - 25) v).sarPeriodic .b).sarStart .b)) ∧
    (∀ r, nextReq u.time u.sarB.pending = some r → 6 ≤ r.input →
      u.sarStart .b = { u with sarB := { u.sarB with slot := some r, pending := u.sarB.pending.erase r } }) ∧
    (nextReq u.time u.sarB.pending = none → u.sarStart .b = { u with sarB := { u.sarB with slot := none } })

/-! ### The DC link and stops -/

/-- The chopper supervision: a chopper whose command is active and whose switch does not conduct is open (R327), one that is off with U_DC at or above
UV2 for CH_SHORT_T is shorted (R328); a link below UV2 for 10 ms raises DC_UNDERVOLTAGE and blocks ENABLE until it has been at or above UV1 for 100 ms
(R324). OV3 latches the trip of a stack with the action the Kingpost holds, and a latched stack trips no further (R325). A stack under SELECT moves
between pulse-off and ASC where its condition holds, with STOP_CHANGED (R332). A stop whose time limit has passed ends with STOP_TIMEOUT (R334); at
standstill for STANDSTILL_T, with no brake to set, the stop is done (R334). Completion is stated of CHOPPER_OPEN, CHOPPER_SHORT, DC_UNDERVOLTAGE,
DC_UNDERVOLTAGE_CLEAR, OV3_TRIP, STOP_CHANGE, STOP_STANDSTILL, STOP_TIMEOUT. -/
def Obligations.DcLinkAndStopReactions : Prop :=
  (∀ (t : Tick) (k : Fin 4) (s : State), let u := s.upTo t
    let x := u.stack k
    let d := u.dcCfg k
    (u.stackRuns k = true → (getN d 0 1).testBit 0 = true → x.chop.isOpen = false → x.chop.cmd = true → (u.gate (24 + k)).out = .on →
      getN (u.cfg (0x20 + k)) 0 1 / 4 % 4 ≠ 2 → (u.gate (24 + k)).t0 + getN (u.cfg (0x20 + k)) 16 1 + 100 ≤ u.time →
      exec (.chopperOpen t k .notConducting) s = .next (u.chopOpen k 0 0)) ∧
    (x.chop.cmd = false → exec (.chopperOpen t k .notConducting) s = .next u) ∧
    (u.stackRuns k = true → (getN d 0 1).testBit 0 = true → x.chop.cmd = false → x.chop.since + usTicks (getN d 22 2) ≤ u.time →
      x.sense.udcLost = false → (getN d 16 2 : Rat) * 100 ≤ x.sense.uDc →
      exec (.chopperShort t k) s = .next (u.raise 0x8365 1 k (le 2 x.udc01))) ∧
    (∀ f, u.stackRuns k = true → x.chop.uv = false → x.chop.below = some f → f + 1000000 ≤ u.time →
      exec (.dcUndervoltage t k) s =
      .next ((u.modStack k fun x => { x with chop := { x.chop with uv := true } }).raise 0x8363 1 k (le 2 x.udc01))) ∧
    (∀ f, u.stackRuns k = true → x.chop.uv = true → x.chop.above = some f → f + 10000000 ≤ u.time →
      exec (.dcUndervoltageClear t k) s = .next (u.modStack k fun x => { x with chop := { x.chop with uv := false } }))) ∧
  (∀ (t : Tick) (k : Fin 4) (cause : StopChangeCause) (s : State), let u := s.upTo t
    (u.awake = true → u.dev ≠ .boot → (u.stack k).ov3 = false → exec (.ov3Trip t k) s =
      .next (let w := (u.modStack k fun x => { x with ov3 := true, ov3Act := u.ov3Action k }).settle
        if w.awake && w.dev != .boot then w.raise 0x8362 1 k (le 1 (b2n ((u.ov3Action k).getD true)) ++ zeros 3 ++ le 4 (w.kpNow % 4294967296)) else w)) ∧
    ((u.stack k).ov3 = true → exec (.ov3Trip t k) s = .next u) ∧
    (u.stackRuns k = true → (u.stack k).stop.kind = .select → (u.stack k).fw = .asc → u.stopCond k cause = true → exec (.stopChange t k cause) s =
      .next ((u.modStack k fun x => { x with fw := .pulseOff, watch := {} }).settle.info 0x8367 1 k (le 1 1 ++ le 1 0 ++ le 1 (stopChangeCode cause)))) ∧
    (∀ d b, u.motion.stop = some d → u.dev = .run ∨ u.dev = .shelter → d.brakeAt = none → d.began = some b → b + msTicks (u.cu 0x0068 24 4) + 100 ≤ t →
      exec (.stopTimeout t) s = .next ((u.raise 0x8369 2 0 (zeros 4 ++ leI 4 u.speed24)).modMotion fun m => { m with stop := none })) ∧
    (∀ d z, u.motion.stop = some d → d.slow = some z → d.brakeAt = none → u.dev = .run ∨ u.dev = .shelter →
      z + msTicks (u.cu 0x0068 32 2) ≤ u.time → u.brakesInUse = [] → exec (.stopStandstill t) s =
      .next ((u.modMotion fun m => { m with stop := some { d with brakeAt := some u.time } }).stopDone)))

/-! ### The colonnade -/

/-- COLONNADE_JOIN with legal fields begins the formation from NONE (R303); COLONNADE_LEAVE of a member takes effect with its next share, outside RUN
the leader ends the colonnade with an END frame, and in NONE it is answered E_STATE (R316; the last is the model's choice, assumption 50);
COLONNADE_STATUS answers state, number and leader and changes nothing (R320). Completion is stated of COLONNADE_JOIN, COLONNADE_LEAVE,
COLONNADE_STATUS. -/
def Obligations.ColonnadeCommands : Prop :=
  ∀ (t : Tick) (c : Source) (q : Nat) (p : Bytes) (s : State), let u := s.upTo t
    (u.takes c 0x0800 p → u.sealedCfg.isSome = true → (u.cu 0x0001 11 1).testBit 0 = true → u.col.state = 0 → 100 ≤ getN p 0 2 → getN p 0 2 ≤ 10000 →
      2 ≤ getN p 2 1 → getN p 2 1 ≤ u.colN → getN p 3 5 = 0 → exec (.colonnadeJoin t c q p) s =
      .next ((((u.charged c).modCol fun x => { x with
        formAt := u.time, formT := getN p 0 2, minPres := getN p 2 1, seen := 0, elig := 0,
        forming0 := false, leaveDue := false, leader := 255, members := Vector.replicate 8 {} }).setCol 1).answered c q)) ∧
    (u.takes c 0x0800 p → u.col.state ≠ 0 → exec (.colonnadeJoin t c q p) s = .next ((u.charged c).reject c q eState)) ∧
    (u.takes c 0x0801 p → u.col.state = 3 → exec (.colonnadeLeave t c q p) s =
      .next (((u.charged c).modCol fun x => { x with leaveDue := true }).answered c q)) ∧
    (u.takes c 0x0801 p → u.col.state = 2 → u.dev ≠ .run → exec (.colonnadeLeave t c q p) s =
      .next ((((u.charged c).clo [u.bareShare ((u.col.cycle + 1) % 65536) true u.col.drop]).setCol 0).answered c q)) ∧
    (u.takes c 0x0801 p → u.col.state = 2 → u.dev = .run → exec (.colonnadeLeave t c q p) s = .next ((u.charged c).reject c q eState)) ∧
    (u.takes c 0x0801 p → u.col.state = 0 → exec (.colonnadeLeave t c q p) s = .next ((u.charged c).reject c q eState)) ∧
    (u.takes c 0x0802 p → ∃ d : Bytes, exec (.colonnadeStatus t c q p) s = .next ((u.charged c).answered c q d) ∧
      d.take 4 = le 1 u.col.state ++ le 1 u.colMe ++ le 1 u.col.leader ++ le 1 u.col.present.toNat ∧ d.length = 64)

/-- Frames on the colonnade ring: a device whose ring works but that takes part in no colonnade passes frames on (R298); the leader sends its shares
at a carrier zero of its time base once a sharing period has passed (R310) and takes a valid reply of a member off the ring into that member's record
(R313); a SHARE frame with a bad CRC is discarded by its consumer, counted, and raises COL_FRAME_ERROR (R298). Formation and its end: a device in
FORMING sends its ROLL frame every 1 ms, one in DETACHED every 10 ms (R304, R315) and passes another's on with its own marks where the parameters
agree (R302); from D_k + 1 µs on the leader judges the replies (R310, R313); a device that is not the leader to be leaves FORMING at the end of FORM_T
(R304); a member without a valid SHARE frame for MEMBER_MISS periods is detached (R314). Completion is stated of SHARING_CYCLE, SHARE_FRAME,
REPLY_FRAME, REPLY_DEADLINE, ROLL_SEND, ROLL_FRAME, FORMATION_TIMEOUT, COL_DETACHED. -/
def Obligations.ColonnadeFramesAndFormation : Prop :=
  (∀ (t : Tick) (f : Bytes) (s : State), let u := s.upTo t
    let v := u.clo []
    (u.ringOn = true → u.colOn = false → exec (.shareFrame t f) s = .next (u.clo [f]) ∧ exec (.replyFrame t f) s = .next (u.clo [f]) ∧
      exec (.rollFrame t f) s = .next (u.clo [f])) ∧
    (u.colOn = true → u.col.state = 2 → frameOk 0x53 52 f = false → exec (.shareFrame t f) s = .next ((v.ringError 0x53).clo [])) ∧
    (u.colOn = true → u.col.state = 2 → frameOk 0x53 52 f = true → getN f 4 1 % 8 = u.colMe → exec (.shareFrame t f) s = .next v.ringMeasured) ∧
    (u.colOn = true → u.col.state = 2 → f.length = 15 → getN f 1 1 = 0x52 → f.drop 13 = (le 2 (crc16 ((f.drop 1).take 12)).toNat).reverse →
      getN f 3 2 = u.col.cycle → u.stamp ≤ u.col.sk + 800 → getN f 2 1 % 8 < u.colN → getN f 2 1 % 8 ≠ u.colMe →
      exec (.replyFrame t f) s = .next (v.modCol fun c => { c with
        members := vmod c.members (getN f 2 1 % 8) fun m =>
        { m with
        avail := (getN f 2 1).testBit 3, limited := (getN f 2 1).testBit 4, leaving := (getN f 2 1).testBit 5, degr := (getN f 2 1).testBit 7,
                 tq := getI f 5 4, capP := getI f 9 2, capN := getI f 11 2, replied := true,
                 rejoin := if m.replied then m.rejoin else if (getN f 2 1).testBit 6 && !(getN f 2 1).testBit 3 then m.rejoin + 1 else 0 } })) ∧
    (∀ k, u.colOn = true → u.col.state = 2 → u.col.judged = true → u.sealedCfg = some k → k.t0 ≤ u.time → (u.time - k.t0) % u.ctrlCycle = 0 →
      u.col.sk = 0 ∨ u.col.sk + u.colPeriod ≤ u.time + 208 → exec (.sharingCycle t) s = .next v.sendShare)) ∧
  (∀ (t : Tick) (f : Bytes) (s : State), let u := s.upTo t
    (u.colOn = true → u.col.state = 1 → u.col.rollAt ≤ t →
      exec (.rollSend t) s = .next ((u.modCol fun x => { x with rollAt := u.time + 100000 }).clo [u.rollOf])) ∧
    (u.colOn = true → u.col.state = 4 → u.col.rollAt ≤ t →
      exec (.rollSend t) s = .next ((u.modCol fun x => { x with rollAt := u.time + 1000000 }).clo [u.rollOf])) ∧
    (u.colOn = true → u.col.state ≠ 1 → u.col.state ≠ 4 → exec (.rollSend t) s = .next u) ∧
    (u.colOn = true → u.col.state ≠ 0 → frameOk 0x4C 56 f = true → getN f 2 1 ≠ u.colMe → exec (.rollFrame t f) s = .next ((u.clo []).markRoll f)) ∧
    (u.colOn = true → u.col.state = 2 → u.col.judged = false → u.col.sk + 900 ≤ t → exec (.replyDeadline t) s = .next u.judge) ∧
    (u.colOn = true → u.col.state = 1 → u.col.forming0 = false → u.col.formAt + msTicks u.col.formT + 100 ≤ t → u.candidate = false →
      exec (.formationTimeout t) s = .next ((u.raise 0x8806 3 u.colMe (le 1 2)).setCol 0)) ∧
    (u.colOn = true → u.col.state = 3 → u.pair.query = none → u.col.lastFrame + getN u.colCfg 10 1 * u.colPeriod + 300 ≤ t →
      exec (.colDetached t) s = .next (u.detach 1)))

/-! ### The pair -/

/-- The bridle link: heartbeats leave at the multiples of 2,000 ticks (R472), a received one is taken up (R474) and a frame with a bad CRC or length
is discarded and counted (R472); the link comes up and goes down (R471), and with it a relay is lost (R544); the pair check is sent once per
millisecond while LINKING (R476). The mirror: a segment of a record is taken up, a gear queue is kept and acknowledged, a pair check is judged (R476,
R478); an ACK ends the wait of the frame it names (R478). BULK frames gather until a packet of the relay is complete (R472, R544). Completion is
stated of HEARTBEAT_SEND, HEARTBEAT, MIRROR_FRAME, PAIR_CHECK_SEND, MIRROR_ACK, BULK_FRAME, BRIDLE_LINK_UP, BRIDLE_LINK_DOWN. -/
def Obligations.BridleFrames : Prop :=
  (∀ (t : Tick) (f : Bytes) (s : State), let u := s.upTo t
    let v := u.modPair fun p => { p with out := [] }
    (u.pairOn = true → u.time % 2000 = 0 → exec (.heartbeatSend t) s = .next (v.sendBridle 0x48 0 v.hbData)) ∧
    (u.time % 2000 ≠ 0 → exec (.heartbeatSend t) s = .next v) ∧
    (u.pairOn = true → u.pair.link = true → bridleOk 0x48 f = true → f.length = 28 → exec (.heartbeat t f) s = .next (u.hbRx (bridleData f))) ∧
    (u.pairOn = true → u.pair.link = true → bridleOk 0x48 f = false →
      exec (.heartbeat t f) s = .next (u.modPair fun p => { p with frameErr := satN 4 (p.frameErr + 1) })) ∧
    (u.pairOn = true → exec (.bridleLinkUp t) s = .next (u.modPair fun p => { p with link := true })) ∧
    (u.pair.link = true → u.upd.session ≠ 3 →
      exec (.bridleLinkDown t) s = .next (u.modPair fun p => { p with link := false, part := [], relayIn := [], bulkQ := [] })) ∧
    (u.pair.link = true → u.upd.session = 3 → exec (.bridleLinkDown t) s =
      .next ((u.modPair fun p => { p with link := false, part := [], relayIn := [], bulkQ := [] }).loseRelay 0)) ∧
    (u.pairOn = true → u.pair.state = 1 → (∀ a, u.pair.checkAt = some a → a + 100000 ≤ u.time) → exec (.pairCheckSend t) s =
      .next ((v.modPair fun p => { p with checkAt := some u.time }).sendBridle 0x4D 0xFFFF v.checkData))) ∧
  (∀ (t : Tick) (f : Bytes) (s : State), let u := s.upTo t
    let v := u.modPair fun p => { p with out := [] }
    (u.pairOn = true → u.pair.link = true → bridleOk 0x4D f = true → getN f 6 2 = 0xFFFF → exec (.mirrorFrame t f) s = .next (v.checkRx (bridleData f))) ∧
    (u.pairOn = true → u.pair.link = true → bridleOk 0x4D f = true → getN f 6 2 ≠ 0xFFFF → getN f 6 2 % 256 ≤ 6 →
      exec (.mirrorFrame t f) s = .next (v.mirrorRx (getN f 6 2 / 256) (getN f 6 2 % 256) (bridleData f))) ∧
    (u.pairOn = true → u.pair.link = true → bridleOk 0x4D f = true → getN f 6 2 % 256 = 7 → exec (.mirrorFrame t f) s =
      .next ((v.modPair fun p => { p with queues := vmod p.queues 0 fun _ => bridleData f }).sendBridle 0x41 0 (le 2 (getN f 2 2) ++ zeros 2))) ∧
    (u.pairOn = true → u.pair.link = true → bridleOk 0x41 f = true → exec (.mirrorAck t f) s =
      .next (u.modPair fun p => { p with slowDue := p.slowDue.filter fun x => x.2 != some (getN f 8 2) })) ∧
    (u.pairOn = true → u.pair.link = true → bridleOk 0x55 f = true → getN f 6 2 = 0 → (bridleData f).length < 12 →
      exec (.bulkFrame t f) s = .next (u.modPair fun p => { p with relayIn := bridleData f })) ∧
    (u.pairOn = true → u.pair.link = true → bridleOk 0x55 f = true → getN f 6 2 = 0 → 12 + getN (bridleData f) 6 2 ≤ (bridleData f).length →
      12 ≤ (bridleData f).length → (bridleData f).head? = some 0xB5 →
      exec (.bulkFrame t f) s = .next ((u.modPair fun p => { p with relayIn := [], out := [] }).runRelayed (bridleData f))))

/-- Succession: in PAIRED, 66 µs without a heartbeat, or a heartbeat later than that (R40), begin the arbitration with a ROLL frame (R480); within 10
µs of its last bit the partner's mark on it returns the device to the other role, its absence is a takeover, and without the ring, or without an
answer within NET_T, the lower address takes over (R481). PAIR_STATUS answers state and role and changes nothing (R493). Completion is stated of
PAIR_STATUS, HEARTBEAT_LOSS, ARBITRATION_OUTCOME, PAIR_QUERY_TIMEOUT. -/
def Obligations.SuccessionArbitrated : Prop :=
  ∀ (t : Tick) (c : Source) (q : Nat) (p : Bytes) (s : State), let u := s.upTo t
    (∀ a d, u.pair.lastHb = some (a, d) → u.pairOn = true → u.pair.state = 2 → u.pair.hbLate = true ∨ a + 6700 ≤ t → exec (.heartbeatLoss t) s =
      .next (((u.setPair 3).modPair fun x => { x with hbLate := false, rollAt := u.time + 224, query := none }).clo [u.rollOf])) ∧
    (u.pairOn = true → u.pair.state = 3 → u.pair.query = none → u.stamp ≤ u.pair.rollAt + 1000 → exec (.arbitrationOutcome t .partnerSeen) s =
      .next ((u.setPair 5).pairEvent 0x8812 (le 1 0))) ∧
    (u.pairOn = true → u.pair.state = 3 → u.pair.query = none → u.stamp ≤ u.pair.rollAt + 1000 →
      exec (.arbitrationOutcome t .partnerUnseen) s = .next (u.takeover 0)) ∧
    (u.pairOn = true → u.pair.state = 3 → u.pair.query = none → u.pair.rollAt + 1100 ≤ t → (u.alPort 0).state = 0 → (u.alPort 1).state = 0 →
      exec (.arbitrationOutcome t .timeout) s = .next (u.queryOutcome none)) ∧
    (∀ a, u.pair.query = some a → u.pairOn = true → u.pair.state = 3 → a + msTicks (getN u.pairCfg 2 1) + 100 ≤ t → u.ownAddr < u.partnerAddr →
      exec (.pairQueryTimeout t) s = .next (u.takeover 2)) ∧
    (u.takes c 0x0803 p → ∃ d : Bytes, exec (.pairStatus t c q p) s = .next ((u.charged c).answered c q d) ∧
      d.take 2 = le 1 u.pair.state ++ le 1 (getN u.pairCfg 0 1))

/-! ### Firmware update -/

/-- UPDATE_OFFER with a legal header opens a session and empties the slot of its kind (R539); UPDATE_DATA appends at the expected offset (R540),
UPDATE_VERIFY of an image that is authentic, not rolled back and compatible leaves it in the slot that is not active (R530 to R540), and UPDATE_ABORT
closes the session without it (R538). Completion is stated of UPDATE_OFFER, UPDATE_DATA, UPDATE_VERIFY, UPDATE_ABORT. -/
def Obligations.UpdateSession : Prop :=
  ∀ (t : Tick) (q : Nat) (p : Bytes) (s : State), let u := s.upTo t
    let c := Source.service
    let w := u.charged c
    (u.takes c 0x0902 p → getN p 0 4 = 0 → hdrOk (p.drop 4) = true → exec (.updateOffer t c q p) s =
      .next ((((w.modUpd fun x => { x with
        session := 1, holder := 4, kind := getN p 8 1, header := p.drop 4, body := [], erased := 0, lastAt := u.stamp, late := false,
        baudNext := none, offerAt := none }).modUpd fun x => { x with slots := x.emptied }).sessionEvent 0 |>.answered c q).lastUpd 0)) ∧
    (u.takes c 0x0903 p → u.upd.session ≠ 3 → getN p 4 4 = 0 → getN p 0 4 = 512 + u.upd.body.length → 512 + u.upd.body.length + (p.drop 8).length ≤ hdrSize u.upd.header →
      exec (.updateData t c q p) s = .next (((w.modUpd fun x => { x with body := x.body ++ p.drop 8 }).answered c q
        (le 4 (512 + u.upd.body.length + (p.drop 8).length))).lastUpd 0)) ∧
    (u.takes c 0x0904 p → u.upd.session ≠ 3 → u.verdict = 0 → exec (.updateVerify t c q p) s =
      .next ((((w.modUpd fun x => { x with
        session := 2
        slots := vmod x.slots (2 * x.kind + (1 - u.bootRec.bit x.kind)) fun _ => some { header := x.header, body := x.body } }).sessionEvent 1).answered c q).lastUpd 0)) ∧
    (u.takes c 0x0904 p → u.upd.session ≠ 3 → u.verdict ≠ 0 → exec (.updateVerify t c q p) s =
      .next ((((w.modUpd fun x => { x with session := 1, body := [] }).queueReply c { status := u.verdict, seq := q }).lastUpd u.verdict).countReject)) ∧
    (u.takes c 0x0906 p → u.upd.session ≠ 3 → exec (.updateAbort t c q p) s = .next (((w.sessionEvent 2).closeSession false |>.answered c q).lastUpd 0)) ∧
    (u.listens = true → 0 < (u.port c).credits → u.upd.session = 3 → exec (.updateData t c q p) s = .next (w.forward 0x0903 q p))

/-- UPDATE_ACTIVATE writes a boot record with the new slot on trial and the reset follows its reply (R541); UPDATE_CONFIRM ends the trial and blows
the fuses up to the confirmed images (R542, R534), which never lowers the counter; UPDATE_STATUS answers session, holder and kind and changes nothing
(R547). A session without a packet of its holder for 10 s closes without its image (R540), a relay without traffic for 10 s is lost (R544), and the
slot of a session is erased sector by sector, and not after POWER_FAIL (R66, R539, R548). Completion is stated of UPDATE_STATUS, UPDATE_CONFIRM,
UPDATE_ACTIVATE, UPDATE_SESSION_TIMEOUT, RELAY_TIMEOUT, SLOT_ERASE_SECTOR. -/
def Obligations.UpdateActivationAndTimeouts : Prop :=
  (∀ (t : Tick) (q : Nat) (p : Bytes) (s : State), let u := s.upTo t
    let c := Source.service
    let w := u.charged c
    (u.takes c 0x0905 p → u.upd.session ≠ 3 → u.dev ≠ .sill → u.mayActivateImage = true → u.compatible u.judgedSet u.upd.kind u.upd.header = true →
      u.upd.holder = 4 → exec (.updateActivate t c q p) s = .next (
        let v := (w.writeRec fun r => { r with slots := r.slots ^^^ (1#4 <<< u.upd.kind), trial := u.upd.kind, tries := 3 }).updEvent 0x8902
          (le 1 u.upd.kind ++ le 1 (1 - u.bootRec.bit u.upd.kind) ++ zeros 2 ++ hdrVersion u.upd.header)
        (((v.modPower fun x => { x with resetDue := x.resetDue ++ [(.service, v.time, none)] }).closeSession true).answered c q).lastUpd 0)) ∧
    (∀ b, u.takes b 0x0901 p → getN p 0 1 < 4 → getN p 1 3 = 0 → u.bootRec.trial = getN p 0 1 → exec (.updateConfirm t b q p) s =
      .next (let v := ((u.charged b).writeRec fun r => { r with trial := 255, hist := if r.hist.getLsbD 0 then 3 else 0 }).blowFuses
        ((v.modUpd fun x => { x with trialBoot := false }).updEvent 0x8903 (le 1 (getN p 0 1) ++ le 1 0 ++ le 2 v.upd.counter)).answered b q)) ∧
    (∀ v : State, v.upd.counter ≤ v.blowFuses.upd.counter) ∧
    (∀ b, u.takes b 0x0900 p → ∃ d : Bytes, exec (.updateStatus t b q p) s = .next ((u.charged b).answered b q d) ∧
      d.take 3 = le 1 u.upd.session ++ le 1 u.upd.holder ++ le 1 u.upd.kind)) ∧
  (∀ (t : Tick) (s : State), let u := s.upTo t
    (u.upd.session = 1 ∨ u.upd.session = 2 → u.upd.late = true ∨ u.upd.lastAt + 1000000100 ≤ t →
      exec (.updateSessionTimeout t) s = .next ((u.sessionEvent 3).closeSession false)) ∧
    (u.upd.session = 3 → u.upd.late = true ∨ u.upd.lastAt + 1000000100 ≤ t → exec (.relayTimeout t) s = .next (u.loseRelay 1)) ∧
    (u.upd.session = 1 → u.power.powerFail = false → u.upd.erased < slotSize u.upd.kind / 65536 →
      exec (.slotEraseSector t) s = .next (u.modUpd fun x => { x with erased := x.erased + 1 })) ∧
    (u.upd.session ≠ 1 ∨ u.power.powerFail = true → exec (.slotEraseSector t) s = .next u) ∧
    (∀ v : State, (v.closeSession false).upd.session = 0 ∧ (v.closeSession false).upd.slots = v.upd.emptied ∧ (v.closeSession true).upd.slots = v.upd.slots))

/-! ### The Alcia network -/

/-- ALCIA_SEND with a legal frame to one active port puts it into that port's buffers under a new handle and answers the handle (R504); reserved
fields are answered E_RANGE, and NETWORK_STATUS answers a port's state and counters and changes nothing (R526). Completion is stated of
NETWORK_STATUS, ALCIA_SEND. -/
def Obligations.NetworkCommands : Prop :=
  ∀ (t : Tick) (c : Source) (q : Nat) (p : Bytes) (s : State), let u := s.upTo t
    let id := getN p 0 4
    (u.takes c 0x0805 p → id % 4096 = 0 → id < 2 ^ 29 → getN p 4 2 = 4 + 1 → 0x100 ≤ identCode id → identCode id < 0x800 → 2 ≤ identClass id →
      dlOk (getN p 6 2) = true → (u.alPort 0).state = 1 → ((u.alPort 0).tx.filter (·.kind == 0)).length < 32 → exec (.alciaSend t c q p) s =
      .next ((((u.charged c).modAlcia fun a => { a with handle := (a.handle + 1) % 4294967296 }).alPut 0
        { ident := id + u.alAddr, kind := 0, src := some c, fdf := true, brs := false, data := p.drop 8, handle := u.alcia.handle % 4294967296 }).answered c q
          (le 4 u.alcia.handle))) ∧
    (u.takes c 0x0805 p → id % 4096 ≠ 0 → exec (.alciaSend t c q p) s = .next ((u.charged c).reject c q eRange)) ∧
    (u.takes c 0x0804 p → getN p 0 1 ≤ 1 → ∃ d : Bytes, exec (.networkStatus t c q p) s = .next ((u.charged c).answered c q d) ∧
      d.take 1 = le 1 (u.alPort (getN p 0 1)).state ∧ (d.drop 4).take 2 = le 2 u.alAddr)

/-- A frame received without error lowers the receive error counter and is counted; a remote or base frame goes no further, any other is taken by its
key (R495, R496, R512). A user frame sent without error is reported to its sender with its stamp (R505). A receive error raises the receive error
counter by 1, or 8 where it saw a dominant bit (the ISO 11898-1 steps are presumed, assumption 60). Error confinement: a port in BUS_OFF recovers
after 1,408 nominal bit times with its counters at 0 (R518), a port in ALONE sends its probe every 10 ms (R517); an address claim goes out when the
wait of its round is over and is decided 50 ms after (R520). Completion is stated of ALCIA_FRAME_RX, ALCIA_FRAME_TX_DONE, ALCIA_TX_ERROR,
BUS_OFF_RECOVERY, PROBE_SEND, ADDR_CLAIM_SEND, ADDR_CLAIM_DECISION. -/
def Obligations.NetworkPortsAndFrames : Prop :=
  (∀ (t : Tick) (p : Fin 2) (f : CanFrame) (sof : Tick) (dom : Bool) (s : State), let u := (s.upTo t).alPump
    (u.alOn = true → (u.alPort p).state ≠ 0 → (u.alPort p).state ≠ 3 → (u.alPort p).rxErr ≤ 127 → f.extended = true → f.remote = false →
      exec (.alciaFrameRx t p f) s = .next ((((u.modAl p fun x => { x with rxErr := x.rxErr - 1 }).modAl p fun x =>
        { x with rxN := (x.rxN + 1) % 4294967296 }).frameRx p f).alPump)) ∧
    ((u.alPort p).state = 0 → exec (.alciaFrameRx t p f) s = .next u) ∧
    (∀ g, u.alOn = true → u.alHead p sof = some g → g.kind = 0 → g.brs = false → exec (.alciaFrameTxDone t p sof) s =
      .next ((((u.modHead p sof fun _ => none).modAl p fun x =>
        { x with tec := x.tec - 1, txN := (x.txN + 1) % 4294967296, tx := restart x.tx }).txDone p { g with attempts := g.attempts + 1 } 0 sof))) ∧
    (u.alOn = true → u.alHead p sof = none → exec (.alciaFrameTxDone t p sof) s = .next u) ∧
    (u.alOn = true → (u.alPort p).state ≠ 0 → (u.alPort p).state ≠ 3 → (u.alPort p).tec ≤ 255 → exec (.alciaTxError t p ⟨.receive dom, sof⟩) s =
      .next ((u.modAl p fun x => { x with errors := (x.errors + 1) % 4294967296 }).modAl p fun x =>
        { x with rxErr := min 255 (x.rxErr + if dom then 8 else 1) }))) ∧
  (∀ (t : Tick) (p : Fin 2) (s : State), let u := s.upTo t
    (u.alOn = true → (u.alPort p).state = 3 → (u.alPort p).busOffAt + 1408 * u.nomQ p * 5 / 4 ≤ u.time → exec (.busOffRecovery t p) s =
      .next ((u.modAl p fun x => { x with tec := 0, rxErr := 0, tx := restart x.tx }).setAl p 1)) ∧
    ((u.alPort p).state ≠ 3 → exec (.busOffRecovery t p) s = .next u) ∧
    (u.alOn = true → (u.alPort p).state = 2 → (∀ f ∈ (u.alPort p).tx, identCode f.ident ≠ 0x0FF) → (u.alPort p).probeAt + 1000000 ≤ u.time →
      exec (.probeSend t p) s = .next ((u.modAl p fun x => { x with probeAt := u.time }).alPut p
        { ident := mkIdent 31 0x0FF u.alAddr, kind := 1, data := [] })) ∧
    (u.alOn = true → u.alcia.claiming = true → u.alcia.claimSent = none →
      u.alcia.claimAt + (msTicks 1 + serialNo / 2 ^ (10 * u.alcia.claimK) % 1024 * usTicks 100) ≤ u.time → (u.alPort 0).state = 4 → (u.alPort 1).state = 0 →
      (u.alPort 0).tx = [] → exec (.addrClaimSend t) s =
      .next (let v := u.alPut 0 { ident := mkIdent 1 0x007 (u.alSeg * 64), kind := 1, data := le 2 u.alAddr ++ le 2 0 ++ Config.serial.toList }
        if (v.alPort 1).state = 4 ∧ !((v.alPort 1).tx.any fun f => identCode f.ident == 0x007) then
          v.alPut 1 { ident := mkIdent 1 0x007 (v.alSeg * 64), kind := 1, data := le 2 v.alAddr ++ le 2 0 ++ Config.serial.toList } else v)) ∧
    (∀ a, u.alOn = true → u.alcia.claiming = true → u.alcia.claimSent = some a → a + 5000100 ≤ t →
      exec (.addrClaimDecision t) s = .next (u.claimEnd (!u.alcia.claimLow))))

/-- Network time: the sync sender of a port sends SYNC every SYNC_P and, with the stamp of that frame, its network time in FOLLOW_UP (R516); five
periods without a FOLLOW_UP make the time invalid (R516), and a port with a priority of its own that heard no better SYNC for three periods becomes
the sender (R515); a frame that comes after such a time does not stop what it brings (R40). The network map: a node announces itself in its slot
(R521), a bridge announces its segment (R521) and sends its summary on the backbone (R522); a segment without a summary for 3 s is dropped (R522). A
command transfer that is not complete 10 ms after its first frame is discarded (R508), and a binding ends after its timeout where its node owns
nothing (R509). Completion is stated of SYNC_SEND, FOLLOW_UP_SEND, SYNC_TIMEOUT, SYNC_CANDIDATE_START, BRIDGE_ANNOUNCE_SEND, ANNOUNCE_SEND,
ROUTE_SUMMARY_SEND, SEGMENT_TIMEOUT, CMD_TRANSFER_TIMEOUT, BIND_TIMEOUT. -/
def Obligations.NetworkTimeMapAndTransfers : Prop :=
  (∀ (t : Tick) (p : Fin 2) (s : State), let u := s.upTo t
    let x := u.alPort p
    (∀ n, u.ownPrio p = some n → u.alOn = true → x.sending = true → x.state = 1 → (∀ a, x.syncSentAt = some a → a + u.syncP ≤ u.time) →
      exec (.syncSend t p) s =
      .next ((u.modAl p fun x => { x with syncSeq := (x.syncSeq + 1) % 256, syncAt := none, syncSentAt := some u.time }).alSys p 0 0x001
        (le 1 x.syncSeq ++ le 1 n ++ le 1 (u.ownHops p) ++ zeros 5))) ∧
    (∀ n a, x.syncAt = some (n, a) → u.alOn = true → x.sending = true → x.state = 1 → exec (.followUpSend t p) s =
      .next ((u.modAl p fun x => { x with syncAt := none }).alSys p 0 0x002 (le 1 n ++ zeros 7 ++ le 8 (u.netTime a)))) ∧
    (u.alOn = true → x.sending = false → x.state ≠ 0 → x.followLate = true ∨ x.followAt + 5 * u.syncP + 100 ≤ t →
      exec (.syncTimeout t p) s = .next ((u.modAl p fun x => { x with followLate := false }).timeInvalid p)) ∧
    (x.sending = true → exec (.syncTimeout t p) s = .next u) ∧
    (∀ n, u.ownPrio p = some n → u.alOn = true → x.state = 1 → x.sending = false → x.heardLate = true ∨ x.heardAt + 3 * u.syncP + 100 ≤ t →
      exec (.syncCandidateStart t p) s = .next ((u.modAl p fun x =>
        { x with sending := true, heardLate := false, sender := some (n, u.alAddr), syncAt := none, syncSentAt := none }).netTimeEvent p 3 0)) ∧
    (u.alcia.valid = true → u.timeInvalid p = ([0, 1].foldl (fun v k => if (v.ownPrio k).isNone then v.modAl k fun x => { x with sending := false } else v)
      (u.modAlcia fun a => { a with valid := false, goodRun := 0 })).netTimeEvent p 1 0)) ∧
  (∀ (t : Tick) (g : Fin 64) (n : Nat) (s : State), let u := s.upTo t
    (∀ p b, u.rolePort false = some p → u.alOn = true → (u.alPort p).state = 1 → (u.alPort p).annBase = some b → (u.alPort p).annDone = false →
      b + u.alAddr % 64 * u.tSlot p ≤ u.time → exec (.announceSend t) s = .next ((u.modAl p fun x => { x with annDone := true, annAt := some u.time }).alSys p 2 0x003
        (le 2 u.alAddr ++ le 1 (b2n u.isBridge + 2 * b2n (u.pair.state != 0) + 4 * b2n (decide (2 ≤ u.col.state)) + 8 * b2n (u.nodeB 2 1 != 0)) ++
          le 1 u.dev.code ++ u.versions.take 4))) ∧
    (∀ p, u.rolePort true = some p → u.alOn = true → u.isBridge = true → (u.alPort p).state = 1 → u.summaryDue p = true → exec (.routeSummarySend t) s =
      .next ((u.modAlcia fun a => { a with netMap := vmod a.netMap u.alSeg fun _ => a.segMap, sumAt := some u.time, sumMap := a.segMap }).alSys p 2 0x005
        (le 1 u.alSeg ++ zeros 3 ++ le 8 u.alcia.segMap.toNat))) ∧
    (∀ p, u.rolePort false = some p → u.alOn = true → u.isBridge = true → (u.alPort p).state = 1 → u.bridgeDue p ≤ u.time → (u.alPort p).brgCount ≠ 0 →
      u.time ≤ max (u.alPort p).activeAt (u.alPort (1 - p)).activeAt + msTicks 2000 → exec (.bridgeAnnounceSend t) s =
      .next (let v := (u.modAlcia fun a => { a with brgFirst := some (a.brgFirst.getD u.time) }).modAl p fun x =>
          { x with brgCount := x.brgCount + 1, brgAt := some u.time }
        v.alSys p 1 0x004 (le 1 v.alSeg ++ le 1 (2 * b2n (match v.rolePort true with | some q => (v.alPort q).state == 1 | none => false)) ++
          le 2 v.netNodes ++ zeros 4))) ∧
    (∀ a, u.alcia.segSeen[g] = some a → u.alOn = true → u.alcia.segLate[g] = true ∨ a + 300000100 ≤ t → exec (.segmentTimeout t g) s =
      .next (u.modAlcia fun a => { a with segLate := a.segLate &&& ~~~(1#64 <<< g.val), netMap := vmod a.netMap g fun _ => 0, segSeen := vmod a.segSeen g fun _ => none })) ∧
    (∀ x, (u.alcia.xfers.find? (·.node == n)) = some x → u.alOn = true → x.first + 1000100 ≤ t → exec (.cmdTransferTimeout t n) s =
      .next ((u.modAlcia fun a => { a with xfers := a.xfers.filter (·.node != n) }).alIgnore x.port)) ∧
    (∀ a b d, u.alcia.bound = some (a, b, d) → u.alOn = true → u.owner ≠ some .alcia → u.alcia.bindLate = true ∨ d + msTicks (u.nodeB 8 2) + 100 ≤ t →
      exec (.bindTimeout t) s = .next (
        let v := (u.modAlcia fun y => { y with bound := none, bindLate := false, rplPos := 0 }).modPort .alcia fun y => { y with replies := [], credits := 8 }
        ([0, 1].foldl (fun v k => v.modAl k fun y => { y with tx := y.tx.filter (·.kind != 2) }) v).netEvent 0x8828 b (le 2 a ++ le 1 1))))

/-! ### Command transport -/

/-- A window of the host port: the poll window sends the status word and the oldest reply, which is delivered and returns its credit once its last
byte has gone out (R89 to R91, R98); the repeat window sends the reply delivered last (R91); a window that begins with none of the four codes is
discarded with HOST_SYNC (R89); one that began before step 5 of a wake is discarded, and like every window carries the status word (R85, R90). A
cyclic packet with legal fields is held for its latch tick, with no credit (R98, R107, R108); at the latch tick the owner's is applied and the reply
is complete (R108), also where the interval held a rejected one, which counts as missed (the model's choice, assumption 20); an interval without one
is missed, and one whose source has lost ownership is answered E_LOCKED (R109). Completion is stated of PACKET_WINDOW, POLL_WINDOW, REPEAT_WINDOW,
DISCARDED_WINDOW, CYCLIC, CYCLIC_LATCH. -/
def Obligations.HostWindowsAndCyclicExchange : Prop :=
  (∀ (t b : Tick) (n : Nat) (f : Byte) (w : Bytes) (cut : Bool) (s : State), let u := s.upTo t
    let m := u.pins
    (∀ r l, u.hears b = true → (u.port .host).replies = r :: l → r.queued ≤ b → 16 + r.data.length ≤ n → r.nc = false → u.power.resetDue = [] →
      exec (.pollWindow ⟨t, b⟩ n) s = .next { u.modPort .host fun x => { x with replies := l, delivered := some r, credits := min 8 (x.credits + 1) } with
        pins := { m with miso := fit n (le 4 (u.statusAt b) ++ r.bytes) } }) ∧
    (u.hears b = true → (u.port .host).replies = [] →
      exec (.pollWindow ⟨t, b⟩ n) s = .next { u with pins := { m with miso := fit n (le 4 (u.statusAt b)) } }) ∧
    (∀ r, u.hears b = true → (u.port .host).delivered = some r →
      exec (.repeatWindow ⟨t, b⟩ n) s = .next { u with pins := { m with miso := fit n (le 4 (u.statusAt b) ++ r.bytes) } }) ∧
    (u.hears b = true → u.driving = true → f ≠ 0xB5 → f ≠ 0x00 → f ≠ 0x3C → exec (.discardedWindow ⟨t, b⟩ f n) s =
      .next (({ u with pins := { m with miso := fit n (le 4 (u.statusAt b)) } } : State).hostSync .host)) ∧
    (u.hears b = false → u.driving = true →
      let v : State := { u with pins := { m with miso := fit n (le 4 (u.statusAt b)) } }
      exec (.pollWindow ⟨t, b⟩ n) s = .next v ∧ exec (.repeatWindow ⟨t, b⟩ n) s = .next v ∧ exec (.discardedWindow ⟨t, b⟩ f n) s = .next v ∧
      (w.length + 1 = n → exec (.packetWindow ⟨t, b⟩ w cut) s = .next v))) ∧
  (∀ (t : Tick) (q : Nat) (p : Bytes) (s : State), let u := s.upTo t
    let c := Source.alcia
    let x := (u.port c).cyclic
    (u.listens = true → p.length = 64 → u.objection 0x0310 c p = none → x.enabled = true → x.held = none → cycFieldsOk p = true →
      exec (.cyclic t c q p) s = .next (u.countPacket.modPort c fun x =>
        { x with lastOk := max x.lastOk u.stamp, ownLate := x.ownLate || u.ownMissed c, cyclic := { x.cyclic with held := some (u.stamp, q, p) } })) ∧
    (u.up = true → u.linkHalted = false → u.latchTick c t = true →
      let v := u.modPort c fun x => { x with cyclic := { x.cyclic with lastLatch := t, rejected := none } }
      let w := u.modPort c fun x => { x with cyclic := { x.cyclic with lastLatch := t, rejected := none, held := none } }
      (∀ a n d, x.held = some (a, n, d) → a ≤ t → u.owner = some c → x.rejected = none → exec (.cyclicLatch t c) s = .next (w.latchApply c n d)) ∧
      (∀ a n d, x.held = some (a, n, d) → a ≤ t → u.owner = some c → x.rejected.isSome = true →
        exec (.cyclicLatch t c) s = .next ((w.latchMiss c none).latchApply c n d)) ∧
      (∀ a n d, x.held = some (a, n, d) → a ≤ t → u.owner ≠ some c → exec (.cyclicLatch t c) s = .next (w.latchMiss c (some (n, eLocked)))) ∧
      (x.held = none → exec (.cyclicLatch t c) s = .next (v.latchMiss c none))) ∧
    (u.latchTick c t = false → exec (.cyclicLatch t c) s = .next u))

/-- A packet that its transport brings whole is carried out as the packet of its opcode: the host's and the service port's window, and the internal
port's doorbell, bring NOP with any SEQ and payload to its effect (R89, R93, R97, R113, R447, R537). The service port: a gap in a packet ends it, and
the part that is less than a header is answered E_FRAME (R97, R537); a byte outside a packet is HOST_SYNC (R537); a reply sent is delivered and its
bytes were on SVTX (R91, R98, R537). In SILL a recovery frame offers an image and opens a session (R539, R546); one of an opcode outside its group is
answered E_OPCODE with SYNC 0x5A (R546). The internal port: REPLY_DONE of the slot that holds the oldest reply delivers it and the next slot follows
(R447); a 32-bit write of the doorbell register is CMD_DOORBELL (R446, R447), a byte written into memory of the application's map is the only byte of
memory that changes (R16, R440), and a write outside the application's map is a fault of the program that runs (R24). Completion is stated of
PACKET_WINDOW, SERVICE_PORT_PACKET, SERVICE_PACKET_GAP, SILL_RECOVERY_FRAME, CMD_DOORBELL, REPLY_DONE, REGISTER_WRITE, SERVICE_REPLY_SENT,
SERVICE_BYTE_OUTSIDE_PACKET. -/
def Obligations.PacketsFromEveryPort : Prop :=
  (∀ (t b : Tick) (q : Nat) (p : Bytes) (s : State), let u := s.upTo t
    let h : Bytes := [0x00] ++ le 2 0x0100 ++ le 2 q ++ le 2 p.length ++ p
    let w : Bytes := h ++ le 4 (crc32c (0xB5 :: h)).toNat
    q < 65536 → p.length ≤ 4096 →
    (u.takes .service 0x0100 p → exec (.servicePortPacket t w) s = .next ((u.charged .service).answered .service q p)) ∧
    (u.takes .host 0x0100 p → u.hears b = true → (u.port .host).replies = [] → exec (.packetWindow ⟨t, b⟩ w false) s =
      .next ((({ u with pins := { u.pins with miso := fit (w.length + 1) (le 4 (u.statusAt b)) } } : State).charged .host).answered .host q p)) ∧
    (∀ (v : BitVec 32) (j : Nat), u.takes .app 0x0100 p → j ≤ 8 → bitsN v.toNat 3 0 = j → bitsN v.toNat 20 8 = w.length + 1 →
      vget u.app.slots j [] = 0xB5 :: w → exec (.cmdDoorbell t v) s = .next ((u.charged .app).answered .app q p))) ∧
  ((∀ (t : Tick) (b : Bytes) (s : State), let u := s.upTo t
    (u.listens = true → 0 < (u.port .service).credits → b.length < 7 → getN (0xB5 :: b) 1 1 % 2 = 0 → exec (.servicePacketGap t b) s =
      .next ((u.countPacket.takeCredit .service).reject .service (getN (0xB5 :: b) 4 2) eFrame)) ∧
    (u.listens = true → exec (.serviceByteOutsidePacket t) s = .next (u.hostSync .service)) ∧
    (u.listens = false → exec (.serviceByteOutsidePacket t) s = .next u) ∧
    (∀ r l, u.listens = true → (u.port .service).replies = r :: l → r.nc = false → u.power.resetDue = [] → u.upd.baudNext = none →
      exec (.serviceReplySent t) s = .next ((u.modPort .service fun x => { x with replies := l, delivered := some r, credits := min 8 (x.credits + 1) }).modPins
        fun m => { m with svtx := r.bytes })) ∧
    (∀ op seq p, u.dev = .sill → u.listens = true → 0 < (u.port .service).credits → transport (0xA5 :: b) false none = .inr (op, p) →
      getN (0xA5 :: b) 4 2 = seq →
      let w := (u.countPacket.takeCredit .service).noteRecv .service
      (op < 0x0902 → exec (.sillRecoveryFrame t b) s =
        .next (((w.queueReply .service { status := eOpcode, seq := seq, sill := true }).lastUpd eOpcode).countReject)) ∧
      (op = 0x0902 → p.length = 516 → getN p 0 4 = 0 → hdrOk (p.drop 4) = true → u.upd.session = 0 → 4 ≤ u.bootRec.trial → u.power.powerFail = false →
        exec (.sillRecoveryFrame t b) s = .next (((((w.modUpd fun x => { x with
          session := 1, holder := 4, kind := getN p 8 1, header := p.drop 4, body := [], erased := 0, lastAt := u.stamp, late := false,
          baudNext := none, offerAt := none }).modUpd fun x => { x with slots := x.emptied }).queueReply .service
            { seq := seq, sill := true }).lastUpd 0))))) ∧
  (∀ (t : Tick) (v : BitVec 32) (a : Nat) (b : Byte) (d : Bytes) (s : State), let u := s.upTo t
    (∀ r l, u.listens = true → (u.port .app).replies = r :: l → bitsN v.toNat 3 0 = u.app.replySlot → r.nc = false → u.power.resetDue = [] →
      exec (.replyDone t v) s = .next ((u.modApp fun x => { x with replySlot := (x.replySlot + 1) % 9, replyMem := vmod x.replyMem x.replySlot fun _ => r.bytes }).modPort .app
        fun x => { x with replies := l, delivered := some r, credits := min 8 (x.credits + 1) })) ∧
    (u.up = true → d.length = 4 → natOf d = v.toNat → exec (.registerWrite t 0x02024000 d) s = exec (.cmdDoorbell t v) s) ∧
    (u.up = true → u.inAppMap a 1 = true → exec (.registerWrite t a [b]) s = .next (u.storePa a [b])) ∧
    (u.up = true → u.mapped a d.length = false → u.app.state = 2 → exec (.registerWrite t a d) s = .next (u.appFault 2 a)) ∧
    (u.up = true → u.mapped a d.length = false → u.app.state ≠ 2 → exec (.registerWrite t a d) s = .next u) ∧
    (Memory.wf u.mem = true → Memory.read (u.storePa a [b]).mem a = b ∧ ∀ x, x ≠ a → Memory.read (u.storePa a [b]).mem x = Memory.read u.mem x)))

/-! ### The gate-drive array -/

/-- No leg is ever driven on both its switches: whatever the sources call for, once every channel has its output the two switches of a leg are not
both on (R26, R155). -/
def Obligations.NoLegShortCircuited : Prop :=
  ∀ (s : State) (leg : Fin 12), ¬((s.driveGates.gate (2 * leg)).out = .on ∧ (s.driveGates.gate (2 * leg + 1)).out = .on)

/-- PWM_EDGE takes the compare sets whose tick has come and requests the high side while the counter is above the compare value, the low side
otherwise (R203, R205); NO_COMMAND_TIMEOUT holds a channel off with its clamp engaged (R60, R145); T_PL_MAX ends a plateau (R144), a measured
transition outside mode 1 begins the tail without adapting (R146, R147); the hold switch, the Miller clamp and the end of the booster's soft turn-off
act on their channel (R144, R145, R158). The on command of a switch waits for the dead time after its partner's off command, never less than 100 ns,
and then reaches it (R154, R155). Completion is stated of NO_COMMAND_TIMEOUT, PLATEAU_TIMEOUT, TRANSITION_MEASURED, MILLER_CLAMP_ENGAGE, PWM_EDGE,
HOLD_SWITCH_ENGAGE, BOOST_SOFT_END. -/
def Obligations.GateTransitionsProceed : Prop :=
  (∀ (s : State) (ch : Fin 24) (a : Tick), 10 ≤ s.deadTicks ch ∧
    (s.gateTarget ch = .on → (s.gate ch).out = .off → (s.gate ch).onAt = none → s.offCmd (partner ch) = some a → s.time < a + s.deadTicks ch →
      (s.driveGates.gate ch).out = .off ∧ (s.driveGates.gate ch).onAt = some (a + s.deadTicks ch)) ∧
    (s.gateTarget ch = .on → (s.gate ch).out = .off → (s.gate ch).onAt = none → s.offCmd (partner ch) = some a → a + s.deadTicks ch ≤ s.time →
      (s.driveGates.gate ch).out = .on) ∧
    ((vget s.gates ch {}).onAt = some a → a ≤ s.time → (s.gate ch).out = .on)) ∧
  ∀ (t : Tick) (k : Fin 4) (e : PwmEdgeInput) (ch : Fin 28) (ns : Nat) (s : State), let u := s.upTo t
    let g := u.gate ch
    let v := (u.feOverrun k).cmpActivate k
    let on : Bool := let c := vget (if e.rising then (v.stack k).fe.rise.c else (v.stack k).fe.fall.c) e.phase 0
      c == 0 || (c != 32 * v.carrierP k && decide (c < e.counter))
    (u.sealedCfg.isSome = true → u.enabled k = true → u.clockRuns = true → u.crosses k t e = true → exec (.pwmEdge t k e) s =
      .next ((v.modGate (6 * k + 2 * e.phase) fun g => { g with pwm := on, noCmd := false }).modGate (6 * k + 2 * e.phase + 1)
        fun g => { g with pwm := !on, noCmd := false }).settle) ∧
    exec (.noCommandTimeout t ch) s = .next (u.modGate ch fun g => g.noCommand u.time).settle ∧
    ((g.noCommand u.time).noCmd = true ∧ (g.noCommand u.time).out ≠ .on ∧
      (g.out = .on ∨ g.out = .off → (g.noCommand u.time).out = .off ∧ (g.noCommand u.time).clamp = (g.mode != 2))) ∧
    (g.t0 + u.cu (0x20 + chStack ch) 16 1 ≤ t → g.phase = .onPlateau →
      exec (.plateauTimeout t ch) s = .next (u.modGate ch fun g => { g with phase := .onTail })) ∧
    (g.t0 + u.cu (0x20 + chStack ch) 16 1 ≤ t → g.phase = .offPlateau →
      exec (.plateauTimeout t ch) s = .next (u.modGate ch fun g => { g with phase := .offTail })) ∧
    (g.phase = .onPlateau → g.mode ≠ 1 → g.t0 ≤ t → t < g.t0 + u.cu (0x20 + chStack ch) 16 1 →
      exec (.transitionMeasured t ch .on ns) s = .next (u.modGate ch fun g => { g with phase := .onTail, measOn := ns })) ∧
    (g.phase = .offPlateau → g.mode ≠ 1 → g.t0 ≤ t → t < g.t0 + u.cu (0x20 + chStack ch) 16 1 →
      exec (.transitionMeasured t ch .off ns) s = .next (u.modGate ch fun g => { g with phase := .offTail, measOff := ns })) ∧
    exec (.holdSwitchEngage t ch) s =
      .next (u.modGate ch fun g => if g.out = .on ∧ g.mode ≠ 2 then { g with hold := true, phase := .rest } else g) ∧
    (g.mode ≠ 2 → g.out = .off ∨ g.out = .softOff → exec (.millerClampEngage t ch) s =
      .next (u.modGate ch fun g => { g with out := .off, clamp := true, phase := .rest }).settle) ∧
    (g.mode = 2 → exec (.millerClampEngage t ch) s = .next u) ∧
    (g.mode = 2 → g.out = .softOff → g.softT0 + 10 * u.cu (0x20 + chStack ch) 26 1 ≤ t → exec (.boostSoftEnd t ch) s =
      .next (u.modGate ch fun g => { g with out := .off, phase := .rest, ghAt := u.time }).settle)

/-- A short circuit after blanking turns its switch off softly, locks the leg or the chopper out and raises SHORT_CIRCUIT (R157 to R159); a booster
fault in mode 2 whose monitor is judged by then locks out as well (R150, R160); gate-supply undervoltage of a channel in use locks out in RUN (R160,
R161) and ends with its supply, in mode 0 where that had been lost (R60, R161); a shoot-through attempt is counted in the device and in the Kingpost,
there in its own ticks (R43), and raised (R155, R156, R374). Completion is stated of SHORT_CIRCUIT, GATE_SUPPLY_UV, BOOSTER_FAULT,
SHOOT_THROUGH_ATTEMPT, GATE_SUPPLY_UV_END. -/
def Obligations.GateFaultsLockOut : Prop :=
  ∀ (t : Tick) (kt : Nat) (ch : Fin 28) (leg : Fin 12) (ns : Nat) (lost : Bool) (s : State), let u := s.upTo t
    let k := chStack ch
    ((u.gate ch).out = .on → 10 * u.cu (0x20 + k) (if isBk ch then 13 else 11) 1 ≤ ns → exec (.shortCircuit t ch ns) s = .next (
      let v := ((u.modGate ch fun g => g.drive .softOff u.time).lockOut ch).settle
      v.raise 0x8301 0 ch (le 1 (v.stack k).band ++ le 1 0 ++ le 2 (satN 2 ns)))) ∧
    (ns < 10 * u.cu (0x20 + k) (if isBk ch then 13 else 11) 1 → exec (.shortCircuit t ch ns) s = .next u) ∧
    (∀ x, (u.gate ch).mode = 2 → u.boosterDue ch x t = true → exec (.boosterFault t ch x) s =
      .next (((u.modGate ch fun g => if g.out = .on then g.drive .softOff u.time else g).lockOut ch).settle.raise 0x8304 0 ch
        (le 1 (match x with | .on => 0 | .off => 1 | .softOff => 2)))) ∧
    (∀ x, (u.gate ch).mode ≠ 2 ∨ u.boosterDue ch x t = false → exec (.boosterFault t ch x) s = .next u) ∧
    ((u.gate ch).uvPos = false → u.enabled k = true → u.dev = .run → exec (.gateSupplyUv t ch .vpos) s =
      .next (((u.modGate ch fun g => { g with uvPos := true }).lockOut ch).settle.raise 0x8303 0 ch (le 1 0))) ∧
    ((u.gate ch).uvPos = false → u.enabled k = false → exec (.gateSupplyUv t ch .vpos) s =
      .next (u.modGate ch fun g => { g with uvPos := true }).settle) ∧
    exec (.gateSupplyUvEnd t ch ⟨.vpos, lost⟩) s = .next (u.modGate ch fun g => { g with uvPos := false, mode := if lost then 0 else g.mode }).settle ∧
    exec (.gateSupplyUvEnd t ch ⟨.vneg, lost⟩) s = .next (u.modGate ch fun g => { g with uvNeg := false, mode := if lost then 0 else g.mode }).settle ∧
    (let c := 2 * leg.val;
      let u := u.upKt kt
      u.enabled (c / 6) = true → (u.stack (c / 6)).switching = true → (u.stack (c / 6)).stLimit = true →
      exec (.shootThroughAttempt ⟨t, kt⟩ leg) s = .next (
        let v := ((u.modGate c fun g => { g with pwm := true }).modGate (c + 1) fun g => { g with pwm := true }).settle
        let v := { v with stCount := satN 4 (v.stCount + 1) }.modSafety fun x => { x with stCount := satN 4 (x.stCount + 1) }
        let v := v.modStack (c / 6) fun x => { x with
          stStamps := kt :: x.stStamps.filter fun y => decide (kt - y ≤ msKt 1000) }
        let w := v.raise 0x8302 0 c (le 4 v.stCount)
        if w.cu 0x0F00 10 1 < (v.stack (c / 6)).stStamps.length ∧ !(w.stack (c / 6)).stLimit then
          (w.modStack (c / 6) fun x => { x with stLimit := true }).settle.raise 0x850B 1 (c / 6) (zeros 4 ++ le 4 (v.stack (c / 6)).stStamps.length)
        else w))

/-! ### Feedback -/

/-- Counting: an edge of A or B in quadrature leads to its level and counts one in its direction (R234), both at once are a quadrature error (R234), a
sin/cos quadrant changes the quadrant counter (R235), a level of Z is kept and a rejected pulse is counted (R234); a port that does not count still
takes up the levels; a Hall code counts by its sector and an invalid one raises HALL_INVALID (R238); the first tooth counts one in the wheel's
direction, and a gap its missing teeth as well, as the reference mark (R239). Completion is stated of FEEDBACK_EDGE, HALL_CHANGE, TOOTH_EDGE. -/
def Obligations.FeedbackCounts : Prop :=
  ∀ (t : Tick) (n : Fin 6) (x : Nat) (b : Bool) (code : Fin 8) (s : State), let u := s.upTo t
    let p := u.fbPort n
    (u.fbLive n = true → u.fbMode n = 1 → b ≠ p.lvA → exec (.feedbackEdge t n (.edgeA b x)) s = .next ((u.modFb n fun p => { p with lvA := b }).fbCount n
      ((if b != p.lvB then 1 else -1) * u.fbSign n) x (!u.fbBit n 3 || b))) ∧
    (u.fbLive n = true → u.fbMode n = 1 → b ≠ p.lvB → exec (.feedbackEdge t n (.edgeB b x)) s = .next ((u.modFb n fun p => { p with lvB := b }).fbCount n
      ((if b == p.lvA then 1 else -1) * u.fbSign n) x (!u.fbBit n 3))) ∧
    (u.fbLive n = true → u.fbMode n = 1 → exec (.feedbackEdge t n (.edgeBoth (!p.lvA) (!p.lvB) x)) s =
      .next ((u.modFb n fun p => { p with lvA := !p.lvA, lvB := !p.lvB, quadErrs := satN 4 (p.quadErrs + 1), quadBad := true }).raise 0x8331 2 0
        (le 1 n ++ zeros 3 ++ le 4 (satN 4 (p.quadErrs + 1))))) ∧
    (u.fbLive n = true → u.fbMode n = 2 → p.lastEdge = none → exec (.feedbackEdge t n (.quadrant b x)) s =
      .next (u.modFb n fun p => { p with
        qc := p.qc + if b then 1 else -1, lastEdge := some { count := p.qc + if b then 1 else -1, t5 := x, up := b } })) ∧
    exec (.feedbackEdge t n (.levelZ b)) s = .next (u.modFb n fun p => { p with lvZ := b }) ∧
    (u.fbLive n = true → u.fbMode n = 1 ∨ u.fbMode n = 6 → exec (.feedbackEdge t n .rejected) s = .next (u.fbReject n)) ∧
    (∀ e, u.fbLive n = false → exec (.feedbackEdge t n e) s = .next (u.modFb n fun p => p.levels e)) ∧
    (u.fbLive n = true → u.fbMode n = 5 → hallSector (u.fbBit n 0) code = none → exec (.hallChange t n ⟨code, x⟩) s =
      .next ((u.modFb n fun p => { p with hallBad := true }).raise 0x833A 2 0 (le 1 n ++ le 1 code))) ∧
    (∀ k, u.fbLive n = true → u.fbMode n = 5 → hallSector (u.fbBit n 0) code = some k → p.hall = none → p.state = 1 →
      exec (.hallChange t n ⟨code, x⟩) s = .next (
        let v := (u.modFb n fun p => { p with hallBad := false, hall := some code.val }).setFb n 2 8
        v.fbAlign n x)) ∧
    (∀ j k, u.fbLive n = true → u.fbMode n = 5 → hallSector (u.fbBit n 0) code = some k → p.hall.bind (hallSector (u.fbBit n 0)) = some j → k = (j + 1) % 6 →
      exec (.hallChange t n ⟨code, x⟩) s = .next (
        let v := ((u.modFb n fun p => { p with hallBad := false, hall := some code.val }).modFb n fun p =>
          { p with hallTurn := p.hallTurn + if k = 0 then 1 else 0 }).fbCount n 1 x true
        let v := if (v.fbPort n).state = 1 then v.setFb n 2 8 else v
        v.fbAlign n x)) ∧
    (u.fbLive n = true → u.fbMode n = 6 → p.lastEdge = none → exec (.toothEdge t n x) s =
      .next ((u.fbCount n ((if u.toothUp n then 1 else -1) * u.fbSign n) x true).modFb n fun q => { q with
        refNext := false, refDue := if p.refNext then some q.count else none })) ∧
    (∀ (e : SpdEdge) (r : Rat), let m := getN (u.fbCfg n) 32 1
      let d : Int := (if u.toothUp n then 1 else -1) * u.fbSign n
      u.fbLive n = true → u.fbMode n = 6 → p.lastEdge = some e → e.t5 ≤ x → p.tRef = some r → 0 < r → 0 < m →
      ((m : Rat) + 1 / 2) * r ≤ (x - e.t5 : Nat) → (x - e.t5 : Nat) ≤ 3 / 2 * ((m : Rat) + 1) * r → exec (.toothEdge t n x) s =
      .next ((u.fbCount n (d * (m + 1)) x true).modFb n fun q => { q with
        tRef := some (((x - e.t5 : Nat) : Rat) / ((m + 1 : Nat) : Rat)), gapHi := some (if d = 1 then q.count else q.count + (m + 1)), refNext := false,
        refDue := some q.count }))

/-- A serial frame without start bit, with the error bit or with a CRC that is not that of its bits is rejected and raised, a good first one sets
COUNT (R237); the first index becomes IDX_FIRST and ANG_BASE and makes the port VALID (R240, R241, R249); a lost signal of a supervised pair and a
supply fault raise their events (R251), and after ENC_PUP the port counts (R233). Which bits of a frame the CRC covers is the model's reading
(assumption 121). Completion is stated of SERIAL_FRAME, INDEX_LATCH, FB_SIGNAL_LOSS, FB_SUPPLY, ENC_PUP_END, FB_SIGNAL_LOSS_END. -/
def Obligations.FeedbackFramesAndLines : Prop :=
  ∀ (t : Tick) (n : Fin 6) (x ex crc : Nat) (nE nW : Bool) (pr : FbPair) (s : State), let u := s.upTo t
    let p := u.fbPort n
    let d := u.fbCfg n
    let good := getN d 19 1 = 0 ∨ crc = crcOfBits (getN d 19 1) (getN d 20 2) (frameBits d true x ex nE nW)
    (u.fbLive n = true → u.fbMode n = 3 → exec (.serialFrame t n .noStart) s =
      .next ((u.modFb n fun p => { p with serial := some false, serialGood := false }).raise 0x8338 2 0 (le 1 n ++ le 1 0))) ∧
    (u.fbLive n = true → u.fbMode n = 3 → ¬good → exec (.serialFrame t n (.frame x ex crc nE nW)) s =
      .next ((u.modFb n fun p => { p with serial := some false, serialGood := false }).raise 0x8337 2 0 (le 1 n ++ le 1 0 ++ le 2 crc))) ∧
    (u.fbLive n = true → u.fbMode n = 3 → good → nE = false → exec (.serialFrame t n (.frame x ex crc nE nW)) s =
      .next ((u.modFb n fun p => { p with serial := some false, serialGood := false }).raise 0x8338 2 0 (le 1 n ++ le 1 1))) ∧
    (u.fbLive n = true → u.fbMode n = 3 → good → nE = true → nW = true → p.serialSeen = false → exec (.serialFrame t n (.frame x ex crc nE nW)) s = .next (
      let v := u.modFb n fun p => { p with
        serial := some true, serialSeen := true, serialAny := false, serialGood := true
        count := invWord (u.fbBit n 0) (getN d 16 1 + getN d 17 1) x }
      if (v.fbPort n).state = 1 then v.setFb n 2 8 else v)) ∧
    (∀ l, u.fbLive n = true → u.fbIdx n = true → u.idxValue n = some l → p.idxFirst = none → p.state = 1 → exec (.indexLatch t n) s = .next (
      let step := sturn32 (turn32 (angleTurns l (u.fbCpr n) p.count) + 4294967296 - turn32 (angleTurns p.angBase (u.fbCpr n) p.count))
      ((u.modFb n fun p => { p with refDue := none, lastIdx := l }).modFb n fun p =>
        { p with idxFirst := some l, angBase := l, provBase := false, prevDelta := 0 }).setFb n 2 0 step)) ∧
    (u.fbLive n = true → u.fbIdx n = true → u.idxValue n = none → exec (.indexLatch t n) s = .next u) ∧
    (u.fbLive n = true → u.fbMode n = 1 → u.fbBit n 2 = true → exec (.fbSignalLoss t n pr) s =
      .next ((u.modFb n fun p => { p with loss := vmod p.loss (pairIx pr) fun _ => true }).raise 0x8333 2 0 (le 1 n ++ le 1 (pairIx pr)))) ∧
    exec (.fbSignalLossEnd t n pr) s = .next (u.modFb n fun p => { p with loss := vmod p.loss (pairIx pr) fun _ => false }) ∧
    (u.awake = true → vget u.pins.fbSup n false = true → u.fbMode n ≠ 0 → exec (.fbSupply t n .currentLimit) s =
      .next (u.raise 0x833F 2 0 (le 1 n ++ le 1 1))) ∧
    exec (.encPupEnd t n) s = .next (u.modFb n fun p => { p with pup := false })

/-! ### Field engines and observers -/

/-- A carrier zero of an enabled stack, in the tick that its carrier is at 0, decides what R205 and R206 decide there, and the time base sends the
pair's mirror (R478); a control cycle of a field engine with a new sample set takes the newest references and compare sets, checks currents and link,
takes its inputs and runs its loop (R27, R28, R205, R218); an engine that is halted, one without a new sample set and a stack that is not enabled do
nothing. Completion is stated of CARRIER_ZERO, FIELD_ENGINE_CYCLE. -/
def Obligations.FieldEngineRuns : Prop :=
  ∀ (t : Tick) (k : Fin 4) (s : State), let u := s.upTo t
    (u.sealedCfg.isSome = true → u.enabled k = true → u.awake = true → u.zeroAt k t = true → exec (.carrierZero t k) s = .next (
      let v := (u.carrierZero k).handOver k
      if k.val = v.timeBase ∧ v.pairOn = true ∧ v.pair.state ≠ 0 then (v.modPair fun p => { p with out := [] }).sendMirror else v)) ∧
    (u.enabled k = false ∨ u.zeroAt k t = false → exec (.carrierZero t k) s = .next u) ∧
    (u.sealedCfg.isSome = true → u.enabled k = true → u.awake = true → vget u.integ.halted (2 + k) false = false → (u.stack k).sense.fresh = true →
      exec (.fieldEngineCycle t k) s = .next (
        let v := ((((u.recCycle k (u.stack k).sense.tc).feOverrun k).cmpActivate k).beginCycle k).takeLead k
        let v := ((v.overCurrent k).dcCheck k).settle
        let c := v.cycIn k
        (v.fluxRange k (park c.iu c.iv c.iw c.th).1 (park c.iu c.iv c.iw c.th).2).fieldStep k c)) ∧
    (vget u.integ.halted (2 + k) false = true ∨ (u.stack k).sense.fresh = false → exec (.fieldEngineCycle t k) s = .next u)

/-- Observers: a probe whose back-EMF stayed below EMF_MIN begins the start injection (R259, R260); the ladder of a start whose saliency suffices
gives the axis (R262), its polarity contrast decides between LOWSPEED and a failed start (R263); a handover that has waited 2 s is a loss (R267); a
catch attempt is counted and goes to CATCH once zero-current control acts (R271), and after the last one the loss is lasting (R272). The snap
detector's request for the brakes comes 50 ms after the machine is slow (R291). Completion is stated of PROBE_END, START_EVALUATION, HANDOVER_TIMEOUT,
CATCH_ATTEMPT, OBS_LOSS_LASTING, SNAP_SBC_REQUEST. -/
def Obligations.ObserverEventsFollow : Prop :=
  ∀ (t : Tick) (m : Fin 4) (s : State), let u := s.upTo t
    let o := u.observer m
    let d := u.slMachine m
    (∀ a l, o.state = 1 → o.along = false → o.since + slCatchT d ≤ t → (o.eHist.filter fun p => decide (t ≤ p.1 + slCatchOk d)) = a :: l →
      (∀ p ∈ a :: l, p.2 < (getN d 42 2 : Rat) / 10) → (getN d 0 1).testBit 1 = true → exec (.probeEnd t m) s = .next (u.startBegin m)) ∧
    (o.state ≠ 1 → exec (.probeEnd t m) s = .next u) ∧
    (let n := getN d 1 1
      let len := 2 * getN d 2 1 + getN d 3 1
      let p := o.rises[n]?.getD 0
      let q := o.rises[n + 1]?.getD 0
      let c2 := (o.rises.zipIdx.map fun x => x.1 * Config.cosTurn (2 * (x.2 : Rat) / n)).sum
      let s2 := (o.rises.zipIdx.map fun x => x.1 * Config.sinTurn (2 * (x.2 : Rat) / n)).sum
      let sal := 2 * Config.sqrt (c2 * c2 + s2 * s2) / o.rises.sum
      let pol := absR (p - q) / ((p + q) / 2)
      (o.state = 2 → o.axis = none → o.step = n * len → o.rises.length = n → o.rises.sum ≠ 0 → (getN d 12 1 : Rat) ≤ sal * 100 →
        exec (.startEvaluation t m) s = .next (u.modObs m fun o => { o with axis := some (Config.atanTurn s2 c2 / 2), contrast := sal })) ∧
      (o.state = 2 → o.axis.isSome = true → o.step = (n + 2) * len → o.rises.length = n + 2 → 0 < p + q → pol * 100 < getN d 13 1 →
        exec (.startEvaluation t m) s = .next (u.startFailed m 1)) ∧
      (∀ ax, o.state = 2 → o.axis = some ax → o.step = (n + 2) * len → o.rises.length = n + 2 → 0 < p + q → (getN d 13 1 : Rat) ≤ pol * 100 →
        exec (.startEvaluation t m) s = .next (
          let th := fracTurn (ax + if q ≤ p then 0 else 1 / 2)
          let v := u.info 0x8341 1 o.lead (le 1 (pct o.contrast) ++ le 1 (pct pol) ++ le 2 (satN 2 ((u.time - o.since) / 10000)) ++ le 4 (turn32 th))
          let v := v.modOs o.lead fun x => { x.turnTo th with omega := 0 }
          let v := (v.modObs m fun o => { o with thLs := th, wls := 0, wlsAt := none, okSince := none }).setObs m 3
          ((v.modFe o.lead fun f => { f with first := true }).obsCount m th).alignStart o.lead th))) ∧
    (o.state ≠ 2 → exec (.startEvaluation t m) s = .next u) ∧
    (∀ a, o.wlsAt = some a → o.state = 3 → u.obsAngle m = true → a + msTicks 2000 + 100 ≤ t → exec (.handoverTimeout t m) s = .next (u.obsLost m 0)) ∧
    (o.state = 5 → o.asc = false → u.zeroActs m = true → o.attempts = 0 → 0 < getN d 46 1 → t ≤ o.lossAt + msTicks 2000 → exec (.catchAttempt t m) s =
      .next (((u.catchInit m).modObs m fun o => { o with attempts := o.attempts + 1, tryAt := u.time, okSince := none }).setObs m 6)) ∧
    (o.state = 5 → getN d 46 1 ≤ o.attempts → exec (.obsLossLasting t m) s =
      .next (((u.faultLasting ⟨9, 1, o.lead⟩ 0x8343 1 o.lead).hold ⟨9, 1, o.lead⟩ 0x8343).obsLasting m 0x8343)) ∧
    (∀ a, u.torsion.snapSlow = some a → u.torsion.snap = true → getN u.torsCfg 1 1 = 2 → a + msTicks 50 ≤ u.time →
      exec (.snapSbcRequest t) s = .next (u.requestFn 3 u.enMask 9))

/-! ### Auxiliary axes -/

/-- The axis commands where they are accepted: a move at a speed goes to MOVING with its limits and one in FAULT gets E_STATE (R354); a stop stops the
axes of its mask (R355); homing at the present position needs no switch (R364); a gear engages from OFF or HOLD, disengages and takes a new ratio in
GEARED (R357); a gear event far enough ahead is queued (R358); the status is answered and changes nothing, an axis above 3 gets E_RANGE (R368).
Completion is stated of AXIS_MOVE, AXIS_STOP, AXIS_HOME, GEAR_ENGAGE, GEAR_DISENGAGE, GEAR_SET_RATIO_NOW, GEAR_EVENT, AXIS_STATUS. -/
def Obligations.AxisCommandsAccepted : Prop :=
  ∀ (t : Tick) (c : Source) (q : Nat) (p : Bytes) (s : State), let u := s.upTo t
    let n := getN p 0 1
    let a := u.axis n
    let lim := fun (v m : Nat) => if v = 0 then m else min v m
    (u.takes c 0x0600 p → n < 4 → getN p 1 1 = 2 → getN p 2 2 = 0 → getN p 8 4 = 0 → u.axEn n = true → u.pairHolds n = false → a.state = 0 ∨ a.state = 1 ∨ a.state = 2 →
      u.limitIn n (getI p 4 4) = false → exec (.axisMove t c q p) s = .next ((((u.charged c).modAxis n fun x => { x with
        kind := 2, target := getI p 4 4, vlim := lim (getN p 12 4) (getN (u.axCfg n) 52 4), alim := lim (getN p 16 4) (getN (u.axCfg n) 56 4)
        release := false }).axGo n 2).answered c q)) ∧
    (u.takes c 0x0600 p → n < 4 → getN p 1 1 = 2 → getN p 2 2 = 0 → getN p 8 4 = 0 → a.state = 6 → exec (.axisMove t c q p) s = .next ((u.charged c).reject c q eState)) ∧
    (u.takes c 0x0601 p → exec (.axisStop t c q p) s = .next (([0, 1, 2, 3].foldl (fun (v : State) i =>
      if n.testBit i then (v.stopAxis i (n.testBit (4 + i))).axOut i else v) (u.charged c)).answered c q)) ∧
    (u.takes c 0x0602 p → n < 4 → getN p 1 1 = 3 → getN p 2 2 = 0 → u.axEn n = true → u.pairHolds n = false → a.state = 0 ∨ a.state = 1 → exec (.axisHome t c q p) s =
      .next (((u.charged c).modAxis n fun x => { x with method := 3, hrev := false, release := false, hphase := 3 }).answered c q)) ∧
    (let g := withAction 1 1 p
      let i := getN g 0 1
      u.takes c 0x0603 g → getN g 1 1 = 1 → i < 4 → getN g 2 2 = 0 → getN g 4 4 ≤ 2147483647 → -(2 ^ 47) ≤ getI g 8 8 → getI g 8 8 < 2 ^ 47 → u.axEn i = true →
      u.pairHolds i = false → getN (u.axCfg i) 4 1 ≤ 5 → (u.axis i).state = 0 ∨ (u.axis i).state = 1 → exec (.gearEngage t c q p) s =
      .next ((((u.charged c).modAxis i fun a => { a with
        ra := 0, rb := getI g 8 8, p0 := a.mLast, l := getN g 4 4, d := a.mDir, queue := [], imm := [], release := false }).axGo i 3).answered c q)) ∧
    (let g := withAction 1 0 p
      let i := getN g 0 1
      u.takes c 0x0603 g → getN g 1 1 = 0 → i < 4 → getN g 2 2 = 0 → getN g 4 4 ≤ 2147483647 → -(2 ^ 47) ≤ getI g 8 8 → getI g 8 8 < 2 ^ 47 → u.axEn i = true →
      u.pairHolds i = false → getN (u.axCfg i) 4 1 ≤ 5 → (u.axis i).state = 3 → exec (.gearDisengage t c q p) s =
      .next (((u.charged c).stopAxis i false).answered c q)) ∧
    (let g := withAction 1 2 p
      let i := getN g 0 1
      u.takes c 0x0603 g → getN g 1 1 = 2 → i < 4 → getN g 2 2 = 0 → getN g 4 4 ≤ 2147483647 → -(2 ^ 47) ≤ getI g 8 8 → getI g 8 8 < 2 ^ 47 → u.axEn i = true →
      u.pairHolds i = false → getN (u.axCfg i) 4 1 ≤ 5 → (u.axis i).state = 3 → exec (.gearSetRatioNow t c q p) s =
      .next (((u.charged c).modAxis i fun a => a.fire a.mLast
        { point := (u.axis i).mLast, ratio := getI g 8 8, ramp := getN g 4 4, dir := (u.axis i).mDir }).answered c q)) ∧
    (u.takes c 0x0604 p → n < 4 → getN p 1 1 = 0 → getN p 2 2 = 0 → getN p 4 4 ≤ 2147483647 → -(2 ^ 47) ≤ getI p 16 8 → getI p 16 8 < 2 ^ 47 → u.axEn n = true → a.state = 3 →
      a.queue = [] → (getN (u.axCfg n) 84 4 : Int) ≤ a.mDir * (getI p 8 8 - a.mLast) → exec (.gearEvent t c q p) s =
      .next (((u.charged c).modAxis n fun x => { x with
        queue := [{ point := getI p 8 8, ratio := getI p 16 8, ramp := getN p 4 4, dir := a.mDir }] }).answered c q (leI 8 a.mLast))) ∧
    (u.takes c 0x0605 p → n < 4 → exec (.axisStatus t c q p) s = .next ((u.charged c).answered c q (u.axisRecord n))) ∧
    (u.takes c 0x0605 p → 4 ≤ n → exec (.axisStatus t c q p) s = .next ((u.charged c).reject c q eRange))

/-- Axis events: an axis cycle runs the axes in order, asks for the shunts of the steppers and for the bus voltage (R195, R345, R349); a stepper that
has stood for HOLD_T goes to its hold current (R347); its chopper ends the on-phase of a bridge and starts it again after its off-time (R348); a PWM
period of an axis at rest measures its shunt offsets once its half-bridges have been off for 20 µs (R193), one of an axis that is driven runs its
current loop and places its conversions (R350); a switch level that stays is kept with the count that stood at the first sample of its interval
(R362), and one that does not is a chatter event (R363). The half-bridges of the axes: a refresh takes the high side off, the low side on for
REFRESH_W and the high side back on with DT_AUX between (R167, R168), a precharge without a bootstrap undervoltage ends (R169), a bootstrap
undervoltage switches its half-bridge off and precharges again with its event (R169), an overvoltage of the axis bus turns every half-bridge off
(R170), an attempt to turn on both switches is held off and counted (R167), and an overcurrent is raised and turns the axis off (R349). Completion is
stated of AXIS_CYCLE, HOLD_CURRENT_TIMEOUT, STEPPER_CHOP_TRIP, STEPPER_TOFF_END, REFRESH_SEQUENCE, PRECHARGE_DONE, BOOTSTRAP_UV, AUX_BUS_OV,
AUX_SHOOT_THROUGH_ATTEMPT, AX_OVERCURRENT, SWITCH_CHANGE, AXIS_PWM_PERIOD. -/
def Obligations.AuxiliaryAxesFollow : Prop :=
  (∀ (t : Tick) (n : Fin 4) (b : Fin 2) (i : AxisSwitch) (lv : Bool) (since : Tick) (s : State), let u := s.upTo t
    let a := u.axis n
    let br := vget a.bridges b {}
    (∀ y, u.awake = true → u.sealedCfg.isSome = true → vget u.integ.halted 0 false = false → u.aux.cycleAt = some y → y ≤ t → exec (.axisCycle t) s = .next (
      let v := [0, 1, 2, 3].foldl (fun (v : State) i => v.axCycle i) (u.modAux fun a => { a with cycleAt := none })
      let v := [0, 1, 2, 3].foldl (fun (v : State) i => if v.axEn i && v.axType i == 0 then v.superviseShunts i else v) v
      if [1, 2, 3, 0].any (fun i => v.axEn i && v.axType i != 0) && v.sarB.pending.all (·.input != 32) then
        v.sarRequest .b { cls := 3, input := 32, at_ := v.time } else v)) ∧
    (u.sealedCfg = none ∨ u.aux.cycleAt = none → exec (.axisCycle t) s = .next u) ∧
    (u.axEn n = true → u.axType n = 0 → a.speed = 0 → a.lastChg + msTicks (getN (u.axCfg n) 18 2) + 100 ≤ t → exec (.holdCurrentTimeout t n) s =
      .next (((u.modAxis n fun a => { a with hold := true }).axSetPoints n).axOut n)) ∧
    (u.axEn n = true → u.axType n = 0 → br.onPhase = true → br.blankAt + 10 * getN (u.axCfg n) 22 1 ≤ t → exec (.stepperChopTrip t n b) s =
      .next ((u.modAxis n fun a => { a with bridges := vmod a.bridges b fun x => { x with onPhase := false, offAt := u.time } }).axOut n)) ∧
    (u.axEn n = true → u.axType n = 0 → a.state = 1 → a.precharge = false → br.onPhase = false → br.offAt + 50 * getN (u.axCfg n) 20 1 ≤ t →
      100000 ≤ (t - br.onAt) * getN (u.axCfg n) 23 1 → exec (.stepperToffEnd t n b) s =
      .next ((u.modAxis n fun a => { a with bridges := vmod a.bridges b fun x => if absR x.set * 100 < getN (u.axCfg n) 12 2 then { x with offAt := u.time }
        else { x with onPhase := true, onAt := u.time, blankAt := u.time } }).axOut n)) ∧
    (u.axEn n = true → u.awake = true → vget u.integ.halted 0 false = false → u.axPeriodAt n t = true → a.state = 0 ∨ a.state = 6 → a.precharge = false →
      (u.axSlew n).axQuiet n = true → a.measure = 0 → exec (.axisPwmPeriod t n) s = .next ((u.axSlew n).measureShunts n)) ∧
    (u.axEn n = true → u.awake = true → vget u.integ.halted 0 false = false → u.axPeriodAt n t = true → a.state ≠ 0 → a.state ≠ 6 → a.precharge = false →
      u.axType n ≠ 0 → exec (.axisPwmPeriod t n) s = .next (
        let v := u.axSlew n
        let tp := u.ctrlCycle / max 1 (getN (u.axCfg n) 6 1)
        ((v.axOut n).axLoop n tp).axConvert n (v.axPlan n tp) ((byDuty a.duties)[1]?.getD 0))) ∧
    (u.axEn n = true → u.awake = true → a.state ≠ 4 → since + 10000 * getN (u.axCfg n) 80 1 ≤ t → exec (.switchChange t n i lv true since) s = .next (
      (u.modAxis n fun a => { a with sw := vmod a.sw (swIx i) fun w => { w with
        active := lv, latched := a.rawAt since, stamp := u.time } }).axOut n)) ∧
    (t < since + 10000 * getN (u.axCfg n) 80 1 → exec (.switchChange t n i lv true since) s = .next u) ∧
    (u.axEn n = true → u.awake = true → (vget a.sw (swIx i) {}).faulty = true → exec (.switchChange t n i lv false since) s =
      .next (u.modAxis n fun a => { a with sw := vmod a.sw (swIx i) fun w => { w with
        chatter := u.time :: (vget (u.axis n).sw (swIx i) {}).chatter.filter fun y => decide (u.time - y ≤ msTicks (getN (u.axCfg n) 82 2)), faulty := true } }))) ∧
  (∀ (t : Tick) (h : Fin 16) (n : Fin 4) (sh : Fin 8) (v : Nat) (s : State), let u := s.upTo t
    let m := h.val / 4
    ((u.hbNow h).hi = true → u.axType m ≠ 0 → exec (.refreshSequence t h) s = .next (
      let w := u.refreshW m
      let dt := u.dtAux m
      let a := min u.time ((u.hbNow h).lastLo + 4000 - (2 * dt + w))
      (u.modHb h fun y => { y.set w (max a y.lastLo) false false with
        plan := [(a + dt, false, true), (a + dt + w, false, false), (a + 2 * dt + w, true, false)] }).modAxis m fun a => { a with held := true })) ∧
    ((u.hbNow h).hi = false → exec (.refreshSequence t h) s = .next u) ∧
    ((u.axis n).precharge = true → (∀ i < 4, (vget u.aux.hb (4 * n + i) {}).boot = false) → exec (.prechargeDone t n v) s =
      .next (let w := u.modAxis n fun a => { a with precharge := false, next := none }
        (match (u.axis n).next with | some st => w.setAx n st | none => w).axOut n)) ∧
    ((u.axis n).precharge = false → exec (.prechargeDone t n v) s = .next u) ∧
    (u.axEn m = true → h.val % 4 < usedHb (u.axType m) → (u.axis m).precharge = true → exec (.bootstrapUv t h) s = .next (
      let w := (((u.modAux fun x => { x with hb := vmod x.hb h fun y => { y with boot := true } }).modHb h fun y =>
        y.command (u.refreshW m) (u.dtAux m) u.time false false).modAxis m fun a => { a with precharge := true }).raise 0x8602 2 0 (le 1 h ++ le 1 m)
      (if (w.axis m).state = 6 then w.modAxis m fun a => { a with precharge := false, next := none } else w).axOut m)) ∧
    (u.awake = true → u.cu 0x24 32 2 < v → exec (.auxBusOv t v) s = .next ((u.modAux fun x => { x with busOv := true }).raise 0x8603 2 0 (le 2 v)).axOutAll) ∧
    (u.axEn m = true → (u.axis m).state ≠ 0 → exec (.auxShootThroughAttempt t h) s = .next (
      let w := (u.modAux fun x => { x with
        stCount := satN 4 (x.stCount + 1), hb := vmod x.hb h fun y => y.command (u.refreshW m) (u.dtAux m) u.time false false }).modSafety fun x => { x with stCount := satN 4 (x.stCount + 1) }
      let w := w.raise 0x8601 2 0 (le 1 h ++ zeros 3 ++ le 4 w.aux.stCount)
      if (w.axis m).state = 6 then w.axOut m else w)) ∧
    (let k := sh.val / 2;
      u.axEn k = true → (u.axis k).state ≠ 0 → (u.axis k).state ≠ 6 → exec (.axOvercurrent t sh) s = .next ((u.raise 0x860A 2 0 (le 1 k ++ le 1 sh)).axOut k)))

/-! ### Functional safety -/

/-- The Kingpost's readback, the safety inputs and the channels: a readback mismatch is the safe state with cause 8 (R372), also in a reset that the
Kingpost holds (R74); a contact of an unused pair only changes its level, a level of a used pair that qualifies is judged by its channel and starts
the pair's function when the contact opens (R377, R379, R380); two contacts that disagree for too long latch the pair in demand (R379); the off window
of a test pulse is judged on the pairs that use it (R376, R378); in architecture B, channels whose speeds have differed for XC_T, or a drive pair that
sends none, latch the discrepancy and every stack loses its torque (R390). Completion is stated of TEST_PULSE_WINDOW, SAFETY_INPUT_CHANGE,
SI_DISCREPANCY, SAFETY_CHANNEL_DISCREPANCY, READBACK_MISMATCH. -/
def Obligations.SafetyInputsJudged : Prop :=
  ∀ (t : Tick) (kt : Nat) (ch : Channel) (n : Fin 8) (x : Contact) (lv : Bool) (since : Nat) (tp : Fin 4) (hi : BitVec 16) (s : State),
    let u := (s.upTo t).upKt kt
    (u.dev ≠ .off → u.dev ≠ .inReset ∨ u.power.kpHold.isSome = true → exec (.readbackMismatch t kt) s = .next (u.kpSafe 8)) ∧
    (u.dev ≠ .off → u.dev ≠ .inReset → ((u.pairSt ch n).contact x).closed ≠ lv → getN (u.pairRec n) 0 1 = 0 → exec (.safetyInputChange t kt ch n x ⟨lv, since⟩) s =
      .next (u.modPairSt ch n fun p => p.setContact x fun y => { y with closed := lv, at_ := u.chNow ch kt })) ∧
    (u.dev ≠ .off → u.dev ≠ .inReset → ((u.pairSt ch n).contact x).closed ≠ lv → getN (u.pairRec n) 0 1 ≠ 0 → u.qualifyAt ch n x lv since kt ≤ u.chNow ch kt →
      exec (.safetyInputChange t kt ch n x ⟨lv, since⟩) s = .next (
      let v := u.modPairSt ch n fun p => p.change x lv (u.chNow ch kt) (chMs ch (getN (u.pairRec n) 4 2))
      if lv then v else v.pairStart ch n)) ∧
    (((u.pairSt ch n).contact x).closed = lv ∨ (getN (u.pairRec n) 0 1 ≠ 0 ∧ u.chNow ch kt < u.qualifyAt ch n x lv since kt) →
      exec (.safetyInputChange t kt ch n x ⟨lv, since⟩) s = .next u) ∧
    (∀ y r, (u.pairSt ch n).mate = some (.b, y, r) → u.pairKind n ≠ 0 → u.chDue ch (r + chMs ch (getN (u.pairRec n) 4 2)) kt = true → exec (.siDiscrepancy t kt ch n) s =
      .next (((u.modPairSt ch n fun p => { p with mate := none, latched := true, discr := true, demand := true, bothLow := false }).raise 0x8502 2 0
        (le 1 n ++ le 1 1 ++ zeros 2 ++ le 1 (chCode ch))).pairStart ch n)) ∧
    (u.dev ≠ .off → u.dev ≠ .inReset → kt % 800000 = 200000 * tp.val + 20000 → exec (.testPulseWindow ⟨t, kt⟩ tp hi) s = .next ((List.range 8).foldl (fun (s : State) n =>
      if s.pairKind n ≠ 1 then s else
        let one := fun (s : State) (c : Contact) (src bit : Nat) => if src % 4 = tp.val then
          (s.testContact .drivePair n c tp (hi.getLsbD bit)).testContact .kingpost n c tp (hi.getLsbD bit) else s
        one (one s .a n (2 * n)) .b (n + 2) (2 * n + 1)) (u.modPins fun p => { p with tpAt := vmod p.tpAt tp fun _ => some u.time }))) ∧
    (kt % 800000 ≠ 200000 * tp.val + 20000 → exec (.testPulseWindow ⟨t, kt⟩ tp hi) s = .next u) ∧
    (∀ a, u.archB = true → u.safety.xcSince = some a → a + msTicks u.xcMs ≤ u.time → exec (.safetyChannelDiscrepancy t kt .speed) s =
      .next (((u.modSafety fun x => { x with discr := true }).raise 0x8509 2 0 (le 1 0 ++ zeros 3 ++ le 4 (toUfix 32 0 u.xcDiff))).stoAll)) ∧
    (u.archB = true → u.safety.dpSpeedAt + 2 * u.outerTicks + msTicks 1 + 100 ≤ u.time → exec (.safetyChannelDiscrepancy t kt .noSpeed) s =
      .next (((u.modSafety fun x => { x with discr := true }).raise 0x8509 2 0 (le 1 1 ++ zeros 3 ++ le 4 0)).stoAll)) ∧
    (∀ kind, u.archB = false → exec (.safetyChannelDiscrepancy t kt kind) s = .next u)

/-- Safe stops: SS1 is judged by each channel's own speed (R383); it ends ZERO_T after its channel's speed is low (R384), and one that has run longer
than SS1_TMAX raises SS1_TIMEOUT and ends with its brakes set (R384); the position edges of the Kingpost's channel give its speed, the first starts it
at 0 and a missing one sets it to 0 (R389); its position fault requests SS1, of which only SS1_TMAX is enforced (R391); the commissioning grant that
expires requests STO (R395). That the drive pair judges in the tick of its outer-loop cycle is the model's choice (assumption 54). Completion is
stated of SS1_ENVELOPE_CHECK, SS1_END, SS1_TIMEOUT, KP_POSITION_EDGE, KP_SPEED_TIMEOUT, KP_POSITION_FAULT, COMMISSIONING_GRANT_EXPIRY. -/
def Obligations.SafeStopsProceed : Prop :=
  ∀ (t : Tick) (kt : Nat) (cs : KpPositionCause) (s : State), let u := (s.upTo t).upKt kt
    (kt % 4000 = 0 → exec (.ss1EnvelopeCheck t kt .kingpost) s = .next (u.ss1Check .kingpost kt (u.kpSpeedAt kt))) ∧
    (u.safety.dpSpeedAt = u.time → exec (.ss1EnvelopeCheck t kt .drivePair) s = .next (u.ss1Check .drivePair u.time (absR u.safety.dpSpeed))) ∧
    (∀ f z, u.safety.fns = [f] → f.fn = 2 → f.phase = 0 → f.slow = some z → z + chMs f.channel (u.cu 0x0F02 20 2) ≤ u.chNow f.channel kt →
      exec (.ss1End t kt f.channel) s = .next (u.ss1Finish f)) ∧
    (∀ f ∈ u.safety.fns, f.fn = 2 → f.phase = 0 → f.channel = .kingpost → f.t0 + msKt (u.cu 0x0F02 14 2) < kt → exec (.ss1Timeout t kt) s = .next (
      let v := u.raise 0x8505 2 0 (zeros 4 ++ le 1 1)
      (v.safety.fns.filter fun g => g.fn == 2 && g.phase == 0).foldl (fun (v : State) g => (v.setBrakesCh g.channel (v.brakesOf g.mask)).completeFn g) v)) ∧
    (u.archB = true → u.kpSrc ≠ 0 → u.dev ≠ .watch → u.safety.kpLast = none → u.safety.debug = false → exec (.kpPositionEdge t kt) s =
      .next ((u.modSafety fun x => { x with kpEdges := none, kpLast := some kt, kpSpeed := 0 }).ss1Check .kingpost kt 0)) ∧
    (∀ l, u.archB = true → u.kpSrc ≠ 0 → u.dev ≠ .watch → u.safety.kpLast = some l → l < kt → 0 < u.cu 0x0F00 4 4 → u.safety.debug = false →
      exec (.kpPositionEdge t kt) s = .next (
        let v : Rat := 40000000000 / ((u.cu 0x0F00 4 4 : Rat) * ((kt - l : Nat) : Rat))
        (u.modSafety fun x => { x with kpEdges := some (l, kt), kpLast := some kt, kpSpeed := v }).ss1Check .kingpost kt v)) ∧
    (∀ l, u.safety.kpLast = some l → u.archB = true → l + msKt (u.cu 0x0F00 28 2) < kt → exec (.kpSpeedTimeout t kt) s =
      .next ((u.modSafety fun x => { x with kpSpeed := 0, kpLast := none, kpEdges := none }).ss1Check .kingpost kt 0)) ∧
    (u.archB = true → u.kpSrc ≠ 0 → u.dev ≠ .watch → cs = .signalLoss ∨ (∃ a b, u.safety.kpEdges = some (a, b) ∧ b < a + 80) → exec (.kpPositionFault t kt cs) s = .next (
      let v := (u.modSafety fun x => { x with posFault := true, posGoodAt := kt }).raise 0x8508 2 0 (le 1 (match cs with | .signalLoss => 0 | .edgeRate => 1))
      (v.requestFn 2 v.enMask 9).modSafety fun x => { x with
        fns := x.fns.map fun f => if f.fn == 2 && f.channel == .kingpost && f.source == 9 && f.phase == 0 then { f with tmaxOnly := true } else f })) ∧
    (∀ a, u.safety.commUntil = some a → a < kt → exec (.commissioningGrantExpiry t kt) s =
      .next (let v := (u.modSafety fun x => { x with commMask := 0, commUntil := none }).settle
        v.requestFn 1 u.enMask 9))

/-- Brakes: PRE_T after RUN begins, a brake in use that is set, whose stacks the Kingpost grants and no function covers is released (R385, R386); with
one brake in use the hold ends BRK_T_REL later (R386); a test pulse that does not read off, an overcurrent, a low supply and a coil current that is
low after BRK_T_REL are brake faults of a released brake, and a pulse that reads off only notes it (R387); a brake set for its time completes the stop
that waited for it, and before that takes the torque of its stacks (R386). When a test pulse is due and what it reads on a brake that is set are the
model's choices (assumption 76). Completion is stated of BRAKE_SET_TIME_END, BRAKE_RELEASE_REQUEST, BRAKE_RELEASE_COMPLETE, BRAKE_TEST_PULSE,
BRAKE_OVERCURRENT, VBRK_LOW, BRAKE_COIL_CURRENT_LOW. -/
def Obligations.BrakesFollow : Prop :=
  ∀ (t : Tick) (kt : Nat) (n : Fin 2) (a : Tick) (off : Bool) (s : State), let u := s.upTo t
    let b := vget u.safety.brakes n {}
    let m := BitVec.ofNat 4 (u.cu 0x0F03 (16 * n) 1)
    let v := u.upKt kt
    (u.motion.brakeHold = some a → u.dev = .run → n.val ∈ u.brakesInUse → a + msTicks (u.cu 0x0F03 (16 * n + 6) 2) ≤ u.time → b.request = false → b.high = false →
      b.low = false → (∀ k < 4, m.getLsbD k = true → u.kpGrants k = true) → (∀ f ∈ u.safety.fns, f.mask &&& m = 0) → exec (.brakeReleaseRequest t n) s =
      .next ((u.modBrake n fun b => { b with request := true }).openBrake n)) ∧
    (∀ w : State, (vget (w.openBrake n).safety.brakes n {}).high = true ∧ (vget (w.openBrake n).safety.brakes n {}).low = true ∧
      (vget (w.openBrake n).safety.brakes n {}).relAt = some w.time) ∧
    (u.motion.brakeHold = some a → u.brakesInUse = [n.val] → a + msTicks (u.cu 0x0F03 (16 * n + 6) 2 + u.cu 0x0F03 (16 * n + 4) 2) ≤ u.time →
      exec (.brakeReleaseComplete t n) s = .next (u.modMotion fun m => { m with brakeHold := none })) ∧
    (u.released n = true → b.testDue .low u.time = true →
      exec (.brakeTestPulse t n .low false) s = .next ((u.modBrake n fun b => { b with badLow := true, testAt := some u.time, testHigh := false }).brakeFault n 1) ∧
      exec (.brakeTestPulse t n .low true) s = .next (u.modBrake n fun b => { b with badLow := false, testAt := some u.time, testHigh := false })) ∧
    (u.released n = true → b.testDue .high u.time = true →
      exec (.brakeTestPulse t n .high false) s = .next ((u.modBrake n fun b => { b with badHigh := true, testAt := some u.time, testHigh := true }).brakeFault n 0) ∧
      exec (.brakeTestPulse t n .high true) s = .next (u.modBrake n fun b => { b with badHigh := false, testAt := some u.time, testHigh := true })) ∧
    (u.released n = false → exec (.brakeTestPulse t n .low off) s = .next (u.modBrake n fun b => { b with badLow := !off })) ∧
    (u.released n = true → exec (.brakeOvercurrent t n) s = .next ((u.setBrake n).brakeFault n 3) ∧ exec (.vbrkLow t n) s = .next (u.brakeFault n 4)) ∧
    (u.released n = true → b.relAt = some a → a + msTicks (u.cu 0x0F03 (16 * n + 4) 2) ≤ u.time → exec (.brakeCoilCurrentLow t n) s = .next (u.brakeFault n 2)) ∧
    (∀ d z, b.setAtDp = some a → a + u.brkSet n ≤ u.time → u.safety.fns = [] → u.motion.stop = some d → d.brakeAt = some z → u.dev = .run →
      (z ≤ u.time → exec (.brakeSetTimeEnd ⟨t, kt⟩ .drivePair n) s = .next v.stopDone) ∧
      (u.time < z → exec (.brakeSetTimeEnd ⟨t, kt⟩ .drivePair n) s = .next (v.dropStacks (v.enStacks.filter fun k => (v.cu 0x0F03 (16 * n) 1).testBit k)))) ∧
    (b.setAtKp = none → exec (.brakeSetTimeEnd ⟨t, kt⟩ .kingpost n) s = .next v)

/-! ### Rules stated whole -/

/-- R129: WRITE_BLOCK, WRITE_SAFETY_BLOCK, CHECK and SEAL sent while a configuration is sealed fail check 10 of R97 with E_SEALED: the packet has no
effect but its reply. Completion is stated of WRITE_BLOCK, CHECK. -/
def Obligations.SealedConfigurationRefusesWriting : Prop :=
  ∀ (t : Tick) (c : Source) (q : Nat) (p : Bytes) (s : State), let u := s.upTo t
    u.listens = true → 0 < (u.port c).credits → c ≠ .service → u.sealedCfg.isSome = true →
      exec (.writeBlock t c q p) s = .next ((u.charged c).reject c q eSealed) ∧ exec (.writeSafetyBlock t c q p) s = .next ((u.charged c).reject c q eSealed) ∧
      exec (.check t c q p) s = .next ((u.charged c).reject c q eSealed) ∧ exec (.sealConfig t c q p) s = .next ((u.charged c).reject c q eSealed)

/-- R106: DISABLE (0x0301), AXIS_STOP (0x0601) and REQUEST_SAFETY_FUNCTION (0x0506) need no ownership: from sources 1 to 3 and in every state listed
for them they are taken, whoever holds ownership. -/
def Obligations.StopsNeedNoOwnership : Prop :=
  ∀ (op : Nat) (i : OpInfo) (c : Source) (p : Bytes) (s : State), op = 0x0301 ∨ op = 0x0601 ∨ op = 0x0506 → opInfo op = some i →
    c = .host ∨ c = .alcia ∨ c = .app → s.listens = true → 0 < (s.port c).credits → s.stateOk op i.states = true → lenOk op p = true →
    i.own = false ∧ ∀ o, ({ s with owner := o } : State).takes c op p

/-- R360: a gear event too close to the master, without the flag that lets it act at once, is rejected with E_BEHIND and changes nothing of the axes
but BEHIND; an AXIS_HOME towards the limit that is already active is rejected with E_HOME_LIMIT, clears HOMED and changes nothing else. Completion is
stated of AXIS_HOME, GEAR_EVENT. -/
def Obligations.BehindAndHomeLimitEffects : Prop :=
  ∀ (t : Tick) (c : Source) (q : Nat) (p : Bytes) (s : State), let u := s.upTo t
    let n := getN p 0 1
    let a := u.axis n
    (u.takes c 0x0604 p → n < 4 → getN p 1 1 = 0 → getN p 2 2 = 0 → getN p 4 4 ≤ 2147483647 → -(2 ^ 47) ≤ getI p 16 8 → getI p 16 8 < 2 ^ 47 → u.axEn n = true → a.state = 3 →
      a.queue = [] → a.mDir * (getI p 8 8 - a.mLast) < (getN (u.axCfg n) 84 4 : Int) → exec (.gearEvent t c q p) s =
      .next (((u.charged c).modAxis n fun x => { x with behind := satN 2 (x.behind + 1) }).reject c q eBehind (leI 8 a.mLast))) ∧
    (u.takes c 0x0602 p → n < 4 → getN p 1 1 = 0 → getN p 2 2 = 0 → u.axEn n = true → u.pairHolds n = false → a.state = 0 ∨ a.state = 1 → u.axBit n 5 = true →
      (vget a.sw 0 {}).faulty = false → u.limitIn n (if u.axBit n 2 then -1 else 1) = true → u.axBit n 3 = false → exec (.axisHome t c q p) s =
      .next (((u.charged c).modAxis n fun x => { x with homed := false }).reject c q eHomeLimit))

/-! ### Every command, every step -/

/-- Every command answers a next state: no command faults and none is refused, in any state. -/
def Obligations.EveryCommandAnswersNext : Prop :=
  ∀ (i : Instr) (s : State), ∃ t : State, exec i s = .next t

/-- No command touches the queue of the waiting commands. -/
def Obligations.QueueKept : Prop :=
  ∀ (i : Instr) (s t : State), s.Inv → exec i s = .next t → t.pending = s.pending

/-- The frame of what the statements name: taking a packet, an answer and a rejection change only the ports and the counters, and of the ports only
that of the source (R98, R113), with the time an update session or a relay was last heard of (R540, R544); an information event changes besides them
only the recorder (R119, R464); when the array settles, only the gate channels, the stacks, the safety part, the observers, the fault record and what
an event changes may differ (R26). -/
def Obligations.SharedOperationsFrame : Prop :=
  ∀ (c d : Source) (q st code lv o : Nat) (b : Bytes) (s : State),
    { s.charged c with ports := s.ports, counters := s.counters, upd := { (s.charged c).upd with lastAt := s.upd.lastAt, late := s.upd.late } } = s ∧
    { s.answered c q b with ports := s.ports } = s ∧
    { s.reject c q st b with ports := s.ports, counters := s.counters } = s ∧
    (d ≠ c → (s.charged c).port d = s.port d ∧ (s.answered c q b).port d = s.port d ∧ (s.reject c q st b).port d = s.port d) ∧
    { s.info code lv o b with ports := s.ports, counters := s.counters, recorder := s.recorder } = s ∧
    ((s.info code lv o b).port d).credits = (s.port d).credits ∧ ((s.info code lv o b).port d).replies = (s.port d).replies ∧
    { s.settle with
      gates := s.gates, stk := s.stk, safety := s.safety, obs := s.obs, faults := s.faults, ports := s.ports, counters := s.counters, recorder := s.recorder
      fresh := s.fresh } = s

/-- The frame of the commands: one that is no packet, no window, no transfer of the registers or the DMA and no end of a delivery, of a program, of a
binding or of a session (`outward`) leaves every byte of memory, every block and every source's credits and owed replies as they were (R98, R127). -/
def Obligations.OtherCommandsKeepMemoryBlocksAndCredits : Prop :=
  ∀ (i : Instr) (s t : State), outward i = false → exec i s = .next t →
    t.mem = s.mem ∧ t.blocks = s.blocks ∧ ∀ c, (t.port c).credits = (s.port c).credits ∧ (t.port c).owed = (s.port c).owed

/-- The state at reset meets the invariant. -/
def Obligations.InvAtReset : Prop := State.reset.Inv

/-- Every step keeps the invariant: the credits of every source balance (R98), the event queues and the counters keep their bounds (R113, R120), the
blocks held are the manual's, pass their checks (R128) and stand in ascending order (R136), the staging queue holds at most 1,024 records (R433), and
memory has its canonical form. -/
def Obligations.InvKeptByEveryStep : Prop :=
  ∀ s t : State, s.Inv → step s = .next t → t.Inv
end

