-- ==== Sys2Proof/Laws/State.lean ====
section
/-! SUPPORT. One lemma per field per update of the state: the updated part holds what the update says, every other part is as it
was. Generated from the list of fields; each is true by definition. -/
namespace Sys2Proof.Machine

variable (s : State)

@[simp] theorem State.modCounters_dev (f) : (s.modCounters f).dev = s.dev := rfl
@[simp] theorem State.modCounters_time (f) : (s.modCounters f).time = s.time := rfl
@[simp] theorem State.modCounters_stamp (f) : (s.modCounters f).stamp = s.stamp := rfl
@[simp] theorem State.modCounters_ports (f) : (s.modCounters f).ports = s.ports := rfl
@[simp] theorem State.modCounters_owner (f) : (s.modCounters f).owner = s.owner := rfl
@[simp] theorem State.modCounters_counters (f) : (s.modCounters f).counters = f s.counters := rfl
@[simp] theorem State.modCounters_power (f) : (s.modCounters f).power = s.power := rfl
@[simp] theorem State.modCounters_watch (f) : (s.modCounters f).watch = s.watch := rfl
@[simp] theorem State.modCounters_pins (f) : (s.modCounters f).pins = s.pins := rfl
@[simp] theorem State.modCounters_blocks (f) : (s.modCounters f).blocks = s.blocks := rfl
@[simp] theorem State.modCounters_sealedCfg (f) : (s.modCounters f).sealedCfg = s.sealedCfg := rfl
@[simp] theorem State.modCounters_gates (f) : (s.modCounters f).gates = s.gates := rfl
@[simp] theorem State.modCounters_legLock (f) : (s.modCounters f).legLock = s.legLock := rfl
@[simp] theorem State.modCounters_bkLock (f) : (s.modCounters f).bkLock = s.bkLock := rfl
@[simp] theorem State.modCounters_stCount (f) : (s.modCounters f).stCount = s.stCount := rfl
@[simp] theorem State.modCounters_stk (f) : (s.modCounters f).stk = s.stk := rfl
@[simp] theorem State.modCounters_fb (f) : (s.modCounters f).fb = s.fb := rfl
@[simp] theorem State.modCounters_obs (f) : (s.modCounters f).obs = s.obs := rfl
@[simp] theorem State.modCounters_sarA (f) : (s.modCounters f).sarA = s.sarA := rfl
@[simp] theorem State.modCounters_sarB (f) : (s.modCounters f).sarB = s.sarB := rfl
@[simp] theorem State.modCounters_sref (f) : (s.modCounters f).sref = s.sref := rfl
@[simp] theorem State.modCounters_motion (f) : (s.modCounters f).motion = s.motion := rfl
@[simp] theorem State.modCounters_torsion (f) : (s.modCounters f).torsion = s.torsion := rfl
@[simp] theorem State.modCounters_col (f) : (s.modCounters f).col = s.col := rfl
@[simp] theorem State.modCounters_aux (f) : (s.modCounters f).aux = s.aux := rfl
@[simp] theorem State.modCounters_safety (f) : (s.modCounters f).safety = s.safety := rfl
@[simp] theorem State.modCounters_faults (f) : (s.modCounters f).faults = s.faults := rfl
@[simp] theorem State.modCounters_integ (f) : (s.modCounters f).integ = s.integ := rfl
@[simp] theorem State.modCounters_app (f) : (s.modCounters f).app = s.app := rfl
@[simp] theorem State.modCounters_dma (f) : (s.modCounters f).dma = s.dma := rfl
@[simp] theorem State.modCounters_recorder (f) : (s.modCounters f).recorder = s.recorder := rfl
@[simp] theorem State.modCounters_mem (f) : (s.modCounters f).mem = s.mem := rfl
@[simp] theorem State.modCounters_pair (f) : (s.modCounters f).pair = s.pair := rfl
@[simp] theorem State.modCounters_alcia (f) : (s.modCounters f).alcia = s.alcia := rfl
@[simp] theorem State.modCounters_upd (f) : (s.modCounters f).upd = s.upd := rfl
@[simp] theorem State.modCounters_thermal (f) : (s.modCounters f).thermal = s.thermal := rfl
@[simp] theorem State.modCounters_fresh (f) : (s.modCounters f).fresh = s.fresh := rfl
@[simp] theorem State.modCounters_pending (f) : (s.modCounters f).pending = s.pending := rfl

@[simp] theorem State.modPower_dev (f) : (s.modPower f).dev = s.dev := rfl
@[simp] theorem State.modPower_time (f) : (s.modPower f).time = s.time := rfl
@[simp] theorem State.modPower_stamp (f) : (s.modPower f).stamp = s.stamp := rfl
@[simp] theorem State.modPower_ports (f) : (s.modPower f).ports = s.ports := rfl
@[simp] theorem State.modPower_owner (f) : (s.modPower f).owner = s.owner := rfl
@[simp] theorem State.modPower_counters (f) : (s.modPower f).counters = s.counters := rfl
@[simp] theorem State.modPower_power (f) : (s.modPower f).power = f s.power := rfl
@[simp] theorem State.modPower_watch (f) : (s.modPower f).watch = s.watch := rfl
@[simp] theorem State.modPower_pins (f) : (s.modPower f).pins = s.pins := rfl
@[simp] theorem State.modPower_blocks (f) : (s.modPower f).blocks = s.blocks := rfl
@[simp] theorem State.modPower_sealedCfg (f) : (s.modPower f).sealedCfg = s.sealedCfg := rfl
@[simp] theorem State.modPower_gates (f) : (s.modPower f).gates = s.gates := rfl
@[simp] theorem State.modPower_legLock (f) : (s.modPower f).legLock = s.legLock := rfl
@[simp] theorem State.modPower_bkLock (f) : (s.modPower f).bkLock = s.bkLock := rfl
@[simp] theorem State.modPower_stCount (f) : (s.modPower f).stCount = s.stCount := rfl
@[simp] theorem State.modPower_stk (f) : (s.modPower f).stk = s.stk := rfl
@[simp] theorem State.modPower_fb (f) : (s.modPower f).fb = s.fb := rfl
@[simp] theorem State.modPower_obs (f) : (s.modPower f).obs = s.obs := rfl
@[simp] theorem State.modPower_sarA (f) : (s.modPower f).sarA = s.sarA := rfl
@[simp] theorem State.modPower_sarB (f) : (s.modPower f).sarB = s.sarB := rfl
@[simp] theorem State.modPower_sref (f) : (s.modPower f).sref = s.sref := rfl
@[simp] theorem State.modPower_motion (f) : (s.modPower f).motion = s.motion := rfl
@[simp] theorem State.modPower_torsion (f) : (s.modPower f).torsion = s.torsion := rfl
@[simp] theorem State.modPower_col (f) : (s.modPower f).col = s.col := rfl
@[simp] theorem State.modPower_aux (f) : (s.modPower f).aux = s.aux := rfl
@[simp] theorem State.modPower_safety (f) : (s.modPower f).safety = s.safety := rfl
@[simp] theorem State.modPower_faults (f) : (s.modPower f).faults = s.faults := rfl
@[simp] theorem State.modPower_integ (f) : (s.modPower f).integ = s.integ := rfl
@[simp] theorem State.modPower_app (f) : (s.modPower f).app = s.app := rfl
@[simp] theorem State.modPower_dma (f) : (s.modPower f).dma = s.dma := rfl
@[simp] theorem State.modPower_recorder (f) : (s.modPower f).recorder = s.recorder := rfl
@[simp] theorem State.modPower_mem (f) : (s.modPower f).mem = s.mem := rfl
@[simp] theorem State.modPower_pair (f) : (s.modPower f).pair = s.pair := rfl
@[simp] theorem State.modPower_alcia (f) : (s.modPower f).alcia = s.alcia := rfl
@[simp] theorem State.modPower_upd (f) : (s.modPower f).upd = s.upd := rfl
@[simp] theorem State.modPower_thermal (f) : (s.modPower f).thermal = s.thermal := rfl
@[simp] theorem State.modPower_fresh (f) : (s.modPower f).fresh = s.fresh := rfl
@[simp] theorem State.modPower_pending (f) : (s.modPower f).pending = s.pending := rfl

@[simp] theorem State.modWatch_dev (f) : (s.modWatch f).dev = s.dev := rfl
@[simp] theorem State.modWatch_time (f) : (s.modWatch f).time = s.time := rfl
@[simp] theorem State.modWatch_stamp (f) : (s.modWatch f).stamp = s.stamp := rfl
@[simp] theorem State.modWatch_ports (f) : (s.modWatch f).ports = s.ports := rfl
@[simp] theorem State.modWatch_owner (f) : (s.modWatch f).owner = s.owner := rfl
@[simp] theorem State.modWatch_counters (f) : (s.modWatch f).counters = s.counters := rfl
@[simp] theorem State.modWatch_power (f) : (s.modWatch f).power = s.power := rfl
@[simp] theorem State.modWatch_watch (f) : (s.modWatch f).watch = f s.watch := rfl
@[simp] theorem State.modWatch_pins (f) : (s.modWatch f).pins = s.pins := rfl
@[simp] theorem State.modWatch_blocks (f) : (s.modWatch f).blocks = s.blocks := rfl
@[simp] theorem State.modWatch_sealedCfg (f) : (s.modWatch f).sealedCfg = s.sealedCfg := rfl
@[simp] theorem State.modWatch_gates (f) : (s.modWatch f).gates = s.gates := rfl
@[simp] theorem State.modWatch_legLock (f) : (s.modWatch f).legLock = s.legLock := rfl
@[simp] theorem State.modWatch_bkLock (f) : (s.modWatch f).bkLock = s.bkLock := rfl
@[simp] theorem State.modWatch_stCount (f) : (s.modWatch f).stCount = s.stCount := rfl
@[simp] theorem State.modWatch_stk (f) : (s.modWatch f).stk = s.stk := rfl
@[simp] theorem State.modWatch_fb (f) : (s.modWatch f).fb = s.fb := rfl
@[simp] theorem State.modWatch_obs (f) : (s.modWatch f).obs = s.obs := rfl
@[simp] theorem State.modWatch_sarA (f) : (s.modWatch f).sarA = s.sarA := rfl
@[simp] theorem State.modWatch_sarB (f) : (s.modWatch f).sarB = s.sarB := rfl
@[simp] theorem State.modWatch_sref (f) : (s.modWatch f).sref = s.sref := rfl
@[simp] theorem State.modWatch_motion (f) : (s.modWatch f).motion = s.motion := rfl
@[simp] theorem State.modWatch_torsion (f) : (s.modWatch f).torsion = s.torsion := rfl
@[simp] theorem State.modWatch_col (f) : (s.modWatch f).col = s.col := rfl
@[simp] theorem State.modWatch_aux (f) : (s.modWatch f).aux = s.aux := rfl
@[simp] theorem State.modWatch_safety (f) : (s.modWatch f).safety = s.safety := rfl
@[simp] theorem State.modWatch_faults (f) : (s.modWatch f).faults = s.faults := rfl
@[simp] theorem State.modWatch_integ (f) : (s.modWatch f).integ = s.integ := rfl
@[simp] theorem State.modWatch_app (f) : (s.modWatch f).app = s.app := rfl
@[simp] theorem State.modWatch_dma (f) : (s.modWatch f).dma = s.dma := rfl
@[simp] theorem State.modWatch_recorder (f) : (s.modWatch f).recorder = s.recorder := rfl
@[simp] theorem State.modWatch_mem (f) : (s.modWatch f).mem = s.mem := rfl
@[simp] theorem State.modWatch_pair (f) : (s.modWatch f).pair = s.pair := rfl
@[simp] theorem State.modWatch_alcia (f) : (s.modWatch f).alcia = s.alcia := rfl
@[simp] theorem State.modWatch_upd (f) : (s.modWatch f).upd = s.upd := rfl
@[simp] theorem State.modWatch_thermal (f) : (s.modWatch f).thermal = s.thermal := rfl
@[simp] theorem State.modWatch_fresh (f) : (s.modWatch f).fresh = s.fresh := rfl
@[simp] theorem State.modWatch_pending (f) : (s.modWatch f).pending = s.pending := rfl

@[simp] theorem State.modPins_dev (f) : (s.modPins f).dev = s.dev := rfl
@[simp] theorem State.modPins_time (f) : (s.modPins f).time = s.time := rfl
@[simp] theorem State.modPins_stamp (f) : (s.modPins f).stamp = s.stamp := rfl
@[simp] theorem State.modPins_ports (f) : (s.modPins f).ports = s.ports := rfl
@[simp] theorem State.modPins_owner (f) : (s.modPins f).owner = s.owner := rfl
@[simp] theorem State.modPins_counters (f) : (s.modPins f).counters = s.counters := rfl
@[simp] theorem State.modPins_power (f) : (s.modPins f).power = s.power := rfl
@[simp] theorem State.modPins_watch (f) : (s.modPins f).watch = s.watch := rfl
@[simp] theorem State.modPins_pins (f) : (s.modPins f).pins = f s.pins := rfl
@[simp] theorem State.modPins_blocks (f) : (s.modPins f).blocks = s.blocks := rfl
@[simp] theorem State.modPins_sealedCfg (f) : (s.modPins f).sealedCfg = s.sealedCfg := rfl
@[simp] theorem State.modPins_gates (f) : (s.modPins f).gates = s.gates := rfl
@[simp] theorem State.modPins_legLock (f) : (s.modPins f).legLock = s.legLock := rfl
@[simp] theorem State.modPins_bkLock (f) : (s.modPins f).bkLock = s.bkLock := rfl
@[simp] theorem State.modPins_stCount (f) : (s.modPins f).stCount = s.stCount := rfl
@[simp] theorem State.modPins_stk (f) : (s.modPins f).stk = s.stk := rfl
@[simp] theorem State.modPins_fb (f) : (s.modPins f).fb = s.fb := rfl
@[simp] theorem State.modPins_obs (f) : (s.modPins f).obs = s.obs := rfl
@[simp] theorem State.modPins_sarA (f) : (s.modPins f).sarA = s.sarA := rfl
@[simp] theorem State.modPins_sarB (f) : (s.modPins f).sarB = s.sarB := rfl
@[simp] theorem State.modPins_sref (f) : (s.modPins f).sref = s.sref := rfl
@[simp] theorem State.modPins_motion (f) : (s.modPins f).motion = s.motion := rfl
@[simp] theorem State.modPins_torsion (f) : (s.modPins f).torsion = s.torsion := rfl
@[simp] theorem State.modPins_col (f) : (s.modPins f).col = s.col := rfl
@[simp] theorem State.modPins_aux (f) : (s.modPins f).aux = s.aux := rfl
@[simp] theorem State.modPins_safety (f) : (s.modPins f).safety = s.safety := rfl
@[simp] theorem State.modPins_faults (f) : (s.modPins f).faults = s.faults := rfl
@[simp] theorem State.modPins_integ (f) : (s.modPins f).integ = s.integ := rfl
@[simp] theorem State.modPins_app (f) : (s.modPins f).app = s.app := rfl
@[simp] theorem State.modPins_dma (f) : (s.modPins f).dma = s.dma := rfl
@[simp] theorem State.modPins_recorder (f) : (s.modPins f).recorder = s.recorder := rfl
@[simp] theorem State.modPins_mem (f) : (s.modPins f).mem = s.mem := rfl
@[simp] theorem State.modPins_pair (f) : (s.modPins f).pair = s.pair := rfl
@[simp] theorem State.modPins_alcia (f) : (s.modPins f).alcia = s.alcia := rfl
@[simp] theorem State.modPins_upd (f) : (s.modPins f).upd = s.upd := rfl
@[simp] theorem State.modPins_thermal (f) : (s.modPins f).thermal = s.thermal := rfl
@[simp] theorem State.modPins_fresh (f) : (s.modPins f).fresh = s.fresh := rfl
@[simp] theorem State.modPins_pending (f) : (s.modPins f).pending = s.pending := rfl

@[simp] theorem State.modSref_dev (f) : (s.modSref f).dev = s.dev := rfl
@[simp] theorem State.modSref_time (f) : (s.modSref f).time = s.time := rfl
@[simp] theorem State.modSref_stamp (f) : (s.modSref f).stamp = s.stamp := rfl
@[simp] theorem State.modSref_ports (f) : (s.modSref f).ports = s.ports := rfl
@[simp] theorem State.modSref_owner (f) : (s.modSref f).owner = s.owner := rfl
@[simp] theorem State.modSref_counters (f) : (s.modSref f).counters = s.counters := rfl
@[simp] theorem State.modSref_power (f) : (s.modSref f).power = s.power := rfl
@[simp] theorem State.modSref_watch (f) : (s.modSref f).watch = s.watch := rfl
@[simp] theorem State.modSref_pins (f) : (s.modSref f).pins = s.pins := rfl
@[simp] theorem State.modSref_blocks (f) : (s.modSref f).blocks = s.blocks := rfl
@[simp] theorem State.modSref_sealedCfg (f) : (s.modSref f).sealedCfg = s.sealedCfg := rfl
@[simp] theorem State.modSref_gates (f) : (s.modSref f).gates = s.gates := rfl
@[simp] theorem State.modSref_legLock (f) : (s.modSref f).legLock = s.legLock := rfl
@[simp] theorem State.modSref_bkLock (f) : (s.modSref f).bkLock = s.bkLock := rfl
@[simp] theorem State.modSref_stCount (f) : (s.modSref f).stCount = s.stCount := rfl
@[simp] theorem State.modSref_stk (f) : (s.modSref f).stk = s.stk := rfl
@[simp] theorem State.modSref_fb (f) : (s.modSref f).fb = s.fb := rfl
@[simp] theorem State.modSref_obs (f) : (s.modSref f).obs = s.obs := rfl
@[simp] theorem State.modSref_sarA (f) : (s.modSref f).sarA = s.sarA := rfl
@[simp] theorem State.modSref_sarB (f) : (s.modSref f).sarB = s.sarB := rfl
@[simp] theorem State.modSref_sref (f) : (s.modSref f).sref = f s.sref := rfl
@[simp] theorem State.modSref_motion (f) : (s.modSref f).motion = s.motion := rfl
@[simp] theorem State.modSref_torsion (f) : (s.modSref f).torsion = s.torsion := rfl
@[simp] theorem State.modSref_col (f) : (s.modSref f).col = s.col := rfl
@[simp] theorem State.modSref_aux (f) : (s.modSref f).aux = s.aux := rfl
@[simp] theorem State.modSref_safety (f) : (s.modSref f).safety = s.safety := rfl
@[simp] theorem State.modSref_faults (f) : (s.modSref f).faults = s.faults := rfl
@[simp] theorem State.modSref_integ (f) : (s.modSref f).integ = s.integ := rfl
@[simp] theorem State.modSref_app (f) : (s.modSref f).app = s.app := rfl
@[simp] theorem State.modSref_dma (f) : (s.modSref f).dma = s.dma := rfl
@[simp] theorem State.modSref_recorder (f) : (s.modSref f).recorder = s.recorder := rfl
@[simp] theorem State.modSref_mem (f) : (s.modSref f).mem = s.mem := rfl
@[simp] theorem State.modSref_pair (f) : (s.modSref f).pair = s.pair := rfl
@[simp] theorem State.modSref_alcia (f) : (s.modSref f).alcia = s.alcia := rfl
@[simp] theorem State.modSref_upd (f) : (s.modSref f).upd = s.upd := rfl
@[simp] theorem State.modSref_thermal (f) : (s.modSref f).thermal = s.thermal := rfl
@[simp] theorem State.modSref_fresh (f) : (s.modSref f).fresh = s.fresh := rfl
@[simp] theorem State.modSref_pending (f) : (s.modSref f).pending = s.pending := rfl

@[simp] theorem State.modMotion_dev (f) : (s.modMotion f).dev = s.dev := rfl
@[simp] theorem State.modMotion_time (f) : (s.modMotion f).time = s.time := rfl
@[simp] theorem State.modMotion_stamp (f) : (s.modMotion f).stamp = s.stamp := rfl
@[simp] theorem State.modMotion_ports (f) : (s.modMotion f).ports = s.ports := rfl
@[simp] theorem State.modMotion_owner (f) : (s.modMotion f).owner = s.owner := rfl
@[simp] theorem State.modMotion_counters (f) : (s.modMotion f).counters = s.counters := rfl
@[simp] theorem State.modMotion_power (f) : (s.modMotion f).power = s.power := rfl
@[simp] theorem State.modMotion_watch (f) : (s.modMotion f).watch = s.watch := rfl
@[simp] theorem State.modMotion_pins (f) : (s.modMotion f).pins = s.pins := rfl
@[simp] theorem State.modMotion_blocks (f) : (s.modMotion f).blocks = s.blocks := rfl
@[simp] theorem State.modMotion_sealedCfg (f) : (s.modMotion f).sealedCfg = s.sealedCfg := rfl
@[simp] theorem State.modMotion_gates (f) : (s.modMotion f).gates = s.gates := rfl
@[simp] theorem State.modMotion_legLock (f) : (s.modMotion f).legLock = s.legLock := rfl
@[simp] theorem State.modMotion_bkLock (f) : (s.modMotion f).bkLock = s.bkLock := rfl
@[simp] theorem State.modMotion_stCount (f) : (s.modMotion f).stCount = s.stCount := rfl
@[simp] theorem State.modMotion_stk (f) : (s.modMotion f).stk = s.stk := rfl
@[simp] theorem State.modMotion_fb (f) : (s.modMotion f).fb = s.fb := rfl
@[simp] theorem State.modMotion_obs (f) : (s.modMotion f).obs = s.obs := rfl
@[simp] theorem State.modMotion_sarA (f) : (s.modMotion f).sarA = s.sarA := rfl
@[simp] theorem State.modMotion_sarB (f) : (s.modMotion f).sarB = s.sarB := rfl
@[simp] theorem State.modMotion_sref (f) : (s.modMotion f).sref = s.sref := rfl
@[simp] theorem State.modMotion_motion (f) : (s.modMotion f).motion = f s.motion := rfl
@[simp] theorem State.modMotion_torsion (f) : (s.modMotion f).torsion = s.torsion := rfl
@[simp] theorem State.modMotion_col (f) : (s.modMotion f).col = s.col := rfl
@[simp] theorem State.modMotion_aux (f) : (s.modMotion f).aux = s.aux := rfl
@[simp] theorem State.modMotion_safety (f) : (s.modMotion f).safety = s.safety := rfl
@[simp] theorem State.modMotion_faults (f) : (s.modMotion f).faults = s.faults := rfl
@[simp] theorem State.modMotion_integ (f) : (s.modMotion f).integ = s.integ := rfl
@[simp] theorem State.modMotion_app (f) : (s.modMotion f).app = s.app := rfl
@[simp] theorem State.modMotion_dma (f) : (s.modMotion f).dma = s.dma := rfl
@[simp] theorem State.modMotion_recorder (f) : (s.modMotion f).recorder = s.recorder := rfl
@[simp] theorem State.modMotion_mem (f) : (s.modMotion f).mem = s.mem := rfl
@[simp] theorem State.modMotion_pair (f) : (s.modMotion f).pair = s.pair := rfl
@[simp] theorem State.modMotion_alcia (f) : (s.modMotion f).alcia = s.alcia := rfl
@[simp] theorem State.modMotion_upd (f) : (s.modMotion f).upd = s.upd := rfl
@[simp] theorem State.modMotion_thermal (f) : (s.modMotion f).thermal = s.thermal := rfl
@[simp] theorem State.modMotion_fresh (f) : (s.modMotion f).fresh = s.fresh := rfl
@[simp] theorem State.modMotion_pending (f) : (s.modMotion f).pending = s.pending := rfl

@[simp] theorem State.modTorsion_dev (f) : (s.modTorsion f).dev = s.dev := rfl
@[simp] theorem State.modTorsion_time (f) : (s.modTorsion f).time = s.time := rfl
@[simp] theorem State.modTorsion_stamp (f) : (s.modTorsion f).stamp = s.stamp := rfl
@[simp] theorem State.modTorsion_ports (f) : (s.modTorsion f).ports = s.ports := rfl
@[simp] theorem State.modTorsion_owner (f) : (s.modTorsion f).owner = s.owner := rfl
@[simp] theorem State.modTorsion_counters (f) : (s.modTorsion f).counters = s.counters := rfl
@[simp] theorem State.modTorsion_power (f) : (s.modTorsion f).power = s.power := rfl
@[simp] theorem State.modTorsion_watch (f) : (s.modTorsion f).watch = s.watch := rfl
@[simp] theorem State.modTorsion_pins (f) : (s.modTorsion f).pins = s.pins := rfl
@[simp] theorem State.modTorsion_blocks (f) : (s.modTorsion f).blocks = s.blocks := rfl
@[simp] theorem State.modTorsion_sealedCfg (f) : (s.modTorsion f).sealedCfg = s.sealedCfg := rfl
@[simp] theorem State.modTorsion_gates (f) : (s.modTorsion f).gates = s.gates := rfl
@[simp] theorem State.modTorsion_legLock (f) : (s.modTorsion f).legLock = s.legLock := rfl
@[simp] theorem State.modTorsion_bkLock (f) : (s.modTorsion f).bkLock = s.bkLock := rfl
@[simp] theorem State.modTorsion_stCount (f) : (s.modTorsion f).stCount = s.stCount := rfl
@[simp] theorem State.modTorsion_stk (f) : (s.modTorsion f).stk = s.stk := rfl
@[simp] theorem State.modTorsion_fb (f) : (s.modTorsion f).fb = s.fb := rfl
@[simp] theorem State.modTorsion_obs (f) : (s.modTorsion f).obs = s.obs := rfl
@[simp] theorem State.modTorsion_sarA (f) : (s.modTorsion f).sarA = s.sarA := rfl
@[simp] theorem State.modTorsion_sarB (f) : (s.modTorsion f).sarB = s.sarB := rfl
@[simp] theorem State.modTorsion_sref (f) : (s.modTorsion f).sref = s.sref := rfl
@[simp] theorem State.modTorsion_motion (f) : (s.modTorsion f).motion = s.motion := rfl
@[simp] theorem State.modTorsion_torsion (f) : (s.modTorsion f).torsion = f s.torsion := rfl
@[simp] theorem State.modTorsion_col (f) : (s.modTorsion f).col = s.col := rfl
@[simp] theorem State.modTorsion_aux (f) : (s.modTorsion f).aux = s.aux := rfl
@[simp] theorem State.modTorsion_safety (f) : (s.modTorsion f).safety = s.safety := rfl
@[simp] theorem State.modTorsion_faults (f) : (s.modTorsion f).faults = s.faults := rfl
@[simp] theorem State.modTorsion_integ (f) : (s.modTorsion f).integ = s.integ := rfl
@[simp] theorem State.modTorsion_app (f) : (s.modTorsion f).app = s.app := rfl
@[simp] theorem State.modTorsion_dma (f) : (s.modTorsion f).dma = s.dma := rfl
@[simp] theorem State.modTorsion_recorder (f) : (s.modTorsion f).recorder = s.recorder := rfl
@[simp] theorem State.modTorsion_mem (f) : (s.modTorsion f).mem = s.mem := rfl
@[simp] theorem State.modTorsion_pair (f) : (s.modTorsion f).pair = s.pair := rfl
@[simp] theorem State.modTorsion_alcia (f) : (s.modTorsion f).alcia = s.alcia := rfl
@[simp] theorem State.modTorsion_upd (f) : (s.modTorsion f).upd = s.upd := rfl
@[simp] theorem State.modTorsion_thermal (f) : (s.modTorsion f).thermal = s.thermal := rfl
@[simp] theorem State.modTorsion_fresh (f) : (s.modTorsion f).fresh = s.fresh := rfl
@[simp] theorem State.modTorsion_pending (f) : (s.modTorsion f).pending = s.pending := rfl

@[simp] theorem State.modCol_dev (f) : (s.modCol f).dev = s.dev := rfl
@[simp] theorem State.modCol_time (f) : (s.modCol f).time = s.time := rfl
@[simp] theorem State.modCol_stamp (f) : (s.modCol f).stamp = s.stamp := rfl
@[simp] theorem State.modCol_ports (f) : (s.modCol f).ports = s.ports := rfl
@[simp] theorem State.modCol_owner (f) : (s.modCol f).owner = s.owner := rfl
@[simp] theorem State.modCol_counters (f) : (s.modCol f).counters = s.counters := rfl
@[simp] theorem State.modCol_power (f) : (s.modCol f).power = s.power := rfl
@[simp] theorem State.modCol_watch (f) : (s.modCol f).watch = s.watch := rfl
@[simp] theorem State.modCol_pins (f) : (s.modCol f).pins = s.pins := rfl
@[simp] theorem State.modCol_blocks (f) : (s.modCol f).blocks = s.blocks := rfl
@[simp] theorem State.modCol_sealedCfg (f) : (s.modCol f).sealedCfg = s.sealedCfg := rfl
@[simp] theorem State.modCol_gates (f) : (s.modCol f).gates = s.gates := rfl
@[simp] theorem State.modCol_legLock (f) : (s.modCol f).legLock = s.legLock := rfl
@[simp] theorem State.modCol_bkLock (f) : (s.modCol f).bkLock = s.bkLock := rfl
@[simp] theorem State.modCol_stCount (f) : (s.modCol f).stCount = s.stCount := rfl
@[simp] theorem State.modCol_stk (f) : (s.modCol f).stk = s.stk := rfl
@[simp] theorem State.modCol_fb (f) : (s.modCol f).fb = s.fb := rfl
@[simp] theorem State.modCol_obs (f) : (s.modCol f).obs = s.obs := rfl
@[simp] theorem State.modCol_sarA (f) : (s.modCol f).sarA = s.sarA := rfl
@[simp] theorem State.modCol_sarB (f) : (s.modCol f).sarB = s.sarB := rfl
@[simp] theorem State.modCol_sref (f) : (s.modCol f).sref = s.sref := rfl
@[simp] theorem State.modCol_motion (f) : (s.modCol f).motion = s.motion := rfl
@[simp] theorem State.modCol_torsion (f) : (s.modCol f).torsion = s.torsion := rfl
@[simp] theorem State.modCol_col (f) : (s.modCol f).col = f s.col := rfl
@[simp] theorem State.modCol_aux (f) : (s.modCol f).aux = s.aux := rfl
@[simp] theorem State.modCol_safety (f) : (s.modCol f).safety = s.safety := rfl
@[simp] theorem State.modCol_faults (f) : (s.modCol f).faults = s.faults := rfl
@[simp] theorem State.modCol_integ (f) : (s.modCol f).integ = s.integ := rfl
@[simp] theorem State.modCol_app (f) : (s.modCol f).app = s.app := rfl
@[simp] theorem State.modCol_dma (f) : (s.modCol f).dma = s.dma := rfl
@[simp] theorem State.modCol_recorder (f) : (s.modCol f).recorder = s.recorder := rfl
@[simp] theorem State.modCol_mem (f) : (s.modCol f).mem = s.mem := rfl
@[simp] theorem State.modCol_pair (f) : (s.modCol f).pair = s.pair := rfl
@[simp] theorem State.modCol_alcia (f) : (s.modCol f).alcia = s.alcia := rfl
@[simp] theorem State.modCol_upd (f) : (s.modCol f).upd = s.upd := rfl
@[simp] theorem State.modCol_thermal (f) : (s.modCol f).thermal = s.thermal := rfl
@[simp] theorem State.modCol_fresh (f) : (s.modCol f).fresh = s.fresh := rfl
@[simp] theorem State.modCol_pending (f) : (s.modCol f).pending = s.pending := rfl

@[simp] theorem State.modAux_dev (f) : (s.modAux f).dev = s.dev := rfl
@[simp] theorem State.modAux_time (f) : (s.modAux f).time = s.time := rfl
@[simp] theorem State.modAux_stamp (f) : (s.modAux f).stamp = s.stamp := rfl
@[simp] theorem State.modAux_ports (f) : (s.modAux f).ports = s.ports := rfl
@[simp] theorem State.modAux_owner (f) : (s.modAux f).owner = s.owner := rfl
@[simp] theorem State.modAux_counters (f) : (s.modAux f).counters = s.counters := rfl
@[simp] theorem State.modAux_power (f) : (s.modAux f).power = s.power := rfl
@[simp] theorem State.modAux_watch (f) : (s.modAux f).watch = s.watch := rfl
@[simp] theorem State.modAux_pins (f) : (s.modAux f).pins = s.pins := rfl
@[simp] theorem State.modAux_blocks (f) : (s.modAux f).blocks = s.blocks := rfl
@[simp] theorem State.modAux_sealedCfg (f) : (s.modAux f).sealedCfg = s.sealedCfg := rfl
@[simp] theorem State.modAux_gates (f) : (s.modAux f).gates = s.gates := rfl
@[simp] theorem State.modAux_legLock (f) : (s.modAux f).legLock = s.legLock := rfl
@[simp] theorem State.modAux_bkLock (f) : (s.modAux f).bkLock = s.bkLock := rfl
@[simp] theorem State.modAux_stCount (f) : (s.modAux f).stCount = s.stCount := rfl
@[simp] theorem State.modAux_stk (f) : (s.modAux f).stk = s.stk := rfl
@[simp] theorem State.modAux_fb (f) : (s.modAux f).fb = s.fb := rfl
@[simp] theorem State.modAux_obs (f) : (s.modAux f).obs = s.obs := rfl
@[simp] theorem State.modAux_sarA (f) : (s.modAux f).sarA = s.sarA := rfl
@[simp] theorem State.modAux_sarB (f) : (s.modAux f).sarB = s.sarB := rfl
@[simp] theorem State.modAux_sref (f) : (s.modAux f).sref = s.sref := rfl
@[simp] theorem State.modAux_motion (f) : (s.modAux f).motion = s.motion := rfl
@[simp] theorem State.modAux_torsion (f) : (s.modAux f).torsion = s.torsion := rfl
@[simp] theorem State.modAux_col (f) : (s.modAux f).col = s.col := rfl
@[simp] theorem State.modAux_aux (f) : (s.modAux f).aux = f s.aux := rfl
@[simp] theorem State.modAux_safety (f) : (s.modAux f).safety = s.safety := rfl
@[simp] theorem State.modAux_faults (f) : (s.modAux f).faults = s.faults := rfl
@[simp] theorem State.modAux_integ (f) : (s.modAux f).integ = s.integ := rfl
@[simp] theorem State.modAux_app (f) : (s.modAux f).app = s.app := rfl
@[simp] theorem State.modAux_dma (f) : (s.modAux f).dma = s.dma := rfl
@[simp] theorem State.modAux_recorder (f) : (s.modAux f).recorder = s.recorder := rfl
@[simp] theorem State.modAux_mem (f) : (s.modAux f).mem = s.mem := rfl
@[simp] theorem State.modAux_pair (f) : (s.modAux f).pair = s.pair := rfl
@[simp] theorem State.modAux_alcia (f) : (s.modAux f).alcia = s.alcia := rfl
@[simp] theorem State.modAux_upd (f) : (s.modAux f).upd = s.upd := rfl
@[simp] theorem State.modAux_thermal (f) : (s.modAux f).thermal = s.thermal := rfl
@[simp] theorem State.modAux_fresh (f) : (s.modAux f).fresh = s.fresh := rfl
@[simp] theorem State.modAux_pending (f) : (s.modAux f).pending = s.pending := rfl

@[simp] theorem State.modSafety_dev (f) : (s.modSafety f).dev = s.dev := rfl
@[simp] theorem State.modSafety_time (f) : (s.modSafety f).time = s.time := rfl
@[simp] theorem State.modSafety_stamp (f) : (s.modSafety f).stamp = s.stamp := rfl
@[simp] theorem State.modSafety_ports (f) : (s.modSafety f).ports = s.ports := rfl
@[simp] theorem State.modSafety_owner (f) : (s.modSafety f).owner = s.owner := rfl
@[simp] theorem State.modSafety_counters (f) : (s.modSafety f).counters = s.counters := rfl
@[simp] theorem State.modSafety_power (f) : (s.modSafety f).power = s.power := rfl
@[simp] theorem State.modSafety_watch (f) : (s.modSafety f).watch = s.watch := rfl
@[simp] theorem State.modSafety_pins (f) : (s.modSafety f).pins = s.pins := rfl
@[simp] theorem State.modSafety_blocks (f) : (s.modSafety f).blocks = s.blocks := rfl
@[simp] theorem State.modSafety_sealedCfg (f) : (s.modSafety f).sealedCfg = s.sealedCfg := rfl
@[simp] theorem State.modSafety_gates (f) : (s.modSafety f).gates = s.gates := rfl
@[simp] theorem State.modSafety_legLock (f) : (s.modSafety f).legLock = s.legLock := rfl
@[simp] theorem State.modSafety_bkLock (f) : (s.modSafety f).bkLock = s.bkLock := rfl
@[simp] theorem State.modSafety_stCount (f) : (s.modSafety f).stCount = s.stCount := rfl
@[simp] theorem State.modSafety_stk (f) : (s.modSafety f).stk = s.stk := rfl
@[simp] theorem State.modSafety_fb (f) : (s.modSafety f).fb = s.fb := rfl
@[simp] theorem State.modSafety_obs (f) : (s.modSafety f).obs = s.obs := rfl
@[simp] theorem State.modSafety_sarA (f) : (s.modSafety f).sarA = s.sarA := rfl
@[simp] theorem State.modSafety_sarB (f) : (s.modSafety f).sarB = s.sarB := rfl
@[simp] theorem State.modSafety_sref (f) : (s.modSafety f).sref = s.sref := rfl
@[simp] theorem State.modSafety_motion (f) : (s.modSafety f).motion = s.motion := rfl
@[simp] theorem State.modSafety_torsion (f) : (s.modSafety f).torsion = s.torsion := rfl
@[simp] theorem State.modSafety_col (f) : (s.modSafety f).col = s.col := rfl
@[simp] theorem State.modSafety_aux (f) : (s.modSafety f).aux = s.aux := rfl
@[simp] theorem State.modSafety_safety (f) : (s.modSafety f).safety = f s.safety := rfl
@[simp] theorem State.modSafety_faults (f) : (s.modSafety f).faults = s.faults := rfl
@[simp] theorem State.modSafety_integ (f) : (s.modSafety f).integ = s.integ := rfl
@[simp] theorem State.modSafety_app (f) : (s.modSafety f).app = s.app := rfl
@[simp] theorem State.modSafety_dma (f) : (s.modSafety f).dma = s.dma := rfl
@[simp] theorem State.modSafety_recorder (f) : (s.modSafety f).recorder = s.recorder := rfl
@[simp] theorem State.modSafety_mem (f) : (s.modSafety f).mem = s.mem := rfl
@[simp] theorem State.modSafety_pair (f) : (s.modSafety f).pair = s.pair := rfl
@[simp] theorem State.modSafety_alcia (f) : (s.modSafety f).alcia = s.alcia := rfl
@[simp] theorem State.modSafety_upd (f) : (s.modSafety f).upd = s.upd := rfl
@[simp] theorem State.modSafety_thermal (f) : (s.modSafety f).thermal = s.thermal := rfl
@[simp] theorem State.modSafety_fresh (f) : (s.modSafety f).fresh = s.fresh := rfl
@[simp] theorem State.modSafety_pending (f) : (s.modSafety f).pending = s.pending := rfl

@[simp] theorem State.modFaults_dev (f) : (s.modFaults f).dev = s.dev := rfl
@[simp] theorem State.modFaults_time (f) : (s.modFaults f).time = s.time := rfl
@[simp] theorem State.modFaults_stamp (f) : (s.modFaults f).stamp = s.stamp := rfl
@[simp] theorem State.modFaults_ports (f) : (s.modFaults f).ports = s.ports := rfl
@[simp] theorem State.modFaults_owner (f) : (s.modFaults f).owner = s.owner := rfl
@[simp] theorem State.modFaults_counters (f) : (s.modFaults f).counters = s.counters := rfl
@[simp] theorem State.modFaults_power (f) : (s.modFaults f).power = s.power := rfl
@[simp] theorem State.modFaults_watch (f) : (s.modFaults f).watch = s.watch := rfl
@[simp] theorem State.modFaults_pins (f) : (s.modFaults f).pins = s.pins := rfl
@[simp] theorem State.modFaults_blocks (f) : (s.modFaults f).blocks = s.blocks := rfl
@[simp] theorem State.modFaults_sealedCfg (f) : (s.modFaults f).sealedCfg = s.sealedCfg := rfl
@[simp] theorem State.modFaults_gates (f) : (s.modFaults f).gates = s.gates := rfl
@[simp] theorem State.modFaults_legLock (f) : (s.modFaults f).legLock = s.legLock := rfl
@[simp] theorem State.modFaults_bkLock (f) : (s.modFaults f).bkLock = s.bkLock := rfl
@[simp] theorem State.modFaults_stCount (f) : (s.modFaults f).stCount = s.stCount := rfl
@[simp] theorem State.modFaults_stk (f) : (s.modFaults f).stk = s.stk := rfl
@[simp] theorem State.modFaults_fb (f) : (s.modFaults f).fb = s.fb := rfl
@[simp] theorem State.modFaults_obs (f) : (s.modFaults f).obs = s.obs := rfl
@[simp] theorem State.modFaults_sarA (f) : (s.modFaults f).sarA = s.sarA := rfl
@[simp] theorem State.modFaults_sarB (f) : (s.modFaults f).sarB = s.sarB := rfl
@[simp] theorem State.modFaults_sref (f) : (s.modFaults f).sref = s.sref := rfl
@[simp] theorem State.modFaults_motion (f) : (s.modFaults f).motion = s.motion := rfl
@[simp] theorem State.modFaults_torsion (f) : (s.modFaults f).torsion = s.torsion := rfl
@[simp] theorem State.modFaults_col (f) : (s.modFaults f).col = s.col := rfl
@[simp] theorem State.modFaults_aux (f) : (s.modFaults f).aux = s.aux := rfl
@[simp] theorem State.modFaults_safety (f) : (s.modFaults f).safety = s.safety := rfl
@[simp] theorem State.modFaults_faults (f) : (s.modFaults f).faults = f s.faults := rfl
@[simp] theorem State.modFaults_integ (f) : (s.modFaults f).integ = s.integ := rfl
@[simp] theorem State.modFaults_app (f) : (s.modFaults f).app = s.app := rfl
@[simp] theorem State.modFaults_dma (f) : (s.modFaults f).dma = s.dma := rfl
@[simp] theorem State.modFaults_recorder (f) : (s.modFaults f).recorder = s.recorder := rfl
@[simp] theorem State.modFaults_mem (f) : (s.modFaults f).mem = s.mem := rfl
@[simp] theorem State.modFaults_pair (f) : (s.modFaults f).pair = s.pair := rfl
@[simp] theorem State.modFaults_alcia (f) : (s.modFaults f).alcia = s.alcia := rfl
@[simp] theorem State.modFaults_upd (f) : (s.modFaults f).upd = s.upd := rfl
@[simp] theorem State.modFaults_thermal (f) : (s.modFaults f).thermal = s.thermal := rfl
@[simp] theorem State.modFaults_fresh (f) : (s.modFaults f).fresh = s.fresh := rfl
@[simp] theorem State.modFaults_pending (f) : (s.modFaults f).pending = s.pending := rfl

@[simp] theorem State.modInteg_dev (f) : (s.modInteg f).dev = s.dev := rfl
@[simp] theorem State.modInteg_time (f) : (s.modInteg f).time = s.time := rfl
@[simp] theorem State.modInteg_stamp (f) : (s.modInteg f).stamp = s.stamp := rfl
@[simp] theorem State.modInteg_ports (f) : (s.modInteg f).ports = s.ports := rfl
@[simp] theorem State.modInteg_owner (f) : (s.modInteg f).owner = s.owner := rfl
@[simp] theorem State.modInteg_counters (f) : (s.modInteg f).counters = s.counters := rfl
@[simp] theorem State.modInteg_power (f) : (s.modInteg f).power = s.power := rfl
@[simp] theorem State.modInteg_watch (f) : (s.modInteg f).watch = s.watch := rfl
@[simp] theorem State.modInteg_pins (f) : (s.modInteg f).pins = s.pins := rfl
@[simp] theorem State.modInteg_blocks (f) : (s.modInteg f).blocks = s.blocks := rfl
@[simp] theorem State.modInteg_sealedCfg (f) : (s.modInteg f).sealedCfg = s.sealedCfg := rfl
@[simp] theorem State.modInteg_gates (f) : (s.modInteg f).gates = s.gates := rfl
@[simp] theorem State.modInteg_legLock (f) : (s.modInteg f).legLock = s.legLock := rfl
@[simp] theorem State.modInteg_bkLock (f) : (s.modInteg f).bkLock = s.bkLock := rfl
@[simp] theorem State.modInteg_stCount (f) : (s.modInteg f).stCount = s.stCount := rfl
@[simp] theorem State.modInteg_stk (f) : (s.modInteg f).stk = s.stk := rfl
@[simp] theorem State.modInteg_fb (f) : (s.modInteg f).fb = s.fb := rfl
@[simp] theorem State.modInteg_obs (f) : (s.modInteg f).obs = s.obs := rfl
@[simp] theorem State.modInteg_sarA (f) : (s.modInteg f).sarA = s.sarA := rfl
@[simp] theorem State.modInteg_sarB (f) : (s.modInteg f).sarB = s.sarB := rfl
@[simp] theorem State.modInteg_sref (f) : (s.modInteg f).sref = s.sref := rfl
@[simp] theorem State.modInteg_motion (f) : (s.modInteg f).motion = s.motion := rfl
@[simp] theorem State.modInteg_torsion (f) : (s.modInteg f).torsion = s.torsion := rfl
@[simp] theorem State.modInteg_col (f) : (s.modInteg f).col = s.col := rfl
@[simp] theorem State.modInteg_aux (f) : (s.modInteg f).aux = s.aux := rfl
@[simp] theorem State.modInteg_safety (f) : (s.modInteg f).safety = s.safety := rfl
@[simp] theorem State.modInteg_faults (f) : (s.modInteg f).faults = s.faults := rfl
@[simp] theorem State.modInteg_integ (f) : (s.modInteg f).integ = f s.integ := rfl
@[simp] theorem State.modInteg_app (f) : (s.modInteg f).app = s.app := rfl
@[simp] theorem State.modInteg_dma (f) : (s.modInteg f).dma = s.dma := rfl
@[simp] theorem State.modInteg_recorder (f) : (s.modInteg f).recorder = s.recorder := rfl
@[simp] theorem State.modInteg_mem (f) : (s.modInteg f).mem = s.mem := rfl
@[simp] theorem State.modInteg_pair (f) : (s.modInteg f).pair = s.pair := rfl
@[simp] theorem State.modInteg_alcia (f) : (s.modInteg f).alcia = s.alcia := rfl
@[simp] theorem State.modInteg_upd (f) : (s.modInteg f).upd = s.upd := rfl
@[simp] theorem State.modInteg_thermal (f) : (s.modInteg f).thermal = s.thermal := rfl
@[simp] theorem State.modInteg_fresh (f) : (s.modInteg f).fresh = s.fresh := rfl
@[simp] theorem State.modInteg_pending (f) : (s.modInteg f).pending = s.pending := rfl

@[simp] theorem State.modApp_dev (f) : (s.modApp f).dev = s.dev := rfl
@[simp] theorem State.modApp_time (f) : (s.modApp f).time = s.time := rfl
@[simp] theorem State.modApp_stamp (f) : (s.modApp f).stamp = s.stamp := rfl
@[simp] theorem State.modApp_ports (f) : (s.modApp f).ports = s.ports := rfl
@[simp] theorem State.modApp_owner (f) : (s.modApp f).owner = s.owner := rfl
@[simp] theorem State.modApp_counters (f) : (s.modApp f).counters = s.counters := rfl
@[simp] theorem State.modApp_power (f) : (s.modApp f).power = s.power := rfl
@[simp] theorem State.modApp_watch (f) : (s.modApp f).watch = s.watch := rfl
@[simp] theorem State.modApp_pins (f) : (s.modApp f).pins = s.pins := rfl
@[simp] theorem State.modApp_blocks (f) : (s.modApp f).blocks = s.blocks := rfl
@[simp] theorem State.modApp_sealedCfg (f) : (s.modApp f).sealedCfg = s.sealedCfg := rfl
@[simp] theorem State.modApp_gates (f) : (s.modApp f).gates = s.gates := rfl
@[simp] theorem State.modApp_legLock (f) : (s.modApp f).legLock = s.legLock := rfl
@[simp] theorem State.modApp_bkLock (f) : (s.modApp f).bkLock = s.bkLock := rfl
@[simp] theorem State.modApp_stCount (f) : (s.modApp f).stCount = s.stCount := rfl
@[simp] theorem State.modApp_stk (f) : (s.modApp f).stk = s.stk := rfl
@[simp] theorem State.modApp_fb (f) : (s.modApp f).fb = s.fb := rfl
@[simp] theorem State.modApp_obs (f) : (s.modApp f).obs = s.obs := rfl
@[simp] theorem State.modApp_sarA (f) : (s.modApp f).sarA = s.sarA := rfl
@[simp] theorem State.modApp_sarB (f) : (s.modApp f).sarB = s.sarB := rfl
@[simp] theorem State.modApp_sref (f) : (s.modApp f).sref = s.sref := rfl
@[simp] theorem State.modApp_motion (f) : (s.modApp f).motion = s.motion := rfl
@[simp] theorem State.modApp_torsion (f) : (s.modApp f).torsion = s.torsion := rfl
@[simp] theorem State.modApp_col (f) : (s.modApp f).col = s.col := rfl
@[simp] theorem State.modApp_aux (f) : (s.modApp f).aux = s.aux := rfl
@[simp] theorem State.modApp_safety (f) : (s.modApp f).safety = s.safety := rfl
@[simp] theorem State.modApp_faults (f) : (s.modApp f).faults = s.faults := rfl
@[simp] theorem State.modApp_integ (f) : (s.modApp f).integ = s.integ := rfl
@[simp] theorem State.modApp_app (f) : (s.modApp f).app = f s.app := rfl
@[simp] theorem State.modApp_dma (f) : (s.modApp f).dma = s.dma := rfl
@[simp] theorem State.modApp_recorder (f) : (s.modApp f).recorder = s.recorder := rfl
@[simp] theorem State.modApp_mem (f) : (s.modApp f).mem = s.mem := rfl
@[simp] theorem State.modApp_pair (f) : (s.modApp f).pair = s.pair := rfl
@[simp] theorem State.modApp_alcia (f) : (s.modApp f).alcia = s.alcia := rfl
@[simp] theorem State.modApp_upd (f) : (s.modApp f).upd = s.upd := rfl
@[simp] theorem State.modApp_thermal (f) : (s.modApp f).thermal = s.thermal := rfl
@[simp] theorem State.modApp_fresh (f) : (s.modApp f).fresh = s.fresh := rfl
@[simp] theorem State.modApp_pending (f) : (s.modApp f).pending = s.pending := rfl

@[simp] theorem State.modDma_dev (f) : (s.modDma f).dev = s.dev := rfl
@[simp] theorem State.modDma_time (f) : (s.modDma f).time = s.time := rfl
@[simp] theorem State.modDma_stamp (f) : (s.modDma f).stamp = s.stamp := rfl
@[simp] theorem State.modDma_ports (f) : (s.modDma f).ports = s.ports := rfl
@[simp] theorem State.modDma_owner (f) : (s.modDma f).owner = s.owner := rfl
@[simp] theorem State.modDma_counters (f) : (s.modDma f).counters = s.counters := rfl
@[simp] theorem State.modDma_power (f) : (s.modDma f).power = s.power := rfl
@[simp] theorem State.modDma_watch (f) : (s.modDma f).watch = s.watch := rfl
@[simp] theorem State.modDma_pins (f) : (s.modDma f).pins = s.pins := rfl
@[simp] theorem State.modDma_blocks (f) : (s.modDma f).blocks = s.blocks := rfl
@[simp] theorem State.modDma_sealedCfg (f) : (s.modDma f).sealedCfg = s.sealedCfg := rfl
@[simp] theorem State.modDma_gates (f) : (s.modDma f).gates = s.gates := rfl
@[simp] theorem State.modDma_legLock (f) : (s.modDma f).legLock = s.legLock := rfl
@[simp] theorem State.modDma_bkLock (f) : (s.modDma f).bkLock = s.bkLock := rfl
@[simp] theorem State.modDma_stCount (f) : (s.modDma f).stCount = s.stCount := rfl
@[simp] theorem State.modDma_stk (f) : (s.modDma f).stk = s.stk := rfl
@[simp] theorem State.modDma_fb (f) : (s.modDma f).fb = s.fb := rfl
@[simp] theorem State.modDma_obs (f) : (s.modDma f).obs = s.obs := rfl
@[simp] theorem State.modDma_sarA (f) : (s.modDma f).sarA = s.sarA := rfl
@[simp] theorem State.modDma_sarB (f) : (s.modDma f).sarB = s.sarB := rfl
@[simp] theorem State.modDma_sref (f) : (s.modDma f).sref = s.sref := rfl
@[simp] theorem State.modDma_motion (f) : (s.modDma f).motion = s.motion := rfl
@[simp] theorem State.modDma_torsion (f) : (s.modDma f).torsion = s.torsion := rfl
@[simp] theorem State.modDma_col (f) : (s.modDma f).col = s.col := rfl
@[simp] theorem State.modDma_aux (f) : (s.modDma f).aux = s.aux := rfl
@[simp] theorem State.modDma_safety (f) : (s.modDma f).safety = s.safety := rfl
@[simp] theorem State.modDma_faults (f) : (s.modDma f).faults = s.faults := rfl
@[simp] theorem State.modDma_integ (f) : (s.modDma f).integ = s.integ := rfl
@[simp] theorem State.modDma_app (f) : (s.modDma f).app = s.app := rfl
@[simp] theorem State.modDma_dma (f) : (s.modDma f).dma = f s.dma := rfl
@[simp] theorem State.modDma_recorder (f) : (s.modDma f).recorder = s.recorder := rfl
@[simp] theorem State.modDma_mem (f) : (s.modDma f).mem = s.mem := rfl
@[simp] theorem State.modDma_pair (f) : (s.modDma f).pair = s.pair := rfl
@[simp] theorem State.modDma_alcia (f) : (s.modDma f).alcia = s.alcia := rfl
@[simp] theorem State.modDma_upd (f) : (s.modDma f).upd = s.upd := rfl
@[simp] theorem State.modDma_thermal (f) : (s.modDma f).thermal = s.thermal := rfl
@[simp] theorem State.modDma_fresh (f) : (s.modDma f).fresh = s.fresh := rfl
@[simp] theorem State.modDma_pending (f) : (s.modDma f).pending = s.pending := rfl

@[simp] theorem State.modRecorder_dev (f) : (s.modRecorder f).dev = s.dev := rfl
@[simp] theorem State.modRecorder_time (f) : (s.modRecorder f).time = s.time := rfl
@[simp] theorem State.modRecorder_stamp (f) : (s.modRecorder f).stamp = s.stamp := rfl
@[simp] theorem State.modRecorder_ports (f) : (s.modRecorder f).ports = s.ports := rfl
@[simp] theorem State.modRecorder_owner (f) : (s.modRecorder f).owner = s.owner := rfl
@[simp] theorem State.modRecorder_counters (f) : (s.modRecorder f).counters = s.counters := rfl
@[simp] theorem State.modRecorder_power (f) : (s.modRecorder f).power = s.power := rfl
@[simp] theorem State.modRecorder_watch (f) : (s.modRecorder f).watch = s.watch := rfl
@[simp] theorem State.modRecorder_pins (f) : (s.modRecorder f).pins = s.pins := rfl
@[simp] theorem State.modRecorder_blocks (f) : (s.modRecorder f).blocks = s.blocks := rfl
@[simp] theorem State.modRecorder_sealedCfg (f) : (s.modRecorder f).sealedCfg = s.sealedCfg := rfl
@[simp] theorem State.modRecorder_gates (f) : (s.modRecorder f).gates = s.gates := rfl
@[simp] theorem State.modRecorder_legLock (f) : (s.modRecorder f).legLock = s.legLock := rfl
@[simp] theorem State.modRecorder_bkLock (f) : (s.modRecorder f).bkLock = s.bkLock := rfl
@[simp] theorem State.modRecorder_stCount (f) : (s.modRecorder f).stCount = s.stCount := rfl
@[simp] theorem State.modRecorder_stk (f) : (s.modRecorder f).stk = s.stk := rfl
@[simp] theorem State.modRecorder_fb (f) : (s.modRecorder f).fb = s.fb := rfl
@[simp] theorem State.modRecorder_obs (f) : (s.modRecorder f).obs = s.obs := rfl
@[simp] theorem State.modRecorder_sarA (f) : (s.modRecorder f).sarA = s.sarA := rfl
@[simp] theorem State.modRecorder_sarB (f) : (s.modRecorder f).sarB = s.sarB := rfl
@[simp] theorem State.modRecorder_sref (f) : (s.modRecorder f).sref = s.sref := rfl
@[simp] theorem State.modRecorder_motion (f) : (s.modRecorder f).motion = s.motion := rfl
@[simp] theorem State.modRecorder_torsion (f) : (s.modRecorder f).torsion = s.torsion := rfl
@[simp] theorem State.modRecorder_col (f) : (s.modRecorder f).col = s.col := rfl
@[simp] theorem State.modRecorder_aux (f) : (s.modRecorder f).aux = s.aux := rfl
@[simp] theorem State.modRecorder_safety (f) : (s.modRecorder f).safety = s.safety := rfl
@[simp] theorem State.modRecorder_faults (f) : (s.modRecorder f).faults = s.faults := rfl
@[simp] theorem State.modRecorder_integ (f) : (s.modRecorder f).integ = s.integ := rfl
@[simp] theorem State.modRecorder_app (f) : (s.modRecorder f).app = s.app := rfl
@[simp] theorem State.modRecorder_dma (f) : (s.modRecorder f).dma = s.dma := rfl
@[simp] theorem State.modRecorder_recorder (f) : (s.modRecorder f).recorder = f s.recorder := rfl
@[simp] theorem State.modRecorder_mem (f) : (s.modRecorder f).mem = s.mem := rfl
@[simp] theorem State.modRecorder_pair (f) : (s.modRecorder f).pair = s.pair := rfl
@[simp] theorem State.modRecorder_alcia (f) : (s.modRecorder f).alcia = s.alcia := rfl
@[simp] theorem State.modRecorder_upd (f) : (s.modRecorder f).upd = s.upd := rfl
@[simp] theorem State.modRecorder_thermal (f) : (s.modRecorder f).thermal = s.thermal := rfl
@[simp] theorem State.modRecorder_fresh (f) : (s.modRecorder f).fresh = s.fresh := rfl
@[simp] theorem State.modRecorder_pending (f) : (s.modRecorder f).pending = s.pending := rfl

@[simp] theorem State.modPair_dev (f) : (s.modPair f).dev = s.dev := rfl
@[simp] theorem State.modPair_time (f) : (s.modPair f).time = s.time := rfl
@[simp] theorem State.modPair_stamp (f) : (s.modPair f).stamp = s.stamp := rfl
@[simp] theorem State.modPair_ports (f) : (s.modPair f).ports = s.ports := rfl
@[simp] theorem State.modPair_owner (f) : (s.modPair f).owner = s.owner := rfl
@[simp] theorem State.modPair_counters (f) : (s.modPair f).counters = s.counters := rfl
@[simp] theorem State.modPair_power (f) : (s.modPair f).power = s.power := rfl
@[simp] theorem State.modPair_watch (f) : (s.modPair f).watch = s.watch := rfl
@[simp] theorem State.modPair_pins (f) : (s.modPair f).pins = s.pins := rfl
@[simp] theorem State.modPair_blocks (f) : (s.modPair f).blocks = s.blocks := rfl
@[simp] theorem State.modPair_sealedCfg (f) : (s.modPair f).sealedCfg = s.sealedCfg := rfl
@[simp] theorem State.modPair_gates (f) : (s.modPair f).gates = s.gates := rfl
@[simp] theorem State.modPair_legLock (f) : (s.modPair f).legLock = s.legLock := rfl
@[simp] theorem State.modPair_bkLock (f) : (s.modPair f).bkLock = s.bkLock := rfl
@[simp] theorem State.modPair_stCount (f) : (s.modPair f).stCount = s.stCount := rfl
@[simp] theorem State.modPair_stk (f) : (s.modPair f).stk = s.stk := rfl
@[simp] theorem State.modPair_fb (f) : (s.modPair f).fb = s.fb := rfl
@[simp] theorem State.modPair_obs (f) : (s.modPair f).obs = s.obs := rfl
@[simp] theorem State.modPair_sarA (f) : (s.modPair f).sarA = s.sarA := rfl
@[simp] theorem State.modPair_sarB (f) : (s.modPair f).sarB = s.sarB := rfl
@[simp] theorem State.modPair_sref (f) : (s.modPair f).sref = s.sref := rfl
@[simp] theorem State.modPair_motion (f) : (s.modPair f).motion = s.motion := rfl
@[simp] theorem State.modPair_torsion (f) : (s.modPair f).torsion = s.torsion := rfl
@[simp] theorem State.modPair_col (f) : (s.modPair f).col = s.col := rfl
@[simp] theorem State.modPair_aux (f) : (s.modPair f).aux = s.aux := rfl
@[simp] theorem State.modPair_safety (f) : (s.modPair f).safety = s.safety := rfl
@[simp] theorem State.modPair_faults (f) : (s.modPair f).faults = s.faults := rfl
@[simp] theorem State.modPair_integ (f) : (s.modPair f).integ = s.integ := rfl
@[simp] theorem State.modPair_app (f) : (s.modPair f).app = s.app := rfl
@[simp] theorem State.modPair_dma (f) : (s.modPair f).dma = s.dma := rfl
@[simp] theorem State.modPair_recorder (f) : (s.modPair f).recorder = s.recorder := rfl
@[simp] theorem State.modPair_mem (f) : (s.modPair f).mem = s.mem := rfl
@[simp] theorem State.modPair_pair (f) : (s.modPair f).pair = f s.pair := rfl
@[simp] theorem State.modPair_alcia (f) : (s.modPair f).alcia = s.alcia := rfl
@[simp] theorem State.modPair_upd (f) : (s.modPair f).upd = s.upd := rfl
@[simp] theorem State.modPair_thermal (f) : (s.modPair f).thermal = s.thermal := rfl
@[simp] theorem State.modPair_fresh (f) : (s.modPair f).fresh = s.fresh := rfl
@[simp] theorem State.modPair_pending (f) : (s.modPair f).pending = s.pending := rfl

@[simp] theorem State.modAlcia_dev (f) : (s.modAlcia f).dev = s.dev := rfl
@[simp] theorem State.modAlcia_time (f) : (s.modAlcia f).time = s.time := rfl
@[simp] theorem State.modAlcia_stamp (f) : (s.modAlcia f).stamp = s.stamp := rfl
@[simp] theorem State.modAlcia_ports (f) : (s.modAlcia f).ports = s.ports := rfl
@[simp] theorem State.modAlcia_owner (f) : (s.modAlcia f).owner = s.owner := rfl
@[simp] theorem State.modAlcia_counters (f) : (s.modAlcia f).counters = s.counters := rfl
@[simp] theorem State.modAlcia_power (f) : (s.modAlcia f).power = s.power := rfl
@[simp] theorem State.modAlcia_watch (f) : (s.modAlcia f).watch = s.watch := rfl
@[simp] theorem State.modAlcia_pins (f) : (s.modAlcia f).pins = s.pins := rfl
@[simp] theorem State.modAlcia_blocks (f) : (s.modAlcia f).blocks = s.blocks := rfl
@[simp] theorem State.modAlcia_sealedCfg (f) : (s.modAlcia f).sealedCfg = s.sealedCfg := rfl
@[simp] theorem State.modAlcia_gates (f) : (s.modAlcia f).gates = s.gates := rfl
@[simp] theorem State.modAlcia_legLock (f) : (s.modAlcia f).legLock = s.legLock := rfl
@[simp] theorem State.modAlcia_bkLock (f) : (s.modAlcia f).bkLock = s.bkLock := rfl
@[simp] theorem State.modAlcia_stCount (f) : (s.modAlcia f).stCount = s.stCount := rfl
@[simp] theorem State.modAlcia_stk (f) : (s.modAlcia f).stk = s.stk := rfl
@[simp] theorem State.modAlcia_fb (f) : (s.modAlcia f).fb = s.fb := rfl
@[simp] theorem State.modAlcia_obs (f) : (s.modAlcia f).obs = s.obs := rfl
@[simp] theorem State.modAlcia_sarA (f) : (s.modAlcia f).sarA = s.sarA := rfl
@[simp] theorem State.modAlcia_sarB (f) : (s.modAlcia f).sarB = s.sarB := rfl
@[simp] theorem State.modAlcia_sref (f) : (s.modAlcia f).sref = s.sref := rfl
@[simp] theorem State.modAlcia_motion (f) : (s.modAlcia f).motion = s.motion := rfl
@[simp] theorem State.modAlcia_torsion (f) : (s.modAlcia f).torsion = s.torsion := rfl
@[simp] theorem State.modAlcia_col (f) : (s.modAlcia f).col = s.col := rfl
@[simp] theorem State.modAlcia_aux (f) : (s.modAlcia f).aux = s.aux := rfl
@[simp] theorem State.modAlcia_safety (f) : (s.modAlcia f).safety = s.safety := rfl
@[simp] theorem State.modAlcia_faults (f) : (s.modAlcia f).faults = s.faults := rfl
@[simp] theorem State.modAlcia_integ (f) : (s.modAlcia f).integ = s.integ := rfl
@[simp] theorem State.modAlcia_app (f) : (s.modAlcia f).app = s.app := rfl
@[simp] theorem State.modAlcia_dma (f) : (s.modAlcia f).dma = s.dma := rfl
@[simp] theorem State.modAlcia_recorder (f) : (s.modAlcia f).recorder = s.recorder := rfl
@[simp] theorem State.modAlcia_mem (f) : (s.modAlcia f).mem = s.mem := rfl
@[simp] theorem State.modAlcia_pair (f) : (s.modAlcia f).pair = s.pair := rfl
@[simp] theorem State.modAlcia_alcia (f) : (s.modAlcia f).alcia = f s.alcia := rfl
@[simp] theorem State.modAlcia_upd (f) : (s.modAlcia f).upd = s.upd := rfl
@[simp] theorem State.modAlcia_thermal (f) : (s.modAlcia f).thermal = s.thermal := rfl
@[simp] theorem State.modAlcia_fresh (f) : (s.modAlcia f).fresh = s.fresh := rfl
@[simp] theorem State.modAlcia_pending (f) : (s.modAlcia f).pending = s.pending := rfl

@[simp] theorem State.modUpd_dev (f) : (s.modUpd f).dev = s.dev := rfl
@[simp] theorem State.modUpd_time (f) : (s.modUpd f).time = s.time := rfl
@[simp] theorem State.modUpd_stamp (f) : (s.modUpd f).stamp = s.stamp := rfl
@[simp] theorem State.modUpd_ports (f) : (s.modUpd f).ports = s.ports := rfl
@[simp] theorem State.modUpd_owner (f) : (s.modUpd f).owner = s.owner := rfl
@[simp] theorem State.modUpd_counters (f) : (s.modUpd f).counters = s.counters := rfl
@[simp] theorem State.modUpd_power (f) : (s.modUpd f).power = s.power := rfl
@[simp] theorem State.modUpd_watch (f) : (s.modUpd f).watch = s.watch := rfl
@[simp] theorem State.modUpd_pins (f) : (s.modUpd f).pins = s.pins := rfl
@[simp] theorem State.modUpd_blocks (f) : (s.modUpd f).blocks = s.blocks := rfl
@[simp] theorem State.modUpd_sealedCfg (f) : (s.modUpd f).sealedCfg = s.sealedCfg := rfl
@[simp] theorem State.modUpd_gates (f) : (s.modUpd f).gates = s.gates := rfl
@[simp] theorem State.modUpd_legLock (f) : (s.modUpd f).legLock = s.legLock := rfl
@[simp] theorem State.modUpd_bkLock (f) : (s.modUpd f).bkLock = s.bkLock := rfl
@[simp] theorem State.modUpd_stCount (f) : (s.modUpd f).stCount = s.stCount := rfl
@[simp] theorem State.modUpd_stk (f) : (s.modUpd f).stk = s.stk := rfl
@[simp] theorem State.modUpd_fb (f) : (s.modUpd f).fb = s.fb := rfl
@[simp] theorem State.modUpd_obs (f) : (s.modUpd f).obs = s.obs := rfl
@[simp] theorem State.modUpd_sarA (f) : (s.modUpd f).sarA = s.sarA := rfl
@[simp] theorem State.modUpd_sarB (f) : (s.modUpd f).sarB = s.sarB := rfl
@[simp] theorem State.modUpd_sref (f) : (s.modUpd f).sref = s.sref := rfl
@[simp] theorem State.modUpd_motion (f) : (s.modUpd f).motion = s.motion := rfl
@[simp] theorem State.modUpd_torsion (f) : (s.modUpd f).torsion = s.torsion := rfl
@[simp] theorem State.modUpd_col (f) : (s.modUpd f).col = s.col := rfl
@[simp] theorem State.modUpd_aux (f) : (s.modUpd f).aux = s.aux := rfl
@[simp] theorem State.modUpd_safety (f) : (s.modUpd f).safety = s.safety := rfl
@[simp] theorem State.modUpd_faults (f) : (s.modUpd f).faults = s.faults := rfl
@[simp] theorem State.modUpd_integ (f) : (s.modUpd f).integ = s.integ := rfl
@[simp] theorem State.modUpd_app (f) : (s.modUpd f).app = s.app := rfl
@[simp] theorem State.modUpd_dma (f) : (s.modUpd f).dma = s.dma := rfl
@[simp] theorem State.modUpd_recorder (f) : (s.modUpd f).recorder = s.recorder := rfl
@[simp] theorem State.modUpd_mem (f) : (s.modUpd f).mem = s.mem := rfl
@[simp] theorem State.modUpd_pair (f) : (s.modUpd f).pair = s.pair := rfl
@[simp] theorem State.modUpd_alcia (f) : (s.modUpd f).alcia = s.alcia := rfl
@[simp] theorem State.modUpd_upd (f) : (s.modUpd f).upd = f s.upd := rfl
@[simp] theorem State.modUpd_thermal (f) : (s.modUpd f).thermal = s.thermal := rfl
@[simp] theorem State.modUpd_fresh (f) : (s.modUpd f).fresh = s.fresh := rfl
@[simp] theorem State.modUpd_pending (f) : (s.modUpd f).pending = s.pending := rfl

@[simp] theorem State.modThermal_dev (f) : (s.modThermal f).dev = s.dev := rfl
@[simp] theorem State.modThermal_time (f) : (s.modThermal f).time = s.time := rfl
@[simp] theorem State.modThermal_stamp (f) : (s.modThermal f).stamp = s.stamp := rfl
@[simp] theorem State.modThermal_ports (f) : (s.modThermal f).ports = s.ports := rfl
@[simp] theorem State.modThermal_owner (f) : (s.modThermal f).owner = s.owner := rfl
@[simp] theorem State.modThermal_counters (f) : (s.modThermal f).counters = s.counters := rfl
@[simp] theorem State.modThermal_power (f) : (s.modThermal f).power = s.power := rfl
@[simp] theorem State.modThermal_watch (f) : (s.modThermal f).watch = s.watch := rfl
@[simp] theorem State.modThermal_pins (f) : (s.modThermal f).pins = s.pins := rfl
@[simp] theorem State.modThermal_blocks (f) : (s.modThermal f).blocks = s.blocks := rfl
@[simp] theorem State.modThermal_sealedCfg (f) : (s.modThermal f).sealedCfg = s.sealedCfg := rfl
@[simp] theorem State.modThermal_gates (f) : (s.modThermal f).gates = s.gates := rfl
@[simp] theorem State.modThermal_legLock (f) : (s.modThermal f).legLock = s.legLock := rfl
@[simp] theorem State.modThermal_bkLock (f) : (s.modThermal f).bkLock = s.bkLock := rfl
@[simp] theorem State.modThermal_stCount (f) : (s.modThermal f).stCount = s.stCount := rfl
@[simp] theorem State.modThermal_stk (f) : (s.modThermal f).stk = s.stk := rfl
@[simp] theorem State.modThermal_fb (f) : (s.modThermal f).fb = s.fb := rfl
@[simp] theorem State.modThermal_obs (f) : (s.modThermal f).obs = s.obs := rfl
@[simp] theorem State.modThermal_sarA (f) : (s.modThermal f).sarA = s.sarA := rfl
@[simp] theorem State.modThermal_sarB (f) : (s.modThermal f).sarB = s.sarB := rfl
@[simp] theorem State.modThermal_sref (f) : (s.modThermal f).sref = s.sref := rfl
@[simp] theorem State.modThermal_motion (f) : (s.modThermal f).motion = s.motion := rfl
@[simp] theorem State.modThermal_torsion (f) : (s.modThermal f).torsion = s.torsion := rfl
@[simp] theorem State.modThermal_col (f) : (s.modThermal f).col = s.col := rfl
@[simp] theorem State.modThermal_aux (f) : (s.modThermal f).aux = s.aux := rfl
@[simp] theorem State.modThermal_safety (f) : (s.modThermal f).safety = s.safety := rfl
@[simp] theorem State.modThermal_faults (f) : (s.modThermal f).faults = s.faults := rfl
@[simp] theorem State.modThermal_integ (f) : (s.modThermal f).integ = s.integ := rfl
@[simp] theorem State.modThermal_app (f) : (s.modThermal f).app = s.app := rfl
@[simp] theorem State.modThermal_dma (f) : (s.modThermal f).dma = s.dma := rfl
@[simp] theorem State.modThermal_recorder (f) : (s.modThermal f).recorder = s.recorder := rfl
@[simp] theorem State.modThermal_mem (f) : (s.modThermal f).mem = s.mem := rfl
@[simp] theorem State.modThermal_pair (f) : (s.modThermal f).pair = s.pair := rfl
@[simp] theorem State.modThermal_alcia (f) : (s.modThermal f).alcia = s.alcia := rfl
@[simp] theorem State.modThermal_upd (f) : (s.modThermal f).upd = s.upd := rfl
@[simp] theorem State.modThermal_thermal (f) : (s.modThermal f).thermal = f s.thermal := rfl
@[simp] theorem State.modThermal_fresh (f) : (s.modThermal f).fresh = s.fresh := rfl
@[simp] theorem State.modThermal_pending (f) : (s.modThermal f).pending = s.pending := rfl

@[simp] theorem State.modPort_dev (c : Source) (f) : (s.modPort c f).dev = s.dev := rfl
@[simp] theorem State.modPort_time (c : Source) (f) : (s.modPort c f).time = s.time := rfl
@[simp] theorem State.modPort_stamp (c : Source) (f) : (s.modPort c f).stamp = s.stamp := rfl
@[simp] theorem State.modPort_owner (c : Source) (f) : (s.modPort c f).owner = s.owner := rfl
@[simp] theorem State.modPort_counters (c : Source) (f) : (s.modPort c f).counters = s.counters := rfl
@[simp] theorem State.modPort_power (c : Source) (f) : (s.modPort c f).power = s.power := rfl
@[simp] theorem State.modPort_watch (c : Source) (f) : (s.modPort c f).watch = s.watch := rfl
@[simp] theorem State.modPort_pins (c : Source) (f) : (s.modPort c f).pins = s.pins := rfl
@[simp] theorem State.modPort_blocks (c : Source) (f) : (s.modPort c f).blocks = s.blocks := rfl
@[simp] theorem State.modPort_sealedCfg (c : Source) (f) : (s.modPort c f).sealedCfg = s.sealedCfg := rfl
@[simp] theorem State.modPort_gates (c : Source) (f) : (s.modPort c f).gates = s.gates := rfl
@[simp] theorem State.modPort_legLock (c : Source) (f) : (s.modPort c f).legLock = s.legLock := rfl
@[simp] theorem State.modPort_bkLock (c : Source) (f) : (s.modPort c f).bkLock = s.bkLock := rfl
@[simp] theorem State.modPort_stCount (c : Source) (f) : (s.modPort c f).stCount = s.stCount := rfl
@[simp] theorem State.modPort_stk (c : Source) (f) : (s.modPort c f).stk = s.stk := rfl
@[simp] theorem State.modPort_fb (c : Source) (f) : (s.modPort c f).fb = s.fb := rfl
@[simp] theorem State.modPort_obs (c : Source) (f) : (s.modPort c f).obs = s.obs := rfl
@[simp] theorem State.modPort_sarA (c : Source) (f) : (s.modPort c f).sarA = s.sarA := rfl
@[simp] theorem State.modPort_sarB (c : Source) (f) : (s.modPort c f).sarB = s.sarB := rfl
@[simp] theorem State.modPort_sref (c : Source) (f) : (s.modPort c f).sref = s.sref := rfl
@[simp] theorem State.modPort_motion (c : Source) (f) : (s.modPort c f).motion = s.motion := rfl
@[simp] theorem State.modPort_torsion (c : Source) (f) : (s.modPort c f).torsion = s.torsion := rfl
@[simp] theorem State.modPort_col (c : Source) (f) : (s.modPort c f).col = s.col := rfl
@[simp] theorem State.modPort_aux (c : Source) (f) : (s.modPort c f).aux = s.aux := rfl
@[simp] theorem State.modPort_safety (c : Source) (f) : (s.modPort c f).safety = s.safety := rfl
@[simp] theorem State.modPort_faults (c : Source) (f) : (s.modPort c f).faults = s.faults := rfl
@[simp] theorem State.modPort_integ (c : Source) (f) : (s.modPort c f).integ = s.integ := rfl
@[simp] theorem State.modPort_app (c : Source) (f) : (s.modPort c f).app = s.app := rfl
@[simp] theorem State.modPort_dma (c : Source) (f) : (s.modPort c f).dma = s.dma := rfl
@[simp] theorem State.modPort_recorder (c : Source) (f) : (s.modPort c f).recorder = s.recorder := rfl
@[simp] theorem State.modPort_mem (c : Source) (f) : (s.modPort c f).mem = s.mem := rfl
@[simp] theorem State.modPort_pair (c : Source) (f) : (s.modPort c f).pair = s.pair := rfl
@[simp] theorem State.modPort_alcia (c : Source) (f) : (s.modPort c f).alcia = s.alcia := rfl
@[simp] theorem State.modPort_upd (c : Source) (f) : (s.modPort c f).upd = s.upd := rfl
@[simp] theorem State.modPort_thermal (c : Source) (f) : (s.modPort c f).thermal = s.thermal := rfl
@[simp] theorem State.modPort_fresh (c : Source) (f) : (s.modPort c f).fresh = s.fresh := rfl
@[simp] theorem State.modPort_pending (c : Source) (f) : (s.modPort c f).pending = s.pending := rfl

@[simp] theorem State.modStack_dev (k : Nat) (f) : (s.modStack k f).dev = s.dev := rfl
@[simp] theorem State.modStack_time (k : Nat) (f) : (s.modStack k f).time = s.time := rfl
@[simp] theorem State.modStack_stamp (k : Nat) (f) : (s.modStack k f).stamp = s.stamp := rfl
@[simp] theorem State.modStack_ports (k : Nat) (f) : (s.modStack k f).ports = s.ports := rfl
@[simp] theorem State.modStack_owner (k : Nat) (f) : (s.modStack k f).owner = s.owner := rfl
@[simp] theorem State.modStack_counters (k : Nat) (f) : (s.modStack k f).counters = s.counters := rfl
@[simp] theorem State.modStack_power (k : Nat) (f) : (s.modStack k f).power = s.power := rfl
@[simp] theorem State.modStack_watch (k : Nat) (f) : (s.modStack k f).watch = s.watch := rfl
@[simp] theorem State.modStack_pins (k : Nat) (f) : (s.modStack k f).pins = s.pins := rfl
@[simp] theorem State.modStack_blocks (k : Nat) (f) : (s.modStack k f).blocks = s.blocks := rfl
@[simp] theorem State.modStack_sealedCfg (k : Nat) (f) : (s.modStack k f).sealedCfg = s.sealedCfg := rfl
@[simp] theorem State.modStack_gates (k : Nat) (f) : (s.modStack k f).gates = s.gates := rfl
@[simp] theorem State.modStack_legLock (k : Nat) (f) : (s.modStack k f).legLock = s.legLock := rfl
@[simp] theorem State.modStack_bkLock (k : Nat) (f) : (s.modStack k f).bkLock = s.bkLock := rfl
@[simp] theorem State.modStack_stCount (k : Nat) (f) : (s.modStack k f).stCount = s.stCount := rfl
@[simp] theorem State.modStack_fb (k : Nat) (f) : (s.modStack k f).fb = s.fb := rfl
@[simp] theorem State.modStack_obs (k : Nat) (f) : (s.modStack k f).obs = s.obs := rfl
@[simp] theorem State.modStack_sarA (k : Nat) (f) : (s.modStack k f).sarA = s.sarA := rfl
@[simp] theorem State.modStack_sarB (k : Nat) (f) : (s.modStack k f).sarB = s.sarB := rfl
@[simp] theorem State.modStack_sref (k : Nat) (f) : (s.modStack k f).sref = s.sref := rfl
@[simp] theorem State.modStack_motion (k : Nat) (f) : (s.modStack k f).motion = s.motion := rfl
@[simp] theorem State.modStack_torsion (k : Nat) (f) : (s.modStack k f).torsion = s.torsion := rfl
@[simp] theorem State.modStack_col (k : Nat) (f) : (s.modStack k f).col = s.col := rfl
@[simp] theorem State.modStack_aux (k : Nat) (f) : (s.modStack k f).aux = s.aux := rfl
@[simp] theorem State.modStack_safety (k : Nat) (f) : (s.modStack k f).safety = s.safety := rfl
@[simp] theorem State.modStack_faults (k : Nat) (f) : (s.modStack k f).faults = s.faults := rfl
@[simp] theorem State.modStack_integ (k : Nat) (f) : (s.modStack k f).integ = s.integ := rfl
@[simp] theorem State.modStack_app (k : Nat) (f) : (s.modStack k f).app = s.app := rfl
@[simp] theorem State.modStack_dma (k : Nat) (f) : (s.modStack k f).dma = s.dma := rfl
@[simp] theorem State.modStack_recorder (k : Nat) (f) : (s.modStack k f).recorder = s.recorder := rfl
@[simp] theorem State.modStack_mem (k : Nat) (f) : (s.modStack k f).mem = s.mem := rfl
@[simp] theorem State.modStack_pair (k : Nat) (f) : (s.modStack k f).pair = s.pair := rfl
@[simp] theorem State.modStack_alcia (k : Nat) (f) : (s.modStack k f).alcia = s.alcia := rfl
@[simp] theorem State.modStack_upd (k : Nat) (f) : (s.modStack k f).upd = s.upd := rfl
@[simp] theorem State.modStack_thermal (k : Nat) (f) : (s.modStack k f).thermal = s.thermal := rfl
@[simp] theorem State.modStack_fresh (k : Nat) (f) : (s.modStack k f).fresh = s.fresh := rfl
@[simp] theorem State.modStack_pending (k : Nat) (f) : (s.modStack k f).pending = s.pending := rfl

@[simp] theorem State.modFb_dev (n : Nat) (f) : (s.modFb n f).dev = s.dev := rfl
@[simp] theorem State.modFb_time (n : Nat) (f) : (s.modFb n f).time = s.time := rfl
@[simp] theorem State.modFb_stamp (n : Nat) (f) : (s.modFb n f).stamp = s.stamp := rfl
@[simp] theorem State.modFb_ports (n : Nat) (f) : (s.modFb n f).ports = s.ports := rfl
@[simp] theorem State.modFb_owner (n : Nat) (f) : (s.modFb n f).owner = s.owner := rfl
@[simp] theorem State.modFb_counters (n : Nat) (f) : (s.modFb n f).counters = s.counters := rfl
@[simp] theorem State.modFb_power (n : Nat) (f) : (s.modFb n f).power = s.power := rfl
@[simp] theorem State.modFb_watch (n : Nat) (f) : (s.modFb n f).watch = s.watch := rfl
@[simp] theorem State.modFb_pins (n : Nat) (f) : (s.modFb n f).pins = s.pins := rfl
@[simp] theorem State.modFb_blocks (n : Nat) (f) : (s.modFb n f).blocks = s.blocks := rfl
@[simp] theorem State.modFb_sealedCfg (n : Nat) (f) : (s.modFb n f).sealedCfg = s.sealedCfg := rfl
@[simp] theorem State.modFb_gates (n : Nat) (f) : (s.modFb n f).gates = s.gates := rfl
@[simp] theorem State.modFb_legLock (n : Nat) (f) : (s.modFb n f).legLock = s.legLock := rfl
@[simp] theorem State.modFb_bkLock (n : Nat) (f) : (s.modFb n f).bkLock = s.bkLock := rfl
@[simp] theorem State.modFb_stCount (n : Nat) (f) : (s.modFb n f).stCount = s.stCount := rfl
@[simp] theorem State.modFb_stk (n : Nat) (f) : (s.modFb n f).stk = s.stk := rfl
@[simp] theorem State.modFb_obs (n : Nat) (f) : (s.modFb n f).obs = s.obs := rfl
@[simp] theorem State.modFb_sarA (n : Nat) (f) : (s.modFb n f).sarA = s.sarA := rfl
@[simp] theorem State.modFb_sarB (n : Nat) (f) : (s.modFb n f).sarB = s.sarB := rfl
@[simp] theorem State.modFb_sref (n : Nat) (f) : (s.modFb n f).sref = s.sref := rfl
@[simp] theorem State.modFb_motion (n : Nat) (f) : (s.modFb n f).motion = s.motion := rfl
@[simp] theorem State.modFb_torsion (n : Nat) (f) : (s.modFb n f).torsion = s.torsion := rfl
@[simp] theorem State.modFb_col (n : Nat) (f) : (s.modFb n f).col = s.col := rfl
@[simp] theorem State.modFb_aux (n : Nat) (f) : (s.modFb n f).aux = s.aux := rfl
@[simp] theorem State.modFb_safety (n : Nat) (f) : (s.modFb n f).safety = s.safety := rfl
@[simp] theorem State.modFb_faults (n : Nat) (f) : (s.modFb n f).faults = s.faults := rfl
@[simp] theorem State.modFb_integ (n : Nat) (f) : (s.modFb n f).integ = s.integ := rfl
@[simp] theorem State.modFb_app (n : Nat) (f) : (s.modFb n f).app = s.app := rfl
@[simp] theorem State.modFb_dma (n : Nat) (f) : (s.modFb n f).dma = s.dma := rfl
@[simp] theorem State.modFb_recorder (n : Nat) (f) : (s.modFb n f).recorder = s.recorder := rfl
@[simp] theorem State.modFb_mem (n : Nat) (f) : (s.modFb n f).mem = s.mem := rfl
@[simp] theorem State.modFb_pair (n : Nat) (f) : (s.modFb n f).pair = s.pair := rfl
@[simp] theorem State.modFb_alcia (n : Nat) (f) : (s.modFb n f).alcia = s.alcia := rfl
@[simp] theorem State.modFb_upd (n : Nat) (f) : (s.modFb n f).upd = s.upd := rfl
@[simp] theorem State.modFb_thermal (n : Nat) (f) : (s.modFb n f).thermal = s.thermal := rfl
@[simp] theorem State.modFb_fresh (n : Nat) (f) : (s.modFb n f).fresh = s.fresh := rfl
@[simp] theorem State.modFb_pending (n : Nat) (f) : (s.modFb n f).pending = s.pending := rfl

@[simp] theorem State.modObs_dev (m : Nat) (f) : (s.modObs m f).dev = s.dev := rfl
@[simp] theorem State.modObs_time (m : Nat) (f) : (s.modObs m f).time = s.time := rfl
@[simp] theorem State.modObs_stamp (m : Nat) (f) : (s.modObs m f).stamp = s.stamp := rfl
@[simp] theorem State.modObs_ports (m : Nat) (f) : (s.modObs m f).ports = s.ports := rfl
@[simp] theorem State.modObs_owner (m : Nat) (f) : (s.modObs m f).owner = s.owner := rfl
@[simp] theorem State.modObs_counters (m : Nat) (f) : (s.modObs m f).counters = s.counters := rfl
@[simp] theorem State.modObs_power (m : Nat) (f) : (s.modObs m f).power = s.power := rfl
@[simp] theorem State.modObs_watch (m : Nat) (f) : (s.modObs m f).watch = s.watch := rfl
@[simp] theorem State.modObs_pins (m : Nat) (f) : (s.modObs m f).pins = s.pins := rfl
@[simp] theorem State.modObs_blocks (m : Nat) (f) : (s.modObs m f).blocks = s.blocks := rfl
@[simp] theorem State.modObs_sealedCfg (m : Nat) (f) : (s.modObs m f).sealedCfg = s.sealedCfg := rfl
@[simp] theorem State.modObs_gates (m : Nat) (f) : (s.modObs m f).gates = s.gates := rfl
@[simp] theorem State.modObs_legLock (m : Nat) (f) : (s.modObs m f).legLock = s.legLock := rfl
@[simp] theorem State.modObs_bkLock (m : Nat) (f) : (s.modObs m f).bkLock = s.bkLock := rfl
@[simp] theorem State.modObs_stCount (m : Nat) (f) : (s.modObs m f).stCount = s.stCount := rfl
@[simp] theorem State.modObs_stk (m : Nat) (f) : (s.modObs m f).stk = s.stk := rfl
@[simp] theorem State.modObs_fb (m : Nat) (f) : (s.modObs m f).fb = s.fb := rfl
@[simp] theorem State.modObs_sarA (m : Nat) (f) : (s.modObs m f).sarA = s.sarA := rfl
@[simp] theorem State.modObs_sarB (m : Nat) (f) : (s.modObs m f).sarB = s.sarB := rfl
@[simp] theorem State.modObs_sref (m : Nat) (f) : (s.modObs m f).sref = s.sref := rfl
@[simp] theorem State.modObs_motion (m : Nat) (f) : (s.modObs m f).motion = s.motion := rfl
@[simp] theorem State.modObs_torsion (m : Nat) (f) : (s.modObs m f).torsion = s.torsion := rfl
@[simp] theorem State.modObs_col (m : Nat) (f) : (s.modObs m f).col = s.col := rfl
@[simp] theorem State.modObs_aux (m : Nat) (f) : (s.modObs m f).aux = s.aux := rfl
@[simp] theorem State.modObs_safety (m : Nat) (f) : (s.modObs m f).safety = s.safety := rfl
@[simp] theorem State.modObs_faults (m : Nat) (f) : (s.modObs m f).faults = s.faults := rfl
@[simp] theorem State.modObs_integ (m : Nat) (f) : (s.modObs m f).integ = s.integ := rfl
@[simp] theorem State.modObs_app (m : Nat) (f) : (s.modObs m f).app = s.app := rfl
@[simp] theorem State.modObs_dma (m : Nat) (f) : (s.modObs m f).dma = s.dma := rfl
@[simp] theorem State.modObs_recorder (m : Nat) (f) : (s.modObs m f).recorder = s.recorder := rfl
@[simp] theorem State.modObs_mem (m : Nat) (f) : (s.modObs m f).mem = s.mem := rfl
@[simp] theorem State.modObs_pair (m : Nat) (f) : (s.modObs m f).pair = s.pair := rfl
@[simp] theorem State.modObs_alcia (m : Nat) (f) : (s.modObs m f).alcia = s.alcia := rfl
@[simp] theorem State.modObs_upd (m : Nat) (f) : (s.modObs m f).upd = s.upd := rfl
@[simp] theorem State.modObs_thermal (m : Nat) (f) : (s.modObs m f).thermal = s.thermal := rfl
@[simp] theorem State.modObs_fresh (m : Nat) (f) : (s.modObs m f).fresh = s.fresh := rfl
@[simp] theorem State.modObs_pending (m : Nat) (f) : (s.modObs m f).pending = s.pending := rfl

@[simp] theorem State.modGate_dev (ch : Nat) (f) : (s.modGate ch f).dev = s.dev := rfl
@[simp] theorem State.modGate_time (ch : Nat) (f) : (s.modGate ch f).time = s.time := rfl
@[simp] theorem State.modGate_stamp (ch : Nat) (f) : (s.modGate ch f).stamp = s.stamp := rfl
@[simp] theorem State.modGate_ports (ch : Nat) (f) : (s.modGate ch f).ports = s.ports := rfl
@[simp] theorem State.modGate_owner (ch : Nat) (f) : (s.modGate ch f).owner = s.owner := rfl
@[simp] theorem State.modGate_counters (ch : Nat) (f) : (s.modGate ch f).counters = s.counters := rfl
@[simp] theorem State.modGate_power (ch : Nat) (f) : (s.modGate ch f).power = s.power := rfl
@[simp] theorem State.modGate_watch (ch : Nat) (f) : (s.modGate ch f).watch = s.watch := rfl
@[simp] theorem State.modGate_pins (ch : Nat) (f) : (s.modGate ch f).pins = s.pins := rfl
@[simp] theorem State.modGate_blocks (ch : Nat) (f) : (s.modGate ch f).blocks = s.blocks := rfl
@[simp] theorem State.modGate_sealedCfg (ch : Nat) (f) : (s.modGate ch f).sealedCfg = s.sealedCfg := rfl
@[simp] theorem State.modGate_legLock (ch : Nat) (f) : (s.modGate ch f).legLock = s.legLock := rfl
@[simp] theorem State.modGate_bkLock (ch : Nat) (f) : (s.modGate ch f).bkLock = s.bkLock := rfl
@[simp] theorem State.modGate_stCount (ch : Nat) (f) : (s.modGate ch f).stCount = s.stCount := rfl
@[simp] theorem State.modGate_stk (ch : Nat) (f) : (s.modGate ch f).stk = s.stk := rfl
@[simp] theorem State.modGate_fb (ch : Nat) (f) : (s.modGate ch f).fb = s.fb := rfl
@[simp] theorem State.modGate_obs (ch : Nat) (f) : (s.modGate ch f).obs = s.obs := rfl
@[simp] theorem State.modGate_sarA (ch : Nat) (f) : (s.modGate ch f).sarA = s.sarA := rfl
@[simp] theorem State.modGate_sarB (ch : Nat) (f) : (s.modGate ch f).sarB = s.sarB := rfl
@[simp] theorem State.modGate_sref (ch : Nat) (f) : (s.modGate ch f).sref = s.sref := rfl
@[simp] theorem State.modGate_motion (ch : Nat) (f) : (s.modGate ch f).motion = s.motion := rfl
@[simp] theorem State.modGate_torsion (ch : Nat) (f) : (s.modGate ch f).torsion = s.torsion := rfl
@[simp] theorem State.modGate_col (ch : Nat) (f) : (s.modGate ch f).col = s.col := rfl
@[simp] theorem State.modGate_aux (ch : Nat) (f) : (s.modGate ch f).aux = s.aux := rfl
@[simp] theorem State.modGate_safety (ch : Nat) (f) : (s.modGate ch f).safety = s.safety := rfl
@[simp] theorem State.modGate_faults (ch : Nat) (f) : (s.modGate ch f).faults = s.faults := rfl
@[simp] theorem State.modGate_integ (ch : Nat) (f) : (s.modGate ch f).integ = s.integ := rfl
@[simp] theorem State.modGate_app (ch : Nat) (f) : (s.modGate ch f).app = s.app := rfl
@[simp] theorem State.modGate_dma (ch : Nat) (f) : (s.modGate ch f).dma = s.dma := rfl
@[simp] theorem State.modGate_recorder (ch : Nat) (f) : (s.modGate ch f).recorder = s.recorder := rfl
@[simp] theorem State.modGate_mem (ch : Nat) (f) : (s.modGate ch f).mem = s.mem := rfl
@[simp] theorem State.modGate_pair (ch : Nat) (f) : (s.modGate ch f).pair = s.pair := rfl
@[simp] theorem State.modGate_alcia (ch : Nat) (f) : (s.modGate ch f).alcia = s.alcia := rfl
@[simp] theorem State.modGate_upd (ch : Nat) (f) : (s.modGate ch f).upd = s.upd := rfl
@[simp] theorem State.modGate_thermal (ch : Nat) (f) : (s.modGate ch f).thermal = s.thermal := rfl
@[simp] theorem State.modGate_fresh (ch : Nat) (f) : (s.modGate ch f).fresh = s.fresh := rfl
@[simp] theorem State.modGate_pending (ch : Nat) (f) : (s.modGate ch f).pending = s.pending := rfl

@[simp] theorem State.modAxis_dev (n : Nat) (f) : (s.modAxis n f).dev = s.dev := rfl
@[simp] theorem State.modAxis_time (n : Nat) (f) : (s.modAxis n f).time = s.time := rfl
@[simp] theorem State.modAxis_stamp (n : Nat) (f) : (s.modAxis n f).stamp = s.stamp := rfl
@[simp] theorem State.modAxis_ports (n : Nat) (f) : (s.modAxis n f).ports = s.ports := rfl
@[simp] theorem State.modAxis_owner (n : Nat) (f) : (s.modAxis n f).owner = s.owner := rfl
@[simp] theorem State.modAxis_counters (n : Nat) (f) : (s.modAxis n f).counters = s.counters := rfl
@[simp] theorem State.modAxis_power (n : Nat) (f) : (s.modAxis n f).power = s.power := rfl
@[simp] theorem State.modAxis_watch (n : Nat) (f) : (s.modAxis n f).watch = s.watch := rfl
@[simp] theorem State.modAxis_pins (n : Nat) (f) : (s.modAxis n f).pins = s.pins := rfl
@[simp] theorem State.modAxis_blocks (n : Nat) (f) : (s.modAxis n f).blocks = s.blocks := rfl
@[simp] theorem State.modAxis_sealedCfg (n : Nat) (f) : (s.modAxis n f).sealedCfg = s.sealedCfg := rfl
@[simp] theorem State.modAxis_gates (n : Nat) (f) : (s.modAxis n f).gates = s.gates := rfl
@[simp] theorem State.modAxis_legLock (n : Nat) (f) : (s.modAxis n f).legLock = s.legLock := rfl
@[simp] theorem State.modAxis_bkLock (n : Nat) (f) : (s.modAxis n f).bkLock = s.bkLock := rfl
@[simp] theorem State.modAxis_stCount (n : Nat) (f) : (s.modAxis n f).stCount = s.stCount := rfl
@[simp] theorem State.modAxis_stk (n : Nat) (f) : (s.modAxis n f).stk = s.stk := rfl
@[simp] theorem State.modAxis_fb (n : Nat) (f) : (s.modAxis n f).fb = s.fb := rfl
@[simp] theorem State.modAxis_obs (n : Nat) (f) : (s.modAxis n f).obs = s.obs := rfl
@[simp] theorem State.modAxis_sarA (n : Nat) (f) : (s.modAxis n f).sarA = s.sarA := rfl
@[simp] theorem State.modAxis_sarB (n : Nat) (f) : (s.modAxis n f).sarB = s.sarB := rfl
@[simp] theorem State.modAxis_sref (n : Nat) (f) : (s.modAxis n f).sref = s.sref := rfl
@[simp] theorem State.modAxis_motion (n : Nat) (f) : (s.modAxis n f).motion = s.motion := rfl
@[simp] theorem State.modAxis_torsion (n : Nat) (f) : (s.modAxis n f).torsion = s.torsion := rfl
@[simp] theorem State.modAxis_col (n : Nat) (f) : (s.modAxis n f).col = s.col := rfl
@[simp] theorem State.modAxis_safety (n : Nat) (f) : (s.modAxis n f).safety = s.safety := rfl
@[simp] theorem State.modAxis_faults (n : Nat) (f) : (s.modAxis n f).faults = s.faults := rfl
@[simp] theorem State.modAxis_integ (n : Nat) (f) : (s.modAxis n f).integ = s.integ := rfl
@[simp] theorem State.modAxis_app (n : Nat) (f) : (s.modAxis n f).app = s.app := rfl
@[simp] theorem State.modAxis_dma (n : Nat) (f) : (s.modAxis n f).dma = s.dma := rfl
@[simp] theorem State.modAxis_recorder (n : Nat) (f) : (s.modAxis n f).recorder = s.recorder := rfl
@[simp] theorem State.modAxis_mem (n : Nat) (f) : (s.modAxis n f).mem = s.mem := rfl
@[simp] theorem State.modAxis_pair (n : Nat) (f) : (s.modAxis n f).pair = s.pair := rfl
@[simp] theorem State.modAxis_alcia (n : Nat) (f) : (s.modAxis n f).alcia = s.alcia := rfl
@[simp] theorem State.modAxis_upd (n : Nat) (f) : (s.modAxis n f).upd = s.upd := rfl
@[simp] theorem State.modAxis_thermal (n : Nat) (f) : (s.modAxis n f).thermal = s.thermal := rfl
@[simp] theorem State.modAxis_fresh (n : Nat) (f) : (s.modAxis n f).fresh = s.fresh := rfl
@[simp] theorem State.modAxis_pending (n : Nat) (f) : (s.modAxis n f).pending = s.pending := rfl

@[simp] theorem State.modAl_dev (p : Nat) (f) : (s.modAl p f).dev = s.dev := rfl
@[simp] theorem State.modAl_time (p : Nat) (f) : (s.modAl p f).time = s.time := rfl
@[simp] theorem State.modAl_stamp (p : Nat) (f) : (s.modAl p f).stamp = s.stamp := rfl
@[simp] theorem State.modAl_ports (p : Nat) (f) : (s.modAl p f).ports = s.ports := rfl
@[simp] theorem State.modAl_owner (p : Nat) (f) : (s.modAl p f).owner = s.owner := rfl
@[simp] theorem State.modAl_counters (p : Nat) (f) : (s.modAl p f).counters = s.counters := rfl
@[simp] theorem State.modAl_power (p : Nat) (f) : (s.modAl p f).power = s.power := rfl
@[simp] theorem State.modAl_watch (p : Nat) (f) : (s.modAl p f).watch = s.watch := rfl
@[simp] theorem State.modAl_pins (p : Nat) (f) : (s.modAl p f).pins = s.pins := rfl
@[simp] theorem State.modAl_blocks (p : Nat) (f) : (s.modAl p f).blocks = s.blocks := rfl
@[simp] theorem State.modAl_sealedCfg (p : Nat) (f) : (s.modAl p f).sealedCfg = s.sealedCfg := rfl
@[simp] theorem State.modAl_gates (p : Nat) (f) : (s.modAl p f).gates = s.gates := rfl
@[simp] theorem State.modAl_legLock (p : Nat) (f) : (s.modAl p f).legLock = s.legLock := rfl
@[simp] theorem State.modAl_bkLock (p : Nat) (f) : (s.modAl p f).bkLock = s.bkLock := rfl
@[simp] theorem State.modAl_stCount (p : Nat) (f) : (s.modAl p f).stCount = s.stCount := rfl
@[simp] theorem State.modAl_stk (p : Nat) (f) : (s.modAl p f).stk = s.stk := rfl
@[simp] theorem State.modAl_fb (p : Nat) (f) : (s.modAl p f).fb = s.fb := rfl
@[simp] theorem State.modAl_obs (p : Nat) (f) : (s.modAl p f).obs = s.obs := rfl
@[simp] theorem State.modAl_sarA (p : Nat) (f) : (s.modAl p f).sarA = s.sarA := rfl
@[simp] theorem State.modAl_sarB (p : Nat) (f) : (s.modAl p f).sarB = s.sarB := rfl
@[simp] theorem State.modAl_sref (p : Nat) (f) : (s.modAl p f).sref = s.sref := rfl
@[simp] theorem State.modAl_motion (p : Nat) (f) : (s.modAl p f).motion = s.motion := rfl
@[simp] theorem State.modAl_torsion (p : Nat) (f) : (s.modAl p f).torsion = s.torsion := rfl
@[simp] theorem State.modAl_col (p : Nat) (f) : (s.modAl p f).col = s.col := rfl
@[simp] theorem State.modAl_aux (p : Nat) (f) : (s.modAl p f).aux = s.aux := rfl
@[simp] theorem State.modAl_safety (p : Nat) (f) : (s.modAl p f).safety = s.safety := rfl
@[simp] theorem State.modAl_faults (p : Nat) (f) : (s.modAl p f).faults = s.faults := rfl
@[simp] theorem State.modAl_integ (p : Nat) (f) : (s.modAl p f).integ = s.integ := rfl
@[simp] theorem State.modAl_app (p : Nat) (f) : (s.modAl p f).app = s.app := rfl
@[simp] theorem State.modAl_dma (p : Nat) (f) : (s.modAl p f).dma = s.dma := rfl
@[simp] theorem State.modAl_recorder (p : Nat) (f) : (s.modAl p f).recorder = s.recorder := rfl
@[simp] theorem State.modAl_mem (p : Nat) (f) : (s.modAl p f).mem = s.mem := rfl
@[simp] theorem State.modAl_pair (p : Nat) (f) : (s.modAl p f).pair = s.pair := rfl
@[simp] theorem State.modAl_upd (p : Nat) (f) : (s.modAl p f).upd = s.upd := rfl
@[simp] theorem State.modAl_thermal (p : Nat) (f) : (s.modAl p f).thermal = s.thermal := rfl
@[simp] theorem State.modAl_fresh (p : Nat) (f) : (s.modAl p f).fresh = s.fresh := rfl
@[simp] theorem State.modAl_pending (p : Nat) (f) : (s.modAl p f).pending = s.pending := rfl

@[simp] theorem State.modCh_dev (n : Nat) (f) : (s.modCh n f).dev = s.dev := rfl
@[simp] theorem State.modCh_time (n : Nat) (f) : (s.modCh n f).time = s.time := rfl
@[simp] theorem State.modCh_stamp (n : Nat) (f) : (s.modCh n f).stamp = s.stamp := rfl
@[simp] theorem State.modCh_ports (n : Nat) (f) : (s.modCh n f).ports = s.ports := rfl
@[simp] theorem State.modCh_owner (n : Nat) (f) : (s.modCh n f).owner = s.owner := rfl
@[simp] theorem State.modCh_counters (n : Nat) (f) : (s.modCh n f).counters = s.counters := rfl
@[simp] theorem State.modCh_power (n : Nat) (f) : (s.modCh n f).power = s.power := rfl
@[simp] theorem State.modCh_watch (n : Nat) (f) : (s.modCh n f).watch = s.watch := rfl
@[simp] theorem State.modCh_pins (n : Nat) (f) : (s.modCh n f).pins = s.pins := rfl
@[simp] theorem State.modCh_blocks (n : Nat) (f) : (s.modCh n f).blocks = s.blocks := rfl
@[simp] theorem State.modCh_sealedCfg (n : Nat) (f) : (s.modCh n f).sealedCfg = s.sealedCfg := rfl
@[simp] theorem State.modCh_gates (n : Nat) (f) : (s.modCh n f).gates = s.gates := rfl
@[simp] theorem State.modCh_legLock (n : Nat) (f) : (s.modCh n f).legLock = s.legLock := rfl
@[simp] theorem State.modCh_bkLock (n : Nat) (f) : (s.modCh n f).bkLock = s.bkLock := rfl
@[simp] theorem State.modCh_stCount (n : Nat) (f) : (s.modCh n f).stCount = s.stCount := rfl
@[simp] theorem State.modCh_stk (n : Nat) (f) : (s.modCh n f).stk = s.stk := rfl
@[simp] theorem State.modCh_fb (n : Nat) (f) : (s.modCh n f).fb = s.fb := rfl
@[simp] theorem State.modCh_obs (n : Nat) (f) : (s.modCh n f).obs = s.obs := rfl
@[simp] theorem State.modCh_sarA (n : Nat) (f) : (s.modCh n f).sarA = s.sarA := rfl
@[simp] theorem State.modCh_sarB (n : Nat) (f) : (s.modCh n f).sarB = s.sarB := rfl
@[simp] theorem State.modCh_sref (n : Nat) (f) : (s.modCh n f).sref = s.sref := rfl
@[simp] theorem State.modCh_motion (n : Nat) (f) : (s.modCh n f).motion = s.motion := rfl
@[simp] theorem State.modCh_torsion (n : Nat) (f) : (s.modCh n f).torsion = s.torsion := rfl
@[simp] theorem State.modCh_col (n : Nat) (f) : (s.modCh n f).col = s.col := rfl
@[simp] theorem State.modCh_aux (n : Nat) (f) : (s.modCh n f).aux = s.aux := rfl
@[simp] theorem State.modCh_safety (n : Nat) (f) : (s.modCh n f).safety = s.safety := rfl
@[simp] theorem State.modCh_faults (n : Nat) (f) : (s.modCh n f).faults = s.faults := rfl
@[simp] theorem State.modCh_integ (n : Nat) (f) : (s.modCh n f).integ = s.integ := rfl
@[simp] theorem State.modCh_app (n : Nat) (f) : (s.modCh n f).app = s.app := rfl
@[simp] theorem State.modCh_recorder (n : Nat) (f) : (s.modCh n f).recorder = s.recorder := rfl
@[simp] theorem State.modCh_mem (n : Nat) (f) : (s.modCh n f).mem = s.mem := rfl
@[simp] theorem State.modCh_pair (n : Nat) (f) : (s.modCh n f).pair = s.pair := rfl
@[simp] theorem State.modCh_alcia (n : Nat) (f) : (s.modCh n f).alcia = s.alcia := rfl
@[simp] theorem State.modCh_upd (n : Nat) (f) : (s.modCh n f).upd = s.upd := rfl
@[simp] theorem State.modCh_thermal (n : Nat) (f) : (s.modCh n f).thermal = s.thermal := rfl
@[simp] theorem State.modCh_fresh (n : Nat) (f) : (s.modCh n f).fresh = s.fresh := rfl
@[simp] theorem State.modCh_pending (n : Nat) (f) : (s.modCh n f).pending = s.pending := rfl

end Sys2Proof.Machine
end

