-- ==== Sys2Proof/Laws/Ops.lean ====
section
/-! SUPPORT. What the named operations do: reading an element of a changed vector, memory in its canonical form, reads after
writes, device time and free values. -/
namespace Sys2Proof.Machine

/-! ### Vectors -/

theorem vget_vmod {α : Type} {n : Nat} (v : Vector α n) (i j : Nat) (f : α → α) (d : α) :
    vget (vmod v i f) j d = if i = j ∧ i < n then f (vget v i d) else vget v j d := by
  unfold vmod
  by_cases hi : i < n
  · by_cases h : i = j
    · subst h; simp [vget, hi]
    · by_cases hj : j < n <;> simp [vget, hi, hj, h]
  · simp [hi]

@[simp] theorem vget_vmod_self {α : Type} {n : Nat} (v : Vector α n) {i : Nat} (h : i < n) (f : α → α) (d : α) :
    vget (vmod v i f) i d = f (vget v i d) := by rw [vget_vmod, if_pos ⟨rfl, h⟩]

theorem portIx_inj {c d : Source} : portIx c = portIx d ↔ c = d := by cases c <;> cases d <;> simp [portIx, sourceId]

theorem portIx_lt (c : Source) : portIx c < 4 := by cases c <;> simp [portIx, sourceId]

/-- A changed port reads changed, the others as before. -/
theorem State.port_modPort (s : State) (c d : Source) (f : Port → Port) :
    (s.modPort c f).port d = if d = c then f (s.port d) else s.port d := by
  simp only [State.port, State.modPort, vget_vmod, portIx_inj, portIx_lt, and_true]
  split <;> rename_i h
  · subst h; simp
  · rw [if_neg (fun e => h e.symm)]

/-- A changed stack reads changed, the others as before. -/
theorem State.stack_modStack (s : State) {k : Nat} (hk : k < 4) (j : Nat) (f : Stack → Stack) :
    (s.modStack k f).stack j = if k = j then f (s.stack j) else s.stack j := by
  simp only [State.stack, State.modStack, vget_vmod, hk, and_true]
  split <;> simp_all

/-- A changed gate channel reads as changed, with a turn-on that is due by now; the others read as before. -/
theorem State.gate_modGate (s : State) {k : Nat} (hk : k < 28) (j : Nat) (f : GateCh → GateCh) :
    (s.modGate k f).gate j = if k = j then (f (s.gate j)).at s.time else s.gate j := by
  simp only [State.gate, State.modGate, vget_vmod, hk, and_true]
  split <;> simp_all

/-- A changed feedback port reads changed, the others as before. -/
theorem State.fbPort_modFb (s : State) {k : Nat} (hk : k < 6) (j : Nat) (f : FbPort → FbPort) :
    (s.modFb k f).fbPort j = if k = j then f (s.fbPort j) else s.fbPort j := by
  simp only [State.fbPort, State.modFb, vget_vmod, hk, and_true]
  split <;> simp_all

/-- A changed observer reads changed, the others as before. -/
theorem State.observer_modObs (s : State) {k : Nat} (hk : k < 4) (j : Nat) (f : Observer → Observer) :
    (s.modObs k f).observer j = if k = j then f (s.observer j) else s.observer j := by
  simp only [State.observer, State.modObs, vget_vmod, hk, and_true]
  split <;> simp_all

/-- A changed axis reads changed, the others as before. -/
theorem State.axis_modAxis (s : State) {k : Nat} (hk : k < 4) (j : Nat) (f : Axis → Axis) :
    (s.modAxis k f).axis j = if k = j then f (s.axis j) else s.axis j := by
  simp only [State.axis, State.modAxis, State.modAux, vget_vmod, hk, and_true]
  split <;> simp_all

/-- A changed Alcia port reads changed, the others as before. -/
theorem State.alPort_modAl (s : State) {k : Nat} (hk : k < 2) (j : Nat) (f : AlPort → AlPort) :
    (s.modAl k f).alPort j = if k = j then f (s.alPort j) else s.alPort j := by
  simp only [State.alPort, State.modAl, State.modAlcia, vget_vmod, hk, and_true]
  split <;> simp_all

/-! ### Memory -/

theorem Memory.wfFrom_mono {lo lo' : Nat} (h : lo' ≤ lo) {m : List Host.Cell} (hm : Memory.wfFrom lo m = true) :
    Memory.wfFrom lo' m = true := by
  cases m with
  | nil => rfl
  | cons c r =>
    obtain ⟨a, v⟩ := c
    simp only [Memory.wfFrom, Bool.and_eq_true, decide_eq_true_eq] at hm ⊢
    exact ⟨⟨h.trans hm.1.1, hm.1.2⟩, hm.2⟩

theorem Memory.wfFrom_write {m : List Host.Cell} {lo x : Nat} {v : Byte} (hx : lo ≤ x) (hm : Memory.wfFrom lo m = true) :
    Memory.wfFrom lo (Memory.write m x v) = true := by
  induction m generalizing lo with
  | nil =>
    unfold Memory.write
    split <;> simp_all [Memory.wfFrom]
  | cons c r ih =>
    obtain ⟨a, w⟩ := c
    simp only [Memory.wfFrom, Bool.and_eq_true, decide_eq_true_eq] at hm
    obtain ⟨⟨h1, h2⟩, h3⟩ := hm
    unfold Memory.write
    split
    · split
      · simp_all [Memory.wfFrom]
      · rename_i hxa hv
        have := Nat.succ_le_of_lt hxa
        simp_all [Memory.wfFrom]
    · split
      · rename_i hxa
        subst hxa
        split
        · exact Memory.wfFrom_mono (by omega) h3
        · simp_all [Memory.wfFrom]
      · simp only [Memory.wfFrom, Bool.and_eq_true, decide_eq_true_eq]
        exact ⟨⟨h1, h2⟩, ih (by omega) h3⟩

/-- A write keeps the canonical form. -/
theorem Memory.wf_write {m : List Host.Cell} (x : Nat) (v : Byte) (h : Memory.wf m = true) :
    Memory.wf (Memory.write m x v) = true := Memory.wfFrom_write (Nat.zero_le x) h

/-- Writing a byte string keeps the canonical form. -/
theorem Memory.wf_writeN {m : List Host.Cell} (x : Nat) (b : Bytes) (h : Memory.wf m = true) :
    Memory.wf (Memory.writeN m x b) = true := by
  induction b generalizing m x with
  | nil => exact h
  | cons v r ih => exact ih (x + 1) (Memory.wf_write x v h)

theorem Memory.read_below {m : List Host.Cell} {lo y : Nat} (h : Memory.wfFrom lo m = true) (hy : y < lo) :
    Memory.read m y = 0 := by
  induction m generalizing lo with
  | nil => rfl
  | cons c r ih =>
    obtain ⟨a, w⟩ := c
    simp only [Memory.wfFrom, Bool.and_eq_true, decide_eq_true_eq] at h
    unfold Memory.read
    rw [if_neg (by omega)]
    exact ih h.2 (by omega)

theorem Memory.read_writeFrom {m : List Host.Cell} {lo : Nat} (x : Nat) (v : Byte) (y : Nat) (h : Memory.wfFrom lo m = true) :
    Memory.read (Memory.write m x v) y = if y = x then v else Memory.read m y := by
  induction m generalizing lo with
  | nil =>
    unfold Memory.write
    by_cases hv : v = 0
    · rw [if_pos hv]; split <;> simp_all [Memory.read]
    · rw [if_neg hv]; rfl
  | cons c r ih =>
    obtain ⟨a, w⟩ := c
    simp only [Memory.wfFrom, Bool.and_eq_true, decide_eq_true_eq] at h
    obtain ⟨⟨h1, h2⟩, h3⟩ := h
    unfold Memory.write
    split
    · rename_i hxa
      by_cases hv : v = 0
      · rw [if_pos hv]
        by_cases hy : y = x
        · have h4 : Memory.wfFrom a ((a, w) :: r) = true := by simp_all [Memory.wfFrom]
          rw [if_pos hy, hy, Memory.read_below h4 hxa, hv]
        · rw [if_neg hy]
      · rw [if_neg hv]; rfl
    · split
      · rename_i hxa
        subst hxa
        by_cases hv : v = 0
        · rw [if_pos hv]
          by_cases hy : y = x
          · rw [if_pos hy, hy, Memory.read_below h3 (by omega), hv]
          · simp [Memory.read, hy]
        · rw [if_neg hv]
          by_cases hy : y = x <;> simp [Memory.read, hy]
      · rename_i hna hne
        simp only [Memory.read]
        by_cases hy : y = a
        · rw [if_pos hy, if_pos hy, if_neg (by omega)]
        · rw [if_neg hy, if_neg hy, ih h3]

/-- What an address reads after a byte was written, in a memory of canonical form: the byte there, the old byte elsewhere. -/
theorem Memory.read_write {m : List Host.Cell} (h : Memory.wf m = true) (x : Nat) (v : Byte) (y : Nat) :
    Memory.read (Memory.write m x v) y = if y = x then v else Memory.read m y := Memory.read_writeFrom x v y h

/-! ### Device time -/

/-- Device time runs to the stamp, or stands where the fast clocks are stopped. -/
theorem State.upTo_time (s : State) (t : Tick) : (s.upTo t).time = if s.clockRuns then max s.time t else s.time := by
  unfold State.upTo; split <;> rfl

/-- The stamp of the row in progress, where the fast clocks run. -/
theorem State.upTo_stamp (s : State) (t : Tick) : (s.upTo t).stamp = if s.clockRuns then t else s.stamp := by
  unfold State.upTo; split <;> rfl

/-- Bringing the state to the same stamp again changes nothing. -/
theorem State.upTo_upTo (s : State) (t : Tick) : (s.upTo t).upTo t = s.upTo t := by
  unfold State.upTo
  split
  · rename_i h
    have h2 : ({ s with time := max s.time t, stamp := t } : State).clockRuns = true := h
    rw [if_pos h2]
    simp
  · rename_i h
    rfl

end Sys2Proof.Machine
end

