-- ==== Sys2Proof/Laws/Held.lean ====
section
/-! SUPPORT. What the operations keep. `State.Held P s`: the state has the property `P`, and `P` speaks only of the queue, the ports' credits, owed
replies and event queues, the counters, the blocks, the staging queue, the open relay and memory (`Prim`). Every operation that touches none of these
otherwise keeps every such property; the others are stated for `Bal`, which is `State.Inv` with the queue, also while the packet of a source is being
carried out. -/
namespace Sys2Proof.Machine

/-- A property that the primitive changes keep: one that depends on a few parts only, and lets the event queues, the counters and the staging queue
change within their bounds. -/
structure Prim (P : State → Prop) : Prop where
  eq : ∀ {s t : State}, P s → t.pending = s.pending → t.ports = s.ports → t.upd.relayOps = s.upd.relayOps → t.counters = s.counters →
    t.blocks = s.blocks → t.faults.staging = s.faults.staging → t.mem = s.mem → P t
  port : ∀ {s : State} {c : Source} {f : Port → Port}, P s → (∀ p, (f p).credits = p.credits ∧ (f p).owed = p.owed) →
    (∀ p, p.queueOk → (f p).queueOk) → P (s.modPort c f)
  counters : ∀ {s : State} {f : Counters → Counters}, P s → (∀ k, k.ok → (f k).ok) → P (s.modCounters f)
  faults : ∀ {s : State} {f : Faults → Faults}, P s → (s.faults.staging.length ≤ 1024 → (f s.faults).staging.length ≤ 1024) → P (s.modFaults f)

/-- The state has the property, which the primitive changes keep. -/
structure State.Held (P : State → Prop) (s : State) : Prop where
  prim : Prim P
  holds : P s

/-- The balance of R98 while the packet of a source is carried out: one of its credits is neither held nor owed, or the command itself has
restored its eight credits. -/
def State.bal (s : State) (fl : Option (Source × Nat)) (c : Source) : Prop :=
  match fl with
  | none => s.creditsBalance c
  | some (d, m) =>
    if c = d then
      ((s.port c).credits = 8 ∧ (s.port c).owed = 0 ∧ c ≠ .service) ∨
      ((s.port c).credits = m ∧ m < 8 ∧ s.inUse c = 7)
    else s.creditsBalance c

/-- The invariant with the queue `q`, while the packet of `fl` is carried out. -/
structure Bal (q : List Instr) (fl : Option (Source × Nat)) (s : State) : Prop where
  pending  : s.pending = q
  credits  : ∀ c, s.bal fl c
  queues   : ∀ c, (s.port c).queueOk
  counters : s.counters.ok
  blocks   : blocksOk s.blocks
  sorted   : s.blocks.Pairwise fun a b => a.1 < b.1
  staging  : s.faults.staging.length ≤ 1024
  memory   : Memory.wf s.mem = true

variable {P : State → Prop} {q : List Instr} {fl : Option (Source × Nat)} {s : State}

theorem Bal.prim : Prim (Bal q fl) where
  eq := fun {s t} h h1 h2 h3 h4 h5 h6 h7 => by
    have hp : ∀ c, t.port c = s.port c := fun c => by unfold State.port; rw [h2]
    refine ⟨h1 ▸ h.pending, fun c => ?_, fun c => ?_, h4 ▸ h.counters, h5 ▸ h.blocks, h5 ▸ h.sorted, h6 ▸ h.staging, h7 ▸ h.memory⟩
    · have := h.credits c
      unfold State.bal State.creditsBalance State.inUse at *
      simp only [hp, h3]; exact this
    · rw [hp]; exact h.queues c
  port := fun {s c f} h hf hq => by
    refine ⟨h.pending, fun d => ?_, fun d => ?_, h.counters, h.blocks, h.sorted, h.staging, h.memory⟩
    · have h1 := h.credits d
      have h2 : ((s.modPort c f).port d).credits = (s.port d).credits ∧ ((s.modPort c f).port d).owed = (s.port d).owed := by
        rw [State.port_modPort]; split
        · exact hf _
        · exact ⟨rfl, rfl⟩
      have h3 : (s.modPort c f).inUse d = s.inUse d := by unfold State.inUse; rw [h2.1, h2.2]; rfl
      unfold State.bal State.creditsBalance at *
      rw [h3, h2.1, h2.2]; exact h1
    · rw [State.port_modPort]; split
      · exact hq _ (h.queues d)
      · exact h.queues d
  counters := fun h hf => ⟨h.pending, h.credits, h.queues, hf _ h.counters, h.blocks, h.sorted, h.staging, h.memory⟩
  faults := fun h hf => ⟨h.pending, h.credits, h.queues, h.counters, h.blocks, h.sorted, hf h.staging, h.memory⟩

theorem Bal.held (h : Bal q fl s) : s.Held (Bal q fl) := ⟨Bal.prim, h⟩

theorem State.Held.inv (h : s.Held (Bal q none)) : s.Inv :=
  have h := h.holds
  ⟨h.credits, h.queues, h.counters, h.blocks, h.sorted, h.staging, h.memory⟩

theorem State.Inv.held (h : s.Inv) : s.Held (Bal s.pending none) :=
  Bal.held ⟨rfl, h.credits, h.queues, h.counters, h.blocks, h.sorted, h.staging, h.memory⟩

/-- The credits of every source. -/
theorem Prim.credits {k : Source → Nat} : Prim fun s => ∀ c, (s.port c).credits = k c where
  eq := fun {s t} h _ h2 _ _ _ _ _ c => by rw [← h c]; unfold State.port; rw [h2]
  port := fun {s c f} h hf _ d => by rw [State.port_modPort, ← h d]; split <;> first | exact (hf _).1 | rfl
  counters := fun h _ => h
  faults := fun h _ => h

/-- The queue of commands. -/
theorem Prim.pending : Prim fun s => s.pending = q where
  eq := fun h h1 _ _ _ _ _ _ => h1.trans h
  port := fun h _ _ => h
  counters := fun h _ => h
  faults := fun h _ => h

/-- The blocks held. -/
theorem Prim.blocks {l : List (Nat × Bytes)} : Prim fun s => s.blocks = l where
  eq := fun h _ _ _ _ h1 _ _ => h1.trans h
  port := fun h _ _ => h
  counters := fun h _ => h
  faults := fun h _ => h

/-- Memory. -/
theorem Prim.mem {m : List Host.Cell} : Prim fun s => s.mem = m where
  eq := fun h _ _ _ _ _ _ h1 => h1.trans h
  port := fun h _ _ => h
  counters := fun h _ => h
  faults := fun h _ => h

/-- The outcome of a command keeps it. -/
def OutHeld (P : State → Prop) : Host.Outcome State Fault Refusal → Prop
  | .next s => s.Held P
  | _ => True

theorem OutHeld.next (h : s.Held P) : OutHeld P (.next s) := h

/-- A state that differs in no part the property speaks of. -/
theorem State.Held.of_eq {t : State} (h : s.Held P) (h1 : t.pending = s.pending) (h2 : t.ports = s.ports)
    (h3 : t.upd.relayOps = s.upd.relayOps) (h4 : t.counters = s.counters) (h5 : t.blocks = s.blocks)
    (h6 : t.faults.staging = s.faults.staging) (h7 : t.mem = s.mem) : t.Held P := ⟨h.prim, h.prim.eq h.holds h1 h2 h3 h4 h5 h6 h7⟩

/-- A state written out with other parts than those the invariant speaks of. -/
theorem State.Held.mk_of (h : s.Held P) {x_dev : DevState} {x_time : Tick} {x_stamp : Tick} {x_owner : Option Source} {x_power : Power}
    {x_watch : Watch} {x_pins : Pins} {x_sealedCfg : Option Sealed} {x_gates : Vector GateCh 28} {x_legLock : Vector Bool 12}
    {x_bkLock : Vector Bool 4} {x_stCount : Nat} {x_stk : Vector Stack 4} {x_fb : Vector FbPort 6} {x_obs : Vector Observer
    4} {x_sarA : Sar} {x_sarB : Sar} {x_sref : Sref} {x_motion : Motion} {x_torsion : Torsion} {x_col : Colonnade} {x_aux :
    Aux} {x_safety : Safety} {x_integ : Integrity} {x_app : AppSt} {x_dma : Dma} {x_recorder : Recorder} {x_pair : Pair}
    {x_alcia : Alcia} {x_thermal : Thermal} {x_fresh : Nat} : (State.mk x_dev x_time x_stamp s.ports x_owner s.counters x_power
    x_watch x_pins s.blocks x_sealedCfg x_gates x_legLock x_bkLock x_stCount x_stk x_fb x_obs x_sarA x_sarB x_sref x_motion
    x_torsion x_col x_aux x_safety s.faults x_integ x_app x_dma x_recorder s.mem x_pair x_alcia s.upd x_thermal x_fresh
    s.pending).Held P := h.of_eq rfl rfl rfl rfl rfl rfl rfl

theorem State.modPower_held (h : s.Held P) {f} : (s.modPower f).Held P := h.of_eq rfl rfl rfl rfl rfl rfl rfl
theorem State.modWatch_held (h : s.Held P) {f} : (s.modWatch f).Held P := h.of_eq rfl rfl rfl rfl rfl rfl rfl
theorem State.modPins_held (h : s.Held P) {f} : (s.modPins f).Held P := h.of_eq rfl rfl rfl rfl rfl rfl rfl
theorem State.modSref_held (h : s.Held P) {f} : (s.modSref f).Held P := h.of_eq rfl rfl rfl rfl rfl rfl rfl
theorem State.modMotion_held (h : s.Held P) {f} : (s.modMotion f).Held P := h.of_eq rfl rfl rfl rfl rfl rfl rfl
theorem State.modTorsion_held (h : s.Held P) {f} : (s.modTorsion f).Held P := h.of_eq rfl rfl rfl rfl rfl rfl rfl
theorem State.modCol_held (h : s.Held P) {f} : (s.modCol f).Held P := h.of_eq rfl rfl rfl rfl rfl rfl rfl
theorem State.modAux_held (h : s.Held P) {f} : (s.modAux f).Held P := h.of_eq rfl rfl rfl rfl rfl rfl rfl
theorem State.modSafety_held (h : s.Held P) {f} : (s.modSafety f).Held P := h.of_eq rfl rfl rfl rfl rfl rfl rfl
theorem State.modInteg_held (h : s.Held P) {f} : (s.modInteg f).Held P := h.of_eq rfl rfl rfl rfl rfl rfl rfl
theorem State.modApp_held (h : s.Held P) {f} : (s.modApp f).Held P := h.of_eq rfl rfl rfl rfl rfl rfl rfl
theorem State.modDma_held (h : s.Held P) {f} : (s.modDma f).Held P := h.of_eq rfl rfl rfl rfl rfl rfl rfl
theorem State.modRecorder_held (h : s.Held P) {f} : (s.modRecorder f).Held P := h.of_eq rfl rfl rfl rfl rfl rfl rfl
theorem State.modPair_held (h : s.Held P) {f} : (s.modPair f).Held P := h.of_eq rfl rfl rfl rfl rfl rfl rfl
theorem State.modAlcia_held (h : s.Held P) {f} : (s.modAlcia f).Held P := h.of_eq rfl rfl rfl rfl rfl rfl rfl
theorem State.modThermal_held (h : s.Held P) {f} : (s.modThermal f).Held P := h.of_eq rfl rfl rfl rfl rfl rfl rfl
theorem State.modStack_held (h : s.Held P) {k f} : (s.modStack k f).Held P := h.of_eq rfl rfl rfl rfl rfl rfl rfl
theorem State.modFb_held (h : s.Held P) {k f} : (s.modFb k f).Held P := h.of_eq rfl rfl rfl rfl rfl rfl rfl
theorem State.modObs_held (h : s.Held P) {k f} : (s.modObs k f).Held P := h.of_eq rfl rfl rfl rfl rfl rfl rfl
theorem State.modGate_held (h : s.Held P) {k f} : (s.modGate k f).Held P := h.of_eq rfl rfl rfl rfl rfl rfl rfl
theorem State.modAxis_held (h : s.Held P) {k f} : (s.modAxis k f).Held P := h.of_eq rfl rfl rfl rfl rfl rfl rfl
theorem State.modAl_held (h : s.Held P) {k f} : (s.modAl k f).Held P := h.of_eq rfl rfl rfl rfl rfl rfl rfl
theorem State.modCh_held (h : s.Held P) {k f} : (s.modCh k f).Held P := h.of_eq rfl rfl rfl rfl rfl rfl rfl

theorem State.modFaults_held (h : s.Held P) {f : Faults → Faults} (hf : s.faults.staging.length ≤ 1024 → (f s.faults).staging.length ≤ 1024) :
    (s.modFaults f).Held P := ⟨h.prim, h.prim.faults h.holds hf⟩

theorem State.modUpd_held (h : s.Held P) {f : Update → Update} (hf : (f s.upd).relayOps = s.upd.relayOps) :
    (s.modUpd f).Held P := h.of_eq rfl rfl hf rfl rfl rfl rfl

theorem State.upTo_held (h : s.Held P) {t} : (s.upTo t).Held P := by
  unfold State.upTo; split
  · exact h.of_eq rfl rfl rfl rfl rfl rfl rfl
  · exact h

theorem State.draw_held (h : s.Held P) : s.draw.2.Held P := h.of_eq rfl rfl rfl rfl rfl rfl rfl

theorem held_foldl {α : Type} {l : List α} {f : State → α → State} (h : s.Held P)
    (hf : ∀ s x, s.Held P → (f s x).Held P) : (l.foldl f s).Held P := by
  induction l generalizing s with
  | nil => exact h
  | cons a l ih => exact ih (hf _ _ h)

theorem held_foldl_snd {α β : Type} {l : List α} {f : β × State → α → β × State} {b : β} (h : s.Held P)
    (hf : ∀ a x, a.2.Held P → (f a x).2.Held P) : (l.foldl f (b, s)).2.Held P := by
  suffices ∀ a : β × State, a.2.Held P → (l.foldl f a).2.Held P from this _ h
  intro a ha
  induction l generalizing a with
  | nil => exact ha
  | cons x l ih => exact ih _ (hf _ _ ha)

/-! ### Ports -/

/-- A port changed in nothing the property speaks of. -/
theorem State.modPort_held (h : s.Held P) {c : Source} {f : Port → Port} (hf : ∀ p, (f p).credits = p.credits ∧ (f p).owed = p.owed)
    (hq : ∀ p, p.queueOk → (f p).queueOk) : (s.modPort c f).Held P := ⟨h.prim, h.prim.port h.holds hf hq⟩

theorem satN_lt (n v : Nat) : satN n v < 2 ^ (8 * n) := by
  unfold satN
  have := Nat.one_le_two_pow (n := 8 * n)
  omega

theorem State.modCounters_held (h : s.Held P) {f : Counters → Counters} (hf : ∀ k, k.ok → (f k).ok) : (s.modCounters f).Held P :=
  ⟨h.prim, h.prim.counters h.holds hf⟩

theorem Port.store_queueOk {p : Port} (h : p.queueOk) (e : EventRec) : (p.store e).queueOk := by
  unfold Port.store
  obtain ⟨h1, h2, h3⟩ := h
  split
  · rename_i hl
    exact ⟨by simp; omega, Nat.mod_lt _ (by decide), h3⟩
  · exact ⟨h1, h2, satN_lt 4 _⟩

theorem Port.store_credits (p : Port) (e : EventRec) : (p.store e).credits = p.credits ∧ (p.store e).owed = p.owed := by
  unfold Port.store; split <;> exact ⟨rfl, rfl⟩

theorem State.storeFor_held (h : s.Held P) {c e} : (s.storeFor c e).Held P := by
  unfold State.storeFor
  have h1 : (s.modPort c (·.store e)).Held P :=
    State.modPort_held h (fun p => p.store_credits e) (fun p hp => Port.store_queueOk hp e)
  dsimp only
  split
  · refine State.modCounters_held h1 fun k hk => ?_
    exact match hk with | ⟨a, b, c, d, e, f, _⟩ => ⟨a, b, c, d, e, f, satN_lt 4 _⟩
  · exact h1

theorem State.storeAll_held (h : s.Held P) {e} : (s.storeAll e).Held P :=
  State.storeFor_held (State.storeFor_held (State.storeFor_held (State.storeFor_held h)))

theorem Port.owed_queue (p : Port) (l : List Reply) : ({ p with replies := p.replies ++ l } : Port).owed = p.owed + l.countP fun r => !r.nc := by
  unfold Port.owed; simp [List.countP_append]

/-- A queued reply with NC = 1 changes no balance. -/
theorem State.queueReply_nc_held (h : s.Held P) {c r} (hr : r.nc = true) : (s.queueReply c r).Held P := by
  unfold State.queueReply
  refine State.modPort_held h (fun p => ⟨rfl, ?_⟩) (fun p hp => hp)
  rw [Port.owed_queue]; simp [hr]

/-- The packet of a source is taken up: its credit is in flight. -/
theorem State.takeCredit_held (h : s.Held (Bal q none)) {c : Source} (hc : (s.port c).credits ≠ 0) :
    (s.takeCredit c).Held (Bal q (some (c, (s.port c).credits - 1))) := by
  unfold State.takeCredit
  replace h := h.holds
  refine Bal.held ⟨h.pending, fun d => ?_, fun d => ?_, h.counters, h.blocks, h.sorted, h.staging, h.memory⟩
  · have h1 := h.credits d
    have h2 := h.credits c
    unfold State.bal
    simp only
    split
    · rename_i hd
      subst hd
      right
      have e1 : ((s.modPort d fun p => { p with credits := p.credits - 1 }).port d).credits = (s.port d).credits - 1 := by
        rw [State.port_modPort, if_pos rfl]
      have e2 : (s.modPort d fun p => { p with credits := p.credits - 1 }).inUse d = s.inUse d - 1 := by
        unfold State.inUse
        rw [State.port_modPort, if_pos rfl]
        show (s.port d).credits - 1 + (s.port d).owed + _ = _
        have : (s.modPort d fun p => { p with credits := p.credits - 1 }).upd = s.upd := rfl
        rw [this]; omega
      have e3 : (s.port d).credits ≤ s.inUse d := by unfold State.inUse; omega
      rw [e1, e2]
      unfold State.bal State.creditsBalance at h1
      exact ⟨rfl, by omega, by omega⟩
    · rename_i hd
      unfold State.bal at h1
      have e : (s.modPort c fun p => { p with credits := p.credits - 1 }).inUse d = s.inUse d := by
        unfold State.inUse; rw [State.port_modPort, if_neg hd]; rfl
      unfold State.creditsBalance at *
      rw [e]; exact h1
  · rw [State.port_modPort]; split <;> exact h.queues d

/-- The reply of the packet in flight is queued: the balance is whole again. -/
theorem State.queueReply_held {c : Source} {m : Nat} (h : s.Held (Bal q (some (c, m)))) {r} (hr : r.nc = false) (h8 : m < 8)
    (hm : (s.port c).credits ≤ m) :
    (s.queueReply c r).Held (Bal q none) := by
  unfold State.queueReply
  replace h := h.holds
  refine Bal.held ⟨h.pending, fun d => ?_, fun d => ?_, h.counters, h.blocks, h.sorted, h.staging, h.memory⟩
  · have h1 := h.credits d
    unfold State.bal at *
    simp only at *
    split at h1
    · rename_i hd
      subst hd
      have e : (s.modPort d fun p => { p with replies := p.replies ++ [{ r with queued := s.time }] }).inUse d = s.inUse d + 1 := by
        unfold State.inUse
        rw [State.port_modPort, if_pos rfl, Port.owed_queue]
        have : (s.modPort d fun p => { p with replies := p.replies ++ [{ r with queued := s.time }] }).upd = s.upd := rfl
        rw [this]; simp [hr]; omega
      unfold State.creditsBalance
      rw [e]
      omega
    · rename_i hd
      have e : (s.modPort c fun p => { p with replies := p.replies ++ [{ r with queued := s.time }] }).inUse d = s.inUse d := by
        unfold State.inUse; rw [State.port_modPort, if_neg hd]; rfl
      unfold State.creditsBalance at *
      rw [e]; exact h1
  · rw [State.port_modPort]; split <;> exact h.queues d

/-- Where the command itself restored the eight credits of its source, no packet of it is in flight any more. -/
theorem State.Held.restored {c : Source} {m : Nat} (h : s.Held (Bal q (some (c, m)))) (hm : m < (s.port c).credits) : s.Held (Bal q none) := by
  replace h := h.holds
  refine Bal.held ⟨h.pending, fun d => ?_, h.queues, h.counters, h.blocks, h.sorted, h.staging, h.memory⟩
  have h1 := h.credits d
  unfold State.bal at *
  simp only at *
  split at h1
  · rename_i hd
    subst hd
    rcases h1 with h1 | h1
    · unfold State.creditsBalance State.inUse; rw [if_neg h1.2.2]; omega
    · omega
  · exact h1

/-- A port whose eight credits are restored and whose replies are discarded. -/
theorem State.restore_held (h : s.Held (Bal q fl)) {c : Source} (hc : c ≠ .service) {f : Port → Port}
    (hf : ∀ p, (f p).credits = 8 ∧ (f p).owed = 0) (hq : ∀ p, p.queueOk → (f p).queueOk) : (s.modPort c f).Held (Bal q fl) := by
  replace h := h.holds
  refine Bal.held ⟨h.pending, fun d => ?_, fun d => ?_, h.counters, h.blocks, h.sorted, h.staging, h.memory⟩
  · have h1 := h.credits d
    by_cases hd : d = c
    · subst hd
      have e1 : ((s.modPort d f).port d).credits = 8 ∧ ((s.modPort d f).port d).owed = 0 := by
        rw [State.port_modPort, if_pos rfl]; exact hf _
      have e2 : (s.modPort d f).creditsBalance d := by
        unfold State.creditsBalance State.inUse; rw [if_neg hc]; omega
      unfold State.bal
      split
      · exact e2
      · split
        · exact Or.inl ⟨e1.1, e1.2, hc⟩
        · exact e2
    · have e0 : (s.modPort c f).port d = s.port d := by rw [State.port_modPort, if_neg hd]
      have e : (s.modPort c f).inUse d = s.inUse d := by unfold State.inUse; rw [e0]; rfl
      unfold State.bal State.creditsBalance at *
      rw [e, e0]; exact h1
  · rw [State.port_modPort]; split
    · exact hq _ (h.queues d)
    · exact h.queues d

/-- The oldest reply of a source is delivered: a reply with NC = 0 returns its credit. -/
theorem State.deliver_held (h : s.Held (Bal q none)) {c : Source} : (s.deliver c).Held (Bal q none) := by
  unfold State.deliver
  split
  · exact h
  · rename_i r rest hr
    have h1 : (s.modPort c fun p =>
        { p with replies := rest, delivered := some r, credits := if r.nc then p.credits else min 8 (p.credits + 1) }).Held (Bal q none) := by
      have h := h.holds
      refine Bal.held ⟨h.pending, fun d => ?_, fun d => ?_, h.counters, h.blocks, h.sorted, h.staging, h.memory⟩
      · have h1 := h.credits d
        unfold State.bal State.creditsBalance at *
        simp only at *
        by_cases hd : d = c
        · subst hd
          have ho : (s.port d).owed = rest.countP (fun r => !r.nc) + b2n (!r.nc) := by
            unfold Port.owed; rw [hr, List.countP_cons]; cases r.nc <;> simp [b2n]
          have e : (s.modPort d fun p =>
              { p with replies := rest, delivered := some r, credits := if r.nc then p.credits else min 8 (p.credits + 1) }).inUse d = s.inUse d := by
            unfold State.inUse
            rw [State.port_modPort, if_pos rfl]
            show (if r.nc then (s.port d).credits else min 8 ((s.port d).credits + 1)) + rest.countP (fun r => !r.nc) + (if d = Source.service then s.upd.relayOps.length else 0) = _
            have : (s.port d).credits + (s.port d).owed ≤ 8 := by
              unfold State.inUse at h1; omega
            rw [ho] at this ⊢
            cases hn : r.nc <;> simp [b2n, hn] at this ⊢ <;> omega
          rw [e]; exact h1
        · have e : (s.modPort c fun p =>
              { p with replies := rest, delivered := some r, credits := if r.nc then p.credits else min 8 (p.credits + 1) }).inUse d = s.inUse d := by
            unfold State.inUse; rw [State.port_modPort, if_neg hd]; rfl
          rw [e]; exact h1
      · rw [State.port_modPort]; split <;> exact h.queues d
    exact State.modPower_held h1

end Sys2Proof.Machine
end

