-- ==== Sys2Proof/Laws/HeldA.lean ====
section
/-! SUPPORT. What the operations of Ops, Gates, Faults, Stops, Flags, Images, Session, Power, GateCmd keep: one lemma each. -/
namespace Sys2Proof.Machine

variable {P : State → Prop} {q : List Instr} {fl : Option (Source × Nat)} {s : State}
theorem State.upKt_held (h : s.Held P) {a1 : Nat} : (State.upKt s a1).Held P := by
  unfold State.upKt
  repeat' first
    | with_reducible assumption
    | with_reducible refine State.modSafety_held ?_
    | with_reducible refine State.Held.mk_of ?_

theorem State.recState_held (h : s.Held P) {a1 : Nat} {a2 : Nat} : (State.recState s a1 a2).Held P := by
  unfold State.recState
  try lift_lets
  repeat' first
    | with_reducible assumption
    | (intro x; refine (?_ : State.Held P x → _) ?_; (on_goal 1 => (intro _; try clear_value x)); (on_goal 2 => unfold x))
    | (intro x; try clear_value x)
    | lift_lets
    | with_reducible refine State.modRecorder_held ?_
    | with_reducible refine State.storeAll_held ?_
    | with_reducible refine State.Held.mk_of ?_

theorem State.recTrigger_held (h : s.Held P) {a1 : Nat} : (State.recTrigger s a1).Held P := by
  unfold State.recTrigger
  try lift_lets
  repeat' first
    | with_reducible assumption
    | (intro x; refine (?_ : State.Held P x → _) ?_; (on_goal 1 => (intro _; try clear_value x)); (on_goal 2 => unfold x))
    | (intro x; try clear_value x)
    | lift_lets
    | with_reducible refine State.modRecorder_held ?_
    | with_reducible refine State.recState_held ?_
    | with_reducible refine State.Held.mk_of ?_

theorem State.recEvent_held (h : s.Held P) {a1 : Nat} {a2 : Nat} : (State.recEvent s a1 a2).Held P := by
  unfold State.recEvent
  try lift_lets
  repeat' first
    | with_reducible assumption
    | (intro x; refine (?_ : State.Held P x → _) ?_; (on_goal 1 => (intro _; try clear_value x)); (on_goal 2 => unfold x))
    | (intro x; try clear_value x)
    | split
    | lift_lets
    | with_reducible refine State.recState_held ?_
    | with_reducible refine State.recTrigger_held ?_

theorem State.post_held (h : s.Held P) {a1 : Nat} {a2 : Nat} {a3 : Nat} {a4 : Nat} {a5 : Bytes} : (State.post s a1 a2 a3 a4 a5).Held P := by
  unfold State.post
  repeat' first
    | with_reducible assumption
    | with_reducible refine State.storeAll_held ?_
    | with_reducible refine State.recEvent_held ?_

theorem State.info_held (h : s.Held P) {a1 : Nat} {a2 : Nat} {a3 : Nat} {a4 : Bytes} : (State.info s a1 a2 a3 a4).Held P := by
  unfold State.info
  repeat' first
    | with_reducible assumption
    | with_reducible refine State.post_held ?_

theorem Rep.ok_held (h : s.Held P) {a1 : Bytes} : (Rep.ok s a1).st.Held P := by
  unfold Rep.ok
  repeat' first
    | with_reducible assumption

theorem Rep.no_held (h : s.Held P) {a1 : Nat} {a2 : Bytes} : (Rep.no s a1 a2).st.Held P := by
  unfold Rep.no
  repeat' first
    | with_reducible assumption

theorem State.lockOut_held (h : s.Held P) {a1 : Nat} : (State.lockOut s a1).Held P := by
  unfold State.lockOut
  repeat' first
    | with_reducible assumption
    | split
    | with_reducible refine State.Held.mk_of ?_

theorem State.kpLines_held (h : s.Held P) {a1 : Nat} : (State.kpLines s a1).Held P := by
  unfold State.kpLines
  try lift_lets
  repeat' first
    | with_reducible assumption
    | (intro x; refine (?_ : State.Held P x → _) ?_; (on_goal 1 => (intro _; try clear_value x)); (on_goal 2 => unfold x))
    | (intro x; try clear_value x)
    | lift_lets
    | with_reducible refine State.modStack_held ?_
    | with_reducible refine State.Held.mk_of ?_

theorem State.unswitch_held (h : s.Held P) {a1 : Nat} : (State.unswitch s a1).Held P := by
  unfold State.unswitch
  repeat' first
    | with_reducible assumption
    | split
    | with_reducible refine State.modStack_held ?_
    | with_reducible refine State.Held.mk_of ?_

theorem State.driveGates_held (h : s.Held P) : (State.driveGates s).Held P := by
  unfold State.driveGates
  repeat' first
    | with_reducible assumption
    | with_reducible refine State.Held.mk_of ?_

theorem State.settleGates_held (h : s.Held P) : (State.settleGates s).Held P := by
  unfold State.settleGates
  try lift_lets
  repeat' first
    | with_reducible assumption
    | (intro x; refine (?_ : State.Held P x → _) ?_; (on_goal 1 => (intro _; try clear_value x)); (on_goal 2 => unfold x))
    | (intro x; try clear_value x)
    | lift_lets
    | with_reducible refine held_foldl ?_ (fun s x h => ?_)
    | with_reducible refine State.kpLines_held ?_
    | with_reducible refine State.unswitch_held ?_
    | with_reducible refine State.driveGates_held ?_

theorem State.setFaultObj_held (h : s.Held P) {a1 : FaultObj} : (State.setFaultObj s a1).Held P := by
  unfold State.setFaultObj
  repeat' first
    | with_reducible assumption
    | with_reducible refine State.modFaults_held ?_ (fun hx => ?_)
    | (dsimp only; exact hx)
    | with_reducible refine State.Held.mk_of ?_
    | exact Nat.zero_le _
    | exact hx

theorem State.bumpOcc_held (h : s.Held P) {a1 : Nat} : (State.bumpOcc s a1).Held P := by
  unfold State.bumpOcc
  repeat' first
    | with_reducible assumption
    | with_reducible refine State.modFaults_held ?_ (fun hx => ?_)
    | (dsimp only; exact hx)
    | with_reducible refine State.Held.mk_of ?_
    | exact Nat.zero_le _
    | exact hx

theorem State.stageRoom_held (h : s.Held P) {a1 : EventRec} {a2 : Nat} : (State.stageRoom s a1 a2).Held P := by
  unfold State.stageRoom
  try lift_lets
  repeat' first
    | with_reducible assumption
    | (intro x; refine (?_ : State.Held P x → _) ?_; (on_goal 1 => (intro _; try clear_value x)); (on_goal 2 => unfold x))
    | (intro x; try clear_value x)
    | (have hx := ‹_ = (_, _)›; have h2 := congrArg Prod.snd hx; have h1 := congrArg Prod.fst hx; dsimp only at h1 h2; subst h1 h2; clear hx)
    | split
    | lift_lets
    | with_reducible refine State.modFaults_held ?_ (fun hx => ?_)
    | with_reducible refine State.draw_held ?_
    | (dsimp only; exact hx)
    | with_reducible refine State.Held.mk_of ?_
    | exact Nat.zero_le _
    | exact hx
    | (show _ ≤ 1024; simp [State.draw] at *; omega)

theorem State.lapse_held (h : s.Held P) {a1 : BitVec 6} {a2 : Nat} : (State.lapse s a1 a2).Held P := by
  unfold State.lapse
  try lift_lets
  repeat' first
    | with_reducible assumption
    | (intro x; refine (?_ : State.Held P x → _) ?_; (on_goal 1 => (intro _; try clear_value x)); (on_goal 2 => unfold x))
    | (intro x; try clear_value x)
    | split
    | lift_lets
    | with_reducible refine State.modFaults_held ?_ (fun hx => ?_)
    | with_reducible refine State.post_held ?_
    | with_reducible refine State.setFaultObj_held ?_
    | with_reducible refine State.bumpOcc_held ?_
    | with_reducible refine State.stageRoom_held ?_
    | (dsimp only; exact hx)
    | with_reducible refine State.Held.mk_of ?_
    | exact Nat.zero_le _
    | exact hx
    | (show _ ≤ 1024; simp [State.draw] at *; omega)

theorem State.stage_held (h : s.Held P) {a1 : EventRec} {a2 : Bool} : (State.stage s a1 a2).Held P := by
  unfold State.stage
  repeat' first
    | with_reducible assumption
    | split
    | with_reducible refine State.stageRoom_held ?_
    | with_reducible refine State.lapse_held ?_
    | (show _ ≤ 1024; simp [State.draw] at *; omega)

theorem State.faultLasting_held (h : s.Held P) {a1 : FaultKey} {a2 : Nat} {a3 : Nat} {a4 : Nat} : (State.faultLasting s a1 a2 a3 a4).Held P := by
  unfold State.faultLasting
  try lift_lets
  repeat' first
    | with_reducible assumption
    | (intro x; refine (?_ : State.Held P x → _) ?_; (on_goal 1 => (intro _; try clear_value x)); (on_goal 2 => unfold x))
    | (intro x; try clear_value x)
    | split
    | lift_lets
    | with_reducible refine State.post_held ?_
    | with_reducible refine State.setFaultObj_held ?_
    | with_reducible refine State.stage_held ?_
    | with_reducible refine State.Held.mk_of ?_

theorem State.hold_held (h : s.Held P) {a1 : FaultKey} {a2 : Nat} : (State.hold s a1 a2).Held P := by
  unfold State.hold
  try lift_lets
  repeat' first
    | with_reducible assumption
    | (intro x; refine (?_ : State.Held P x → _) ?_; (on_goal 1 => (intro _; try clear_value x)); (on_goal 2 => unfold x))
    | (intro x; try clear_value x)
    | split
    | lift_lets
    | with_reducible refine State.setFaultObj_held ?_
    | with_reducible refine State.Held.mk_of ?_

theorem State.occur_held (h : s.Held P) {a1 : Nat} {a2 : Nat} {a3 : Nat} {a4 : Bytes} {a5 : Option Bool} : (State.occur s a1 a2 a3 a4 a5).st.Held P := by
  unfold State.occur
  try lift_lets
  repeat' first
    | with_reducible assumption
    | (intro x; refine (?_ : State.Held P x → _) ?_; (on_goal 1 => (intro _; try clear_value x)); (on_goal 2 => unfold x))
    | (intro x; try clear_value x)
    | (have hx := ‹_ = (_, _)›; have h2 := congrArg Prod.snd hx; have h1 := congrArg Prod.fst hx; dsimp only at h1 h2; subst h1 h2; clear hx)
    | split
    | lift_lets
    | with_reducible refine State.post_held ?_
    | with_reducible refine State.setFaultObj_held ?_
    | with_reducible refine State.bumpOcc_held ?_
    | with_reducible refine State.stage_held ?_
    | with_reducible refine State.faultLasting_held ?_
    | with_reducible refine State.hold_held ?_
    | with_reducible refine State.Held.mk_of ?_

theorem State.setFb_held (h : s.Held P) {a1 : Nat} {a2 : Nat} {a3 : Nat} {a4 : Int} : (State.setFb s a1 a2 a3 a4).Held P := by
  unfold State.setFb
  try lift_lets
  repeat' first
    | with_reducible assumption
    | (intro x; refine (?_ : State.Held P x → _) ?_; (on_goal 1 => (intro _; try clear_value x)); (on_goal 2 => unfold x))
    | (intro x; try clear_value x)
    | split
    | lift_lets
    | with_reducible refine State.modFb_held ?_
    | with_reducible refine State.info_held ?_
    | with_reducible refine State.Held.mk_of ?_

theorem State.setAx_held (h : s.Held P) {a1 : Nat} {a2 : Nat} : (State.setAx s a1 a2).Held P := by
  unfold State.setAx
  try lift_lets
  repeat' first
    | with_reducible assumption
    | (intro x; refine (?_ : State.Held P x → _) ?_; (on_goal 1 => (intro _; try clear_value x)); (on_goal 2 => unfold x))
    | (intro x; try clear_value x)
    | split
    | lift_lets
    | with_reducible refine State.modAxis_held ?_
    | with_reducible refine State.info_held ?_
    | with_reducible refine State.Held.mk_of ?_

theorem State.homeDone_held (h : s.Held P) {a1 : Nat} {a2 : Nat} {a3 : Int} : (State.homeDone s a1 a2 a3).Held P := by
  unfold State.homeDone
  repeat' first
    | with_reducible assumption
    | with_reducible refine State.modAxis_held ?_
    | with_reducible refine State.info_held ?_
    | with_reducible refine State.Held.mk_of ?_

theorem State.stopAxis_held (h : s.Held P) {a1 : Nat} {a2 : Bool} : (State.stopAxis s a1 a2).Held P := by
  unfold State.stopAxis
  try lift_lets
  repeat' first
    | with_reducible assumption
    | (intro x; refine (?_ : State.Held P x → _) ?_; (on_goal 1 => (intro _; try clear_value x)); (on_goal 2 => unfold x))
    | (intro x; try clear_value x)
    | split
    | lift_lets
    | with_reducible refine State.modAxis_held ?_
    | with_reducible refine OutHeld.next ?_
    | with_reducible refine OutHeld.next ?_
    | with_reducible refine State.hold_held ?_
    | with_reducible refine State.setAx_held ?_
    | with_reducible refine State.homeDone_held ?_
    | with_reducible refine State.Held.mk_of ?_

theorem State.releaseAxes_held (h : s.Held P) : (State.releaseAxes s).Held P := by
  unfold State.releaseAxes
  repeat' first
    | with_reducible assumption
    | with_reducible refine held_foldl ?_ (fun s x h => ?_)
    | with_reducible refine State.stopAxis_held ?_

theorem State.setObs_held (h : s.Held P) {a1 : Nat} {a2 : Nat} {a3 : Int} : (State.setObs s a1 a2 a3).Held P := by
  unfold State.setObs
  try lift_lets
  repeat' first
    | with_reducible assumption
    | (intro x; refine (?_ : State.Held P x → _) ?_; (on_goal 1 => (intro _; try clear_value x)); (on_goal 2 => unfold x))
    | (intro x; try clear_value x)
    | split
    | lift_lets
    | with_reducible refine State.modObs_held ?_
    | with_reducible refine State.info_held ?_
    | with_reducible refine State.Held.mk_of ?_

theorem State.setDev_held (h : s.Held P) {a1 : DevState} : (State.setDev s a1).Held P := by
  unfold State.setDev
  try lift_lets
  repeat' first
    | with_reducible assumption
    | (intro x; refine (?_ : State.Held P x → _) ?_; (on_goal 1 => (intro _; try clear_value x)); (on_goal 2 => unfold x))
    | (intro x; try clear_value x)
    | split
    | lift_lets
    | with_reducible refine State.modMotion_held ?_
    | with_reducible refine State.info_held ?_
    | with_reducible refine State.releaseAxes_held ?_
    | with_reducible refine State.Held.mk_of ?_

theorem State.obsSettle_held (h : s.Held P) {a1 : Nat} : (State.obsSettle s a1).Held P := by
  unfold State.obsSettle
  try lift_lets
  repeat' first
    | with_reducible assumption
    | (intro x; refine (?_ : State.Held P x → _) ?_; (on_goal 1 => (intro _; try clear_value x)); (on_goal 2 => unfold x))
    | (intro x; refine (?_ : State.Held P x.st → _) ?_; (on_goal 1 => (intro _; try clear_value x)); (on_goal 2 => unfold x))
    | (intro x; try clear_value x)
    | split
    | lift_lets
    | with_reducible refine State.modObs_held ?_
    | with_reducible refine State.occur_held ?_
    | with_reducible refine State.setObs_held ?_
    | with_reducible refine State.Held.mk_of ?_

theorem State.modBrake_held (h : s.Held P) {a1 : Nat} {a2 : Brake → Brake} : (State.modBrake s a1 a2).Held P := by
  unfold State.modBrake
  repeat' first
    | with_reducible assumption
    | with_reducible refine State.modSafety_held ?_
    | with_reducible refine State.Held.mk_of ?_

theorem State.setBrake_held (h : s.Held P) {a1 : Nat} : (State.setBrake s a1).Held P := by
  unfold State.setBrake
  repeat' first
    | with_reducible assumption
    | split
    | with_reducible refine State.modBrake_held ?_
    | with_reducible refine State.Held.mk_of ?_

theorem State.openBrake_held (h : s.Held P) {a1 : Nat} : (State.openBrake s a1).Held P := by
  unfold State.openBrake
  repeat' first
    | with_reducible assumption
    | with_reducible refine State.modBrake_held ?_
    | with_reducible refine State.Held.mk_of ?_

theorem State.settleBrake_held (h : s.Held P) {a1 : Nat} : (State.settleBrake s a1).Held P := by
  unfold State.settleBrake
  try lift_lets
  repeat' first
    | with_reducible assumption
    | (intro x; refine (?_ : State.Held P x → _) ?_; (on_goal 1 => (intro _; try clear_value x)); (on_goal 2 => unfold x))
    | (intro x; try clear_value x)
    | split
    | lift_lets
    | with_reducible refine State.modBrake_held ?_
    | with_reducible refine State.setBrake_held ?_
    | with_reducible refine State.openBrake_held ?_
    | with_reducible refine State.Held.mk_of ?_

theorem State.settleBrakes_held (h : s.Held P) : (State.settleBrakes s).Held P := by
  unfold State.settleBrakes
  repeat' first
    | with_reducible assumption
    | with_reducible refine State.settleBrake_held ?_

theorem State.settle_held (h : s.Held P) : (State.settle s).Held P := by
  unfold State.settle
  repeat' first
    | with_reducible assumption
    | with_reducible refine held_foldl ?_ (fun s x h => ?_)
    | with_reducible refine State.settleGates_held ?_
    | with_reducible refine State.obsSettle_held ?_
    | with_reducible refine State.settleBrakes_held ?_

theorem State.stopEvent_held (h : s.Held P) {a1 : Nat} {a2 : StopKind} {a3 : Nat} : (State.stopEvent s a1 a2 a3).Held P := by
  unfold State.stopEvent
  try lift_lets
  repeat' first
    | with_reducible assumption
    | (intro x; refine (?_ : State.Held P x → _) ?_; (on_goal 1 => (intro _; try clear_value x)); (on_goal 2 => unfold x))
    | (intro x; try clear_value x)
    | lift_lets
    | with_reducible refine State.info_held ?_

theorem State.stopReact_held (h : s.Held P) {a1 : Nat} {a2 : StopKind} {a3 : Nat} : (State.stopReact s a1 a2 a3).Held P := by
  unfold State.stopReact
  try lift_lets
  repeat' first
    | with_reducible assumption
    | (intro x; refine (?_ : State.Held P x → _) ?_; (on_goal 1 => (intro _; try clear_value x)); (on_goal 2 => unfold x))
    | (intro x; try clear_value x)
    | split
    | lift_lets
    | with_reducible refine State.modStack_held ?_
    | with_reducible refine State.settle_held ?_
    | with_reducible refine State.stopEvent_held ?_
    | with_reducible refine State.Held.mk_of ?_

theorem State.stopAll_held (h : s.Held P) {a1 : List Nat} {a2 : StopKind} {a3 : Nat} : (State.stopAll s a1 a2 a3).Held P := by
  unfold State.stopAll
  repeat' first
    | with_reducible assumption
    | with_reducible refine held_foldl ?_ (fun s x h => ?_)
    | with_reducible refine State.stopReact_held ?_

theorem State.startStop_held (h : s.Held P) {a1 : Bool} {a2 : Nat} : (State.startStop s a1 a2).Held P := by
  unfold State.startStop
  try lift_lets
  repeat' first
    | with_reducible assumption
    | (intro x; refine (?_ : State.Held P x → _) ?_; (on_goal 1 => (intro _; try clear_value x)); (on_goal 2 => unfold x))
    | (intro x; try clear_value x)
    | split
    | lift_lets
    | with_reducible refine State.modMotion_held ?_
    | with_reducible refine held_foldl ?_ (fun s x h => ?_)
    | with_reducible refine State.stopEvent_held ?_
    | with_reducible refine State.stopReact_held ?_
    | with_reducible refine State.Held.mk_of ?_

theorem State.enterFault_held (h : s.Held P) {a1 : Nat} : (State.enterFault s a1).Held P := by
  unfold State.enterFault
  try lift_lets
  repeat' first
    | with_reducible assumption
    | (intro x; refine (?_ : State.Held P x → _) ?_; (on_goal 1 => (intro _; try clear_value x)); (on_goal 2 => unfold x))
    | (intro x; try clear_value x)
    | split
    | lift_lets
    | with_reducible refine State.modMotion_held ?_
    | with_reducible refine State.modFaults_held ?_ (fun hx => ?_)
    | with_reducible refine held_foldl ?_ (fun s x h => ?_)
    | with_reducible refine State.setDev_held ?_
    | with_reducible refine State.stopReact_held ?_
    | (dsimp only; exact hx)
    | with_reducible refine State.Held.mk_of ?_
    | exact Nat.zero_le _
    | exact hx

theorem State.toReady_held (h : s.Held P) : (State.toReady s).Held P := by
  unfold State.toReady
  try lift_lets
  repeat' first
    | with_reducible assumption
    | (intro x; refine (?_ : State.Held P x → _) ?_; (on_goal 1 => (intro _; try clear_value x)); (on_goal 2 => unfold x))
    | (intro x; try clear_value x)
    | split
    | lift_lets
    | with_reducible refine State.modMotion_held ?_
    | with_reducible refine State.modStack_held ?_
    | with_reducible refine held_foldl ?_ (fun s x h => ?_)
    | with_reducible refine State.setDev_held ?_
    | with_reducible refine State.settle_held ?_
    | with_reducible refine State.enterFault_held ?_
    | with_reducible refine State.Held.mk_of ?_

theorem State.setBrakeCh_held (h : s.Held P) {a1 : Channel} {a2 : Nat} : (State.setBrakeCh s a1 a2).Held P := by
  unfold State.setBrakeCh
  repeat' first
    | with_reducible assumption
    | split
    | with_reducible refine State.modBrake_held ?_
    | with_reducible refine State.setBrake_held ?_
    | with_reducible refine State.Held.mk_of ?_

theorem State.setBrakes_held (h : s.Held P) {a1 : List Nat} : (State.setBrakes s a1).Held P := by
  unfold State.setBrakes
  repeat' first
    | with_reducible assumption
    | with_reducible refine held_foldl ?_ (fun s x h => ?_)
    | with_reducible refine State.setBrake_held ?_

theorem State.setBrakesCh_held (h : s.Held P) {a1 : Channel} {a2 : List Nat} : (State.setBrakesCh s a1 a2).Held P := by
  unfold State.setBrakesCh
  repeat' first
    | with_reducible assumption
    | with_reducible refine held_foldl ?_ (fun s x h => ?_)
    | with_reducible refine State.setBrakeCh_held ?_

theorem State.fnEvent_held (h : s.Held P) {a1 : SafeFn} {a2 : Nat} : (State.fnEvent s a1 a2).Held P := by
  unfold State.fnEvent
  repeat' first
    | with_reducible assumption
    | split
    | with_reducible refine State.info_held ?_
    | with_reducible refine State.stage_held ?_

theorem State.safetyDev_held (h : s.Held P) : (State.safetyDev s).Held P := by
  unfold State.safetyDev
  repeat' first
    | with_reducible assumption
    | split
    | with_reducible refine State.setDev_held ?_

theorem State.modFn_held (h : s.Held P) {a1 : SafeFn} {a2 : SafeFn → SafeFn} : (State.modFn s a1 a2).Held P := by
  unfold State.modFn
  repeat' first
    | with_reducible assumption
    | split
    | with_reducible refine State.modSafety_held ?_
    | with_reducible refine State.Held.mk_of ?_

theorem State.completeFn_held (h : s.Held P) {a1 : SafeFn} : (State.completeFn s a1).Held P := by
  unfold State.completeFn
  repeat' first
    | with_reducible assumption
    | with_reducible refine State.settle_held ?_
    | with_reducible refine State.fnEvent_held ?_
    | with_reducible refine State.modFn_held ?_
    | with_reducible refine State.Held.mk_of ?_

theorem State.startFn_held (h : s.Held P) {a1 : Nat} {a2 : BitVec 4} {a3 : Nat} {a4 : Channel} : (State.startFn s a1 a2 a3 a4).Held P := by
  unfold State.startFn
  try lift_lets
  repeat' first
    | with_reducible assumption
    | (intro x; refine (?_ : State.Held P x → _) ?_; (on_goal 1 => (intro _; try clear_value x)); (on_goal 2 => unfold x))
    | (intro x; try clear_value x)
    | split
    | lift_lets
    | with_reducible refine State.modMotion_held ?_
    | with_reducible refine State.modSafety_held ?_
    | with_reducible refine State.settle_held ?_
    | with_reducible refine State.setBrakesCh_held ?_
    | with_reducible refine State.fnEvent_held ?_
    | with_reducible refine State.safetyDev_held ?_
    | with_reducible refine State.modFn_held ?_
    | with_reducible refine State.completeFn_held ?_
    | with_reducible refine State.Held.mk_of ?_

theorem State.requestFn_held (h : s.Held P) {a1 : Nat} {a2 : BitVec 4} {a3 : Nat} : (State.requestFn s a1 a2 a3).Held P := by
  unfold State.requestFn
  try lift_lets
  repeat' first
    | with_reducible assumption
    | (intro x; refine (?_ : State.Held P x → _) ?_; (on_goal 1 => (intro _; try clear_value x)); (on_goal 2 => unfold x))
    | (intro x; try clear_value x)
    | split
    | lift_lets
    | with_reducible refine State.startFn_held ?_

theorem State.stoAll_held (h : s.Held P) : (State.stoAll s).Held P := by
  unfold State.stoAll
  repeat' first
    | with_reducible assumption
    | with_reducible refine State.setBrakes_held ?_
    | with_reducible refine State.requestFn_held ?_

theorem State.angleLost_held (h : s.Held P) {a1 : Nat} {a2 : Nat} : (State.angleLost s a1 a2).Held P := by
  unfold State.angleLost
  try lift_lets
  repeat' first
    | with_reducible assumption
    | (intro x; refine (?_ : State.Held P x → _) ?_; (on_goal 1 => (intro _; try clear_value x)); (on_goal 2 => unfold x))
    | (intro x; try clear_value x)
    | split
    | lift_lets
    | with_reducible refine State.modMotion_held ?_
    | with_reducible refine State.modStack_held ?_
    | with_reducible refine held_foldl ?_ (fun s x h => ?_)
    | with_reducible refine State.info_held ?_
    | with_reducible refine State.stopAll_held ?_
    | with_reducible refine State.Held.mk_of ?_

theorem State.fbFail_held (h : s.Held P) {a1 : Nat} {a2 : Nat} {a3 : Nat} : (State.fbFail s a1 a2 a3).Held P := by
  unfold State.fbFail
  repeat' first
    | with_reducible assumption
    | split
    | with_reducible refine State.setFb_held ?_
    | with_reducible refine State.angleLost_held ?_

theorem State.obsLasting_held (h : s.Held P) {a1 : Nat} {a2 : Nat} : (State.obsLasting s a1 a2).Held P := by
  unfold State.obsLasting
  try lift_lets
  repeat' first
    | with_reducible assumption
    | (intro x; refine (?_ : State.Held P x → _) ?_; (on_goal 1 => (intro _; try clear_value x)); (on_goal 2 => unfold x))
    | (intro x; try clear_value x)
    | split
    | lift_lets
    | with_reducible refine State.modMotion_held ?_
    | with_reducible refine State.modStack_held ?_
    | with_reducible refine State.modObs_held ?_
    | with_reducible refine held_foldl ?_ (fun s x h => ?_)
    | with_reducible refine State.setObs_held ?_
    | with_reducible refine State.stopAll_held ?_
    | with_reducible refine State.requestFn_held ?_
    | with_reducible refine State.Held.mk_of ?_

theorem State.react_held (h : s.Held P) {a1 : Nat} {a2 : Nat} {a3 : Bool} {a4 : FaultKey} {a5 : Bytes} : (State.react s a1 a2 a3 a4 a5).Held P := by
  unfold State.react
  try lift_lets
  repeat' first
    | with_reducible assumption
    | (intro x; refine (?_ : State.Held P x → _) ?_; (on_goal 1 => (intro _; try clear_value x)); (on_goal 2 => unfold x))
    | (intro x; try clear_value x)
    | split
    | lift_lets
    | with_reducible refine held_foldl ?_ (fun s x h => ?_)
    | with_reducible refine State.lapse_held ?_
    | with_reducible refine State.setFb_held ?_
    | with_reducible refine State.setAx_held ?_
    | with_reducible refine State.setObs_held ?_
    | with_reducible refine State.stopReact_held ?_
    | with_reducible refine State.stopAll_held ?_
    | with_reducible refine State.startStop_held ?_
    | with_reducible refine State.enterFault_held ?_
    | with_reducible refine State.fbFail_held ?_
    | with_reducible refine State.obsLasting_held ?_

theorem State.raiseV_held (h : s.Held P) {a1 : Nat} {a2 : Nat} {a3 : Nat} {a4 : Bytes} {a5 : Option Bool} : (State.raiseV s a1 a2 a3 a4 a5).2.Held P := by
  unfold State.raiseV
  try lift_lets
  repeat' first
    | with_reducible assumption
    | (intro x; refine (?_ : State.Held P x → _) ?_; (on_goal 1 => (intro _; try clear_value x)); (on_goal 2 => unfold x))
    | (intro x; refine (?_ : State.Held P x.st → _) ?_; (on_goal 1 => (intro _; try clear_value x)); (on_goal 2 => unfold x))
    | (intro x; try clear_value x)
    | split
    | lift_lets
    | with_reducible refine State.occur_held ?_
    | with_reducible refine State.enterFault_held ?_
    | with_reducible refine State.react_held ?_

theorem State.raise_held (h : s.Held P) {a1 : Nat} {a2 : Nat} {a3 : Nat} {a4 : Bytes} {a5 : Option Bool} : (State.raise s a1 a2 a3 a4 a5).Held P := by
  unfold State.raise
  repeat' first
    | with_reducible assumption
    | with_reducible refine State.raiseV_held ?_

theorem State.lapseFault_held (h : s.Held P) {a1 : BitVec 6} {a2 : Nat} : (State.lapseFault s a1 a2).Held P := by
  unfold State.lapseFault
  try lift_lets
  repeat' first
    | with_reducible assumption
    | (intro x; refine (?_ : State.Held P x → _) ?_; (on_goal 1 => (intro _; try clear_value x)); (on_goal 2 => unfold x))
    | (intro x; try clear_value x)
    | split
    | lift_lets
    | with_reducible refine State.lapse_held ?_
    | with_reducible refine State.enterFault_held ?_

theorem State.writeRec_held (h : s.Held P) {a1 : BootRec → BootRec} : (State.writeRec s a1).Held P := by
  unfold State.writeRec
  try lift_lets
  repeat' first
    | with_reducible assumption
    | (intro x; refine (?_ : State.Held P x → _) ?_; (on_goal 1 => (intro _; try clear_value x)); (on_goal 2 => unfold x))
    | (intro x; try clear_value x)
    | lift_lets
    | with_reducible refine State.modUpd_held ?_ rfl
    | with_reducible refine State.Held.mk_of ?_

theorem State.blowFuses_held (h : s.Held P) : (State.blowFuses s).Held P := by
  unfold State.blowFuses
  repeat' first
    | with_reducible assumption
    | with_reducible refine State.modUpd_held ?_ rfl
    | with_reducible refine State.Held.mk_of ?_

theorem State.bootTrial_held (h : s.Held P) : (State.bootTrial s).Held P := by
  unfold State.bootTrial
  try lift_lets
  repeat' first
    | with_reducible assumption
    | (intro x; refine (?_ : State.Held P x → _) ?_; (on_goal 1 => (intro _; try clear_value x)); (on_goal 2 => unfold x))
    | (intro x; try clear_value x)
    | split
    | lift_lets
    | with_reducible refine State.modUpd_held ?_ rfl
    | with_reducible refine State.writeRec_held ?_
    | with_reducible refine State.Held.mk_of ?_

theorem State.bootOther_held (h : s.Held P) {a1 : Nat} : (State.bootOther s a1).Held P := by
  unfold State.bootOther
  try lift_lets
  repeat' first
    | with_reducible assumption
    | (intro x; refine (?_ : State.Held P x → _) ?_; (on_goal 1 => (intro _; try clear_value x)); (on_goal 2 => unfold x))
    | (intro x; try clear_value x)
    | split
    | lift_lets
    | with_reducible refine State.modUpd_held ?_ rfl
    | with_reducible refine State.writeRec_held ?_
    | with_reducible refine State.Held.mk_of ?_

theorem State.bootKind_held (h : s.Held P) {a1 : Nat} : (State.bootKind s a1).Held P := by
  unfold State.bootKind
  repeat' first
    | with_reducible assumption
    | split
    | with_reducible refine State.modUpd_held ?_ rfl
    | with_reducible refine State.bootOther_held ?_
    | with_reducible refine State.Held.mk_of ?_

theorem State.bootSelect_held (h : s.Held P) : (State.bootSelect s).Held P := by
  unfold State.bootSelect
  try lift_lets
  repeat' first
    | with_reducible assumption
    | (intro x; refine (?_ : State.Held P x → _) ?_; (on_goal 1 => (intro _; try clear_value x)); (on_goal 2 => unfold x))
    | (intro x; try clear_value x)
    | split
    | lift_lets
    | with_reducible refine State.modUpd_held ?_ rfl
    | with_reducible refine held_foldl ?_ (fun s x h => ?_)
    | with_reducible refine State.blowFuses_held ?_
    | with_reducible refine State.bootTrial_held ?_
    | with_reducible refine State.bootKind_held ?_
    | with_reducible refine State.Held.mk_of ?_

theorem State.appendHist_held (h : s.Held P) {a1 : EventRec} {a2 : Nat} : (State.appendHist s a1 a2).Held P := by
  unfold State.appendHist
  try lift_lets
  repeat' first
    | with_reducible assumption
    | (intro x; refine (?_ : State.Held P x → _) ?_; (on_goal 1 => (intro _; try clear_value x)); (on_goal 2 => unfold x))
    | (intro x; try clear_value x)
    | split
    | lift_lets
    | with_reducible refine State.modFaults_held ?_ (fun hx => ?_)
    | (dsimp only; exact hx)
    | with_reducible refine State.Held.mk_of ?_
    | exact Nat.zero_le _
    | exact hx

theorem State.sysPost_held (h : s.Held P) {a1 : Nat} {a2 : Nat} : (State.sysPost s a1 a2).Held P := by
  unfold State.sysPost
  repeat' first
    | with_reducible assumption
    | with_reducible refine State.modCh_held ?_
    | with_reducible refine State.draw_held ?_
    | with_reducible refine State.Held.mk_of ?_

theorem State.sysXfer_held (h : s.Held P) {a1 : Nat} {a2 : Nat} {a3 : Nat} : (State.sysXfer s a1 a2 a3).Held P := by
  unfold State.sysXfer
  repeat' first
    | with_reducible assumption
    | split
    | with_reducible refine State.sysPost_held ?_

theorem State.appendStaged_held (h : s.Held P) : (State.appendStaged s).Held P := by
  unfold State.appendStaged
  split
  · rename_i e f r n hs _
    refine State.modFaults_held (State.appendHist_held (State.sysPost_held h)) fun hl => ?_
    have hl : s.faults.staging.length ≤ 1024 := hl
    rw [hs, List.length_cons] at hl
    exact Nat.le_of_succ_le hl
  · exact h

theorem State.flushHist_held (h : s.Held P) : (State.flushHist s).Held P := by
  unfold State.flushHist
  repeat' first
    | with_reducible assumption
    | with_reducible refine held_foldl ?_ (fun s x h => ?_)
    | with_reducible refine State.appendStaged_held ?_
    | (show _ ≤ 1024; simp [State.draw] at *; omega)

theorem State.histSwitch_held (h : s.Held P) : (State.histSwitch s).Held P := by
  unfold State.histSwitch
  dsimp only
  split <;> split <;> first | exact h | exact h.of_eq rfl rfl rfl rfl rfl rfl rfl

theorem State.bootMarker_held (h : s.Held P) : (State.bootMarker s).Held P := by
  unfold State.bootMarker
  repeat' first
    | with_reducible assumption
    | with_reducible refine State.appendHist_held ?_
    | with_reducible refine State.sysXfer_held ?_

theorem State.queueReply_credits (s : State) (c : Source) (r : Reply) : ((s.queueReply c r).port c).credits = (s.port c).credits := by
  unfold State.queueReply; rw [State.port_modPort, if_pos rfl]

theorem State.countReject_held (h : s.Held P) : (State.countReject s).Held P :=
  State.modCounters_held h fun k hk => ⟨hk.1, satN_lt 4 _, hk.2.2⟩

theorem State.overCredit_held (h : s.Held P) {c : Source} {n : Nat} : (State.overCredit s c n).Held P := by
  unfold State.overCredit
  lift_lets
  intro x y
  have hy : y.Held P := by
    unfold y; split
    · exact h
    · exact State.queueReply_nc_held h rfl
  clear_value y
  refine State.info_held ?_
  refine State.modCounters_held hy fun k hk => ?_
  exact ⟨hk.1, hk.2.1, satN_lt 4 _, hk.2.2.2⟩

/-- What an opcode's meaning keeps while its packet is in flight. -/
def HandlerHeld (q : List Instr) (fl : Option (Source × Nat)) (A : State → Prop) (f : State → Rep) : Prop :=
  ∀ s, A s → s.Held (Bal q fl) → (f s).st.Held (Bal q fl)

theorem State.reject_held {c : Source} {m n e : Nat} {d : Bytes} (h : s.Held (Bal q (some (c, m)))) (hm : (s.port c).credits = m) (h8 : m < 8) :
    (State.reject s c n e d).Held (Bal q none) :=
  State.countReject_held (State.queueReply_held h rfl h8 (Nat.le_of_eq hm))

theorem State.countPacket_held (h : s.Held P) : (State.countPacket s).Held P :=
  State.modCounters_held h fun k hk => ⟨satN_lt 4 _, hk.2⟩

theorem State.touchUpd_held (h : s.Held P) : (State.touchUpd s).Held P := by
  unfold State.touchUpd
  repeat' first
    | with_reducible assumption
    | with_reducible refine State.modUpd_held ?_ rfl
    | with_reducible refine State.Held.mk_of ?_

theorem State.noteRecv_held (h : s.Held P) {a1 : Source} : (State.noteRecv s a1).Held P := by
  unfold State.noteRecv
  try lift_lets
  repeat' first
    | with_reducible assumption
    | (intro x; refine (?_ : State.Held P x → _) ?_; (on_goal 1 => (intro _; try clear_value x)); (on_goal 2 => unfold x))
    | (intro x; try clear_value x)
    | split
    | lift_lets
    | with_reducible refine State.modPort_held ?_ (fun p => ?_) (fun p hp => ?_)
    | exact ‹Port.queueOk _›
    | ((with_reducible refine ⟨?_, ?_⟩) <;> first | rfl | (dsimp only; split <;> rfl))
    | with_reducible refine State.touchUpd_held ?_
    | with_reducible refine State.Held.mk_of ?_

theorem State.noteRecv_port (s : State) (c d : Source) : (s.noteRecv c).port d =
    if d = c then { s.port d with lastOk := max (s.port d).lastOk s.stamp, ownLate := (s.port d).ownLate || s.ownMissed c } else s.port d := by
  unfold State.noteRecv
  rw [State.port_modPort]
  split <;> split <;> rfl

theorem State.carryOut_held {c : Source} {m op n : Nat} {p : Bytes} {f : State → Rep} (h : s.Held (Bal q (some (c, m))))
    (hm : (s.port c).credits = m) (h8 : m < 8) (hf : HandlerHeld q (some (c, m)) (fun s => s.objection op c p = none) f) :
    (State.carryOut s c op n p f).Held (Bal q none) := by
  unfold State.carryOut
  lift_lets
  intro x
  have hx : x.Held (Bal q (some (c, m))) ∧ (x.port c).credits = m := by
    unfold x; split
    · refine ⟨State.noteRecv_held h, ?_⟩
      rw [State.noteRecv_port, if_pos rfl]; exact hm
    · exact ⟨h, hm⟩
  clear_value x
  split
  · exact State.reject_held hx.1 hx.2 h8
  · rename_i ha
    have hr := hf x ha hx.1
    intro r
    have hr : r.st.Held (Bal q (some (c, m))) := hr
    split
    · rename_i hc
      exact hr.restored (by omega)
    · rename_i hc
      intro v
      have hv : v.Held (Bal q none) := State.queueReply_held hr rfl h8 (by omega)
      split
      · exact hv
      · exact State.countReject_held hv

theorem State.takeCredit_lt {c : Source} (h : s.Held (Bal q none)) (hc : (s.port c).credits ≠ 0) :
    ((s.takeCredit c).port c).credits = (s.port c).credits - 1 ∧ (s.port c).credits - 1 < 8 := by
  constructor
  · unfold State.takeCredit; rw [State.port_modPort, if_pos rfl]
  · have h1 := h.holds.credits c
    unfold State.bal State.creditsBalance State.inUse at h1
    simp only at h1
    omega

theorem State.submit_held {c : Source} {op n : Nat} {p : Bytes} {f : State → Rep} (h : s.Held (Bal q none))
    (hf : ∀ m, HandlerHeld q (some (c, m)) (fun s => s.objection op c p = none) f) : (State.submit s c op n p f).Held (Bal q none) := by
  unfold State.submit
  split
  · exact h
  · lift_lets
    intro x
    have hx : x.Held (Bal q none) := State.countPacket_held h
    clear_value x
    split
    · exact State.overCredit_held hx
    · rename_i hc
      exact State.carryOut_held (State.takeCredit_held hx hc) (State.takeCredit_lt hx hc).1 (State.takeCredit_lt hx hc).2 (hf _)

theorem runOp_held {t : Tick} {c : Source} {op n : Nat} {p : Bytes} {f : State → Rep} (h : s.Held (Bal q none))
    (hf : ∀ m, HandlerHeld q (some (c, m)) (fun s => s.objection op c p = none) f) : OutHeld (Bal q none) (runOp t c op n p f s) :=
  State.submit_held (State.upTo_held h) hf

theorem State.endSession_held (h : s.Held P) {a1 : Source} : (State.endSession s a1).Held P := by
  unfold State.endSession
  repeat' first
    | with_reducible assumption
    | split
    | with_reducible refine State.modSafety_held ?_
    | with_reducible refine State.Held.mk_of ?_

theorem State.dropOwner_held (h : s.Held P) {a1 : Source} : (State.dropOwner s a1).Held P := by
  unfold State.dropOwner
  repeat' first
    | with_reducible assumption
    | split
    | with_reducible refine State.endSession_held ?_
    | with_reducible refine State.Held.mk_of ?_

theorem State.loseOwner_held (h : s.Held P) {a1 : Source} : (State.loseOwner s a1).Held P := by
  unfold State.loseOwner
  try lift_lets
  repeat' first
    | with_reducible assumption
    | (intro x; refine (?_ : State.Held P x → _) ?_; (on_goal 1 => (intro _; try clear_value x)); (on_goal 2 => unfold x))
    | (intro x; try clear_value x)
    | split
    | lift_lets
    | with_reducible refine State.modMotion_held ?_
    | with_reducible refine State.raise_held ?_
    | with_reducible refine State.dropOwner_held ?_
    | with_reducible refine State.Held.mk_of ?_

theorem State.shelterExit_held (h : s.Held P) {a1 : Source} : (State.shelterExit s a1).Held P := by
  unfold State.shelterExit
  repeat' first
    | with_reducible assumption
    | with_reducible refine State.modMotion_held ?_
    | with_reducible refine State.info_held ?_
    | with_reducible refine State.Held.mk_of ?_

theorem Reply.giveWay_owed {now : Tick} {t : Option (Tick × Nat)} {o c : Source} (l : List Reply) :
    ((l.map (Reply.giveWay now t o c)).countP fun r => !r.nc) = l.countP fun r => !r.nc := by
  rw [List.countP_map]
  congr 1
  funext r
  show (!(Reply.giveWay now t o c r).nc) = !r.nc
  unfold Reply.giveWay
  split
  · split <;> rfl
  · rfl

theorem State.ownTie_held (h : s.Held P) {a1 : Source} : (State.ownTie s a1).Held P := by
  unfold State.ownTie
  split
  · exact h
  · split
    · exact State.modPort_held (State.Held.mk_of h) (fun p => ⟨rfl, Reply.giveWay_owed _⟩) (fun p hp => hp)
    · exact h

theorem opTakeOwnership_held {c : Source} {n : Nat} {p : Bytes} (h : s.Held P) : (opTakeOwnership c n p s).st.Held P := by
  unfold opTakeOwnership
  have hw : (State.modPort { s.ownTie c with owner := some c } c fun r =>
      { r with ownMs := getN p 0 4, lastOk := max r.lastOk (s.ownTie c).stamp, ownLate := false, tookAt := some ((s.ownTie c).stamp, n) }).Held P :=
    State.modPort_held (State.Held.mk_of (State.ownTie_held h)) (fun p => ⟨rfl, rfl⟩) (fun p hp => hp)
  dsimp only
  split
  · exact h
  · split
    · exact h
    · refine Rep.ok_held ?_
      split
      · split
        · exact State.modMotion_held hw
        · exact State.shelterExit_held hw
      · exact hw

theorem opReleaseOwnership_held (h : s.Held P) : (opReleaseOwnership s).st.Held P := by
  unfold opReleaseOwnership
  repeat' first
    | with_reducible assumption
    | split
    | with_reducible refine Rep.ok_held ?_
    | with_reducible refine State.dropOwner_held ?_

theorem opNop_held (h : s.Held P) {a1 : Bytes} : (opNop a1 s).st.Held P := by
  unfold opNop
  repeat' first
    | with_reducible assumption
    | with_reducible refine Rep.ok_held ?_

theorem opIdentify_held (h : s.Held P) : (opIdentify s).st.Held P := by
  unfold opIdentify
  try lift_lets
  repeat' first
    | with_reducible assumption
    | (intro x; refine (?_ : State.Held P x → _) ?_; (on_goal 1 => (intro _; try clear_value x)); (on_goal 2 => unfold x))
    | (intro x; try clear_value x)
    | lift_lets
    | with_reducible refine Rep.ok_held ?_

theorem opResetDevice_held (h : s.Held P) {a1 : Source} {a2 : Bytes} : (opResetDevice a1 a2 s).st.Held P := by
  unfold opResetDevice
  repeat' first
    | with_reducible assumption
    | split
    | with_reducible refine State.modPower_held ?_
    | with_reducible refine Rep.ok_held ?_
    | with_reducible refine Rep.no_held ?_
    | with_reducible refine State.Held.mk_of ?_

theorem opReadEvents_held (h : s.Held P) {a1 : Source} {a2 : Bytes} : (opReadEvents a1 a2 s).st.Held P := by
  unfold opReadEvents
  try lift_lets
  repeat' first
    | with_reducible assumption
    | (intro x; refine (?_ : State.Held P x → _) ?_; (on_goal 1 => (intro _; try clear_value x)); (on_goal 2 => unfold x))
    | (intro x; try clear_value x)
    | split
    | lift_lets
    | with_reducible refine Rep.ok_held ?_
    | with_reducible refine Rep.no_held ?_

theorem opAckEvents_held {c : Source} {p : Bytes} (h : s.Held P) : (opAckEvents c p s).st.Held P := by
  have hd : ∀ (e : Nat) (l : List EventRec), (dropThrough e l).length ≤ l.length := by
    intro e l
    induction l with
    | nil => simp [dropThrough]
    | cons a l ih =>
      unfold dropThrough; split
      · simp
      · simp; omega
  unfold opAckEvents
  lift_lets
  intro x y z
  have hy : y.Held P := by
    unfold y
    refine State.modPort_held h (fun p => ⟨rfl, rfl⟩) (fun p hp => ⟨?_, hp.2⟩)
    exact (hd _ _).trans hp.1
  clear_value y
  intro v
  have hv : v.Held P := by
    unfold v; split
    · exact hy
    · refine State.recEvent_held (State.storeFor_held ?_)
      exact State.modPort_held hy (fun p => ⟨rfl, rfl⟩) (fun p hp => ⟨hp.1, hp.2.1, Nat.two_pow_pos 32⟩)
  clear_value v
  split
  · exact hv
  · exact h

theorem opGetTime_held (h : s.Held P) : (opGetTime s).st.Held P := by
  unfold opGetTime
  repeat' first
    | with_reducible assumption
    | with_reducible refine Rep.ok_held ?_

theorem opSetCyclic_held (h : s.Held P) {a1 : Source} {a2 : Bytes} : (opSetCyclic a1 a2 s).st.Held P := by
  unfold opSetCyclic
  try lift_lets
  repeat' first
    | with_reducible assumption
    | (intro x; refine (?_ : State.Held P x → _) ?_; (on_goal 1 => (intro _; try clear_value x)); (on_goal 2 => unfold x))
    | (intro x; try clear_value x)
    | split
    | lift_lets
    | with_reducible refine State.modPort_held ?_ (fun p => ?_) (fun p hp => ?_)
    | exact ‹Port.queueOk _›
    | ((with_reducible refine ⟨?_, ?_⟩) <;> first | rfl | (dsimp only; split <;> rfl))
    | with_reducible refine Rep.ok_held ?_
    | with_reducible refine Rep.no_held ?_
    | with_reducible refine State.Held.mk_of ?_

theorem opGetState_held (h : s.Held P) {a1 : Source} : (opGetState a1 s).st.Held P := by
  unfold opGetState
  repeat' first
    | with_reducible assumption
    | with_reducible refine Rep.ok_held ?_

theorem opGetMeasurements_held (h : s.Held P) {a1 : Bytes} : (opGetMeasurements a1 s).st.Held P := by
  unfold opGetMeasurements
  try lift_lets
  repeat' first
    | with_reducible assumption
    | (intro x; refine (?_ : State.Held P x → _) ?_; (on_goal 1 => (intro _; try clear_value x)); (on_goal 2 => unfold x))
    | (intro x; try clear_value x)
    | split
    | lift_lets
    | with_reducible refine Rep.ok_held ?_
    | with_reducible refine Rep.no_held ?_

theorem opGetCounters_held (h : s.Held P) : (opGetCounters s).st.Held P := by
  unfold opGetCounters
  try lift_lets
  repeat' first
    | with_reducible assumption
    | (intro x; refine (?_ : State.Held P x → _) ?_; (on_goal 1 => (intro _; try clear_value x)); (on_goal 2 => unfold x))
    | (intro x; try clear_value x)
    | lift_lets
    | with_reducible refine Rep.ok_held ?_
    | with_reducible refine State.overCredit_held ?_

theorem opGetFaults_held (h : s.Held P) : (opGetFaults s).st.Held P := by
  unfold opGetFaults
  try lift_lets
  repeat' first
    | with_reducible assumption
    | (intro x; refine (?_ : State.Held P x → _) ?_; (on_goal 1 => (intro _; try clear_value x)); (on_goal 2 => unfold x))
    | (intro x; try clear_value x)
    | lift_lets
    | with_reducible refine held_foldl ?_ (fun s x h => ?_)
    | with_reducible refine Rep.ok_held ?_

theorem execNop_held (h : s.Held (Bal q none)) {a1 : Tick} {a2 : Source} {a3 : Nat} {a4 : Bytes} : OutHeld (Bal q none) (execNop a1 a2 a3 a4 s) := by
  unfold execNop
  refine runOp_held h fun m s _ h => ?_
  first
    | exact h
    | exact opNop_held h

theorem execIdentify_held (h : s.Held (Bal q none)) {a1 : Tick} {a2 : Source} {a3 : Nat} {a4 : Bytes} : OutHeld (Bal q none) (execIdentify a1 a2 a3 a4 s) := by
  unfold execIdentify
  refine runOp_held h fun m s _ h => ?_
  first
    | exact h
    | exact opIdentify_held h

theorem execResetDevice_held (h : s.Held (Bal q none)) {a1 : Tick} {a2 : Source} {a3 : Nat} {a4 : Bytes} : OutHeld (Bal q none) (execResetDevice a1 a2 a3 a4 s) := by
  unfold execResetDevice
  refine runOp_held h fun m s _ h => ?_
  first
    | exact h
    | exact opResetDevice_held h

theorem execTakeOwnership_held (h : s.Held (Bal q none)) {a1 : Tick} {a2 : Source} {a3 : Nat} {a4 : Bytes} : OutHeld (Bal q none) (execTakeOwnership a1 a2 a3 a4 s) := by
  unfold execTakeOwnership
  refine runOp_held h fun m s _ h => ?_
  first
    | exact h
    | exact opTakeOwnership_held h

theorem execReleaseOwnership_held (h : s.Held (Bal q none)) {a1 : Tick} {a2 : Source} {a3 : Nat} {a4 : Bytes} : OutHeld (Bal q none) (execReleaseOwnership a1 a2 a3 a4 s) := by
  unfold execReleaseOwnership
  refine runOp_held h fun m s _ h => ?_
  first
    | exact h
    | exact opReleaseOwnership_held h

theorem execReadEvents_held (h : s.Held (Bal q none)) {a1 : Tick} {a2 : Source} {a3 : Nat} {a4 : Bytes} : OutHeld (Bal q none) (execReadEvents a1 a2 a3 a4 s) := by
  unfold execReadEvents
  refine runOp_held h fun m s _ h => ?_
  first
    | exact h
    | exact opReadEvents_held h

theorem execAckEvents_held (h : s.Held (Bal q none)) {a1 : Tick} {a2 : Source} {a3 : Nat} {a4 : Bytes} : OutHeld (Bal q none) (execAckEvents a1 a2 a3 a4 s) := by
  unfold execAckEvents
  refine runOp_held h fun m s _ h => ?_
  first
    | exact h
    | exact opAckEvents_held h

theorem execSetCyclic_held (h : s.Held (Bal q none)) {a1 : Tick} {a2 : Source} {a3 : Nat} {a4 : Bytes} : OutHeld (Bal q none) (execSetCyclic a1 a2 a3 a4 s) := by
  unfold execSetCyclic
  refine runOp_held h fun m s _ h => ?_
  first
    | exact h
    | exact opSetCyclic_held h

theorem execGetTime_held (h : s.Held (Bal q none)) {a1 : Tick} {a2 : Source} {a3 : Nat} {a4 : Bytes} : OutHeld (Bal q none) (execGetTime a1 a2 a3 a4 s) := by
  unfold execGetTime
  refine runOp_held h fun m s _ h => ?_
  first
    | exact h
    | exact opGetTime_held h

theorem execGetState_held (h : s.Held (Bal q none)) {a1 : Tick} {a2 : Source} {a3 : Nat} {a4 : Bytes} : OutHeld (Bal q none) (execGetState a1 a2 a3 a4 s) := by
  unfold execGetState
  refine runOp_held h fun m s _ h => ?_
  first
    | exact h
    | exact opGetState_held h

theorem execGetMeasurements_held (h : s.Held (Bal q none)) {a1 : Tick} {a2 : Source} {a3 : Nat} {a4 : Bytes} : OutHeld (Bal q none) (execGetMeasurements a1 a2 a3 a4 s) := by
  unfold execGetMeasurements
  refine runOp_held h fun m s _ h => ?_
  first
    | exact h
    | exact opGetMeasurements_held h

theorem execGetFaults_held (h : s.Held (Bal q none)) {a1 : Tick} {a2 : Source} {a3 : Nat} {a4 : Bytes} : OutHeld (Bal q none) (execGetFaults a1 a2 a3 a4 s) := by
  unfold execGetFaults
  refine runOp_held h fun m s _ h => ?_
  first
    | exact h
    | exact opGetFaults_held h

theorem execGetCounters_held (h : s.Held (Bal q none)) {a1 : Tick} {a2 : Source} {a3 : Nat} {a4 : Bytes} : OutHeld (Bal q none) (execGetCounters a1 a2 a3 a4 s) := by
  unfold execGetCounters
  refine runOp_held h fun m s _ h => ?_
  first
    | exact h
    | exact opGetCounters_held h

theorem execOwnTimeoutExpiry_held (h : s.Held P) {a1 : Tick} {a2 : Source} : OutHeld P (execOwnTimeoutExpiry a1 a2 s) := by
  unfold execOwnTimeoutExpiry
  try lift_lets
  repeat' first
    | with_reducible assumption
    | (intro x; refine (?_ : State.Held P x → _) ?_; (on_goal 1 => (intro _; try clear_value x)); (on_goal 2 => unfold x))
    | (intro x; try clear_value x)
    | split
    | lift_lets
    | with_reducible refine State.upTo_held ?_
    | with_reducible refine OutHeld.next ?_
    | with_reducible refine OutHeld.next ?_
    | with_reducible refine State.loseOwner_held ?_

theorem State.cleared_held (h : s.Held (Bal q none)) {d : DevState} : (State.cleared s d).Held (Bal q none) := by
  refine Bal.held ⟨h.holds.pending, fun c => by cases c <;> rfl, fun c => ?_, ?_, fun b hb => ?_, List.Pairwise.nil, Nat.zero_le _, rfl⟩
  · cases c <;> exact ⟨Nat.zero_le _, Nat.two_pow_pos 16, Nat.two_pow_pos 32⟩
  · exact ⟨Nat.two_pow_pos 32, Nat.two_pow_pos 32, Nat.two_pow_pos 32, Nat.two_pow_pos 32, Nat.two_pow_pos 32, Nat.two_pow_pos 32,
      Nat.two_pow_pos 32⟩
  · exact absurd hb (List.not_mem_nil)

theorem State.enterReset_held (h : s.Held (Bal q none)) {a1 : BitVec 32} : (State.enterReset s a1).Held (Bal q none) := by
  unfold State.enterReset
  try lift_lets
  repeat' first
    | with_reducible assumption
    | (intro x; refine (?_ : State.Held (Bal q none) x → _) ?_; (on_goal 1 => (intro _; try clear_value x)); (on_goal 2 => unfold x))
    | (intro x; try clear_value x)
    | split
    | lift_lets
    | with_reducible refine State.modPower_held ?_
    | with_reducible refine State.cleared_held ?_
    | with_reducible refine State.Held.mk_of ?_

theorem State.kpReset_held (h : s.Held (Bal q none)) {a1 : BitVec 32} {a2 : KpHold} {a3 : Nat} : (State.kpReset s a1 a2 a3).Held (Bal q none) := by
  unfold State.kpReset
  try lift_lets
  repeat' first
    | with_reducible assumption
    | (intro x; refine (?_ : State.Held (Bal q none) x → _) ?_; (on_goal 1 => (intro _; try clear_value x)); (on_goal 2 => unfold x))
    | (intro x; try clear_value x)
    | split
    | lift_lets
    | with_reducible refine State.modPower_held ?_
    | with_reducible refine State.modSafety_held ?_
    | with_reducible refine State.hold_held ?_
    | with_reducible refine State.enterReset_held ?_
    | with_reducible refine State.Held.mk_of ?_

theorem State.selfTest_held (h : s.Held P) {a1 : Bool} : (State.selfTest s a1).Held P := by
  unfold State.selfTest
  repeat' first
    | with_reducible assumption
    | split
    | with_reducible refine State.modSafety_held ?_
    | with_reducible refine Rep.ok_held ?_
    | with_reducible refine State.Held.mk_of ?_

theorem execVinOn_held (h : s.Held P) {a1 : Tick} {a2 : Bool} : OutHeld P (execVinOn a1 a2 s) := by
  unfold execVinOn
  try lift_lets
  repeat' first
    | with_reducible assumption
    | (intro x; refine (?_ : State.Held P x → _) ?_; (on_goal 1 => (intro _; try clear_value x)); (on_goal 2 => unfold x))
    | (intro x; try clear_value x)
    | split
    | lift_lets
    | with_reducible refine State.modPower_held ?_
    | with_reducible refine State.upTo_held ?_
    | with_reducible refine OutHeld.next ?_
    | with_reducible refine OutHeld.next ?_
    | with_reducible refine Rep.ok_held ?_
    | with_reducible refine State.selfTest_held ?_
    | with_reducible refine State.Held.mk_of ?_

theorem State.powerDown_held (h : s.Held P) {a1 : Bytes} : (State.powerDown s a1).Held P := by
  unfold State.powerDown
  try lift_lets
  repeat' first
    | with_reducible assumption
    | (intro x; refine (?_ : State.Held P x → _) ?_; (on_goal 1 => (intro _; try clear_value x)); (on_goal 2 => unfold x))
    | (intro x; try clear_value x)
    | lift_lets
    | with_reducible refine State.modPower_held ?_
    | with_reducible refine State.stopAll_held ?_
    | with_reducible refine State.raise_held ?_
    | with_reducible refine State.flushHist_held ?_
    | with_reducible refine State.Held.mk_of ?_

theorem State.aonEvent_held (h : s.Held P) {a1 : Nat} {a2 : Bytes} : (State.aonEvent s a1 a2).Held P := by
  unfold State.aonEvent
  repeat' first
    | with_reducible assumption
    | split
    | with_reducible refine State.raise_held ?_
    | with_reducible refine State.powerDown_held ?_

theorem State.aonRaise_held (h : s.Held P) {a1 : Nat} {a2 : Bytes} : (State.aonRaise s a1 a2).Held P := by
  unfold State.aonRaise
  repeat' first
    | with_reducible assumption
    | split
    | with_reducible refine State.modPower_held ?_
    | with_reducible refine State.aonEvent_held ?_
    | with_reducible refine State.Held.mk_of ?_

theorem State.aonReport_held (h : s.Held P) : (State.aonReport s).Held P := by
  unfold State.aonReport
  repeat' first
    | with_reducible assumption
    | with_reducible refine State.modPower_held ?_
    | with_reducible refine held_foldl ?_ (fun s x h => ?_)
    | with_reducible refine State.aonEvent_held ?_
    | with_reducible refine State.Held.mk_of ?_

theorem execVinLow_held (h : s.Held P) {a1 : Tick} {a2 : Nat} : OutHeld P (execVinLow a1 a2 s) := by
  unfold execVinLow
  try lift_lets
  repeat' first
    | with_reducible assumption
    | (intro x; refine (?_ : State.Held P x → _) ?_; (on_goal 1 => (intro _; try clear_value x)); (on_goal 2 => unfold x))
    | (intro x; try clear_value x)
    | split
    | lift_lets
    | with_reducible refine State.modPower_held ?_
    | with_reducible refine State.upTo_held ?_
    | with_reducible refine OutHeld.next ?_
    | with_reducible refine OutHeld.next ?_
    | with_reducible refine State.aonRaise_held ?_
    | with_reducible refine State.Held.mk_of ?_

theorem execPowerFail_held (h : s.Held P) {a1 : Tick} {a2 : Nat} : OutHeld P (execPowerFail a1 a2 s) := by
  unfold execPowerFail
  try lift_lets
  repeat' first
    | with_reducible assumption
    | (intro x; refine (?_ : State.Held P x → _) ?_; (on_goal 1 => (intro _; try clear_value x)); (on_goal 2 => unfold x))
    | (intro x; try clear_value x)
    | split
    | lift_lets
    | with_reducible refine State.modPower_held ?_
    | with_reducible refine State.upTo_held ?_
    | with_reducible refine OutHeld.next ?_
    | with_reducible refine OutHeld.next ?_
    | with_reducible refine State.aonRaise_held ?_
    | with_reducible refine State.Held.mk_of ?_

theorem execVinReset_held (h : s.Held (Bal q none)) {a1 : Tick} : OutHeld (Bal q none) (execVinReset a1 s) := by
  unfold execVinReset
  try lift_lets
  repeat' first
    | with_reducible assumption
    | (intro x; refine (?_ : State.Held (Bal q none) x → _) ?_; (on_goal 1 => (intro _; try clear_value x)); (on_goal 2 => unfold x))
    | (intro x; try clear_value x)
    | split
    | lift_lets
    | with_reducible refine State.modPower_held ?_
    | with_reducible refine State.upTo_held ?_
    | with_reducible refine OutHeld.next ?_
    | with_reducible refine OutHeld.next ?_
    | with_reducible refine State.enterReset_held ?_
    | with_reducible refine State.Held.mk_of ?_

theorem execAonMin_held (h : s.Held (Bal q none)) {a1 : Tick} : OutHeld (Bal q none) (execAonMin a1 s) := by
  unfold execAonMin
  try lift_lets
  repeat' first
    | with_reducible assumption
    | (intro x; refine (?_ : State.Held (Bal q none) x → _) ?_; (on_goal 1 => (intro _; try clear_value x)); (on_goal 2 => unfold x))
    | (intro x; try clear_value x)
    | split
    | lift_lets
    | with_reducible refine State.modPower_held ?_
    | with_reducible refine State.modSafety_held ?_
    | with_reducible refine State.upTo_held ?_
    | with_reducible refine OutHeld.next ?_
    | with_reducible refine OutHeld.next ?_
    | with_reducible refine State.cleared_held ?_
    | with_reducible refine State.Held.mk_of ?_

theorem execVinHigh_held (h : s.Held P) {a1 : Tick} {a2 : Nat} : OutHeld P (execVinHigh a1 a2 s) := by
  unfold execVinHigh
  try lift_lets
  repeat' first
    | with_reducible assumption
    | (intro x; refine (?_ : State.Held P x → _) ?_; (on_goal 1 => (intro _; try clear_value x)); (on_goal 2 => unfold x))
    | (intro x; try clear_value x)
    | split
    | lift_lets
    | with_reducible refine State.modPower_held ?_
    | with_reducible refine State.upTo_held ?_
    | with_reducible refine OutHeld.next ?_
    | with_reducible refine OutHeld.next ?_
    | with_reducible refine State.aonRaise_held ?_
    | with_reducible refine State.Held.mk_of ?_

theorem execVinHighLasting_held (h : s.Held P) {a1 : Tick} : OutHeld P (execVinHighLasting a1 s) := by
  unfold execVinHighLasting
  try lift_lets
  repeat' first
    | with_reducible assumption
    | (intro x; refine (?_ : State.Held P x → _) ?_; (on_goal 1 => (intro _; try clear_value x)); (on_goal 2 => unfold x))
    | (intro x; try clear_value x)
    | split
    | lift_lets
    | with_reducible refine State.upTo_held ?_
    | with_reducible refine OutHeld.next ?_
    | with_reducible refine OutHeld.next ?_
    | with_reducible refine State.lapseFault_held ?_

theorem execVinOvr_held (h : s.Held (Bal q none)) {a1 : Tick} : OutHeld (Bal q none) (execVinOvr a1 s) := by
  unfold execVinOvr
  try lift_lets
  repeat' first
    | with_reducible assumption
    | (intro x; refine (?_ : State.Held (Bal q none) x → _) ?_; (on_goal 1 => (intro _; try clear_value x)); (on_goal 2 => unfold x))
    | (intro x; try clear_value x)
    | split
    | lift_lets
    | with_reducible refine State.modPower_held ?_
    | with_reducible refine State.upTo_held ?_
    | with_reducible refine OutHeld.next ?_
    | with_reducible refine OutHeld.next ?_
    | with_reducible refine State.enterReset_held ?_
    | with_reducible refine State.Held.mk_of ?_

theorem execVinOvrRelease_held (h : s.Held P) {a1 : VinOvrEnd} : OutHeld P (execVinOvrRelease a1 s) := by
  unfold execVinOvrRelease
  try lift_lets
  repeat' first
    | with_reducible assumption
    | (intro x; refine (?_ : State.Held P x → _) ?_; (on_goal 1 => (intro _; try clear_value x)); (on_goal 2 => unfold x))
    | (intro x; try clear_value x)
    | split
    | lift_lets
    | with_reducible refine State.modPower_held ?_
    | with_reducible refine State.upTo_held ?_
    | with_reducible refine OutHeld.next ?_
    | with_reducible refine OutHeld.next ?_
    | with_reducible refine Rep.ok_held ?_
    | with_reducible refine State.selfTest_held ?_
    | with_reducible refine State.Held.mk_of ?_

theorem execRailFault_held (h : s.Held (Bal q none)) {a1 : Tick} {a2 : Rail} : OutHeld (Bal q none) (execRailFault a1 a2 s) := by
  unfold execRailFault
  try lift_lets
  repeat' first
    | with_reducible assumption
    | (intro x; refine (?_ : State.Held (Bal q none) x → _) ?_; (on_goal 1 => (intro _; try clear_value x)); (on_goal 2 => unfold x))
    | (intro x; try clear_value x)
    | split
    | lift_lets
    | with_reducible refine State.upTo_held ?_
    | with_reducible refine OutHeld.next ?_
    | with_reducible refine OutHeld.next ?_
    | with_reducible refine State.enterReset_held ?_
    | with_reducible refine State.kpReset_held ?_

theorem execClockFault_held (h : s.Held (Bal q none)) {a1 : Tick} : OutHeld (Bal q none) (execClockFault a1 s) := by
  unfold execClockFault
  try lift_lets
  repeat' first
    | with_reducible assumption
    | (intro x; refine (?_ : State.Held (Bal q none) x → _) ?_; (on_goal 1 => (intro _; try clear_value x)); (on_goal 2 => unfold x))
    | (intro x; try clear_value x)
    | split
    | lift_lets
    | with_reducible refine State.upTo_held ?_
    | with_reducible refine OutHeld.next ?_
    | with_reducible refine OutHeld.next ?_
    | with_reducible refine State.kpReset_held ?_

theorem execKpResetHoldEnd_held (h : s.Held P) {a1 : Tick} {a2 : Bool} : OutHeld P (execKpResetHoldEnd a1 a2 s) := by
  unfold execKpResetHoldEnd
  try lift_lets
  repeat' first
    | with_reducible assumption
    | (intro x; refine (?_ : State.Held P x → _) ?_; (on_goal 1 => (intro _; try clear_value x)); (on_goal 2 => unfold x))
    | (intro x; try clear_value x)
    | split
    | lift_lets
    | with_reducible refine State.modPower_held ?_
    | with_reducible refine State.upTo_held ?_
    | with_reducible refine OutHeld.next ?_
    | with_reducible refine OutHeld.next ?_
    | with_reducible refine Rep.ok_held ?_
    | with_reducible refine State.selfTest_held ?_
    | with_reducible refine State.Held.mk_of ?_

theorem execXtal32Qualified_held (h : s.Held P) {a1 : Tick} : OutHeld P (execXtal32Qualified a1 s) := by
  unfold execXtal32Qualified
  try lift_lets
  repeat' first
    | with_reducible assumption
    | (intro x; refine (?_ : State.Held P x → _) ?_; (on_goal 1 => (intro _; try clear_value x)); (on_goal 2 => unfold x))
    | (intro x; try clear_value x)
    | split
    | lift_lets
    | with_reducible refine State.modPower_held ?_
    | with_reducible refine State.upTo_held ?_
    | with_reducible refine OutHeld.next ?_
    | with_reducible refine OutHeld.next ?_
    | with_reducible refine State.Held.mk_of ?_

theorem execXtal32Fail_held (h : s.Held P) {a1 : Tick} {a2 : XtalFailure} : OutHeld P (execXtal32Fail a1 a2 s) := by
  unfold execXtal32Fail
  try lift_lets
  repeat' first
    | with_reducible assumption
    | (intro x; refine (?_ : State.Held P x → _) ?_; (on_goal 1 => (intro _; try clear_value x)); (on_goal 2 => unfold x))
    | (intro x; try clear_value x)
    | split
    | lift_lets
    | with_reducible refine State.modPower_held ?_
    | with_reducible refine State.upTo_held ?_
    | with_reducible refine OutHeld.next ?_
    | with_reducible refine OutHeld.next ?_
    | with_reducible refine State.aonRaise_held ?_
    | with_reducible refine State.Held.mk_of ?_

theorem execXtal32Retry_held (h : s.Held P) {a1 : Tick} : OutHeld P (execXtal32Retry a1 s) := by
  unfold execXtal32Retry
  repeat' first
    | with_reducible assumption
    | with_reducible refine State.upTo_held ?_
    | with_reducible refine OutHeld.next ?_
    | with_reducible refine OutHeld.next ?_

theorem execResetNLow_held (h : s.Held (Bal q none)) {a1 : Tick} {a2 : Nat} : OutHeld (Bal q none) (execResetNLow a1 a2 s) := by
  have h0 : (s.upTo a1).Held (Bal q none) := State.upTo_held h
  have h1 : ((s.upTo a1).draw).2.Held (Bal q none) := State.draw_held h0
  simp only [execResetNLow]
  split
  · exact OutHeld.next h0
  · refine OutHeld.next ?_
    by_cases hl : a2 < 2000
    · rw [if_pos hl]
      dsimp only
      split
      · exact State.enterReset_held (State.modPower_held h1)
      · exact h1
    · rw [if_neg hl]
      exact State.enterReset_held (State.modPower_held h0)

theorem execResetNRelease_held (h : s.Held P) {a1 : Tick} {a2 : Nat} : OutHeld P (execResetNRelease a1 a2 s) := by
  unfold execResetNRelease
  try lift_lets
  repeat' first
    | with_reducible assumption
    | (intro x; refine (?_ : State.Held P x → _) ?_; (on_goal 1 => (intro _; try clear_value x)); (on_goal 2 => unfold x))
    | (intro x; try clear_value x)
    | split
    | lift_lets
    | with_reducible refine State.modPower_held ?_
    | with_reducible refine State.upTo_held ?_
    | with_reducible refine OutHeld.next ?_
    | with_reducible refine OutHeld.next ?_
    | with_reducible refine State.Held.mk_of ?_

theorem execCommandResetDue_held (h : s.Held (Bal q none)) {a1 : Tick} : OutHeld (Bal q none) (execCommandResetDue a1 s) := by
  unfold execCommandResetDue
  try lift_lets
  repeat' first
    | with_reducible assumption
    | (intro x; refine (?_ : State.Held (Bal q none) x → _) ?_; (on_goal 1 => (intro _; try clear_value x)); (on_goal 2 => unfold x))
    | (intro x; try clear_value x)
    | split
    | lift_lets
    | with_reducible refine State.upTo_held ?_
    | with_reducible refine OutHeld.next ?_
    | with_reducible refine OutHeld.next ?_
    | with_reducible refine State.enterReset_held ?_

theorem State.bootRecord_held (h : s.Held P) : (State.bootRecord s).Held P := by
  unfold State.bootRecord
  repeat' first
    | with_reducible assumption
    | split
    | with_reducible refine State.modPower_held ?_
    | with_reducible refine State.draw_held ?_
    | with_reducible refine State.appendHist_held ?_
    | with_reducible refine State.Held.mk_of ?_

theorem State.memCheck_held (h : s.Held P) {a1 : MemFound} : (State.memCheck s a1).Held P := by
  unfold State.memCheck
  repeat' first
    | with_reducible assumption
    | split
    | with_reducible refine State.modPower_held ?_
    | with_reducible refine State.bootRecord_held ?_
    | with_reducible refine State.Held.mk_of ?_

theorem execResetExit_held (h : s.Held P) {a1 : ResetEnd} : OutHeld P (execResetExit a1 s) := by
  unfold execResetExit
  try lift_lets
  repeat' first
    | with_reducible assumption
    | (intro x; refine (?_ : State.Held P x → _) ?_; (on_goal 1 => (intro _; try clear_value x)); (on_goal 2 => unfold x))
    | (intro x; try clear_value x)
    | split
    | lift_lets
    | with_reducible refine State.modPower_held ?_
    | with_reducible refine State.upTo_held ?_
    | with_reducible refine OutHeld.next ?_
    | with_reducible refine OutHeld.next ?_
    | with_reducible refine State.bootSelect_held ?_
    | with_reducible refine State.memCheck_held ?_
    | with_reducible refine State.Held.mk_of ?_

theorem State.faultIfBlocked_held (h : s.Held P) : (State.faultIfBlocked s).Held P := by
  unfold State.faultIfBlocked
  repeat' first
    | with_reducible assumption
    | split
    | with_reducible refine State.enterFault_held ?_

theorem execBootComplete_held (h : s.Held P) {a1 : Tick} : OutHeld P (execBootComplete a1 s) := by
  unfold execBootComplete
  try lift_lets
  repeat' first
    | with_reducible assumption
    | (intro x; refine (?_ : State.Held P x → _) ?_; (on_goal 1 => (intro _; try clear_value x)); (on_goal 2 => unfold x))
    | (intro x; try clear_value x)
    | split
    | lift_lets
    | with_reducible refine State.modSafety_held ?_
    | with_reducible refine State.modApp_held ?_
    | with_reducible refine State.modUpd_held ?_ rfl
    | with_reducible refine State.upTo_held ?_
    | with_reducible refine held_foldl ?_ (fun s x h => ?_)
    | with_reducible refine OutHeld.next ?_
    | with_reducible refine OutHeld.next ?_
    | with_reducible refine State.raise_held ?_
    | with_reducible refine State.histSwitch_held ?_
    | with_reducible refine State.bootMarker_held ?_
    | with_reducible refine State.aonReport_held ?_
    | with_reducible refine State.bootRecord_held ?_
    | with_reducible refine State.faultIfBlocked_held ?_
    | with_reducible refine State.Held.mk_of ?_

theorem execDramClearComplete_held (h : s.Held P) {a1 : Tick} : OutHeld P (execDramClearComplete a1 s) := by
  unfold execDramClearComplete
  try lift_lets
  repeat' first
    | with_reducible assumption
    | (intro x; refine (?_ : State.Held P x → _) ?_; (on_goal 1 => (intro _; try clear_value x)); (on_goal 2 => unfold x))
    | (intro x; try clear_value x)
    | split
    | lift_lets
    | with_reducible refine State.modPower_held ?_
    | with_reducible refine State.upTo_held ?_
    | with_reducible refine OutHeld.next ?_
    | with_reducible refine OutHeld.next ?_
    | with_reducible refine State.Held.mk_of ?_

theorem State.wdExpire_held (h : s.Held (Bal q none)) : (State.wdExpire s).Held (Bal q none) := by
  unfold State.wdExpire
  repeat' first
    | with_reducible assumption
    | with_reducible refine State.kpReset_held ?_

theorem execWatchdogService_held (h : s.Held (Bal q none)) {a1 : KpStamp} {a2 : BitVec 16} : OutHeld (Bal q none) (execWatchdogService a1 a2 s) := by
  unfold execWatchdogService
  try lift_lets
  repeat' first
    | with_reducible assumption
    | (intro x; refine (?_ : State.Held (Bal q none) x → _) ?_; (on_goal 1 => (intro _; try clear_value x)); (on_goal 2 => unfold x))
    | (intro x; try clear_value x)
    | (have hx := ‹_ = (_, _)›; have h2 := congrArg Prod.snd hx; have h1 := congrArg Prod.fst hx; dsimp only at h1 h2; subst h1 h2; clear hx)
    | split
    | lift_lets
    | with_reducible refine State.modSafety_held ?_
    | with_reducible refine State.upTo_held ?_
    | with_reducible refine State.draw_held ?_
    | with_reducible refine OutHeld.next ?_
    | with_reducible refine OutHeld.next ?_
    | with_reducible refine State.upKt_held ?_
    | with_reducible refine State.wdExpire_held ?_
    | with_reducible refine State.Held.mk_of ?_

theorem execWatchdogExpiry_held (h : s.Held (Bal q none)) {a1 : KpStamp} : OutHeld (Bal q none) (execWatchdogExpiry a1 s) := by
  unfold execWatchdogExpiry
  try lift_lets
  repeat' first
    | with_reducible assumption
    | (intro x; refine (?_ : State.Held (Bal q none) x → _) ?_; (on_goal 1 => (intro _; try clear_value x)); (on_goal 2 => unfold x))
    | (intro x; try clear_value x)
    | split
    | lift_lets
    | with_reducible refine State.upTo_held ?_
    | with_reducible refine OutHeld.next ?_
    | with_reducible refine OutHeld.next ?_
    | with_reducible refine State.upKt_held ?_
    | with_reducible refine State.wdExpire_held ?_

theorem State.modFe_held (h : s.Held P) {a1 : Nat} {a2 : FieldEng → FieldEng} : (State.modFe s a1 a2).Held P := by
  unfold State.modFe
  repeat' first
    | with_reducible assumption
    | with_reducible refine State.modStack_held ?_
    | with_reducible refine State.Held.mk_of ?_

theorem State.pwmRequest_held (h : s.Held P) {a1 : Nat} {a2 : Nat} {a3 : Nat} {a4 : Bool} : (State.pwmRequest s a1 a2 a3 a4).Held P := by
  unfold State.pwmRequest
  try lift_lets
  repeat' first
    | with_reducible assumption
    | (intro x; refine (?_ : State.Held P x → _) ?_; (on_goal 1 => (intro _; try clear_value x)); (on_goal 2 => unfold x))
    | (intro x; try clear_value x)
    | split
    | lift_lets
    | with_reducible refine State.modGate_held ?_
    | with_reducible refine State.Held.mk_of ?_

theorem State.cmpActivate_held (h : s.Held P) {a1 : Nat} : (State.cmpActivate s a1).Held P := by
  unfold State.cmpActivate
  repeat' first
    | with_reducible assumption
    | with_reducible refine State.modFe_held ?_

theorem State.feOverrun_held (h : s.Held P) {a1 : Nat} : (State.feOverrun s a1).Held P := by
  unfold State.feOverrun
  try lift_lets
  repeat' first
    | with_reducible assumption
    | (intro x; refine (?_ : State.Held P x → _) ?_; (on_goal 1 => (intro _; try clear_value x)); (on_goal 2 => unfold x))
    | (intro x; try clear_value x)
    | split
    | lift_lets
    | with_reducible refine held_foldl ?_ (fun s x h => ?_)
    | with_reducible refine State.raise_held ?_
    | with_reducible refine State.modFe_held ?_
    | with_reducible refine State.Held.mk_of ?_

theorem execPwmEdge_held (h : s.Held P) {a1 : Tick} {a2 : Fin 4} {a3 : PwmEdgeInput} : OutHeld P (execPwmEdge a1 a2 a3 s) := by
  unfold execPwmEdge
  try lift_lets
  repeat' first
    | with_reducible assumption
    | (intro x; refine (?_ : State.Held P x → _) ?_; (on_goal 1 => (intro _; try clear_value x)); (on_goal 2 => unfold x))
    | (intro x; try clear_value x)
    | split
    | lift_lets
    | with_reducible refine State.upTo_held ?_
    | with_reducible refine OutHeld.next ?_
    | with_reducible refine OutHeld.next ?_
    | with_reducible refine State.settle_held ?_
    | with_reducible refine State.pwmRequest_held ?_
    | with_reducible refine State.cmpActivate_held ?_
    | with_reducible refine State.feOverrun_held ?_

theorem execNoCommandTimeout_held (h : s.Held P) {a1 : Tick} {a2 : Fin 28} : OutHeld P (execNoCommandTimeout a1 a2 s) := by
  unfold execNoCommandTimeout
  try lift_lets
  repeat' first
    | with_reducible assumption
    | (intro x; refine (?_ : State.Held P x → _) ?_; (on_goal 1 => (intro _; try clear_value x)); (on_goal 2 => unfold x))
    | (intro x; try clear_value x)
    | lift_lets
    | with_reducible refine State.modGate_held ?_
    | with_reducible refine State.upTo_held ?_
    | with_reducible refine OutHeld.next ?_
    | with_reducible refine OutHeld.next ?_
    | with_reducible refine State.settle_held ?_
    | with_reducible refine State.Held.mk_of ?_

theorem execShortCircuit_held (h : s.Held P) {a1 : Tick} {a2 : Fin 28} {a3 : Nat} : OutHeld P (execShortCircuit a1 a2 a3 s) := by
  unfold execShortCircuit
  try lift_lets
  repeat' first
    | with_reducible assumption
    | (intro x; refine (?_ : State.Held P x → _) ?_; (on_goal 1 => (intro _; try clear_value x)); (on_goal 2 => unfold x))
    | (intro x; try clear_value x)
    | split
    | lift_lets
    | with_reducible refine State.modGate_held ?_
    | with_reducible refine State.upTo_held ?_
    | with_reducible refine OutHeld.next ?_
    | with_reducible refine OutHeld.next ?_
    | with_reducible refine State.lockOut_held ?_
    | with_reducible refine State.settle_held ?_
    | with_reducible refine State.raise_held ?_

theorem execBoosterFault_held (h : s.Held P) {a1 : Tick} {a2 : Fin 28} {a3 : BoosterExpect} : OutHeld P (execBoosterFault a1 a2 a3 s) := by
  unfold execBoosterFault
  try lift_lets
  repeat' first
    | with_reducible assumption
    | (intro x; refine (?_ : State.Held P x → _) ?_; (on_goal 1 => (intro _; try clear_value x)); (on_goal 2 => unfold x))
    | (intro x; try clear_value x)
    | split
    | lift_lets
    | with_reducible refine State.modGate_held ?_
    | with_reducible refine State.upTo_held ?_
    | with_reducible refine OutHeld.next ?_
    | with_reducible refine OutHeld.next ?_
    | with_reducible refine State.lockOut_held ?_
    | with_reducible refine State.settle_held ?_
    | with_reducible refine State.raise_held ?_

theorem execGateSupplyUv_held (h : s.Held P) {a1 : Tick} {a2 : Fin 28} {a3 : GateRail} : OutHeld P (execGateSupplyUv a1 a2 a3 s) := by
  unfold execGateSupplyUv
  try lift_lets
  repeat' first
    | with_reducible assumption
    | (intro x; refine (?_ : State.Held P x → _) ?_; (on_goal 1 => (intro _; try clear_value x)); (on_goal 2 => unfold x))
    | (intro x; try clear_value x)
    | split
    | lift_lets
    | with_reducible refine State.modGate_held ?_
    | with_reducible refine State.upTo_held ?_
    | with_reducible refine OutHeld.next ?_
    | with_reducible refine OutHeld.next ?_
    | with_reducible refine State.lockOut_held ?_
    | with_reducible refine State.settle_held ?_
    | with_reducible refine State.raise_held ?_
    | with_reducible refine State.Held.mk_of ?_

theorem execGateSupplyUvEnd_held (h : s.Held P) {a1 : Tick} {a2 : Fin 28} {a3 : RailBack} : OutHeld P (execGateSupplyUvEnd a1 a2 a3 s) := by
  unfold execGateSupplyUvEnd
  try lift_lets
  repeat' first
    | with_reducible assumption
    | (intro x; refine (?_ : State.Held P x → _) ?_; (on_goal 1 => (intro _; try clear_value x)); (on_goal 2 => unfold x))
    | (intro x; try clear_value x)
    | split
    | lift_lets
    | with_reducible refine State.modGate_held ?_
    | with_reducible refine State.upTo_held ?_
    | with_reducible refine OutHeld.next ?_
    | with_reducible refine OutHeld.next ?_
    | with_reducible refine State.settle_held ?_
    | with_reducible refine State.Held.mk_of ?_

theorem execPlateauTimeout_held (h : s.Held P) {a1 : Tick} {a2 : Fin 28} : OutHeld P (execPlateauTimeout a1 a2 s) := by
  unfold execPlateauTimeout
  try lift_lets
  repeat' first
    | with_reducible assumption
    | (intro x; refine (?_ : State.Held P x → _) ?_; (on_goal 1 => (intro _; try clear_value x)); (on_goal 2 => unfold x))
    | (intro x; try clear_value x)
    | split
    | lift_lets
    | with_reducible refine State.modGate_held ?_
    | with_reducible refine State.upTo_held ?_
    | with_reducible refine OutHeld.next ?_
    | with_reducible refine OutHeld.next ?_
    | with_reducible refine State.Held.mk_of ?_

theorem execTransitionMeasured_held (h : s.Held P) {a1 : Tick} {a2 : Fin 28} {a3 : SwitchEdge} {a4 : Nat} : OutHeld P (execTransitionMeasured a1 a2 a3 a4 s) := by
  unfold execTransitionMeasured
  try lift_lets
  repeat' first
    | with_reducible assumption
    | (intro x; refine (?_ : State.Held P x → _) ?_; (on_goal 1 => (intro _; try clear_value x)); (on_goal 2 => unfold x))
    | (intro x; try clear_value x)
    | (have hx := ‹_ = (_, _)›; have h2 := congrArg Prod.snd hx; have h1 := congrArg Prod.fst hx; dsimp only at h1 h2; subst h1 h2; clear hx)
    | split
    | lift_lets
    | with_reducible refine State.modGate_held ?_
    | with_reducible refine State.upTo_held ?_
    | with_reducible refine OutHeld.next ?_
    | with_reducible refine OutHeld.next ?_
    | with_reducible refine State.info_held ?_
    | with_reducible refine State.Held.mk_of ?_

theorem execHoldSwitchEngage_held (h : s.Held P) {a1 : Tick} {a2 : Fin 28} : OutHeld P (execHoldSwitchEngage a1 a2 s) := by
  unfold execHoldSwitchEngage
  try lift_lets
  repeat' first
    | with_reducible assumption
    | (intro x; refine (?_ : State.Held P x → _) ?_; (on_goal 1 => (intro _; try clear_value x)); (on_goal 2 => unfold x))
    | (intro x; try clear_value x)
    | split
    | lift_lets
    | with_reducible refine State.modGate_held ?_
    | with_reducible refine State.upTo_held ?_
    | with_reducible refine OutHeld.next ?_
    | with_reducible refine OutHeld.next ?_
    | with_reducible refine State.hold_held ?_
    | with_reducible refine State.Held.mk_of ?_

theorem execMillerClampEngage_held (h : s.Held P) {a1 : Tick} {a2 : Fin 28} : OutHeld P (execMillerClampEngage a1 a2 s) := by
  unfold execMillerClampEngage
  try lift_lets
  repeat' first
    | with_reducible assumption
    | (intro x; refine (?_ : State.Held P x → _) ?_; (on_goal 1 => (intro _; try clear_value x)); (on_goal 2 => unfold x))
    | (intro x; try clear_value x)
    | split
    | lift_lets
    | with_reducible refine State.modGate_held ?_
    | with_reducible refine State.upTo_held ?_
    | with_reducible refine OutHeld.next ?_
    | with_reducible refine OutHeld.next ?_
    | with_reducible refine State.settle_held ?_
    | with_reducible refine State.Held.mk_of ?_

theorem execBoostSoftEnd_held (h : s.Held P) {a1 : Tick} {a2 : Fin 28} : OutHeld P (execBoostSoftEnd a1 a2 s) := by
  unfold execBoostSoftEnd
  try lift_lets
  repeat' first
    | with_reducible assumption
    | (intro x; refine (?_ : State.Held P x → _) ?_; (on_goal 1 => (intro _; try clear_value x)); (on_goal 2 => unfold x))
    | (intro x; try clear_value x)
    | split
    | lift_lets
    | with_reducible refine State.modGate_held ?_
    | with_reducible refine State.upTo_held ?_
    | with_reducible refine OutHeld.next ?_
    | with_reducible refine OutHeld.next ?_
    | with_reducible refine State.settle_held ?_
    | with_reducible refine State.Held.mk_of ?_

theorem execShootThroughAttempt_held (h : s.Held P) {a1 : KpStamp} {a2 : Fin 12} : OutHeld P (execShootThroughAttempt a1 a2 s) := by
  unfold execShootThroughAttempt
  try lift_lets
  repeat' first
    | with_reducible assumption
    | (intro x; refine (?_ : State.Held P x → _) ?_; (on_goal 1 => (intro _)); (on_goal 2 => unfold x))
    | (intro x)
    | split
    | lift_lets
    | with_reducible refine State.modSafety_held ?_
    | with_reducible refine State.modStack_held ?_
    | with_reducible refine State.modGate_held ?_
    | with_reducible refine State.upTo_held ?_
    | with_reducible refine OutHeld.next ?_
    | with_reducible refine OutHeld.next ?_
    | with_reducible refine State.upKt_held ?_
    | with_reducible refine State.settle_held ?_
    | with_reducible refine State.raise_held ?_
    | with_reducible refine State.Held.mk_of ?_

end Sys2Proof.Machine
end

