-- ==== Sys2Proof/Laws/HeldB.lean ====
section
/-! SUPPORT. What the operations of Feedback, Sensing, Axes, Recorder keep: one lemma each. -/
namespace Sys2Proof.Machine

variable {P : State → Prop} {q : List Instr} {fl : Option (Source × Nat)} {s : State}
theorem State.fbMissing_held (h : s.Held P) {a1 : Nat} : (State.fbMissing s a1).Held P := by
  unfold State.fbMissing
  try lift_lets
  repeat' first
    | with_reducible assumption
    | (intro x; refine (?_ : State.Held P x → _) ?_; (on_goal 1 => (intro _; try clear_value x)); (on_goal 2 => unfold x))
    | (intro x; try clear_value x)
    | split
    | lift_lets
    | with_reducible refine State.modFb_held ?_
    | with_reducible refine State.raise_held ?_
    | with_reducible refine State.Held.mk_of ?_

theorem State.fbCount_held (h : s.Held P) {a1 : Nat} {a2 : Int} {a3 : Nat} {a4 : Bool} : (State.fbCount s a1 a2 a3 a4).Held P := by
  unfold State.fbCount
  try lift_lets
  repeat' first
    | with_reducible assumption
    | (intro x; refine (?_ : State.Held P x → _) ?_; (on_goal 1 => (intro _; try clear_value x)); (on_goal 2 => unfold x))
    | (intro x; try clear_value x)
    | split
    | lift_lets
    | with_reducible refine State.modFb_held ?_
    | with_reducible refine State.fbMissing_held ?_
    | with_reducible refine State.Held.mk_of ?_

theorem State.fbReject_held (h : s.Held P) {a1 : Nat} : (State.fbReject s a1).Held P := by
  unfold State.fbReject
  try lift_lets
  repeat' first
    | with_reducible assumption
    | (intro x; refine (?_ : State.Held P x → _) ?_; (on_goal 1 => (intro _; try clear_value x)); (on_goal 2 => unfold x))
    | (intro x; try clear_value x)
    | split
    | lift_lets
    | with_reducible refine State.modFb_held ?_
    | with_reducible refine State.raise_held ?_
    | with_reducible refine State.Held.mk_of ?_

theorem execFeedbackEdge_held (h : s.Held P) {a1 : Tick} {a2 : Fin 6} {a3 : FbEdge} : OutHeld P (execFeedbackEdge a1 a2 a3 s) := by
  unfold execFeedbackEdge
  try lift_lets
  repeat' first
    | with_reducible assumption
    | (intro x; refine (?_ : State.Held P x → _) ?_; (on_goal 1 => (intro _; try clear_value x)); (on_goal 2 => unfold x))
    | (intro x; try clear_value x)
    | split
    | lift_lets
    | with_reducible refine State.modFb_held ?_
    | with_reducible refine State.upTo_held ?_
    | with_reducible refine OutHeld.next ?_
    | with_reducible refine OutHeld.next ?_
    | with_reducible refine State.raise_held ?_
    | with_reducible refine State.fbCount_held ?_
    | with_reducible refine State.fbReject_held ?_
    | with_reducible refine State.Held.mk_of ?_

theorem State.fbAlign_held (h : s.Held P) {a1 : Nat} {a2 : Nat} : (State.fbAlign s a1 a2).Held P := by
  unfold State.fbAlign
  try lift_lets
  repeat' first
    | with_reducible assumption
    | (intro x; refine (?_ : State.Held P x → _) ?_; (on_goal 1 => (intro _; try clear_value x)); (on_goal 2 => unfold x))
    | (intro x; try clear_value x)
    | split
    | lift_lets
    | with_reducible refine State.modFb_held ?_
    | with_reducible refine held_foldl ?_ (fun s x h => ?_)
    | with_reducible refine State.Held.mk_of ?_

theorem execHallChange_held (h : s.Held (Bal q none)) {a1 : Tick} {a2 : Fin 6} {a3 : HallEdge} : OutHeld (Bal q none) (execHallChange a1 a2 a3 s) := by
  unfold execHallChange
  repeat' first
    | with_reducible assumption
    | (intro x; refine (?_ : State.Held (Bal q none) x → _) ?_; (on_goal 1 => (intro _; try clear_value x)); (on_goal 2 => unfold x))
    | (intro x; try clear_value x)
    | (dsimp only; split)
    | split
    | with_reducible refine State.modFb_held ?_
    | with_reducible refine State.upTo_held ?_
    | with_reducible refine OutHeld.next ?_
    | with_reducible refine OutHeld.next ?_
    | with_reducible refine State.setFb_held ?_
    | with_reducible refine State.raise_held ?_
    | with_reducible refine State.fbCount_held ?_
    | with_reducible refine State.fbAlign_held ?_
    | with_reducible refine State.Held.mk_of ?_

theorem execToothEdge_held (h : s.Held P) {a1 : Tick} {a2 : Fin 6} {a3 : Nat} : OutHeld P (execToothEdge a1 a2 a3 s) := by
  unfold execToothEdge
  try lift_lets
  repeat' first
    | with_reducible assumption
    | (intro x; refine (?_ : State.Held P x → _) ?_; (on_goal 1 => (intro _; try clear_value x)); (on_goal 2 => unfold x))
    | (intro x; try clear_value x)
    | split
    | lift_lets
    | with_reducible refine State.modFb_held ?_
    | with_reducible refine State.upTo_held ?_
    | with_reducible refine OutHeld.next ?_
    | with_reducible refine OutHeld.next ?_
    | with_reducible refine State.fbCount_held ?_
    | with_reducible refine State.Held.mk_of ?_

theorem execSerialFrame_held (h : s.Held P) {a1 : Tick} {a2 : Fin 6} {a3 : SerialResult} : OutHeld P (execSerialFrame a1 a2 a3 s) := by
  unfold execSerialFrame
  try lift_lets
  repeat' first
    | with_reducible assumption
    | (intro x; refine (?_ : State.Held P x → _) ?_; (on_goal 1 => (intro _)); (on_goal 2 => unfold x))
    | (intro g; refine (?_ : (∀ s, State.Held P s → State.Held P (g s)) → _) ?_; (on_goal 1 => (intro _)); (on_goal 2 => (unfold g; intro s _)))
    | (intro g; refine (?_ : (∀ s n, State.Held P s → State.Held P (g s n)) → _) ?_; (on_goal 1 => (intro _)); (on_goal 2 => (unfold g; intro s _ _)))
    | (intro x)
    | split
    | lift_lets
    | with_reducible refine State.modFb_held ?_
    | with_reducible refine State.upTo_held ?_
    | with_reducible refine OutHeld.next ?_
    | with_reducible refine OutHeld.next ?_
    | with_reducible refine State.info_held ?_
    | with_reducible refine State.setFb_held ?_
    | with_reducible refine State.raise_held ?_
    | with_reducible refine State.Held.mk_of ?_

theorem execIndexLatch_held (h : s.Held P) {a1 : Tick} {a2 : Fin 6} : OutHeld P (execIndexLatch a1 a2 s) := by
  unfold execIndexLatch
  try lift_lets
  repeat' first
    | with_reducible assumption
    | (intro x; refine (?_ : State.Held P x → _) ?_; (on_goal 1 => (intro _; try clear_value x)); (on_goal 2 => unfold x))
    | (intro x; try clear_value x)
    | split
    | lift_lets
    | with_reducible refine State.modFb_held ?_
    | with_reducible refine State.upTo_held ?_
    | with_reducible refine OutHeld.next ?_
    | with_reducible refine OutHeld.next ?_
    | with_reducible refine State.info_held ?_
    | with_reducible refine State.setFb_held ?_
    | with_reducible refine State.raise_held ?_
    | with_reducible refine State.Held.mk_of ?_

theorem execFbSignalLoss_held (h : s.Held P) {a1 : Tick} {a2 : Fin 6} {a3 : FbPair} : OutHeld P (execFbSignalLoss a1 a2 a3 s) := by
  unfold execFbSignalLoss
  try lift_lets
  repeat' first
    | with_reducible assumption
    | (intro x; refine (?_ : State.Held P x → _) ?_; (on_goal 1 => (intro _; try clear_value x)); (on_goal 2 => unfold x))
    | (intro x; try clear_value x)
    | split
    | lift_lets
    | with_reducible refine State.modFb_held ?_
    | with_reducible refine State.upTo_held ?_
    | with_reducible refine OutHeld.next ?_
    | with_reducible refine OutHeld.next ?_
    | with_reducible refine State.raise_held ?_
    | with_reducible refine State.Held.mk_of ?_

theorem execFbSignalLossEnd_held (h : s.Held P) {a1 : Tick} {a2 : Fin 6} {a3 : FbPair} : OutHeld P (execFbSignalLossEnd a1 a2 a3 s) := by
  unfold execFbSignalLossEnd
  try lift_lets
  repeat' first
    | with_reducible assumption
    | (intro x; refine (?_ : State.Held P x → _) ?_; (on_goal 1 => (intro _; try clear_value x)); (on_goal 2 => unfold x))
    | (intro x; try clear_value x)
    | lift_lets
    | with_reducible refine State.modFb_held ?_
    | with_reducible refine State.upTo_held ?_
    | with_reducible refine OutHeld.next ?_
    | with_reducible refine OutHeld.next ?_
    | with_reducible refine State.Held.mk_of ?_

theorem execFbSupply_held (h : s.Held P) {a1 : Tick} {a2 : Fin 6} {a3 : FbSupplyCause} : OutHeld P (execFbSupply a1 a2 a3 s) := by
  unfold execFbSupply
  try lift_lets
  repeat' first
    | with_reducible assumption
    | (intro x; refine (?_ : State.Held P x → _) ?_; (on_goal 1 => (intro _; try clear_value x)); (on_goal 2 => unfold x))
    | (intro x; try clear_value x)
    | split
    | lift_lets
    | with_reducible refine State.upTo_held ?_
    | with_reducible refine OutHeld.next ?_
    | with_reducible refine OutHeld.next ?_
    | with_reducible refine State.raise_held ?_

theorem execEncPupEnd_held (h : s.Held P) {a1 : Tick} {a2 : Fin 6} : OutHeld P (execEncPupEnd a1 a2 s) := by
  unfold execEncPupEnd
  try lift_lets
  repeat' first
    | with_reducible assumption
    | (intro x; refine (?_ : State.Held P x → _) ?_; (on_goal 1 => (intro _; try clear_value x)); (on_goal 2 => unfold x))
    | (intro x; try clear_value x)
    | lift_lets
    | with_reducible refine State.modFb_held ?_
    | with_reducible refine State.upTo_held ?_
    | with_reducible refine OutHeld.next ?_
    | with_reducible refine OutHeld.next ?_
    | with_reducible refine State.Held.mk_of ?_

theorem State.fbUnref_held (h : s.Held P) {a1 : Nat} {a2 : Nat} : (State.fbUnref s a1 a2).Held P := by
  unfold State.fbUnref
  repeat' first
    | with_reducible assumption
    | with_reducible refine State.modFb_held ?_
    | with_reducible refine State.setFb_held ?_
    | with_reducible refine State.Held.mk_of ?_

theorem State.fbRead_held (h : s.Held P) {a1 : Nat} {a2 : Nat} {a3 : Nat} : (State.fbRead s a1 a2 a3).2.Held P := by
  unfold State.fbRead
  try lift_lets
  repeat' first
    | with_reducible assumption
    | (intro x; refine (?_ : State.Held P x → _) ?_; (on_goal 1 => (intro _; try clear_value x)); (on_goal 2 => unfold x))
    | (intro x; try clear_value x)
    | (have hx := ‹_ = (_, _)›; have h2 := congrArg Prod.snd hx; have h1 := congrArg Prod.fst hx; dsimp only at h1 h2; subst h1 h2; clear hx)
    | split
    | lift_lets
    | with_reducible refine State.modFb_held ?_
    | with_reducible refine State.raise_held ?_
    | with_reducible refine State.Held.mk_of ?_

theorem State.fbLatch_held (h : s.Held P) {a1 : Nat} {a2 : Nat} {a3 : Nat} : (State.fbLatch s a1 a2 a3).Held P := by
  unfold State.fbLatch
  try lift_lets
  repeat' first
    | with_reducible assumption
    | (intro x; refine (?_ : State.Held P x → _) ?_; (on_goal 1 => (intro _; try clear_value x)); (on_goal 2 => unfold x))
    | (intro x; try clear_value x)
    | (have hx := ‹_ = (_, _)›; have h2 := congrArg Prod.snd hx; have h1 := congrArg Prod.fst hx; dsimp only at h1 h2; subst h1 h2; clear hx)
    | split
    | lift_lets
    | with_reducible refine State.modFb_held ?_
    | with_reducible refine State.setFb_held ?_
    | with_reducible refine State.fbFail_held ?_
    | with_reducible refine State.fbMissing_held ?_
    | with_reducible refine State.fbRead_held ?_
    | with_reducible refine State.Held.mk_of ?_

theorem State.fbLatchAll_held (h : s.Held P) {a1 : Nat} {a2 : Nat} {a3 : Nat} : (State.fbLatchAll s a1 a2 a3).Held P := by
  unfold State.fbLatchAll
  repeat' first
    | with_reducible assumption
    | split
    | with_reducible refine held_foldl ?_ (fun s x h => ?_)
    | with_reducible refine State.fbLatch_held ?_

theorem State.modSense_held (h : s.Held P) {a1 : Nat} {a2 : Sense → Sense} : (State.modSense s a1 a2).Held P := by
  unfold State.modSense
  repeat' first
    | with_reducible assumption
    | with_reducible refine State.modStack_held ?_
    | with_reducible refine State.Held.mk_of ?_

theorem State.senseStop_held (h : s.Held P) {a1 : Nat} {a2 : Nat} : (State.senseStop s a1 a2).Held P := by
  unfold State.senseStop
  repeat' first
    | with_reducible assumption
    | with_reducible refine State.hold_held ?_
    | with_reducible refine State.stopReact_held ?_

theorem State.phaseFail_held (h : s.Held P) {a1 : Nat} {a2 : Fin 3} {a3 : Bool} : (State.phaseFail s a1 a2 a3).Held P := by
  unfold State.phaseFail
  try lift_lets
  repeat' first
    | with_reducible assumption
    | (intro x; refine (?_ : State.Held P x → _) ?_; (on_goal 1 => (intro _; try clear_value x)); (on_goal 2 => unfold x))
    | (intro x; try clear_value x)
    | split
    | lift_lets
    | with_reducible refine State.raise_held ?_
    | with_reducible refine State.modSense_held ?_
    | with_reducible refine State.senseStop_held ?_
    | with_reducible refine State.Held.mk_of ?_

theorem State.dcFail_held (h : s.Held P) {a1 : Nat} {a2 : Bool} : (State.dcFail s a1 a2).Held P := by
  unfold State.dcFail
  try lift_lets
  repeat' first
    | with_reducible assumption
    | (intro x; refine (?_ : State.Held P x → _) ?_; (on_goal 1 => (intro _; try clear_value x)); (on_goal 2 => unfold x))
    | (intro x; try clear_value x)
    | split
    | lift_lets
    | with_reducible refine State.raise_held ?_
    | with_reducible refine State.modSense_held ?_
    | with_reducible refine State.senseStop_held ?_
    | with_reducible refine State.Held.mk_of ?_

theorem State.udcFail_held (h : s.Held P) {a1 : Nat} {a2 : Nat} : (State.udcFail s a1 a2).Held P := by
  unfold State.udcFail
  repeat' first
    | with_reducible assumption
    | with_reducible refine State.modSense_held ?_
    | with_reducible refine State.senseStop_held ?_
    | with_reducible refine State.Held.mk_of ?_

theorem execDsStuck_held (h : s.Held P) {a1 : Tick} {a2 : Fin 24} {a3 : Bool} : OutHeld P (execDsStuck a1 a2 a3 s) := by
  unfold execDsStuck
  try lift_lets
  repeat' first
    | with_reducible assumption
    | (intro x; refine (?_ : State.Held P x → _) ?_; (on_goal 1 => (intro _; try clear_value x)); (on_goal 2 => unfold x))
    | (intro x; refine (?_ : State.Held P x.st → _) ?_; (on_goal 1 => (intro _; try clear_value x)); (on_goal 2 => unfold x))
    | (intro x; try clear_value x)
    | (have hx := ‹_ = (_, _)›; have h2 := congrArg Prod.snd hx; have h1 := congrArg Prod.fst hx; dsimp only at h1 h2; subst h1 h2; clear hx)
    | split
    | lift_lets
    | with_reducible refine State.upTo_held ?_
    | with_reducible refine OutHeld.next ?_
    | with_reducible refine OutHeld.next ?_
    | with_reducible refine State.occur_held ?_
    | with_reducible refine State.raiseV_held ?_
    | with_reducible refine State.modSense_held ?_
    | with_reducible refine State.phaseFail_held ?_
    | with_reducible refine State.dcFail_held ?_
    | with_reducible refine State.udcFail_held ?_
    | with_reducible refine State.Held.mk_of ?_

theorem State.disagree_held (h : s.Held P) {a1 : Nat} : (State.disagree s a1).Held P := by
  unfold State.disagree
  try lift_lets
  repeat' first
    | with_reducible assumption
    | (intro x; refine (?_ : State.Held P x → _) ?_; (on_goal 1 => (intro _; try clear_value x)); (on_goal 2 => unfold x))
    | (intro x; try clear_value x)
    | (have hx := ‹_ = (_, _)›; have h2 := congrArg Prod.snd hx; have h1 := congrArg Prod.fst hx; dsimp only at h1 h2; subst h1 h2; clear hx)
    | split
    | lift_lets
    | with_reducible refine State.raiseV_held ?_
    | with_reducible refine State.modSense_held ?_
    | with_reducible refine State.Held.mk_of ?_

theorem State.senseDecide_held (h : s.Held P) {a1 : Nat} : (State.senseDecide s a1).Held P := by
  unfold State.senseDecide
  try lift_lets
  repeat' first
    | with_reducible assumption
    | (intro x; refine (?_ : State.Held P x → _) ?_; (on_goal 1 => (intro _; try clear_value x)); (on_goal 2 => unfold x))
    | (intro x; try clear_value x)
    | split
    | lift_lets
    | with_reducible refine State.modSense_held ?_
    | with_reducible refine State.senseStop_held ?_
    | with_reducible refine State.phaseFail_held ?_
    | with_reducible refine State.dcFail_held ?_
    | with_reducible refine State.Held.mk_of ?_

theorem State.modCal_held (h : s.Held P) {a1 : Nat} {a2 : Nat} {a3 : CalInput → CalInput} : (State.modCal s a1 a2 a3).Held P := by
  unfold State.modCal
  repeat' first
    | with_reducible assumption
    | with_reducible refine State.modSense_held ?_
    | with_reducible refine State.Held.mk_of ?_

theorem State.calSample_held (h : s.Held P) {a1 : Nat} {a2 : Nat} {a3 : Nat} {a4 : MainSample} : (State.calSample s a1 a2 a3 a4).Held P := by
  unfold State.calSample
  try lift_lets
  repeat' first
    | with_reducible assumption
    | (intro x; refine (?_ : State.Held P x → _) ?_; (on_goal 1 => (intro _; try clear_value x)); (on_goal 2 => unfold x))
    | (intro x; try clear_value x)
    | split
    | lift_lets
    | with_reducible refine held_foldl ?_ (fun s x h => ?_)
    | with_reducible refine State.modCal_held ?_
    | with_reducible refine State.Held.mk_of ?_

theorem State.unstick_held (h : s.Held P) {a1 : Nat} {a2 : Nat} {a3 : MainSample} : (State.unstick s a1 a2 a3).Held P := by
  unfold State.unstick
  try lift_lets
  repeat' first
    | with_reducible assumption
    | (intro x; refine (?_ : State.Held P x → _) ?_; (on_goal 1 => (intro _; try clear_value x)); (on_goal 2 => unfold x))
    | (intro x; try clear_value x)
    | split
    | lift_lets
    | with_reducible refine held_foldl ?_ (fun s x h => ?_)
    | with_reducible refine State.modSense_held ?_
    | with_reducible refine State.Held.mk_of ?_

theorem State.overRange_held (h : s.Held P) {a1 : Nat} {a2 : MainSample} : (State.overRange s a1 a2).Held P := by
  unfold State.overRange
  try lift_lets
  repeat' first
    | with_reducible assumption
    | (intro x; refine (?_ : State.Held P x → _) ?_; (on_goal 1 => (intro _; try clear_value x)); (on_goal 2 => unfold x))
    | (intro x; try clear_value x)
    | (have hx := ‹_ = (_, _)›; have h2 := congrArg Prod.snd hx; have h1 := congrArg Prod.fst hx; dsimp only at h1 h2; subst h1 h2; clear hx)
    | split
    | lift_lets
    | with_reducible refine held_foldl ?_ (fun s x h => ?_)
    | with_reducible refine State.raiseV_held ?_
    | with_reducible refine State.modSense_held ?_
    | with_reducible refine State.udcFail_held ?_
    | with_reducible refine State.Held.mk_of ?_

theorem State.sumCheck_held (h : s.Held P) {a1 : Nat} : (State.sumCheck s a1).Held P := by
  unfold State.sumCheck
  try lift_lets
  repeat' first
    | with_reducible assumption
    | (intro x; refine (?_ : State.Held P x → _) ?_; (on_goal 1 => (intro _; try clear_value x)); (on_goal 2 => unfold x))
    | (intro x; try clear_value x)
    | split
    | lift_lets
    | with_reducible refine State.modSense_held ?_
    | with_reducible refine State.disagree_held ?_
    | with_reducible refine State.Held.mk_of ?_

theorem State.outerBegin_held (h : s.Held P) {a1 : Nat} {a2 : Nat} {a3 : Nat} : (State.outerBegin s a1 a2 a3).Held P := by
  unfold State.outerBegin
  try lift_lets
  repeat' first
    | with_reducible assumption
    | (intro x; refine (?_ : State.Held P x → _) ?_; (on_goal 1 => (intro _; try clear_value x)); (on_goal 2 => unfold x))
    | (intro x; try clear_value x)
    | split
    | lift_lets
    | with_reducible refine State.modMotion_held ?_
    | with_reducible refine State.Held.mk_of ?_

theorem State.cycleBegin_held (h : s.Held P) {a1 : Nat} {a2 : Nat} {a3 : Nat} : (State.cycleBegin s a1 a2 a3).Held P := by
  unfold State.cycleBegin
  try lift_lets
  repeat' first
    | with_reducible assumption
    | (intro x; refine (?_ : State.Held P x → _) ?_; (on_goal 1 => (intro _; try clear_value x)); (on_goal 2 => unfold x))
    | (intro x; try clear_value x)
    | split
    | lift_lets
    | with_reducible refine State.modMotion_held ?_
    | with_reducible refine State.modAux_held ?_
    | with_reducible refine State.modFb_held ?_
    | with_reducible refine held_foldl ?_ (fun s x h => ?_)
    | with_reducible refine State.outerBegin_held ?_
    | with_reducible refine State.Held.mk_of ?_

theorem execDecimatedSample_held (h : s.Held (Bal q none)) {a1 : Tick} {a2 : Fin 4} {a3 : MainSample} : OutHeld (Bal q none) (execDecimatedSample a1 a2 a3 s) := by
  unfold execDecimatedSample
  repeat' first
    | with_reducible assumption
    | (intro x; refine (?_ : State.Held (Bal q none) x → _) ?_; (on_goal 1 => (intro _; try clear_value x)); (on_goal 2 => unfold x))
    | (intro x; try clear_value x)
    | (dsimp only; split)
    | split
    | with_reducible refine State.upTo_held ?_
    | with_reducible refine OutHeld.next ?_
    | with_reducible refine OutHeld.next ?_
    | with_reducible refine State.fbLatchAll_held ?_
    | with_reducible refine State.modSense_held ?_
    | with_reducible refine State.calSample_held ?_
    | with_reducible refine State.unstick_held ?_
    | with_reducible refine State.overRange_held ?_
    | with_reducible refine State.sumCheck_held ?_
    | with_reducible refine State.cycleBegin_held ?_

theorem State.pairCheck_held (h : s.Held P) {a1 : Nat} {a2 : Fin 3} {a3 : Int} {a4 : Rat} {a5 : Rat} : (State.pairCheck s a1 a2 a3 a4 a5).Held P := by
  unfold State.pairCheck
  try lift_lets
  repeat' first
    | with_reducible assumption
    | (intro x; refine (?_ : State.Held P x → _) ?_; (on_goal 1 => (intro _; try clear_value x)); (on_goal 2 => unfold x))
    | (intro x; try clear_value x)
    | split
    | lift_lets
    | with_reducible refine State.modSense_held ?_
    | with_reducible refine State.disagree_held ?_
    | with_reducible refine State.modCal_held ?_
    | with_reducible refine State.Held.mk_of ?_

theorem State.tripPhases_held (h : s.Held P) {a1 : Nat} {a2 : List (Nat × Rat)} : (State.tripPhases s a1 a2).Held P := by
  unfold State.tripPhases
  repeat' first
    | with_reducible assumption
    | split
    | with_reducible refine held_foldl ?_ (fun s x h => ?_)
    | with_reducible refine State.raise_held ?_

theorem State.recTrip_held (h : s.Held P) {a1 : Nat} {a2 : Nat} {a3 : Rat} {a4 : Tick} {a5 : Option (Nat × Rat × Tick × Int)} : (State.recTrip s a1 a2 a3 a4 a5).Held P := by
  unfold State.recTrip
  try lift_lets
  repeat' first
    | with_reducible assumption
    | (intro x; refine (?_ : State.Held P x → _) ?_; (on_goal 1 => (intro _; try clear_value x)); (on_goal 2 => unfold x))
    | (intro x; try clear_value x)
    | split
    | lift_lets
    | with_reducible refine State.tripPhases_held ?_

theorem State.recValue_held (h : s.Held P) {a1 : Nat} {a2 : Tick} {a3 : Tick} {a4 : Fin 3} {a5 : Int} {a6 : RecSample} : (State.recValue s a1 a2 a3 a4 a5 a6).Held P := by
  unfold State.recValue
  try lift_lets
  repeat' first
    | with_reducible assumption
    | (intro x; refine (?_ : State.Held P x → _) ?_; (on_goal 1 => (intro _)); (on_goal 2 => unfold x))
    | (intro x)
    | split
    | lift_lets
    | with_reducible refine State.modSense_held ?_
    | with_reducible refine State.pairCheck_held ?_
    | with_reducible refine State.recTrip_held ?_

theorem execReconstructionSample_held (h : s.Held P) {a1 : Tick} {a2 : Fin 4} {a3 : RecSample} : OutHeld P (execReconstructionSample a1 a2 a3 s) := by
  unfold execReconstructionSample
  try lift_lets
  repeat' first
    | with_reducible assumption
    | (intro x; refine (?_ : State.Held P x → _) ?_; (on_goal 1 => (intro _; try clear_value x)); (on_goal 2 => unfold x))
    | (intro x; try clear_value x)
    | split
    | lift_lets
    | with_reducible refine State.upTo_held ?_
    | with_reducible refine OutHeld.next ?_
    | with_reducible refine OutHeld.next ?_
    | with_reducible refine State.modCal_held ?_
    | with_reducible refine State.recValue_held ?_
    | with_reducible refine State.Held.mk_of ?_

theorem State.calDone_held (h : s.Held P) {a1 : Nat} {a2 : Nat} : (State.calDone s a1 a2).Held P := by
  unfold State.calDone
  split
  · exact State.modSense_held h
  · exact h

theorem State.calTarget_held (h : s.Held P) {a1 : Nat} {a2 : Nat} {a3 : Nat} {a4 : Int} : (State.calTarget s a1 a2 a3 a4).Held P := by
  unfold State.calTarget
  try lift_lets
  repeat' first
    | with_reducible assumption
    | (intro x; refine (?_ : State.Held P x → _) ?_; (on_goal 1 => (intro _; try clear_value x)); (on_goal 2 => unfold x))
    | (intro x; try clear_value x)
    | split
    | lift_lets
    | with_reducible refine State.info_held ?_
    | with_reducible refine State.raise_held ?_
    | with_reducible refine State.modCal_held ?_
    | with_reducible refine State.calDone_held ?_
    | with_reducible refine State.Held.mk_of ?_

theorem State.calFit_held (h : s.Held P) {a1 : Nat} {a2 : Nat} : (State.calFit s a1 a2).Held P := by
  unfold State.calFit
  try lift_lets
  repeat' first
    | with_reducible assumption
    | (intro x; refine (?_ : State.Held P x → _) ?_; (on_goal 1 => (intro _; try clear_value x)); (on_goal 2 => unfold x))
    | (intro x; try clear_value x)
    | split
    | lift_lets
    | with_reducible refine State.calTarget_held ?_

theorem State.calInput_held (h : s.Held P) {a1 : Nat} {a2 : Nat} : (State.calInput s a1 a2).Held P := by
  unfold State.calInput
  try lift_lets
  repeat' first
    | with_reducible assumption
    | (intro x; refine (?_ : State.Held P x → _) ?_; (on_goal 1 => (intro _)); (on_goal 2 => unfold x))
    | (intro g; refine (?_ : (∀ s, State.Held P s → State.Held P (g s)) → _) ?_; (on_goal 1 => (intro _)); (on_goal 2 => (unfold g; intro s _)))
    | (intro g; refine (?_ : (∀ s n, State.Held P s → State.Held P (g s n)) → _) ?_; (on_goal 1 => (intro _)); (on_goal 2 => (unfold g; intro s _ _)))
    | (intro x)
    | split
    | lift_lets
    | with_reducible refine State.info_held ?_
    | with_reducible refine State.modSense_held ?_
    | with_reducible refine State.modCal_held ?_
    | with_reducible refine State.calTarget_held ?_
    | with_reducible refine State.calFit_held ?_
    | with_reducible refine State.Held.mk_of ?_

theorem State.auxCal_held (h : s.Held P) {a1 : Nat} : (State.auxCal s a1).Held P := by
  unfold State.auxCal
  try lift_lets
  repeat' first
    | with_reducible assumption
    | (intro x; refine (?_ : State.Held P x → _) ?_; (on_goal 1 => (intro _; try clear_value x)); (on_goal 2 => unfold x))
    | (intro x; try clear_value x)
    | split
    | lift_lets
    | with_reducible refine State.modAxis_held ?_
    | with_reducible refine held_foldl ?_ (fun s x h => ?_)
    | with_reducible refine State.info_held ?_
    | with_reducible refine State.raise_held ?_
    | with_reducible refine State.Held.mk_of ?_

theorem execCalPeriodEnd_held (h : s.Held P) {a1 : Tick} {a2 : CalTarget} : OutHeld P (execCalPeriodEnd a1 a2 s) := by
  unfold execCalPeriodEnd
  try lift_lets
  repeat' first
    | with_reducible assumption
    | (intro x; refine (?_ : State.Held P x → _) ?_; (on_goal 1 => (intro _; try clear_value x)); (on_goal 2 => unfold x))
    | (intro x; try clear_value x)
    | split
    | lift_lets
    | with_reducible refine State.modAxis_held ?_
    | with_reducible refine State.upTo_held ?_
    | with_reducible refine held_foldl ?_ (fun s x h => ?_)
    | with_reducible refine OutHeld.next ?_
    | with_reducible refine OutHeld.next ?_
    | with_reducible refine State.modSense_held ?_
    | with_reducible refine State.calInput_held ?_
    | with_reducible refine State.auxCal_held ?_
    | with_reducible refine State.Held.mk_of ?_

theorem State.calSlew_held (h : s.Held P) {a1 : Nat} : (State.calSlew s a1).Held P := by
  unfold State.calSlew
  try lift_lets
  repeat' first
    | with_reducible assumption
    | (intro x; refine (?_ : State.Held P x → _) ?_; (on_goal 1 => (intro _; try clear_value x)); (on_goal 2 => unfold x))
    | (intro x; try clear_value x)
    | (have hx := ‹_ = (_, _)›; have h2 := congrArg Prod.snd hx; have h1 := congrArg Prod.fst hx; dsimp only at h1 h2; subst h1 h2; clear hx)
    | split
    | lift_lets
    | with_reducible refine State.modSense_held ?_
    | with_reducible refine State.Held.mk_of ?_

theorem opCalibration_held (h : s.Held P) {a1 : Bytes} : (opCalibration a1 s).st.Held P := by
  unfold opCalibration
  try lift_lets
  repeat' first
    | with_reducible assumption
    | (intro x; refine (?_ : State.Held P x → _) ?_; (on_goal 1 => (intro _; try clear_value x)); (on_goal 2 => unfold x))
    | (intro g; refine (?_ : (∀ s, State.Held P s → State.Held P (g s)) → _) ?_; (on_goal 1 => (intro _; try clear_value g)); (on_goal 2 => (unfold g; intro s _)))
    | (intro g; refine (?_ : (∀ s n, State.Held P s → State.Held P (g s n)) → _) ?_; (on_goal 1 => (intro _; try clear_value g)); (on_goal 2 => (unfold g; intro s _ _)))
    | (intro x; try clear_value x)
    | split
    | lift_lets
    | with_reducible refine State.modAxis_held ?_
    | with_reducible refine Rep.ok_held ?_
    | with_reducible refine Rep.no_held ?_
    | with_reducible refine State.modSense_held ?_
    | with_reducible refine State.Held.mk_of ?_

theorem execCalibrationStop_held (h : s.Held (Bal q none)) {a1 : Tick} {a2 : Source} {a3 : Nat} {a4 : Bytes} : OutHeld (Bal q none) (execCalibrationStop a1 a2 a3 a4 s) := by
  unfold execCalibrationStop
  refine runOp_held h fun m s _ h => ?_
  first
    | exact h
    | exact opCalibration_held h

theorem execCalibrationStart_held (h : s.Held (Bal q none)) {a1 : Tick} {a2 : Source} {a3 : Nat} {a4 : Bytes} : OutHeld (Bal q none) (execCalibrationStart a1 a2 a3 a4 s) := by
  unfold execCalibrationStart
  refine runOp_held h fun m s _ h => ?_
  first
    | exact h
    | exact opCalibration_held h

theorem execCalibrationRestore_held (h : s.Held (Bal q none)) {a1 : Tick} {a2 : Source} {a3 : Nat} {a4 : Bytes} : OutHeld (Bal q none) (execCalibrationRestore a1 a2 a3 a4 s) := by
  unfold execCalibrationRestore
  refine runOp_held h fun m s _ h => ?_
  first
    | exact h
    | exact opCalibration_held h

theorem State.modSar_held (h : s.Held P) {a1 : SarConverter} {a2 : Sar → Sar} : (State.modSar s a1 a2).Held P := by
  unfold State.modSar
  repeat' first
    | with_reducible assumption
    | split
    | with_reducible refine State.Held.mk_of ?_

theorem State.sarRequest_held (h : s.Held P) {a1 : SarConverter} {a2 : SarReq} : (State.sarRequest s a1 a2).Held P := by
  unfold State.sarRequest
  repeat' first
    | with_reducible assumption
    | with_reducible refine State.modSar_held ?_
    | with_reducible refine State.Held.mk_of ?_

theorem State.sarPair_held (h : s.Held P) {a1 : Nat} {a2 : Tick} : (State.sarPair s a1 a2).Held P := by
  unfold State.sarPair
  repeat' first
    | with_reducible assumption
    | with_reducible refine State.sarRequest_held ?_

theorem State.modHb_held (h : s.Held P) {a1 : Nat} {a2 : HalfBridge → HalfBridge} : (State.modHb s a1 a2).Held P := by
  unfold State.modHb
  repeat' first
    | with_reducible assumption
    | with_reducible refine State.modAux_held ?_
    | with_reducible refine State.Held.mk_of ?_

theorem State.axOut_held (h : s.Held P) {a1 : Nat} : (State.axOut s a1).Held P := by
  unfold State.axOut
  try lift_lets
  repeat' first
    | with_reducible assumption
    | (intro x; refine (?_ : State.Held P x → _) ?_; (on_goal 1 => (intro _; try clear_value x)); (on_goal 2 => unfold x))
    | (intro x; try clear_value x)
    | split
    | lift_lets
    | with_reducible refine State.modAux_held ?_
    | with_reducible refine State.Held.mk_of ?_

theorem State.axOutAll_held (h : s.Held P) : (State.axOutAll s).Held P := by
  unfold State.axOutAll
  repeat' first
    | with_reducible assumption
    | with_reducible refine held_foldl ?_ (fun s x h => ?_)
    | with_reducible refine State.axOut_held ?_

theorem State.gearSpeed_held (h : s.Held P) {a1 : Nat} {a2 : Int} : (State.gearSpeed s a1 a2).Held P :=
  State.modAxis_held h

theorem State.gearFired_held (h : s.Held P) {a1 : Nat} {a2 : Int} {a3 : Int} : (State.gearFired s a1 a2 a3).Held P := by
  unfold State.gearFired
  repeat' first
    | with_reducible assumption
    | with_reducible refine State.info_held ?_

theorem State.gearTravel_held (h : s.Held P) {n : Nat} {m m' : Int} {evs : List GearEv} : (State.gearTravel s n m m' evs).Held P := by
  unfold State.gearTravel
  refine State.modAxis_held ?_
  suffices ∀ x : State × Int, x.1.Held P → (evs.foldl (fun (x : State × Int) e =>
      ((x.1.modAxis n fun a => a.takeEvent x.2 e).gearFired n 0 e.point, e.point)) x).1.Held P from this (s, m) h
  induction evs with
  | nil => exact fun x hx => hx
  | cons e r ih =>
    intro x hx
    rw [List.foldl_cons]
    refine ih _ ?_
    dsimp only
    with_reducible refine State.gearFired_held ?_
    with_reducible exact State.modAxis_held hx

theorem State.gearCycle_held (h : s.Held P) {a1 : Nat} : (State.gearCycle s a1).Held P := by
  unfold State.gearCycle
  try lift_lets
  repeat' first
    | with_reducible assumption
    | (intro x; refine (?_ : State.Held P x → _) ?_; (on_goal 1 => (intro _)); (on_goal 2 => unfold x))
    | (intro g; refine (?_ : (∀ s, State.Held P s → State.Held P (g s)) → _) ?_; (on_goal 1 => (intro _)); (on_goal 2 => (unfold g; intro s _)))
    | (intro g; refine (?_ : (∀ s n, State.Held P s → State.Held P (g s n)) → _) ?_; (on_goal 1 => (intro _)); (on_goal 2 => (unfold g; intro s _ _)))
    | (intro x)
    | split
    | lift_lets
    | with_reducible refine State.modAxis_held ?_
    | with_reducible refine State.gearSpeed_held ?_
    | with_reducible refine held_foldl ?_ (fun s x h => ?_)
    | with_reducible refine State.stopAxis_held ?_
    | with_reducible refine State.raise_held ?_
    | with_reducible refine State.gearTravel_held ?_
    | with_reducible refine State.gearFired_held ?_
    | with_reducible refine State.Held.mk_of ?_

theorem State.runSpeed_held (h : s.Held P) {a1 : Nat} {a2 : Rat} {a3 : Rat} {a4 : Rat} : (State.runSpeed s a1 a2 a3 a4).Held P := by
  unfold State.runSpeed
  try lift_lets
  repeat' first
    | with_reducible assumption
    | (intro x; refine (?_ : State.Held P x → _) ?_; (on_goal 1 => (intro _; try clear_value x)); (on_goal 2 => unfold x))
    | (intro x; try clear_value x)
    | (have hx := ‹_ = (_, _)›; have h2 := congrArg Prod.snd hx; have h1 := congrArg Prod.fst hx; dsimp only at h1 h2; subst h1 h2; clear hx)
    | split
    | lift_lets
    | with_reducible refine State.modAxis_held ?_
    | with_reducible refine State.Held.mk_of ?_

theorem State.axMove_held (h : s.Held P) {a1 : Nat} {a2 : Rat} : (State.axMove s a1 a2).Held P := by
  unfold State.axMove
  try lift_lets
  repeat' first
    | with_reducible assumption
    | (intro x; refine (?_ : State.Held P x → _) ?_; (on_goal 1 => (intro _; try clear_value x)); (on_goal 2 => unfold x))
    | (intro x; try clear_value x)
    | lift_lets
    | with_reducible refine State.modAxis_held ?_
    | with_reducible refine State.Held.mk_of ?_

theorem State.reach_held (h : s.Held P) {a1 : Nat} {a2 : Int} : (State.reach s a1 a2).Held P := by
  unfold State.reach
  repeat' first
    | with_reducible assumption
    | with_reducible refine State.modAxis_held ?_
    | with_reducible refine State.Held.mk_of ?_

theorem State.runPos_held (h : s.Held P) {a1 : Nat} {a2 : Int} {a3 : Rat} {a4 : Rat} : (State.runPos s a1 a2 a3 a4).1.Held P := by
  unfold State.runPos
  split
  · exact State.modAxis_held h
  · exact State.modAxis_held h

theorem State.axLimits_held (h : s.Held P) {a1 : Nat} : (State.axLimits s a1).Held P := by
  unfold State.axLimits
  try lift_lets
  repeat' first
    | with_reducible assumption
    | (intro x; refine (?_ : State.Held P x → _) ?_; (on_goal 1 => (intro _; try clear_value x)); (on_goal 2 => unfold x))
    | (intro x; try clear_value x)
    | split
    | lift_lets
    | with_reducible refine State.stopAxis_held ?_
    | with_reducible refine State.raise_held ?_

theorem State.endHoming_held (h : s.Held P) {a1 : Nat} {a2 : Nat} {a3 : Int} : (State.endHoming s a1 a2 a3).Held P := by
  unfold State.endHoming
  try lift_lets
  repeat' first
    | with_reducible assumption
    | (intro x; refine (?_ : State.Held P x → _) ?_; (on_goal 1 => (intro _; try clear_value x)); (on_goal 2 => unfold x))
    | (intro x; try clear_value x)
    | lift_lets
    | with_reducible refine State.modAxis_held ?_
    | with_reducible refine State.hold_held ?_
    | with_reducible refine State.setAx_held ?_
    | with_reducible refine State.homeDone_held ?_
    | with_reducible refine State.Held.mk_of ?_

theorem State.homeLatch_held (h : s.Held P) {a1 : Nat} {a2 : Int} : (State.homeLatch s a1 a2).Held P := by
  unfold State.homeLatch
  repeat' first
    | with_reducible assumption
    | with_reducible refine State.modAxis_held ?_
    | with_reducible refine State.endHoming_held ?_
    | with_reducible refine State.Held.mk_of ?_

theorem State.homeLimits_held (h : s.Held P) {a1 : Nat} : (State.homeLimits s a1).Held P := by
  unfold State.homeLimits
  try lift_lets
  repeat' first
    | with_reducible assumption
    | (intro x; refine (?_ : State.Held P x → _) ?_; (on_goal 1 => (intro _; try clear_value x)); (on_goal 2 => unfold x))
    | (intro x; try clear_value x)
    | split
    | lift_lets
    | with_reducible refine State.modAxis_held ?_
    | with_reducible refine State.axLimits_held ?_
    | with_reducible refine State.endHoming_held ?_
    | with_reducible refine State.Held.mk_of ?_

theorem execSwitchChange_held (h : s.Held P) {a1 : Tick} {a2 : Fin 4} {a3 : AxisSwitch} {a4 : Bool} {a5 : Bool} {a6 : Tick} : OutHeld P (execSwitchChange a1 a2 a3 a4 a5 a6 s) := by
  unfold execSwitchChange
  try lift_lets
  repeat' first
    | with_reducible assumption
    | (intro x; refine (?_ : State.Held P x → _) ?_; (on_goal 1 => (intro _; try clear_value x)); (on_goal 2 => unfold x))
    | (intro x; try clear_value x)
    | split
    | lift_lets
    | with_reducible refine State.modAxis_held ?_
    | with_reducible refine State.upTo_held ?_
    | with_reducible refine OutHeld.next ?_
    | with_reducible refine OutHeld.next ?_
    | with_reducible refine State.raise_held ?_
    | with_reducible refine State.axOut_held ?_
    | with_reducible refine State.homeLatch_held ?_
    | with_reducible refine State.Held.mk_of ?_

theorem State.measureShunts_held (h : s.Held P) {a1 : Nat} : (State.measureShunts s a1).Held P := by
  unfold State.measureShunts
  repeat' first
    | with_reducible assumption
    | split
    | with_reducible refine held_foldl ?_ (fun s x h => ?_)
    | with_reducible refine State.sarRequest_held ?_

theorem State.axStart_held (h : s.Held P) {a1 : Nat} {a2 : Nat} : (State.axStart s a1 a2).Held P := by
  unfold State.axStart
  repeat' first
    | with_reducible assumption
    | split
    | with_reducible refine State.modAxis_held ?_
    | with_reducible refine OutHeld.next ?_
    | with_reducible refine OutHeld.next ?_
    | with_reducible refine State.measureShunts_held ?_
    | with_reducible refine State.Held.mk_of ?_

theorem State.axGo_held (h : s.Held P) {a1 : Nat} {a2 : Nat} : (State.axGo s a1 a2).Held P := by
  unfold State.axGo
  repeat' first
    | with_reducible assumption
    | split
    | with_reducible refine OutHeld.next ?_
    | with_reducible refine OutHeld.next ?_
    | with_reducible refine State.setAx_held ?_
    | with_reducible refine State.axStart_held ?_

theorem opAxisMove_held (h : s.Held P) {a1 : Bytes} : (opAxisMove a1 s).st.Held P := by
  unfold opAxisMove
  try lift_lets
  repeat' first
    | with_reducible assumption
    | (intro x; refine (?_ : State.Held P x → _) ?_; (on_goal 1 => (intro _; try clear_value x)); (on_goal 2 => unfold x))
    | (intro g; refine (?_ : (∀ s, State.Held P s → State.Held P (g s)) → _) ?_; (on_goal 1 => (intro _; try clear_value g)); (on_goal 2 => (unfold g; intro s _)))
    | (intro g; refine (?_ : (∀ s n, State.Held P s → State.Held P (g s n)) → _) ?_; (on_goal 1 => (intro _; try clear_value g)); (on_goal 2 => (unfold g; intro s _ _)))
    | (intro x; try clear_value x)
    | split
    | lift_lets
    | with_reducible refine State.modAxis_held ?_
    | with_reducible refine Rep.ok_held ?_
    | with_reducible refine Rep.no_held ?_
    | with_reducible refine State.axGo_held ?_
    | with_reducible refine State.Held.mk_of ?_

theorem opAxisStop_held (h : s.Held P) {a1 : Bytes} : (opAxisStop a1 s).st.Held P := by
  unfold opAxisStop
  try lift_lets
  repeat' first
    | with_reducible assumption
    | (intro x; refine (?_ : State.Held P x → _) ?_; (on_goal 1 => (intro _; try clear_value x)); (on_goal 2 => unfold x))
    | (intro x; try clear_value x)
    | split
    | lift_lets
    | with_reducible refine held_foldl ?_ (fun s x h => ?_)
    | with_reducible refine Rep.ok_held ?_
    | with_reducible refine State.stopAxis_held ?_
    | with_reducible refine State.axOut_held ?_

theorem opAxisHome_held (h : s.Held P) {a1 : Bytes} : (opAxisHome a1 s).st.Held P := by
  unfold opAxisHome
  try lift_lets
  repeat' first
    | with_reducible assumption
    | (intro x; refine (?_ : State.Held P x → _) ?_; (on_goal 1 => (intro _; try clear_value x)); (on_goal 2 => unfold x))
    | (intro g; refine (?_ : (∀ s, State.Held P s → State.Held P (g s)) → _) ?_; (on_goal 1 => (intro _; try clear_value g)); (on_goal 2 => (unfold g; intro s _)))
    | (intro g; refine (?_ : (∀ s n, State.Held P s → State.Held P (g s n)) → _) ?_; (on_goal 1 => (intro _; try clear_value g)); (on_goal 2 => (unfold g; intro s _ _)))
    | (intro x; try clear_value x)
    | split
    | lift_lets
    | with_reducible refine State.modAxis_held ?_
    | with_reducible refine Rep.ok_held ?_
    | with_reducible refine Rep.no_held ?_
    | with_reducible refine State.axGo_held ?_
    | with_reducible refine State.Held.mk_of ?_

theorem opGearSet_held (h : s.Held P) {a1 : Bytes} : (opGearSet a1 s).st.Held P := by
  unfold opGearSet
  try lift_lets
  repeat' first
    | with_reducible assumption
    | (intro x; refine (?_ : State.Held P x → _) ?_; (on_goal 1 => (intro _; try clear_value x)); (on_goal 2 => unfold x))
    | (intro x; try clear_value x)
    | split
    | lift_lets
    | with_reducible refine State.modAxis_held ?_
    | with_reducible refine Rep.ok_held ?_
    | with_reducible refine Rep.no_held ?_
    | with_reducible refine State.stopAxis_held ?_
    | with_reducible refine State.axGo_held ?_
    | with_reducible refine State.Held.mk_of ?_

theorem opGearEvent_held (h : s.Held P) {a1 : Bytes} : (opGearEvent a1 s).st.Held P := by
  unfold opGearEvent
  try lift_lets
  repeat' first
    | with_reducible assumption
    | (intro x; refine (?_ : State.Held P x → _) ?_; (on_goal 1 => (intro _; try clear_value x)); (on_goal 2 => unfold x))
    | (intro x; try clear_value x)
    | split
    | lift_lets
    | with_reducible refine State.modAxis_held ?_
    | with_reducible refine Rep.ok_held ?_
    | with_reducible refine Rep.no_held ?_
    | with_reducible refine State.Held.mk_of ?_

theorem opAxisStatus_held (h : s.Held P) {a1 : Bytes} : (opAxisStatus a1 s).st.Held P := by
  unfold opAxisStatus
  try lift_lets
  repeat' first
    | with_reducible assumption
    | (intro x; refine (?_ : State.Held P x → _) ?_; (on_goal 1 => (intro _; try clear_value x)); (on_goal 2 => unfold x))
    | (intro x; try clear_value x)
    | split
    | lift_lets
    | with_reducible refine Rep.ok_held ?_
    | with_reducible refine Rep.no_held ?_

theorem execAxisMove_held (h : s.Held (Bal q none)) {a1 : Tick} {a2 : Source} {a3 : Nat} {a4 : Bytes} : OutHeld (Bal q none) (execAxisMove a1 a2 a3 a4 s) := by
  unfold execAxisMove
  refine runOp_held h fun m s _ h => ?_
  first
    | exact h
    | exact opAxisMove_held h

theorem execAxisStop_held (h : s.Held (Bal q none)) {a1 : Tick} {a2 : Source} {a3 : Nat} {a4 : Bytes} : OutHeld (Bal q none) (execAxisStop a1 a2 a3 a4 s) := by
  unfold execAxisStop
  refine runOp_held h fun m s _ h => ?_
  first
    | exact h
    | exact opAxisStop_held h

theorem execAxisHome_held (h : s.Held (Bal q none)) {a1 : Tick} {a2 : Source} {a3 : Nat} {a4 : Bytes} : OutHeld (Bal q none) (execAxisHome a1 a2 a3 a4 s) := by
  unfold execAxisHome
  refine runOp_held h fun m s _ h => ?_
  first
    | exact h
    | exact opAxisHome_held h

theorem execGearEngage_held (h : s.Held (Bal q none)) {a1 : Tick} {a2 : Source} {a3 : Nat} {a4 : Bytes} : OutHeld (Bal q none) (execGearEngage a1 a2 a3 a4 s) := by
  unfold execGearEngage
  refine runOp_held h fun m s _ h => ?_
  first
    | exact h
    | exact opGearSet_held h

theorem execGearDisengage_held (h : s.Held (Bal q none)) {a1 : Tick} {a2 : Source} {a3 : Nat} {a4 : Bytes} : OutHeld (Bal q none) (execGearDisengage a1 a2 a3 a4 s) := by
  unfold execGearDisengage
  refine runOp_held h fun m s _ h => ?_
  first
    | exact h
    | exact opGearSet_held h

theorem execGearSetRatioNow_held (h : s.Held (Bal q none)) {a1 : Tick} {a2 : Source} {a3 : Nat} {a4 : Bytes} : OutHeld (Bal q none) (execGearSetRatioNow a1 a2 a3 a4 s) := by
  unfold execGearSetRatioNow
  refine runOp_held h fun m s _ h => ?_
  first
    | exact h
    | exact opGearSet_held h

theorem execGearEvent_held (h : s.Held (Bal q none)) {a1 : Tick} {a2 : Source} {a3 : Nat} {a4 : Bytes} : OutHeld (Bal q none) (execGearEvent a1 a2 a3 a4 s) := by
  unfold execGearEvent
  refine runOp_held h fun m s _ h => ?_
  first
    | exact h
    | exact opGearEvent_held h

theorem execAxisStatus_held (h : s.Held (Bal q none)) {a1 : Tick} {a2 : Source} {a3 : Nat} {a4 : Bytes} : OutHeld (Bal q none) (execAxisStatus a1 a2 a3 a4 s) := by
  unfold execAxisStatus
  refine runOp_held h fun m s _ h => ?_
  first
    | exact h
    | exact opAxisStatus_held h

theorem State.axMotion_held (h : s.Held P) {a1 : Nat} : (State.axMotion s a1).Held P := by
  unfold State.axMotion
  try lift_lets
  repeat' first
    | with_reducible assumption
    | (intro x; refine (?_ : State.Held P x → _) ?_; (on_goal 1 => (intro _; try clear_value x)); (on_goal 2 => unfold x))
    | (intro x; try clear_value x)
    | (have hx := ‹_ = (_, _)›; have h2 := congrArg Prod.snd hx; have h1 := congrArg Prod.fst hx; dsimp only at h1 h2; subst h1 h2; clear hx)
    | split
    | lift_lets
    | with_reducible refine State.modAxis_held ?_
    | with_reducible refine State.setAx_held ?_
    | with_reducible refine State.runSpeed_held ?_
    | with_reducible refine State.runPos_held ?_
    | with_reducible refine State.homeLimits_held ?_
    | with_reducible refine State.Held.mk_of ?_

theorem State.axCascade_held (h : s.Held P) {a1 : Nat} : (State.axCascade s a1).Held P := by
  unfold State.axCascade
  try lift_lets
  repeat' first
    | with_reducible assumption
    | (intro x; refine (?_ : State.Held P x → _) ?_; (on_goal 1 => (intro _; try clear_value x)); (on_goal 2 => unfold x))
    | (intro x; try clear_value x)
    | split
    | lift_lets
    | with_reducible refine State.modAxis_held ?_
    | with_reducible refine State.raise_held ?_
    | with_reducible refine State.Held.mk_of ?_

theorem State.axSetPoints_held (h : s.Held P) {a1 : Nat} : (State.axSetPoints s a1).Held P := by
  unfold State.axSetPoints
  try lift_lets
  repeat' first
    | with_reducible assumption
    | (intro x; refine (?_ : State.Held P x → _) ?_; (on_goal 1 => (intro _; try clear_value x)); (on_goal 2 => unfold x))
    | (intro x; try clear_value x)
    | split
    | lift_lets
    | with_reducible refine State.modAxis_held ?_
    | with_reducible refine State.hold_held ?_
    | with_reducible refine State.Held.mk_of ?_

theorem State.axCycle_held (h : s.Held P) {a1 : Nat} : (State.axCycle s a1).Held P := by
  unfold State.axCycle
  try lift_lets
  repeat' first
    | with_reducible assumption
    | (intro x; refine (?_ : State.Held P x → _) ?_; (on_goal 1 => (intro _; try clear_value x)); (on_goal 2 => unfold x))
    | (intro x; try clear_value x)
    | split
    | lift_lets
    | with_reducible refine State.modAxis_held ?_
    | with_reducible refine State.homeDone_held ?_
    | with_reducible refine State.axOut_held ?_
    | with_reducible refine State.gearCycle_held ?_
    | with_reducible refine State.axLimits_held ?_
    | with_reducible refine State.axMotion_held ?_
    | with_reducible refine State.axCascade_held ?_
    | with_reducible refine State.axSetPoints_held ?_
    | with_reducible refine State.Held.mk_of ?_

theorem State.superviseShunts_held (h : s.Held P) {a1 : Nat} : (State.superviseShunts s a1).Held P := by
  unfold State.superviseShunts
  repeat' first
    | with_reducible assumption
    | split
    | with_reducible refine held_foldl ?_ (fun s x h => ?_)
    | with_reducible refine State.sarRequest_held ?_

theorem execAxisCycle_held (h : s.Held P) {a1 : Tick} : OutHeld P (execAxisCycle a1 s) := by
  unfold execAxisCycle
  try lift_lets
  repeat' first
    | with_reducible assumption
    | (intro x; refine (?_ : State.Held P x → _) ?_; (on_goal 1 => (intro _; try clear_value x)); (on_goal 2 => unfold x))
    | (intro x; try clear_value x)
    | split
    | lift_lets
    | with_reducible refine State.modAux_held ?_
    | with_reducible refine State.upTo_held ?_
    | with_reducible refine held_foldl ?_ (fun s x h => ?_)
    | with_reducible refine OutHeld.next ?_
    | with_reducible refine OutHeld.next ?_
    | with_reducible refine State.sarRequest_held ?_
    | with_reducible refine State.axCycle_held ?_
    | with_reducible refine State.superviseShunts_held ?_
    | with_reducible refine State.Held.mk_of ?_

theorem execHoldCurrentTimeout_held (h : s.Held P) {a1 : Tick} {a2 : Fin 4} : OutHeld P (execHoldCurrentTimeout a1 a2 s) := by
  unfold execHoldCurrentTimeout
  try lift_lets
  repeat' first
    | with_reducible assumption
    | (intro x; refine (?_ : State.Held P x → _) ?_; (on_goal 1 => (intro _; try clear_value x)); (on_goal 2 => unfold x))
    | (intro x; try clear_value x)
    | split
    | lift_lets
    | with_reducible refine State.modAxis_held ?_
    | with_reducible refine State.upTo_held ?_
    | with_reducible refine OutHeld.next ?_
    | with_reducible refine OutHeld.next ?_
    | with_reducible refine State.hold_held ?_
    | with_reducible refine State.axOut_held ?_
    | with_reducible refine State.axSetPoints_held ?_
    | with_reducible refine State.Held.mk_of ?_

theorem execStepperChopTrip_held (h : s.Held P) {a1 : Tick} {a2 : Fin 4} {a3 : Fin 2} : OutHeld P (execStepperChopTrip a1 a2 a3 s) := by
  unfold execStepperChopTrip
  try lift_lets
  repeat' first
    | with_reducible assumption
    | (intro x; refine (?_ : State.Held P x → _) ?_; (on_goal 1 => (intro _; try clear_value x)); (on_goal 2 => unfold x))
    | (intro x; try clear_value x)
    | split
    | lift_lets
    | with_reducible refine State.modAxis_held ?_
    | with_reducible refine State.upTo_held ?_
    | with_reducible refine OutHeld.next ?_
    | with_reducible refine OutHeld.next ?_
    | with_reducible refine State.axOut_held ?_
    | with_reducible refine State.Held.mk_of ?_

theorem execStepperToffEnd_held (h : s.Held P) {a1 : Tick} {a2 : Fin 4} {a3 : Fin 2} : OutHeld P (execStepperToffEnd a1 a2 a3 s) := by
  unfold execStepperToffEnd
  try lift_lets
  repeat' first
    | with_reducible assumption
    | (intro x; refine (?_ : State.Held P x → _) ?_; (on_goal 1 => (intro _; try clear_value x)); (on_goal 2 => unfold x))
    | (intro g; refine (?_ : (∀ s, State.Held P s → State.Held P (g s)) → _) ?_; (on_goal 1 => (intro _; try clear_value g)); (on_goal 2 => (unfold g; intro s _)))
    | (intro g; refine (?_ : (∀ s n, State.Held P s → State.Held P (g s n)) → _) ?_; (on_goal 1 => (intro _; try clear_value g)); (on_goal 2 => (unfold g; intro s _ _)))
    | (intro x; try clear_value x)
    | split
    | lift_lets
    | with_reducible refine State.modAxis_held ?_
    | with_reducible refine State.upTo_held ?_
    | with_reducible refine OutHeld.next ?_
    | with_reducible refine OutHeld.next ?_
    | with_reducible refine State.axOut_held ?_
    | with_reducible refine State.Held.mk_of ?_

theorem execRefreshSequence_held (h : s.Held P) {a1 : Tick} {a2 : Fin 16} : OutHeld P (execRefreshSequence a1 a2 s) := by
  unfold execRefreshSequence
  try lift_lets
  repeat' first
    | with_reducible assumption
    | (intro x; refine (?_ : State.Held P x → _) ?_; (on_goal 1 => (intro _; try clear_value x)); (on_goal 2 => unfold x))
    | (intro x; try clear_value x)
    | split
    | lift_lets
    | with_reducible refine State.modAxis_held ?_
    | with_reducible refine State.upTo_held ?_
    | with_reducible refine OutHeld.next ?_
    | with_reducible refine OutHeld.next ?_
    | with_reducible refine State.modHb_held ?_
    | with_reducible refine State.Held.mk_of ?_

theorem execPrechargeDone_held (h : s.Held P) {a1 : Tick} {a2 : Fin 4} {a3 : Nat} : OutHeld P (execPrechargeDone a1 a2 a3 s) := by
  unfold execPrechargeDone
  try lift_lets
  repeat' first
    | with_reducible assumption
    | (intro x; refine (?_ : State.Held P x → _) ?_; (on_goal 1 => (intro _; try clear_value x)); (on_goal 2 => unfold x))
    | (intro x; try clear_value x)
    | split
    | lift_lets
    | with_reducible refine State.modAux_held ?_
    | with_reducible refine State.modAxis_held ?_
    | with_reducible refine State.upTo_held ?_
    | with_reducible refine OutHeld.next ?_
    | with_reducible refine OutHeld.next ?_
    | with_reducible refine State.setAx_held ?_
    | with_reducible refine State.raise_held ?_
    | with_reducible refine State.axOut_held ?_
    | with_reducible refine State.Held.mk_of ?_

theorem execBootstrapUv_held (h : s.Held P) {a1 : Tick} {a2 : Fin 16} : OutHeld P (execBootstrapUv a1 a2 s) := by
  unfold execBootstrapUv
  try lift_lets
  repeat' first
    | with_reducible assumption
    | (intro x; refine (?_ : State.Held P x → _) ?_; (on_goal 1 => (intro _; try clear_value x)); (on_goal 2 => unfold x))
    | (intro x; try clear_value x)
    | split
    | lift_lets
    | with_reducible refine State.modAux_held ?_
    | with_reducible refine State.modAxis_held ?_
    | with_reducible refine State.upTo_held ?_
    | with_reducible refine OutHeld.next ?_
    | with_reducible refine OutHeld.next ?_
    | with_reducible refine State.raise_held ?_
    | with_reducible refine State.modHb_held ?_
    | with_reducible refine State.axOut_held ?_
    | with_reducible refine State.Held.mk_of ?_

theorem execAuxBusOv_held (h : s.Held P) {a1 : Tick} {a2 : Nat} : OutHeld P (execAuxBusOv a1 a2 s) := by
  unfold execAuxBusOv
  try lift_lets
  repeat' first
    | with_reducible assumption
    | (intro x; refine (?_ : State.Held P x → _) ?_; (on_goal 1 => (intro _; try clear_value x)); (on_goal 2 => unfold x))
    | (intro x; try clear_value x)
    | split
    | lift_lets
    | with_reducible refine State.modAux_held ?_
    | with_reducible refine State.upTo_held ?_
    | with_reducible refine OutHeld.next ?_
    | with_reducible refine OutHeld.next ?_
    | with_reducible refine State.raise_held ?_
    | with_reducible refine State.axOutAll_held ?_
    | with_reducible refine State.Held.mk_of ?_

theorem execAuxShootThroughAttempt_held (h : s.Held P) {a1 : Tick} {a2 : Fin 16} : OutHeld P (execAuxShootThroughAttempt a1 a2 s) := by
  unfold execAuxShootThroughAttempt
  try lift_lets
  repeat' first
    | with_reducible assumption
    | (intro x; refine (?_ : State.Held P x → _) ?_; (on_goal 1 => (intro _; try clear_value x)); (on_goal 2 => unfold x))
    | (intro x; try clear_value x)
    | split
    | lift_lets
    | with_reducible refine State.modAux_held ?_
    | with_reducible refine State.modSafety_held ?_
    | with_reducible refine State.upTo_held ?_
    | with_reducible refine OutHeld.next ?_
    | with_reducible refine OutHeld.next ?_
    | with_reducible refine State.raise_held ?_
    | with_reducible refine State.axOut_held ?_
    | with_reducible refine State.Held.mk_of ?_

theorem execAxOvercurrent_held (h : s.Held P) {a1 : Tick} {a2 : Fin 8} : OutHeld P (execAxOvercurrent a1 a2 s) := by
  unfold execAxOvercurrent
  try lift_lets
  repeat' first
    | with_reducible assumption
    | (intro x; refine (?_ : State.Held P x → _) ?_; (on_goal 1 => (intro _; try clear_value x)); (on_goal 2 => unfold x))
    | (intro x; try clear_value x)
    | split
    | lift_lets
    | with_reducible refine State.upTo_held ?_
    | with_reducible refine OutHeld.next ?_
    | with_reducible refine OutHeld.next ?_
    | with_reducible refine State.raise_held ?_
    | with_reducible refine State.axOut_held ?_

theorem State.axSlew_held (h : s.Held P) {a1 : Nat} : (State.axSlew s a1).Held P := by
  unfold State.axSlew
  try lift_lets
  repeat' first
    | with_reducible assumption
    | (intro x; refine (?_ : State.Held P x → _) ?_; (on_goal 1 => (intro _; try clear_value x)); (on_goal 2 => unfold x))
    | (intro x; try clear_value x)
    | (have hx := ‹_ = (_, _)›; have h2 := congrArg Prod.snd hx; have h1 := congrArg Prod.fst hx; dsimp only at h1 h2; subst h1 h2; clear hx)
    | split
    | lift_lets
    | with_reducible refine State.modAxis_held ?_
    | with_reducible refine State.Held.mk_of ?_

theorem State.axLoop_held (h : s.Held P) {a1 : Nat} {a2 : Nat} : (State.axLoop s a1 a2).Held P := by
  unfold State.axLoop
  try lift_lets
  repeat' first
    | with_reducible assumption
    | (intro x; refine (?_ : State.Held P x → _) ?_; (on_goal 1 => (intro _)); (on_goal 2 => unfold x))
    | (intro g; refine (?_ : (∀ s, State.Held P s → State.Held P (g s)) → _) ?_; (on_goal 1 => (intro _)); (on_goal 2 => (unfold g; intro s _)))
    | (intro g; refine (?_ : (∀ s n, State.Held P s → State.Held P (g s n)) → _) ?_; (on_goal 1 => (intro _)); (on_goal 2 => (unfold g; intro s _ _)))
    | (intro x)
    | (have hx := ‹_ = (_, _)›; have h2 := congrArg Prod.snd hx; have h1 := congrArg Prod.fst hx; dsimp only at h1 h2; subst h1 h2; clear hx)
    | split
    | lift_lets
    | with_reducible refine State.modAxis_held ?_
    | with_reducible refine State.Held.mk_of ?_

theorem State.axConvert_held (h : s.Held P) {a1 : Nat} {a2 : List (Nat × Nat × Int) × Vector Int 3} {a3 : Nat} : (State.axConvert s a1 a2 a3).Held P := by
  unfold State.axConvert
  try lift_lets
  repeat' first
    | with_reducible assumption
    | (intro x; refine (?_ : State.Held P x → _) ?_; (on_goal 1 => (intro _; try clear_value x)); (on_goal 2 => unfold x))
    | (intro x; try clear_value x)
    | lift_lets
    | with_reducible refine State.modAxis_held ?_
    | with_reducible refine held_foldl ?_ (fun s x h => ?_)
    | with_reducible refine State.settle_held ?_
    | with_reducible refine State.sarRequest_held ?_
    | with_reducible refine State.Held.mk_of ?_

theorem execAxisPwmPeriod_held (h : s.Held P) {a1 : Tick} {a2 : Fin 4} : OutHeld P (execAxisPwmPeriod a1 a2 s) := by
  unfold execAxisPwmPeriod
  try lift_lets
  repeat' first
    | with_reducible assumption
    | (intro x; refine (?_ : State.Held P x → _) ?_; (on_goal 1 => (intro _; try clear_value x)); (on_goal 2 => unfold x))
    | (intro x; try clear_value x)
    | split
    | lift_lets
    | with_reducible refine State.upTo_held ?_
    | with_reducible refine OutHeld.next ?_
    | with_reducible refine OutHeld.next ?_
    | with_reducible refine State.axOut_held ?_
    | with_reducible refine State.measureShunts_held ?_
    | with_reducible refine State.axSlew_held ?_
    | with_reducible refine State.axLoop_held ?_
    | with_reducible refine State.axConvert_held ?_

theorem State.sarResult_held (h : s.Held P) {a1 : SarConverter} {a2 : SarReq} {a3 : Tick} {a4 : Int} : (State.sarResult s a1 a2 a3 a4).Held P := by
  unfold State.sarResult
  try lift_lets
  repeat' first
    | with_reducible assumption
    | (intro x; refine (?_ : State.Held P x → _) ?_; (on_goal 1 => (intro _; try clear_value x)); (on_goal 2 => unfold x))
    | (intro x; try clear_value x)
    | split
    | lift_lets
    | with_reducible refine State.modSref_held ?_
    | with_reducible refine State.modThermal_held ?_
    | with_reducible refine State.modFb_held ?_
    | with_reducible refine State.modAxis_held ?_
    | with_reducible refine State.modSar_held ?_
    | with_reducible refine State.axOut_held ?_
    | with_reducible refine State.Held.mk_of ?_

theorem State.sarPeriodic_held (h : s.Held P) {a1 : SarConverter} : (State.sarPeriodic s a1).Held P := by
  unfold State.sarPeriodic
  try lift_lets
  repeat' first
    | with_reducible assumption
    | (intro x; refine (?_ : State.Held P x → _) ?_; (on_goal 1 => (intro _)); (on_goal 2 => unfold x))
    | (intro g; refine (?_ : (∀ s, State.Held P s → State.Held P (g s)) → _) ?_; (on_goal 1 => (intro _)); (on_goal 2 => (unfold g; intro s _)))
    | (intro g; refine (?_ : (∀ s n, State.Held P s → State.Held P (g s n)) → _) ?_; (on_goal 1 => (intro _)); (on_goal 2 => (unfold g; intro s _ _)))
    | (intro x)
    | split
    | lift_lets
    | with_reducible refine held_foldl ?_ (fun s x h => ?_)
    | with_reducible refine State.modSar_held ?_
    | with_reducible refine State.sarRequest_held ?_
    | with_reducible refine State.Held.mk_of ?_

theorem State.sarStart_held (h : s.Held P) {a1 : SarConverter} : (State.sarStart s a1).Held P := by
  unfold State.sarStart
  try lift_lets
  repeat' first
    | with_reducible assumption
    | (intro x; refine (?_ : State.Held P x → _) ?_; (on_goal 1 => (intro _; try clear_value x)); (on_goal 2 => unfold x))
    | (intro x; try clear_value x)
    | split
    | lift_lets
    | with_reducible refine State.modFb_held ?_
    | with_reducible refine State.modSar_held ?_
    | with_reducible refine State.Held.mk_of ?_

theorem execSarSlot_held (h : s.Held P) {a1 : Tick} {a2 : SarConverter} {a3 : Int} : OutHeld P (execSarSlot a1 a2 a3 s) := by
  unfold execSarSlot
  try lift_lets
  repeat' first
    | with_reducible assumption
    | (intro x; refine (?_ : State.Held P x → _) ?_; (on_goal 1 => (intro _; try clear_value x)); (on_goal 2 => unfold x))
    | (intro x; try clear_value x)
    | split
    | lift_lets
    | with_reducible refine State.upTo_held ?_
    | with_reducible refine OutHeld.next ?_
    | with_reducible refine OutHeld.next ?_
    | with_reducible refine State.sarResult_held ?_
    | with_reducible refine State.sarPeriodic_held ?_
    | with_reducible refine State.sarStart_held ?_

theorem opRecorderSetup_held (h : s.Held P) {a1 : Bytes} : (opRecorderSetup a1 s).st.Held P := by
  unfold opRecorderSetup
  try lift_lets
  repeat' first
    | with_reducible assumption
    | (intro x; refine (?_ : State.Held P x → _) ?_; (on_goal 1 => (intro _; try clear_value x)); (on_goal 2 => unfold x))
    | (intro x; try clear_value x)
    | split
    | lift_lets
    | with_reducible refine State.modRecorder_held ?_
    | with_reducible refine State.recState_held ?_
    | with_reducible refine Rep.ok_held ?_
    | with_reducible refine Rep.no_held ?_

theorem opRecorderArm_held (h : s.Held P) : (opRecorderArm s).st.Held P := by
  unfold opRecorderArm
  repeat' first
    | with_reducible assumption
    | split
    | with_reducible refine State.modRecorder_held ?_
    | with_reducible refine State.recState_held ?_
    | with_reducible refine Rep.ok_held ?_
    | with_reducible refine Rep.no_held ?_

theorem opRecorderTrigger_held (h : s.Held P) : (opRecorderTrigger s).st.Held P := by
  unfold opRecorderTrigger
  repeat' first
    | with_reducible assumption
    | split
    | with_reducible refine State.recTrigger_held ?_
    | with_reducible refine Rep.ok_held ?_
    | with_reducible refine Rep.no_held ?_

theorem opRecorderRead_held (h : s.Held P) {a1 : Bytes} : (opRecorderRead a1 s).st.Held P := by
  unfold opRecorderRead
  try lift_lets
  repeat' first
    | with_reducible assumption
    | (intro x; refine (?_ : State.Held P x → _) ?_; (on_goal 1 => (intro _; try clear_value x)); (on_goal 2 => unfold x))
    | (intro x; try clear_value x)
    | split
    | lift_lets
    | with_reducible refine Rep.ok_held ?_
    | with_reducible refine Rep.no_held ?_

theorem execRecorderSetup_held (h : s.Held (Bal q none)) {a1 : Tick} {a2 : Source} {a3 : Nat} {a4 : Bytes} : OutHeld (Bal q none) (execRecorderSetup a1 a2 a3 a4 s) := by
  unfold execRecorderSetup
  refine runOp_held h fun m s _ h => ?_
  first
    | exact h
    | exact opRecorderSetup_held h

theorem execRecorderArm_held (h : s.Held (Bal q none)) {a1 : Tick} {a2 : Source} {a3 : Nat} {a4 : Bytes} : OutHeld (Bal q none) (execRecorderArm a1 a2 a3 a4 s) := by
  unfold execRecorderArm
  refine runOp_held h fun m s _ h => ?_
  first
    | exact h
    | exact opRecorderArm_held h

theorem execRecorderRead_held (h : s.Held (Bal q none)) {a1 : Tick} {a2 : Source} {a3 : Nat} {a4 : Bytes} : OutHeld (Bal q none) (execRecorderRead a1 a2 a3 a4 s) := by
  unfold execRecorderRead
  refine runOp_held h fun m s _ h => ?_
  first
    | exact h
    | exact opRecorderRead_held h

theorem execRecorderTrigger_held (h : s.Held (Bal q none)) {a1 : Tick} {a2 : Source} {a3 : Nat} {a4 : Bytes} : OutHeld (Bal q none) (execRecorderTrigger a1 a2 a3 a4 s) := by
  unfold execRecorderTrigger
  refine runOp_held h fun m s _ h => ?_
  first
    | exact h
    | exact opRecorderTrigger_held h

theorem State.recWrite_held (h : s.Held P) {a1 : Bytes} {a2 : Tick} : (State.recWrite s a1 a2).Held P := by
  unfold State.recWrite
  try lift_lets
  repeat' first
    | with_reducible assumption
    | (intro x; refine (?_ : State.Held P x → _) ?_; (on_goal 1 => (intro _; try clear_value x)); (on_goal 2 => unfold x))
    | (intro x; try clear_value x)
    | split
    | lift_lets
    | with_reducible refine State.modRecorder_held ?_
    | with_reducible refine State.recState_held ?_
    | with_reducible refine State.raise_held ?_
    | with_reducible refine State.Held.mk_of ?_

theorem State.recCycle_held (h : s.Held P) {a1 : Nat} {a2 : Tick} : (State.recCycle s a1 a2).Held P := by
  unfold State.recCycle
  try lift_lets
  repeat' first
    | with_reducible assumption
    | (intro x; refine (?_ : State.Held P x → _) ?_; (on_goal 1 => (intro _; try clear_value x)); (on_goal 2 => unfold x))
    | (intro x; try clear_value x)
    | split
    | lift_lets
    | with_reducible refine State.modRecorder_held ?_
    | with_reducible refine State.recTrigger_held ?_
    | with_reducible refine State.recWrite_held ?_
    | with_reducible refine State.Held.mk_of ?_

theorem execRecorderFlush_held (h : s.Held P) {a1 : Tick} : OutHeld P (execRecorderFlush a1 s) := by
  have hu := State.upTo_held h (t := a1)
  unfold execRecorderFlush
  generalize s.upTo a1 = u at hu
  refine OutHeld.next ?_
  split
  · exact hu
  · exact hu
  · exact State.modRecorder_held (State.sysPost_held hu)

end Sys2Proof.Machine
end

