-- ==== Sys2Proof/Laws/HeldC.lean ====
section
/-! SUPPORT. What the operations of FieldEngine, Observers, DcLink, Torsion keep: one lemma each. -/
namespace Sys2Proof.Machine

variable {P : State → Prop} {q : List Instr} {fl : Option (Source × Nat)} {s : State}
theorem State.dcCheck_held (h : s.Held P) {a1 : Nat} : (State.dcCheck s a1).Held P := by
  unfold State.dcCheck
  try lift_lets
  repeat' first
    | with_reducible assumption
    | (intro x; refine (?_ : State.Held P x → _) ?_; (on_goal 1 => (intro _; try clear_value x)); (on_goal 2 => unfold x))
    | (intro g; refine (?_ : (∀ s, State.Held P s → State.Held P (g s)) → _) ?_; (on_goal 1 => (intro _; try clear_value g)); (on_goal 2 => (unfold g; intro s _)))
    | (intro g; refine (?_ : (∀ s n, State.Held P s → State.Held P (g s n)) → _) ?_; (on_goal 1 => (intro _; try clear_value g)); (on_goal 2 => (unfold g; intro s _ _)))
    | (intro x; try clear_value x)
    | split
    | lift_lets
    | with_reducible refine State.modStack_held ?_
    | with_reducible refine State.raise_held ?_
    | with_reducible refine State.Held.mk_of ?_

theorem State.loadCompare_held (h : s.Held P) {a1 : Nat} {a2 : Vector Nat 3} : (State.loadCompare s a1 a2).Held P := by
  unfold State.loadCompare
  try lift_lets
  repeat' first
    | with_reducible assumption
    | (intro x; refine (?_ : State.Held P x → _) ?_; (on_goal 1 => (intro _; try clear_value x)); (on_goal 2 => unfold x))
    | (intro g; refine (?_ : (∀ s, State.Held P s → State.Held P (g s)) → _) ?_; (on_goal 1 => (intro _; try clear_value g)); (on_goal 2 => (unfold g; intro s _)))
    | (intro g; refine (?_ : (∀ s n, State.Held P s → State.Held P (g s n)) → _) ?_; (on_goal 1 => (intro _; try clear_value g)); (on_goal 2 => (unfold g; intro s _ _)))
    | (intro x; try clear_value x)
    | split
    | lift_lets
    | with_reducible refine State.modFe_held ?_
    | with_reducible refine State.cmpActivate_held ?_
    | with_reducible refine State.Held.mk_of ?_

theorem State.overCurrent_held (h : s.Held P) {a1 : Nat} : (State.overCurrent s a1).Held P := by
  unfold State.overCurrent
  try lift_lets
  repeat' first
    | with_reducible assumption
    | (intro x; refine (?_ : State.Held P x → _) ?_; (on_goal 1 => (intro _; try clear_value x)); (on_goal 2 => unfold x))
    | (intro x; try clear_value x)
    | split
    | lift_lets
    | with_reducible refine State.tripPhases_held ?_

theorem State.applyCycle_held (h : s.Held P) {a1 : Nat} {a2 : CycIn} {a3 : CycOut} {a4 : Rat} {a5 : Rat} {a6 : Rat} {a7 : Bool} : (State.applyCycle s a1 a2 a3 a4 a5 a6 a7).Held P := by
  unfold State.applyCycle
  try lift_lets
  repeat' first
    | with_reducible assumption
    | (intro x; refine (?_ : State.Held P x → _) ?_; (on_goal 1 => (intro _)); (on_goal 2 => unfold x))
    | (intro x)
    | split
    | lift_lets
    | with_reducible refine State.modFe_held ?_
    | with_reducible refine State.loadCompare_held ?_
    | with_reducible refine State.Held.mk_of ?_

theorem State.fluxRange_held (h : s.Held P) {a1 : Nat} {a2 : Rat} {a3 : Rat} : (State.fluxRange s a1 a2 a3).Held P := by
  unfold State.fluxRange
  try lift_lets
  repeat' first
    | with_reducible assumption
    | (intro x; refine (?_ : State.Held P x → _) ?_; (on_goal 1 => (intro _; try clear_value x)); (on_goal 2 => unfold x))
    | (intro x; try clear_value x)
    | split
    | lift_lets
    | with_reducible refine State.raise_held ?_
    | with_reducible refine State.modFe_held ?_
    | with_reducible refine State.Held.mk_of ?_

theorem State.normalCycle_held (h : s.Held P) {a1 : Nat} {a2 : CycIn} : (State.normalCycle s a1 a2).Held P := by
  unfold State.normalCycle
  try lift_lets
  repeat' first
    | with_reducible assumption
    | (intro x; refine (?_ : State.Held P x → _) ?_; (on_goal 1 => (intro _; try clear_value x)); (on_goal 2 => unfold x))
    | (intro x; try clear_value x)
    | (have hx := ‹_ = (_, _)›; have h2 := congrArg Prod.snd hx; have h1 := congrArg Prod.fst hx; dsimp only at h1 h2; subst h1 h2; clear hx)
    | split
    | lift_lets
    | with_reducible refine State.modFe_held ?_
    | with_reducible refine State.applyCycle_held ?_
    | with_reducible refine State.Held.mk_of ?_

theorem State.fixedCycle_held (h : s.Held P) {a1 : Nat} {a2 : CycIn} {a3 : Rat} {a4 : Rat} : (State.fixedCycle s a1 a2 a3 a4).Held P := by
  unfold State.fixedCycle
  try lift_lets
  repeat' first
    | with_reducible assumption
    | (intro x; refine (?_ : State.Held P x → _) ?_; (on_goal 1 => (intro _; try clear_value x)); (on_goal 2 => unfold x))
    | (intro x; try clear_value x)
    | (have hx := ‹_ = (_, _)›; have h2 := congrArg Prod.snd hx; have h1 := congrArg Prod.fst hx; dsimp only at h1 h2; subst h1 h2; clear hx)
    | split
    | lift_lets
    | with_reducible refine State.modFe_held ?_
    | with_reducible refine State.applyCycle_held ?_
    | with_reducible refine State.Held.mk_of ?_

theorem State.imposedCycle_held (h : s.Held P) {a1 : Nat} {a2 : CycIn} {a3 : Rat} : (State.imposedCycle s a1 a2 a3).Held P := by
  unfold State.imposedCycle
  try lift_lets
  repeat' first
    | with_reducible assumption
    | (intro x; refine (?_ : State.Held P x → _) ?_; (on_goal 1 => (intro _; try clear_value x)); (on_goal 2 => unfold x))
    | (intro x; try clear_value x)
    | (have hx := ‹_ = (_, _)›; have h2 := congrArg Prod.snd hx; have h1 := congrArg Prod.fst hx; dsimp only at h1 h2; subst h1 h2; clear hx)
    | split
    | lift_lets
    | with_reducible refine State.modFe_held ?_
    | with_reducible refine State.applyCycle_held ?_
    | with_reducible refine State.Held.mk_of ?_

theorem State.modOs_held (h : s.Held P) {a1 : Nat} {a2 : ObsSet → ObsSet} : (State.modOs s a1 a2).Held P := by
  unfold State.modOs
  repeat' first
    | with_reducible assumption
    | with_reducible refine State.modStack_held ?_
    | with_reducible refine State.Held.mk_of ?_

theorem State.pll_held (h : s.Held P) {a1 : Nat} {a2 : CycIn} : (State.pll s a1 a2).Held P := by
  unfold State.pll
  try lift_lets
  repeat' first
    | with_reducible assumption
    | (intro x; refine (?_ : State.Held P x → _) ?_; (on_goal 1 => (intro _; try clear_value x)); (on_goal 2 => unfold x))
    | (intro x; try clear_value x)
    | (have hx := ‹_ = (_, _)›; have h2 := congrArg Prod.snd hx; have h1 := congrArg Prod.fst hx; dsimp only at h1 h2; subst h1 h2; clear hx)
    | split
    | lift_lets
    | with_reducible refine State.modOs_held ?_
    | with_reducible refine State.Held.mk_of ?_

theorem State.zeroVolt_held (h : s.Held P) {a1 : Nat} {a2 : CycIn} : (State.zeroVolt s a1 a2).2.2.Held P := by
  unfold State.zeroVolt
  try lift_lets
  repeat' first
    | with_reducible assumption
    | (intro x; refine (?_ : State.Held P x → _) ?_; (on_goal 1 => (intro _; try clear_value x)); (on_goal 2 => unfold x))
    | (intro x; try clear_value x)
    | (have hx := ‹_ = (_, _)›; have h2 := congrArg Prod.snd hx; have h1 := congrArg Prod.fst hx; dsimp only at h1 h2; subst h1 h2; clear hx)
    | split
    | lift_lets
    | with_reducible refine State.modOs_held ?_
    | with_reducible refine State.Held.mk_of ?_

theorem State.zeroCycle_held (h : s.Held P) {k : Nat} {c : CycIn} : (State.zeroCycle s k c).Held P := by
  unfold State.zeroCycle
  have hv : (s.zeroVolt k c).2.2.Held P := State.zeroVolt_held h
  generalize s.zeroVolt k c = e at hv ⊢
  obtain ⟨a, b, v⟩ := e
  exact State.modOs_held (State.fixedCycle_held hv)

theorem State.catchInit_held (h : s.Held P) {a1 : Nat} : (State.catchInit s a1).Held P := by
  unfold State.catchInit
  repeat' first
    | with_reducible assumption
    | with_reducible refine held_foldl ?_ (fun s x h => ?_)
    | with_reducible refine State.modOs_held ?_
    | with_reducible refine State.Held.mk_of ?_

theorem State.obsCount_held (h : s.Held P) {a1 : Nat} {a2 : Rat} : (State.obsCount s a1 a2).Held P := by
  unfold State.obsCount
  repeat' first
    | with_reducible assumption
    | with_reducible refine State.modObs_held ?_
    | with_reducible refine State.Held.mk_of ?_

theorem State.obsLatch_held (h : s.Held P) {a1 : Nat} {a2 : Tick} {a3 : Rat} : (State.obsLatch s a1 a2 a3).Held P := by
  unfold State.obsLatch
  try lift_lets
  repeat' first
    | with_reducible assumption
    | (intro x; refine (?_ : State.Held P x → _) ?_; (on_goal 1 => (intro _; try clear_value x)); (on_goal 2 => unfold x))
    | (intro x; try clear_value x)
    | lift_lets
    | with_reducible refine State.modObs_held ?_
    | with_reducible refine State.Held.mk_of ?_

theorem State.obsRun_held (h : s.Held P) {a1 : Nat} : (State.obsRun s a1).Held P := by
  unfold State.obsRun
  try lift_lets
  repeat' first
    | with_reducible assumption
    | (intro x; refine (?_ : State.Held P x → _) ?_; (on_goal 1 => (intro _; try clear_value x)); (on_goal 2 => unfold x))
    | (intro x; try clear_value x)
    | split
    | lift_lets
    | with_reducible refine State.modObs_held ?_
    | with_reducible refine held_foldl ?_ (fun s x h => ?_)
    | with_reducible refine State.setObs_held ?_
    | with_reducible refine State.modFe_held ?_
    | with_reducible refine State.obsCount_held ?_
    | with_reducible refine State.Held.mk_of ?_

theorem State.obsAsc_held (h : s.Held P) {a1 : Nat} : (State.obsAsc s a1).Held P := by
  unfold State.obsAsc
  try lift_lets
  repeat' first
    | with_reducible assumption
    | (intro x; refine (?_ : State.Held P x → _) ?_; (on_goal 1 => (intro _; try clear_value x)); (on_goal 2 => unfold x))
    | (intro x; try clear_value x)
    | split
    | lift_lets
    | with_reducible refine State.modStack_held ?_
    | with_reducible refine State.modObs_held ?_
    | with_reducible refine held_foldl ?_ (fun s x h => ?_)
    | with_reducible refine State.settle_held ?_
    | with_reducible refine State.Held.mk_of ?_

theorem State.obsToLost_held (h : s.Held P) {a1 : Nat} : (State.obsToLost s a1).Held P := by
  unfold State.obsToLost
  try lift_lets
  repeat' first
    | with_reducible assumption
    | (intro x; refine (?_ : State.Held P x → _) ?_; (on_goal 1 => (intro _; try clear_value x)); (on_goal 2 => unfold x))
    | (intro x; try clear_value x)
    | split
    | lift_lets
    | with_reducible refine State.modObs_held ?_
    | with_reducible refine held_foldl ?_ (fun s x h => ?_)
    | with_reducible refine State.setObs_held ?_
    | with_reducible refine State.modOs_held ?_
    | with_reducible refine State.obsAsc_held ?_
    | with_reducible refine State.Held.mk_of ?_

theorem State.obsLost_held (h : s.Held P) {a1 : Nat} {a2 : Nat} : (State.obsLost s a1 a2).Held P := by
  unfold State.obsLost
  try lift_lets
  repeat' first
    | with_reducible assumption
    | (intro x; refine (?_ : State.Held P x → _) ?_; (on_goal 1 => (intro _; try clear_value x)); (on_goal 2 => unfold x))
    | (intro x; try clear_value x)
    | split
    | lift_lets
    | with_reducible refine State.raise_held ?_
    | with_reducible refine State.obsToLost_held ?_

theorem State.startFailed_held (h : s.Held P) {a1 : Nat} {a2 : Nat} : (State.startFailed s a1 a2).Held P := by
  unfold State.startFailed
  repeat' first
    | with_reducible assumption
    | with_reducible refine State.raise_held ?_

theorem State.catchResult_held (h : s.Held P) {a1 : Nat} {a2 : Nat} : (State.catchResult s a1 a2).Held P := by
  unfold State.catchResult
  try lift_lets
  repeat' first
    | with_reducible assumption
    | (intro x; refine (?_ : State.Held P x → _) ?_; (on_goal 1 => (intro _; try clear_value x)); (on_goal 2 => unfold x))
    | (intro x; try clear_value x)
    | lift_lets
    | with_reducible refine State.info_held ?_

theorem State.startCycle_held (h : s.Held P) {a1 : Nat} {a2 : Nat} {a3 : CycIn} : (State.startCycle s a1 a2 a3).Held P := by
  unfold State.startCycle
  try lift_lets
  repeat' first
    | with_reducible assumption
    | (intro x; refine (?_ : State.Held P x → _) ?_; (on_goal 1 => (intro _; try clear_value x)); (on_goal 2 => unfold x))
    | (intro x; try clear_value x)
    | (have hx := ‹_ = (_, _)›; have h2 := congrArg Prod.snd hx; have h1 := congrArg Prod.fst hx; dsimp only at h1 h2; subst h1 h2; clear hx)
    | split
    | lift_lets
    | with_reducible refine State.modObs_held ?_
    | with_reducible refine State.fixedCycle_held ?_
    | with_reducible refine State.modOs_held ?_
    | with_reducible refine State.startFailed_held ?_
    | with_reducible refine State.Held.mk_of ?_

theorem State.startBegin_held (h : s.Held P) {a1 : Nat} : (State.startBegin s a1).Held P := by
  unfold State.startBegin
  repeat' first
    | with_reducible assumption
    | with_reducible refine State.modObs_held ?_
    | with_reducible refine State.setObs_held ?_
    | with_reducible refine State.Held.mk_of ?_

theorem State.noteOk_held (h : s.Held P) {a1 : Nat} {a2 : Nat} {a3 : Rat} : (State.noteOk s a1 a2 a3).Held P := by
  unfold State.noteOk
  try lift_lets
  repeat' first
    | with_reducible assumption
    | (intro x; refine (?_ : State.Held P x → _) ?_; (on_goal 1 => (intro _; try clear_value x)); (on_goal 2 => unfold x))
    | (intro x; try clear_value x)
    | split
    | lift_lets
    | with_reducible refine State.modObs_held ?_
    | with_reducible refine Rep.ok_held ?_
    | with_reducible refine State.Held.mk_of ?_

theorem State.noteSlow_held (h : s.Held P) {a1 : Nat} {a2 : Nat} : (State.noteSlow s a1 a2).1.Held P := by
  unfold State.noteSlow
  try lift_lets
  repeat' first
    | with_reducible assumption
    | (intro x; refine (?_ : State.Held P x → _) ?_; (on_goal 1 => (intro _; try clear_value x)); (on_goal 2 => unfold x))
    | (intro x; try clear_value x)
    | split
    | lift_lets
    | with_reducible refine State.modObs_held ?_
    | with_reducible refine State.Held.mk_of ?_

theorem State.lowSpeed_held (h : s.Held P) {a1 : Nat} {a2 : Nat} : (State.lowSpeed s a1 a2).Held P := by
  unfold State.lowSpeed
  try lift_lets
  repeat' first
    | with_reducible assumption
    | (intro x; refine (?_ : State.Held P x → _) ?_; (on_goal 1 => (intro _; try clear_value x)); (on_goal 2 => unfold x))
    | (intro x; try clear_value x)
    | split
    | lift_lets
    | with_reducible refine State.modObs_held ?_
    | with_reducible refine State.Held.mk_of ?_

theorem State.obsCrossings_held (h : s.Held P) {a1 : Nat} {a2 : Nat} {a3 : CycIn} : (State.obsCrossings s a1 a2 a3).Held P := by
  unfold State.obsCrossings
  try lift_lets
  repeat' first
    | with_reducible assumption
    | (intro x; refine (?_ : State.Held P x → _) ?_; (on_goal 1 => (intro _; try clear_value x)); (on_goal 2 => unfold x))
    | (intro x; try clear_value x)
    | split
    | lift_lets
    | with_reducible refine State.modStack_held ?_
    | with_reducible refine State.modObs_held ?_
    | with_reducible refine held_foldl ?_ (fun s x h => ?_)
    | with_reducible refine State.settle_held ?_
    | with_reducible refine State.modOs_held ?_
    | with_reducible refine State.Held.mk_of ?_

theorem State.overVolt_held (h : s.Held P) {a1 : Nat} {a2 : Nat} {a3 : CycIn} : (State.overVolt s a1 a2 a3).Held P := by
  unfold State.overVolt
  try lift_lets
  repeat' first
    | with_reducible assumption
    | (intro x; refine (?_ : State.Held P x → _) ?_; (on_goal 1 => (intro _; try clear_value x)); (on_goal 2 => unfold x))
    | (intro x; try clear_value x)
    | split
    | lift_lets
    | with_reducible refine State.modObs_held ?_
    | with_reducible refine State.setObs_held ?_
    | with_reducible refine State.obsAsc_held ?_
    | with_reducible refine State.catchResult_held ?_
    | with_reducible refine State.Held.mk_of ?_

theorem State.obsLead_held (h : s.Held P) {a1 : Nat} {a2 : Nat} {a3 : CycIn} : (State.obsLead s a1 a2 a3).Held P := by
  unfold State.obsLead
  try lift_lets
  repeat' first
    | with_reducible assumption
    | (intro x; refine (?_ : State.Held P x → _) ?_; (on_goal 1 => (intro _; try clear_value x)); (on_goal 2 => unfold x))
    | (intro x; try clear_value x)
    | (have hx := ‹_ = (_, _)›; have h2 := congrArg Prod.snd hx; have h1 := congrArg Prod.fst hx; dsimp only at h1 h2; subst h1 h2; clear hx)
    | split
    | lift_lets
    | with_reducible refine State.modObs_held ?_
    | with_reducible refine State.setObs_held ?_
    | with_reducible refine State.catchInit_held ?_
    | with_reducible refine State.obsCount_held ?_
    | with_reducible refine State.obsRun_held ?_
    | with_reducible refine State.catchResult_held ?_
    | with_reducible refine State.noteOk_held ?_
    | with_reducible refine State.noteSlow_held ?_
    | with_reducible refine State.overVolt_held ?_
    | with_reducible refine State.Held.mk_of ?_

theorem State.alongState_held (h : s.Held P) {a1 : Nat} {a2 : Nat} {a3 : CycIn} {a4 : ObsSet} : (State.alongState s a1 a2 a3 a4).Held P := by
  unfold State.alongState
  try lift_lets
  repeat' first
    | with_reducible assumption
    | (intro x; refine (?_ : State.Held P x → _) ?_; (on_goal 1 => (intro _)); (on_goal 2 => unfold x))
    | (intro x)
    | split
    | lift_lets
    | with_reducible refine State.modObs_held ?_
    | with_reducible refine State.setObs_held ?_
    | with_reducible refine State.obsCount_held ?_
    | with_reducible refine State.noteOk_held ?_
    | with_reducible refine State.noteSlow_held ?_
    | with_reducible refine State.Held.mk_of ?_

theorem State.obsAlong_held (h : s.Held P) {a1 : Nat} {a2 : Nat} {a3 : CycIn} : (State.obsAlong s a1 a2 a3).Held P := by
  unfold State.obsAlong
  try lift_lets
  repeat' first
    | with_reducible assumption
    | (intro x; refine (?_ : State.Held P x → _) ?_; (on_goal 1 => (intro _; try clear_value x)); (on_goal 2 => unfold x))
    | (intro x; try clear_value x)
    | split
    | lift_lets
    | with_reducible refine State.modObs_held ?_
    | with_reducible refine State.raise_held ?_
    | with_reducible refine State.alongState_held ?_
    | with_reducible refine State.Held.mk_of ?_

theorem State.obsInit_held (h : s.Held P) {a1 : Nat} {a2 : CycIn} : (State.obsInit s a1 a2).Held P := by
  unfold State.obsInit
  repeat' first
    | with_reducible assumption
    | with_reducible refine State.modOs_held ?_
    | with_reducible refine State.Held.mk_of ?_

theorem State.keepVolt_held (h : s.Held P) {a1 : Nat} {a2 : CycIn} : (State.keepVolt s a1 a2).Held P := by
  unfold State.keepVolt
  try lift_lets
  repeat' first
    | with_reducible assumption
    | (intro x; refine (?_ : State.Held P x → _) ?_; (on_goal 1 => (intro _; try clear_value x)); (on_goal 2 => unfold x))
    | (intro x; try clear_value x)
    | lift_lets
    | with_reducible refine State.modOs_held ?_
    | with_reducible refine State.Held.mk_of ?_

theorem State.sensorlessCycle_held (h : s.Held P) {a1 : Nat} {a2 : Nat} {a3 : CycIn} : (State.sensorlessCycle s a1 a2 a3).Held P := by
  unfold State.sensorlessCycle
  try lift_lets
  repeat' first
    | with_reducible assumption
    | (intro x; refine (?_ : State.Held P x → _) ?_; (on_goal 1 => (intro _)); (on_goal 2 => unfold x))
    | (intro x)
    | split
    | lift_lets
    | with_reducible refine State.modObs_held ?_
    | with_reducible refine State.setObs_held ?_
    | with_reducible refine State.normalCycle_held ?_
    | with_reducible refine State.fixedCycle_held ?_
    | with_reducible refine State.imposedCycle_held ?_
    | with_reducible refine State.zeroCycle_held ?_
    | with_reducible refine State.modOs_held ?_
    | with_reducible refine State.pll_held ?_
    | with_reducible refine State.obsLatch_held ?_
    | with_reducible refine State.startCycle_held ?_
    | with_reducible refine State.lowSpeed_held ?_
    | with_reducible refine State.obsLead_held ?_
    | with_reducible refine State.keepVolt_held ?_
    | with_reducible refine State.Held.mk_of ?_

theorem State.cycleLoop_held (h : s.Held P) {a1 : Nat} {a2 : CycIn} : (State.cycleLoop s a1 a2).Held P := by
  unfold State.cycleLoop
  try lift_lets
  repeat' first
    | with_reducible assumption
    | (intro x; refine (?_ : State.Held P x → _) ?_; (on_goal 1 => (intro _; try clear_value x)); (on_goal 2 => unfold x))
    | (intro x; try clear_value x)
    | split
    | lift_lets
    | with_reducible refine State.normalCycle_held ?_
    | with_reducible refine State.modOs_held ?_
    | with_reducible refine State.pll_held ?_
    | with_reducible refine State.obsLatch_held ?_
    | with_reducible refine State.obsCrossings_held ?_
    | with_reducible refine State.obsAlong_held ?_
    | with_reducible refine State.keepVolt_held ?_
    | with_reducible refine State.sensorlessCycle_held ?_
    | with_reducible refine State.Held.mk_of ?_

theorem State.takeLead_held (h : s.Held P) {a1 : Nat} : (State.takeLead s a1).Held P := by
  unfold State.takeLead
  try lift_lets
  repeat' first
    | with_reducible assumption
    | (intro x; refine (?_ : State.Held P x → _) ?_; (on_goal 1 => (intro _; try clear_value x)); (on_goal 2 => unfold x))
    | (intro x; try clear_value x)
    | split
    | lift_lets
    | with_reducible refine State.modObs_held ?_
    | with_reducible refine State.Held.mk_of ?_

theorem State.watchStop_held (h : s.Held P) {a1 : Nat} {a2 : CycIn} : (State.watchStop s a1 a2).Held P := by
  unfold State.watchStop
  try lift_lets
  repeat' first
    | with_reducible assumption
    | (intro x; refine (?_ : State.Held P x → _) ?_; (on_goal 1 => (intro _; try clear_value x)); (on_goal 2 => unfold x))
    | (intro g; refine (?_ : (∀ s, State.Held P s → State.Held P (g s)) → _) ?_; (on_goal 1 => (intro _; try clear_value g)); (on_goal 2 => (unfold g; intro s _)))
    | (intro g; refine (?_ : (∀ s n, State.Held P s → State.Held P (g s n)) → _) ?_; (on_goal 1 => (intro _; try clear_value g)); (on_goal 2 => (unfold g; intro s _ _)))
    | (intro x; try clear_value x)
    | split
    | lift_lets
    | with_reducible refine State.modStack_held ?_
    | with_reducible refine State.Held.mk_of ?_

theorem State.fieldStep_held (h : s.Held P) {a1 : Nat} {a2 : CycIn} : (State.fieldStep s a1 a2).Held P := by
  unfold State.fieldStep
  try lift_lets
  repeat' first
    | with_reducible assumption
    | (intro x; refine (?_ : State.Held P x → _) ?_; (on_goal 1 => (intro _; try clear_value x)); (on_goal 2 => unfold x))
    | (intro x; try clear_value x)
    | split
    | lift_lets
    | with_reducible refine State.modFe_held ?_
    | with_reducible refine State.obsInit_held ?_
    | with_reducible refine State.cycleLoop_held ?_
    | with_reducible refine State.watchStop_held ?_
    | with_reducible refine State.Held.mk_of ?_

theorem State.beginCycle_held (h : s.Held P) {a1 : Nat} : (State.beginCycle s a1).Held P := by
  unfold State.beginCycle
  try lift_lets
  repeat' first
    | with_reducible assumption
    | (intro x; refine (?_ : State.Held P x → _) ?_; (on_goal 1 => (intro _; try clear_value x)); (on_goal 2 => unfold x))
    | (intro x; try clear_value x)
    | split
    | lift_lets
    | with_reducible refine State.modFe_held ?_
    | with_reducible refine State.modSense_held ?_
    | with_reducible refine State.Held.mk_of ?_

theorem execFieldEngineCycle_held (h : s.Held P) {a1 : Tick} {a2 : Fin 4} : OutHeld P (execFieldEngineCycle a1 a2 s) := by
  unfold execFieldEngineCycle
  try lift_lets
  repeat' first
    | with_reducible assumption
    | (intro x; refine (?_ : State.Held P x → _) ?_; (on_goal 1 => (intro _; try clear_value x)); (on_goal 2 => unfold x))
    | (intro x; try clear_value x)
    | (have hx := ‹_ = (_, _)›; have h2 := congrArg Prod.snd hx; have h1 := congrArg Prod.fst hx; dsimp only at h1 h2; subst h1 h2; clear hx)
    | split
    | lift_lets
    | with_reducible refine State.upTo_held ?_
    | with_reducible refine OutHeld.next ?_
    | with_reducible refine OutHeld.next ?_
    | with_reducible refine State.settle_held ?_
    | with_reducible refine State.cmpActivate_held ?_
    | with_reducible refine State.feOverrun_held ?_
    | with_reducible refine State.recCycle_held ?_
    | with_reducible refine State.dcCheck_held ?_
    | with_reducible refine State.overCurrent_held ?_
    | with_reducible refine State.fluxRange_held ?_
    | with_reducible refine State.takeLead_held ?_
    | with_reducible refine State.fieldStep_held ?_
    | with_reducible refine State.beginCycle_held ?_

theorem State.bandZero_held (h : s.Held P) {a1 : Nat} : (State.bandZero s a1).Held P := by
  unfold State.bandZero
  try lift_lets
  repeat' first
    | with_reducible assumption
    | (intro x; refine (?_ : State.Held P x → _) ?_; (on_goal 1 => (intro _; try clear_value x)); (on_goal 2 => unfold x))
    | (intro x; try clear_value x)
    | split
    | lift_lets
    | with_reducible refine State.modStack_held ?_
    | with_reducible refine State.Held.mk_of ?_

theorem State.sinCosRequests_held (h : s.Held P) {a1 : Nat} : (State.sinCosRequests s a1).Held P := by
  unfold State.sinCosRequests
  try lift_lets
  repeat' first
    | with_reducible assumption
    | (intro x; refine (?_ : State.Held P x → _) ?_; (on_goal 1 => (intro _; try clear_value x)); (on_goal 2 => unfold x))
    | (intro x; try clear_value x)
    | split
    | lift_lets
    | with_reducible refine held_foldl ?_ (fun s x h => ?_)
    | with_reducible refine State.sarPair_held ?_

theorem State.carrierZero_held (h : s.Held P) {a1 : Nat} : (State.carrierZero s a1).Held P := by
  unfold State.carrierZero
  try lift_lets
  repeat' first
    | with_reducible assumption
    | (intro x; refine (?_ : State.Held P x → _) ?_; (on_goal 1 => (intro _; try clear_value x)); (on_goal 2 => unfold x))
    | (intro x; try clear_value x)
    | split
    | lift_lets
    | with_reducible refine State.modStack_held ?_
    | with_reducible refine State.modGate_held ?_
    | with_reducible refine held_foldl ?_ (fun s x h => ?_)
    | with_reducible refine State.settleGates_held ?_
    | with_reducible refine State.settle_held ?_
    | with_reducible refine State.pwmRequest_held ?_
    | with_reducible refine State.cmpActivate_held ?_
    | with_reducible refine State.feOverrun_held ?_
    | with_reducible refine State.modSense_held ?_
    | with_reducible refine State.senseDecide_held ?_
    | with_reducible refine State.calSlew_held ?_
    | with_reducible refine State.recCycle_held ?_
    | with_reducible refine State.bandZero_held ?_
    | with_reducible refine State.sinCosRequests_held ?_
    | with_reducible refine State.Held.mk_of ?_

theorem execProbeEnd_held (h : s.Held P) {a1 : Tick} {a2 : Fin 4} : OutHeld P (execProbeEnd a1 a2 s) := by
  unfold execProbeEnd
  try lift_lets
  repeat' first
    | with_reducible assumption
    | (intro x; refine (?_ : State.Held P x → _) ?_; (on_goal 1 => (intro _; try clear_value x)); (on_goal 2 => unfold x))
    | (intro x; try clear_value x)
    | split
    | lift_lets
    | with_reducible refine State.modObs_held ?_
    | with_reducible refine State.upTo_held ?_
    | with_reducible refine OutHeld.next ?_
    | with_reducible refine OutHeld.next ?_
    | with_reducible refine State.obsRun_held ?_
    | with_reducible refine State.obsToLost_held ?_
    | with_reducible refine State.startFailed_held ?_
    | with_reducible refine State.startBegin_held ?_
    | with_reducible refine State.Held.mk_of ?_

theorem State.alignStart_held (h : s.Held P) {a1 : Nat} {a2 : Rat} : (State.alignStart s a1 a2).Held P := by
  unfold State.alignStart
  try lift_lets
  repeat' first
    | with_reducible assumption
    | (intro x; refine (?_ : State.Held P x → _) ?_; (on_goal 1 => (intro _; try clear_value x)); (on_goal 2 => unfold x))
    | (intro x; try clear_value x)
    | split
    | lift_lets
    | with_reducible refine State.modFb_held ?_
    | with_reducible refine held_foldl ?_ (fun s x h => ?_)
    | with_reducible refine State.Held.mk_of ?_

theorem execStartEvaluation_held (h : s.Held P) {a1 : Tick} {a2 : Fin 4} : OutHeld P (execStartEvaluation a1 a2 s) := by
  unfold execStartEvaluation
  try lift_lets
  repeat' first
    | with_reducible assumption
    | (intro x; refine (?_ : State.Held P x → _) ?_; (on_goal 1 => (intro _; try clear_value x)); (on_goal 2 => unfold x))
    | (intro x; try clear_value x)
    | split
    | lift_lets
    | with_reducible refine State.modObs_held ?_
    | with_reducible refine State.upTo_held ?_
    | with_reducible refine OutHeld.next ?_
    | with_reducible refine OutHeld.next ?_
    | with_reducible refine State.info_held ?_
    | with_reducible refine State.setObs_held ?_
    | with_reducible refine State.modFe_held ?_
    | with_reducible refine State.modOs_held ?_
    | with_reducible refine State.obsCount_held ?_
    | with_reducible refine State.startFailed_held ?_
    | with_reducible refine State.alignStart_held ?_
    | with_reducible refine State.Held.mk_of ?_

theorem execHandoverTimeout_held (h : s.Held P) {a1 : Tick} {a2 : Fin 4} : OutHeld P (execHandoverTimeout a1 a2 s) := by
  unfold execHandoverTimeout
  try lift_lets
  repeat' first
    | with_reducible assumption
    | (intro x; refine (?_ : State.Held P x → _) ?_; (on_goal 1 => (intro _; try clear_value x)); (on_goal 2 => unfold x))
    | (intro x; try clear_value x)
    | split
    | lift_lets
    | with_reducible refine State.upTo_held ?_
    | with_reducible refine OutHeld.next ?_
    | with_reducible refine OutHeld.next ?_
    | with_reducible refine State.obsLost_held ?_

theorem execCatchAttempt_held (h : s.Held P) {a1 : Tick} {a2 : Fin 4} : OutHeld P (execCatchAttempt a1 a2 s) := by
  unfold execCatchAttempt
  try lift_lets
  repeat' first
    | with_reducible assumption
    | (intro x; refine (?_ : State.Held P x → _) ?_; (on_goal 1 => (intro _; try clear_value x)); (on_goal 2 => unfold x))
    | (intro x; try clear_value x)
    | split
    | lift_lets
    | with_reducible refine State.modObs_held ?_
    | with_reducible refine State.upTo_held ?_
    | with_reducible refine OutHeld.next ?_
    | with_reducible refine OutHeld.next ?_
    | with_reducible refine State.setObs_held ?_
    | with_reducible refine State.catchInit_held ?_
    | with_reducible refine State.Held.mk_of ?_

theorem execObsLossLasting_held (h : s.Held P) {a1 : Tick} {a2 : Fin 4} : OutHeld P (execObsLossLasting a1 a2 s) := by
  unfold execObsLossLasting
  try lift_lets
  repeat' first
    | with_reducible assumption
    | (intro x; refine (?_ : State.Held P x → _) ?_; (on_goal 1 => (intro _; try clear_value x)); (on_goal 2 => unfold x))
    | (intro x; try clear_value x)
    | split
    | lift_lets
    | with_reducible refine State.upTo_held ?_
    | with_reducible refine OutHeld.next ?_
    | with_reducible refine OutHeld.next ?_
    | with_reducible refine State.faultLasting_held ?_
    | with_reducible refine State.hold_held ?_
    | with_reducible refine State.obsLasting_held ?_
    | with_reducible refine State.catchResult_held ?_

theorem State.setChop_held (h : s.Held P) {a1 : Nat} {a2 : Bool} : (State.setChop s a1 a2).Held P := by
  unfold State.setChop
  repeat' first
    | with_reducible assumption
    | split
    | with_reducible refine State.modStack_held ?_
    | with_reducible refine State.modGate_held ?_
    | with_reducible refine State.Held.mk_of ?_

theorem State.chopOpen_held (h : s.Held P) {a1 : Nat} {a2 : Nat} {a3 : Nat} : (State.chopOpen s a1 a2 a3).Held P := by
  unfold State.chopOpen
  try lift_lets
  repeat' first
    | with_reducible assumption
    | (intro x; refine (?_ : State.Held P x → _) ?_; (on_goal 1 => (intro _; try clear_value x)); (on_goal 2 => unfold x))
    | (intro x; try clear_value x)
    | lift_lets
    | with_reducible refine State.modStack_held ?_
    | with_reducible refine State.settle_held ?_
    | with_reducible refine State.raise_held ?_
    | with_reducible refine State.setChop_held ?_
    | with_reducible refine State.Held.mk_of ?_

theorem execChopperOpen_held (h : s.Held P) {a1 : Tick} {a2 : Fin 4} {a3 : ChopperOpenCause} : OutHeld P (execChopperOpen a1 a2 a3 s) := by
  unfold execChopperOpen
  try lift_lets
  repeat' first
    | with_reducible assumption
    | (intro x; refine (?_ : State.Held P x → _) ?_; (on_goal 1 => (intro _; try clear_value x)); (on_goal 2 => unfold x))
    | (intro x; try clear_value x)
    | split
    | lift_lets
    | with_reducible refine State.upTo_held ?_
    | with_reducible refine OutHeld.next ?_
    | with_reducible refine OutHeld.next ?_
    | with_reducible refine State.chopOpen_held ?_

theorem execChopperShort_held (h : s.Held P) {a1 : Tick} {a2 : Fin 4} : OutHeld P (execChopperShort a1 a2 s) := by
  unfold execChopperShort
  try lift_lets
  repeat' first
    | with_reducible assumption
    | (intro x; refine (?_ : State.Held P x → _) ?_; (on_goal 1 => (intro _; try clear_value x)); (on_goal 2 => unfold x))
    | (intro x; try clear_value x)
    | split
    | lift_lets
    | with_reducible refine State.upTo_held ?_
    | with_reducible refine OutHeld.next ?_
    | with_reducible refine OutHeld.next ?_
    | with_reducible refine State.raise_held ?_

theorem execDcUndervoltage_held (h : s.Held P) {a1 : Tick} {a2 : Fin 4} : OutHeld P (execDcUndervoltage a1 a2 s) := by
  unfold execDcUndervoltage
  try lift_lets
  repeat' first
    | with_reducible assumption
    | (intro x; refine (?_ : State.Held P x → _) ?_; (on_goal 1 => (intro _; try clear_value x)); (on_goal 2 => unfold x))
    | (intro x; try clear_value x)
    | split
    | lift_lets
    | with_reducible refine State.modStack_held ?_
    | with_reducible refine State.upTo_held ?_
    | with_reducible refine OutHeld.next ?_
    | with_reducible refine OutHeld.next ?_
    | with_reducible refine State.raise_held ?_
    | with_reducible refine State.Held.mk_of ?_

theorem execDcUndervoltageClear_held (h : s.Held P) {a1 : Tick} {a2 : Fin 4} : OutHeld P (execDcUndervoltageClear a1 a2 s) := by
  unfold execDcUndervoltageClear
  try lift_lets
  repeat' first
    | with_reducible assumption
    | (intro x; refine (?_ : State.Held P x → _) ?_; (on_goal 1 => (intro _; try clear_value x)); (on_goal 2 => unfold x))
    | (intro x; try clear_value x)
    | split
    | lift_lets
    | with_reducible refine State.modStack_held ?_
    | with_reducible refine State.upTo_held ?_
    | with_reducible refine OutHeld.next ?_
    | with_reducible refine OutHeld.next ?_
    | with_reducible refine State.Held.mk_of ?_

theorem execOv3Trip_held (h : s.Held P) {a1 : Tick} {a2 : Fin 4} : OutHeld P (execOv3Trip a1 a2 s) := by
  unfold execOv3Trip
  try lift_lets
  repeat' first
    | with_reducible assumption
    | (intro x; refine (?_ : State.Held P x → _) ?_; (on_goal 1 => (intro _; try clear_value x)); (on_goal 2 => unfold x))
    | (intro x; try clear_value x)
    | split
    | lift_lets
    | with_reducible refine State.modStack_held ?_
    | with_reducible refine State.upTo_held ?_
    | with_reducible refine OutHeld.next ?_
    | with_reducible refine OutHeld.next ?_
    | with_reducible refine State.settle_held ?_
    | with_reducible refine State.raise_held ?_
    | with_reducible refine State.Held.mk_of ?_

theorem execStopChange_held (h : s.Held P) {a1 : Tick} {a2 : Fin 4} {a3 : StopChangeCause} : OutHeld P (execStopChange a1 a2 a3 s) := by
  unfold execStopChange
  try lift_lets
  repeat' first
    | with_reducible assumption
    | (intro x; refine (?_ : State.Held P x → _) ?_; (on_goal 1 => (intro _; try clear_value x)); (on_goal 2 => unfold x))
    | (intro x; try clear_value x)
    | split
    | lift_lets
    | with_reducible refine State.modStack_held ?_
    | with_reducible refine State.upTo_held ?_
    | with_reducible refine OutHeld.next ?_
    | with_reducible refine OutHeld.next ?_
    | with_reducible refine State.info_held ?_
    | with_reducible refine State.settle_held ?_
    | with_reducible refine State.Held.mk_of ?_

theorem State.dropStacks_held (h : s.Held P) {a1 : List Nat} : (State.dropStacks s a1).Held P := by
  unfold State.dropStacks
  repeat' first
    | with_reducible assumption
    | split
    | with_reducible refine State.modStack_held ?_
    | with_reducible refine held_foldl ?_ (fun s x h => ?_)
    | with_reducible refine State.settle_held ?_
    | with_reducible refine State.Held.mk_of ?_

theorem State.dropSets_held (h : s.Held P) : (State.dropSets s).Held P := by
  unfold State.dropSets
  repeat' first
    | with_reducible assumption
    | with_reducible refine State.dropStacks_held ?_

theorem State.stopDone_held (h : s.Held P) : (State.stopDone s).Held P := by
  unfold State.stopDone
  try lift_lets
  repeat' first
    | with_reducible assumption
    | (intro x; refine (?_ : State.Held P x → _) ?_; (on_goal 1 => (intro _; try clear_value x)); (on_goal 2 => unfold x))
    | (intro x; try clear_value x)
    | split
    | lift_lets
    | with_reducible refine State.modMotion_held ?_
    | with_reducible refine State.info_held ?_
    | with_reducible refine State.toReady_held ?_
    | with_reducible refine State.dropSets_held ?_
    | with_reducible refine State.Held.mk_of ?_

theorem execStopStandstill_held (h : s.Held P) {a1 : Tick} : OutHeld P (execStopStandstill a1 s) := by
  unfold execStopStandstill
  try lift_lets
  repeat' first
    | with_reducible assumption
    | (intro x; refine (?_ : State.Held P x → _) ?_; (on_goal 1 => (intro _; try clear_value x)); (on_goal 2 => unfold x))
    | (intro x; try clear_value x)
    | split
    | lift_lets
    | with_reducible refine State.modMotion_held ?_
    | with_reducible refine State.upTo_held ?_
    | with_reducible refine OutHeld.next ?_
    | with_reducible refine OutHeld.next ?_
    | with_reducible refine State.setBrakes_held ?_
    | with_reducible refine State.dropStacks_held ?_
    | with_reducible refine State.stopDone_held ?_
    | with_reducible refine State.Held.mk_of ?_

theorem execStopTimeout_held (h : s.Held P) {a1 : Tick} : OutHeld P (execStopTimeout a1 s) := by
  unfold execStopTimeout
  try lift_lets
  repeat' first
    | with_reducible assumption
    | (intro x; refine (?_ : State.Held P x → _) ?_; (on_goal 1 => (intro _; try clear_value x)); (on_goal 2 => unfold x))
    | (intro x; try clear_value x)
    | split
    | lift_lets
    | with_reducible refine State.modMotion_held ?_
    | with_reducible refine State.upTo_held ?_
    | with_reducible refine OutHeld.next ?_
    | with_reducible refine OutHeld.next ?_
    | with_reducible refine State.raise_held ?_
    | with_reducible refine State.Held.mk_of ?_

theorem State.torsInfo_held (h : s.Held P) {a1 : Nat} {a2 : Bytes} : (State.torsInfo s a1 a2).Held P := by
  unfold State.torsInfo
  repeat' first
    | with_reducible assumption
    | with_reducible refine State.info_held ?_

theorem State.torsGate_held (h : s.Held P) {a1 : Bool} : (State.torsGate s a1).Held P := by
  unfold State.torsGate
  try lift_lets
  repeat' first
    | with_reducible assumption
    | (intro x; refine (?_ : State.Held P x → _) ?_; (on_goal 1 => (intro _; try clear_value x)); (on_goal 2 => unfold x))
    | (intro x; try clear_value x)
    | split
    | lift_lets
    | with_reducible refine State.modTorsion_held ?_
    | with_reducible refine State.Held.mk_of ?_

theorem State.loadObs_held (h : s.Held P) {a1 : Rat} : (State.loadObs s a1).Held P := by
  unfold State.loadObs
  try lift_lets
  repeat' first
    | with_reducible assumption
    | (intro x; refine (?_ : State.Held P x → _) ?_; (on_goal 1 => (intro _; try clear_value x)); (on_goal 2 => unfold x))
    | (intro x; try clear_value x)
    | lift_lets
    | with_reducible refine State.modTorsion_held ?_
    | with_reducible refine State.Held.mk_of ?_

theorem State.loadShock_held (h : s.Held P) : (State.loadShock s).Held P := by
  unfold State.loadShock
  try lift_lets
  repeat' first
    | with_reducible assumption
    | (intro x; refine (?_ : State.Held P x → _) ?_; (on_goal 1 => (intro _; try clear_value x)); (on_goal 2 => unfold x))
    | (intro x; try clear_value x)
    | split
    | lift_lets
    | with_reducible refine State.modTorsion_held ?_
    | with_reducible refine State.torsInfo_held ?_
    | with_reducible refine State.Held.mk_of ?_

theorem State.lffCycle_held (h : s.Held P) {a1 : Bool} : (State.lffCycle s a1).Held P := by
  unfold State.lffCycle
  try lift_lets
  repeat' first
    | with_reducible assumption
    | (intro x; refine (?_ : State.Held P x → _) ?_; (on_goal 1 => (intro _; try clear_value x)); (on_goal 2 => unfold x))
    | (intro x; try clear_value x)
    | split
    | lift_lets
    | with_reducible refine State.modTorsion_held ?_
    | with_reducible refine State.Held.mk_of ?_

theorem State.modMode_held (h : s.Held P) {a1 : Nat} {a2 : TorsMode → TorsMode} : (State.modMode s a1 a2).Held P := by
  unfold State.modMode
  repeat' first
    | with_reducible assumption
    | with_reducible refine State.modTorsion_held ?_
    | with_reducible refine State.Held.mk_of ?_

theorem State.setMode_held (h : s.Held P) {a1 : Nat} {a2 : Nat} : (State.setMode s a1 a2).Held P := by
  unfold State.setMode
  try lift_lets
  repeat' first
    | with_reducible assumption
    | (intro x; refine (?_ : State.Held P x → _) ?_; (on_goal 1 => (intro _; try clear_value x)); (on_goal 2 => unfold x))
    | (intro x; try clear_value x)
    | split
    | lift_lets
    | with_reducible refine State.torsInfo_held ?_
    | with_reducible refine State.modMode_held ?_
    | with_reducible refine State.Held.mk_of ?_

theorem State.modeState_held (h : s.Held P) {a1 : Nat} : (State.modeState s a1).Held P := by
  unfold State.modeState
  try lift_lets
  repeat' first
    | with_reducible assumption
    | (intro x; refine (?_ : State.Held P x → _) ?_; (on_goal 1 => (intro _; try clear_value x)); (on_goal 2 => unfold x))
    | (intro x; try clear_value x)
    | (have hx := ‹_ = (_, _)›; have h2 := congrArg Prod.snd hx; have h1 := congrArg Prod.fst hx; dsimp only at h1 h2; subst h1 h2; clear hx)
    | split
    | lift_lets
    | with_reducible refine State.settle_held ?_
    | with_reducible refine State.modMode_held ?_
    | with_reducible refine State.setMode_held ?_
    | with_reducible refine State.Held.mk_of ?_

theorem State.torsObs_held (h : s.Held P) : (State.torsObs s).Held P := by
  unfold State.torsObs
  try lift_lets
  repeat' first
    | with_reducible assumption
    | (intro x; refine (?_ : State.Held P x → _) ?_; (on_goal 1 => (intro _)); (on_goal 2 => unfold x))
    | (intro x)
    | (have hx := ‹_ = (_, _)›; have h2 := congrArg Prod.snd hx; have h1 := congrArg Prod.fst hx; dsimp only at h1 h2; subst h1 h2; clear hx)
    | split
    | lift_lets
    | with_reducible refine State.modTorsion_held ?_
    | with_reducible refine State.modMode_held ?_
    | with_reducible refine State.setMode_held ?_
    | with_reducible refine State.modeState_held ?_
    | with_reducible refine State.Held.mk_of ?_

theorem State.injCycle_held (h : s.Held P) {a1 : Nat} : (State.injCycle s a1).Held P := by
  unfold State.injCycle
  try lift_lets
  repeat' first
    | with_reducible assumption
    | (intro x; refine (?_ : State.Held P x → _) ?_; (on_goal 1 => (intro _; try clear_value x)); (on_goal 2 => unfold x))
    | (intro x; try clear_value x)
    | (have hx := ‹_ = (_, _)›; have h2 := congrArg Prod.snd hx; have h1 := congrArg Prod.fst hx; dsimp only at h1 h2; subst h1 h2; clear hx)
    | split
    | lift_lets
    | with_reducible refine State.modTorsion_held ?_
    | with_reducible refine State.settle_held ?_
    | with_reducible refine State.Held.mk_of ?_

theorem State.dampOffEnd_held (h : s.Held P) : (State.dampOffEnd s).Held P := by
  unfold State.dampOffEnd
  try lift_lets
  repeat' first
    | with_reducible assumption
    | (intro x; refine (?_ : State.Held P x → _) ?_; (on_goal 1 => (intro _; try clear_value x)); (on_goal 2 => unfold x))
    | (intro x; try clear_value x)
    | split
    | lift_lets
    | with_reducible refine State.modTorsion_held ?_
    | with_reducible refine held_foldl ?_ (fun s x h => ?_)
    | with_reducible refine State.raise_held ?_
    | with_reducible refine State.modMode_held ?_
    | with_reducible refine State.setMode_held ?_
    | with_reducible refine State.Held.mk_of ?_

theorem State.dampCycle_held (h : s.Held P) : (State.dampCycle s).Held P := by
  unfold State.dampCycle
  try lift_lets
  repeat' first
    | with_reducible assumption
    | (intro x; refine (?_ : State.Held P x → _) ?_; (on_goal 1 => (intro _; try clear_value x)); (on_goal 2 => unfold x))
    | (intro x; try clear_value x)
    | (have hx := ‹_ = (_, _)›; have h2 := congrArg Prod.snd hx; have h1 := congrArg Prod.fst hx; dsimp only at h1 h2; subst h1 h2; clear hx)
    | split
    | lift_lets
    | with_reducible refine State.modTorsion_held ?_
    | with_reducible refine State.dampOffEnd_held ?_
    | with_reducible refine State.Held.mk_of ?_

theorem State.overSpeed_held (h : s.Held P) : (State.overSpeed s).Held P := by
  unfold State.overSpeed
  try lift_lets
  repeat' first
    | with_reducible assumption
    | (intro x; refine (?_ : State.Held P x → _) ?_; (on_goal 1 => (intro _; try clear_value x)); (on_goal 2 => unfold x))
    | (intro x; try clear_value x)
    | split
    | lift_lets
    | with_reducible refine State.modTorsion_held ?_
    | with_reducible refine State.raise_held ?_
    | with_reducible refine State.Held.mk_of ?_

theorem State.ropeSnap_held (h : s.Held P) : (State.ropeSnap s).Held P := by
  unfold State.ropeSnap
  try lift_lets
  repeat' first
    | with_reducible assumption
    | (intro x; refine (?_ : State.Held P x → _) ?_; (on_goal 1 => (intro _; try clear_value x)); (on_goal 2 => unfold x))
    | (intro x; try clear_value x)
    | split
    | lift_lets
    | with_reducible refine State.modMotion_held ?_
    | with_reducible refine State.modTorsion_held ?_
    | with_reducible refine State.requestFn_held ?_
    | with_reducible refine State.raise_held ?_
    | with_reducible refine State.Held.mk_of ?_

theorem State.torsCycle_held (h : s.Held P) {a1 : Nat} {a2 : Rat} {a3 : Bool} : (State.torsCycle s a1 a2 a3).Held P := by
  unfold State.torsCycle
  try lift_lets
  repeat' first
    | with_reducible assumption
    | (intro x; refine (?_ : State.Held P x → _) ?_; (on_goal 1 => (intro _; try clear_value x)); (on_goal 2 => unfold x))
    | (intro x; try clear_value x)
    | split
    | lift_lets
    | with_reducible refine State.torsGate_held ?_
    | with_reducible refine State.loadObs_held ?_
    | with_reducible refine State.loadShock_held ?_
    | with_reducible refine State.lffCycle_held ?_
    | with_reducible refine State.torsObs_held ?_
    | with_reducible refine State.injCycle_held ?_
    | with_reducible refine State.dampCycle_held ?_
    | with_reducible refine State.ropeSnap_held ?_

theorem execSnapSbcRequest_held (h : s.Held P) {a1 : Tick} : OutHeld P (execSnapSbcRequest a1 s) := by
  unfold execSnapSbcRequest
  try lift_lets
  repeat' first
    | with_reducible assumption
    | (intro x; refine (?_ : State.Held P x → _) ?_; (on_goal 1 => (intro _; try clear_value x)); (on_goal 2 => unfold x))
    | (intro x; try clear_value x)
    | split
    | lift_lets
    | with_reducible refine State.upTo_held ?_
    | with_reducible refine OutHeld.next ?_
    | with_reducible refine OutHeld.next ?_
    | with_reducible refine State.requestFn_held ?_

end Sys2Proof.Machine
end

