-- ==== Sys2Proof/Laws/HeldD.lean ====
section
/-! SUPPORT. What the operations of SafetyFn, Motion, SafetyOps, Integrity, App, Dma, Thermal keep: one lemma each. -/
namespace Sys2Proof.Machine

variable {P : State → Prop} {q : List Instr} {fl : Option (Source × Nat)} {s : State}
theorem State.kpSafe_held (h : s.Held P) {a1 : Nat} : (State.kpSafe s a1).Held P := by
  unfold State.kpSafe
  try lift_lets
  repeat' first
    | with_reducible assumption
    | (intro x; refine (?_ : State.Held P x → _) ?_; (on_goal 1 => (intro _; try clear_value x)); (on_goal 2 => unfold x))
    | (intro x; try clear_value x)
    | split
    | lift_lets
    | with_reducible refine State.modSafety_held ?_
    | with_reducible refine State.settle_held ?_
    | with_reducible refine State.setBrakes_held ?_
    | with_reducible refine State.raise_held ?_
    | with_reducible refine State.Held.mk_of ?_

theorem execReadbackMismatch_held (h : s.Held P) {a1 : Tick} {a2 : Nat} : OutHeld P (execReadbackMismatch a1 a2 s) := by
  unfold execReadbackMismatch
  try lift_lets
  repeat' first
    | with_reducible assumption
    | (intro x; refine (?_ : State.Held P x → _) ?_; (on_goal 1 => (intro _; try clear_value x)); (on_goal 2 => unfold x))
    | (intro x; try clear_value x)
    | split
    | lift_lets
    | with_reducible refine State.upTo_held ?_
    | with_reducible refine OutHeld.next ?_
    | with_reducible refine OutHeld.next ?_
    | with_reducible refine State.upKt_held ?_
    | with_reducible refine State.kpSafe_held ?_

theorem State.modPairSt_held (h : s.Held P) {a1 : Channel} {a2 : Nat} {a3 : PairSt → PairSt} : (State.modPairSt s a1 a2 a3).Held P := by
  unfold State.modPairSt
  repeat' first
    | with_reducible assumption
    | split
    | with_reducible refine State.modSafety_held ?_
    | with_reducible refine State.Held.mk_of ?_

theorem State.pairStart_held (h : s.Held P) {a1 : Channel} {a2 : Nat} : (State.pairStart s a1 a2).Held P := by
  unfold State.pairStart
  try lift_lets
  repeat' first
    | with_reducible assumption
    | (intro x; refine (?_ : State.Held P x → _) ?_; (on_goal 1 => (intro _; try clear_value x)); (on_goal 2 => unfold x))
    | (intro x; try clear_value x)
    | split
    | lift_lets
    | with_reducible refine State.startFn_held ?_

theorem execSafetyInputChange_held (h : s.Held P) {a1 : Tick} {a2 : Nat} {a3 : Channel} {a4 : Fin 8} {a5 : Contact} {a6 : ContactLevel} : OutHeld P (execSafetyInputChange a1 a2 a3 a4 a5 a6 s) := by
  unfold execSafetyInputChange
  try lift_lets
  repeat' first
    | with_reducible assumption
    | (intro x; refine (?_ : State.Held P x → _) ?_; (on_goal 1 => (intro _; try clear_value x)); (on_goal 2 => unfold x))
    | (intro x; try clear_value x)
    | split
    | lift_lets
    | with_reducible refine State.upTo_held ?_
    | with_reducible refine OutHeld.next ?_
    | with_reducible refine OutHeld.next ?_
    | with_reducible refine State.upKt_held ?_
    | with_reducible refine State.modPairSt_held ?_
    | with_reducible refine State.pairStart_held ?_
    | with_reducible refine State.Held.mk_of ?_

theorem execSiDiscrepancy_held (h : s.Held P) {a1 : Tick} {a2 : Nat} {a3 : Channel} {a4 : Fin 8} : OutHeld P (execSiDiscrepancy a1 a2 a3 a4 s) := by
  unfold execSiDiscrepancy
  try lift_lets
  repeat' first
    | with_reducible assumption
    | (intro x; refine (?_ : State.Held P x → _) ?_; (on_goal 1 => (intro _; try clear_value x)); (on_goal 2 => unfold x))
    | (intro x; try clear_value x)
    | split
    | lift_lets
    | with_reducible refine State.upTo_held ?_
    | with_reducible refine OutHeld.next ?_
    | with_reducible refine OutHeld.next ?_
    | with_reducible refine State.raise_held ?_
    | with_reducible refine State.upKt_held ?_
    | with_reducible refine State.modPairSt_held ?_
    | with_reducible refine State.pairStart_held ?_
    | with_reducible refine State.Held.mk_of ?_

theorem State.testContact_held (h : s.Held P) {a1 : Channel} {a2 : Nat} {a3 : Contact} {a4 : Nat} {a5 : Bool} : (State.testContact s a1 a2 a3 a4 a5).Held P := by
  unfold State.testContact
  try lift_lets
  repeat' first
    | with_reducible assumption
    | (intro x; refine (?_ : State.Held P x → _) ?_; (on_goal 1 => (intro _; try clear_value x)); (on_goal 2 => unfold x))
    | (intro x; try clear_value x)
    | split
    | lift_lets
    | with_reducible refine State.raise_held ?_
    | with_reducible refine State.modPairSt_held ?_
    | with_reducible refine State.pairStart_held ?_
    | with_reducible refine State.Held.mk_of ?_

theorem execTestPulseWindow_held (h : s.Held P) {a1 : KpStamp} {a2 : Fin 4} {a3 : BitVec 16} : OutHeld P (execTestPulseWindow a1 a2 a3 s) := by
  unfold execTestPulseWindow
  try lift_lets
  repeat' first
    | with_reducible assumption
    | (intro x; refine (?_ : State.Held P x → _) ?_; (on_goal 1 => (intro _)); (on_goal 2 => unfold x))
    | (intro g; refine (?_ : (∀ s, State.Held P s → State.Held P (g s)) → _) ?_; (on_goal 1 => (intro _)); (on_goal 2 => (unfold g; intro s _)))
    | (intro g; refine (?_ : (∀ s n, State.Held P s → State.Held P (g s n)) → _) ?_; (on_goal 1 => (intro _)); (on_goal 2 => (unfold g; intro s _ _)))
    | (intro x)
    | split
    | lift_lets
    | with_reducible refine State.modPins_held ?_
    | with_reducible refine State.upTo_held ?_
    | with_reducible refine held_foldl ?_ (fun s x h => ?_)
    | with_reducible refine OutHeld.next ?_
    | with_reducible refine OutHeld.next ?_
    | with_reducible refine State.upKt_held ?_
    | with_reducible refine State.testContact_held ?_
    | with_reducible refine State.Held.mk_of ?_

theorem State.ss1Complete_held (h : s.Held P) {a1 : SafeFn} : (State.ss1Complete s a1).Held P := by
  unfold State.ss1Complete
  try lift_lets
  repeat' first
    | with_reducible assumption
    | (intro x; refine (?_ : State.Held P x → _) ?_; (on_goal 1 => (intro _; try clear_value x)); (on_goal 2 => unfold x))
    | (intro x; try clear_value x)
    | split
    | lift_lets
    | with_reducible refine held_foldl ?_ (fun s x h => ?_)
    | with_reducible refine State.completeFn_held ?_

theorem State.ss1Check_held (h : s.Held P) {a1 : Channel} {a2 : Nat} {a3 : Rat} : (State.ss1Check s a1 a2 a3).Held P := by
  unfold State.ss1Check
  try lift_lets
  repeat' first
    | with_reducible assumption
    | (intro x; refine (?_ : State.Held P x → _) ?_; (on_goal 1 => (intro _; try clear_value x)); (on_goal 2 => unfold x))
    | (intro x; try clear_value x)
    | split
    | lift_lets
    | with_reducible refine held_foldl ?_ (fun s x h => ?_)
    | with_reducible refine State.setBrakesCh_held ?_
    | with_reducible refine State.modFn_held ?_
    | with_reducible refine State.raise_held ?_
    | with_reducible refine State.ss1Complete_held ?_
    | with_reducible refine State.Held.mk_of ?_

theorem execSs1EnvelopeCheck_held (h : s.Held P) {a1 : Tick} {a2 : Nat} {a3 : Channel} : OutHeld P (execSs1EnvelopeCheck a1 a2 a3 s) := by
  unfold execSs1EnvelopeCheck
  try lift_lets
  repeat' first
    | with_reducible assumption
    | (intro x; refine (?_ : State.Held P x → _) ?_; (on_goal 1 => (intro _; try clear_value x)); (on_goal 2 => unfold x))
    | (intro x; try clear_value x)
    | split
    | lift_lets
    | with_reducible refine State.upTo_held ?_
    | with_reducible refine OutHeld.next ?_
    | with_reducible refine OutHeld.next ?_
    | with_reducible refine State.upKt_held ?_
    | with_reducible refine State.ss1Check_held ?_

theorem State.ss1Finish_held (h : s.Held P) {a1 : SafeFn} : (State.ss1Finish s a1).Held P := by
  unfold State.ss1Finish
  try lift_lets
  repeat' first
    | with_reducible assumption
    | (intro x; refine (?_ : State.Held P x → _) ?_; (on_goal 1 => (intro _; try clear_value x)); (on_goal 2 => unfold x))
    | (intro x; try clear_value x)
    | split
    | lift_lets
    | with_reducible refine State.modMotion_held ?_
    | with_reducible refine State.settle_held ?_
    | with_reducible refine State.setBrakesCh_held ?_
    | with_reducible refine State.modFn_held ?_
    | with_reducible refine State.ss1Complete_held ?_
    | with_reducible refine State.Held.mk_of ?_

theorem execSs1End_held (h : s.Held P) {a1 : Tick} {a2 : Nat} {a3 : Channel} : OutHeld P (execSs1End a1 a2 a3 s) := by
  unfold execSs1End
  try lift_lets
  repeat' first
    | with_reducible assumption
    | (intro x; refine (?_ : State.Held P x → _) ?_; (on_goal 1 => (intro _; try clear_value x)); (on_goal 2 => unfold x))
    | (intro x; try clear_value x)
    | split
    | lift_lets
    | with_reducible refine State.upTo_held ?_
    | with_reducible refine held_foldl ?_ (fun s x h => ?_)
    | with_reducible refine OutHeld.next ?_
    | with_reducible refine OutHeld.next ?_
    | with_reducible refine State.upKt_held ?_
    | with_reducible refine State.ss1Finish_held ?_

theorem State.brakeIsSet_held (h : s.Held P) {a1 : Channel} {a2 : Nat} {a3 : Nat} {a4 : SafeFn} : (State.brakeIsSet s a1 a2 a3 a4).Held P := by
  unfold State.brakeIsSet
  repeat' first
    | with_reducible assumption
    | split
    | with_reducible refine State.settle_held ?_
    | with_reducible refine State.modFn_held ?_
    | with_reducible refine State.ss1Complete_held ?_
    | with_reducible refine State.Held.mk_of ?_

theorem execBrakeSetTimeEnd_held (h : s.Held P) {a1 : KpStamp} {a2 : Channel} {a3 : Fin 2} : OutHeld P (execBrakeSetTimeEnd a1 a2 a3 s) := by
  unfold execBrakeSetTimeEnd
  try lift_lets
  repeat' first
    | with_reducible assumption
    | (intro x; refine (?_ : State.Held P x → _) ?_; (on_goal 1 => (intro _; try clear_value x)); (on_goal 2 => unfold x))
    | (intro x; try clear_value x)
    | split
    | lift_lets
    | with_reducible refine State.upTo_held ?_
    | with_reducible refine held_foldl ?_ (fun s x h => ?_)
    | with_reducible refine OutHeld.next ?_
    | with_reducible refine OutHeld.next ?_
    | with_reducible refine State.upKt_held ?_
    | with_reducible refine State.dropStacks_held ?_
    | with_reducible refine State.stopDone_held ?_
    | with_reducible refine State.brakeIsSet_held ?_

theorem execSs1Timeout_held (h : s.Held P) {a1 : Tick} {a2 : Nat} : OutHeld P (execSs1Timeout a1 a2 s) := by
  unfold execSs1Timeout
  try lift_lets
  repeat' first
    | with_reducible assumption
    | (intro x; refine (?_ : State.Held P x → _) ?_; (on_goal 1 => (intro _; try clear_value x)); (on_goal 2 => unfold x))
    | (intro g; refine (?_ : (∀ s, State.Held P s → State.Held P (g s)) → _) ?_; (on_goal 1 => (intro _; try clear_value g)); (on_goal 2 => (unfold g; intro s _)))
    | (intro g; refine (?_ : (∀ s n, State.Held P s → State.Held P (g s n)) → _) ?_; (on_goal 1 => (intro _; try clear_value g)); (on_goal 2 => (unfold g; intro s _ _)))
    | (intro x; try clear_value x)
    | split
    | lift_lets
    | with_reducible refine State.upTo_held ?_
    | with_reducible refine held_foldl ?_ (fun s x h => ?_)
    | with_reducible refine OutHeld.next ?_
    | with_reducible refine OutHeld.next ?_
    | with_reducible refine State.setBrakesCh_held ?_
    | with_reducible refine State.completeFn_held ?_
    | with_reducible refine State.raise_held ?_
    | with_reducible refine State.upKt_held ?_

theorem execBrakeReleaseRequest_held (h : s.Held P) {a1 : Tick} {a2 : Fin 2} : OutHeld P (execBrakeReleaseRequest a1 a2 s) := by
  unfold execBrakeReleaseRequest
  try lift_lets
  repeat' first
    | with_reducible assumption
    | (intro x; refine (?_ : State.Held P x → _) ?_; (on_goal 1 => (intro _; try clear_value x)); (on_goal 2 => unfold x))
    | (intro x; try clear_value x)
    | split
    | lift_lets
    | with_reducible refine State.upTo_held ?_
    | with_reducible refine OutHeld.next ?_
    | with_reducible refine OutHeld.next ?_
    | with_reducible refine State.modBrake_held ?_
    | with_reducible refine State.settleBrake_held ?_
    | with_reducible refine State.Held.mk_of ?_

theorem execBrakeReleaseComplete_held (h : s.Held P) {a1 : Tick} {a2 : Fin 2} : OutHeld P (execBrakeReleaseComplete a1 a2 s) := by
  unfold execBrakeReleaseComplete
  try lift_lets
  repeat' first
    | with_reducible assumption
    | (intro x; refine (?_ : State.Held P x → _) ?_; (on_goal 1 => (intro _; try clear_value x)); (on_goal 2 => unfold x))
    | (intro x; try clear_value x)
    | split
    | lift_lets
    | with_reducible refine State.modMotion_held ?_
    | with_reducible refine State.upTo_held ?_
    | with_reducible refine OutHeld.next ?_
    | with_reducible refine OutHeld.next ?_
    | with_reducible refine State.Held.mk_of ?_

theorem State.brakeFault_held (h : s.Held P) {a1 : Nat} {a2 : Nat} : (State.brakeFault s a1 a2).Held P := by
  unfold State.brakeFault
  try lift_lets
  repeat' first
    | with_reducible assumption
    | (intro x; refine (?_ : State.Held P x → _) ?_; (on_goal 1 => (intro _; try clear_value x)); (on_goal 2 => unfold x))
    | (intro x; try clear_value x)
    | lift_lets
    | with_reducible refine State.modBrake_held ?_
    | with_reducible refine State.requestFn_held ?_
    | with_reducible refine State.raise_held ?_
    | with_reducible refine State.Held.mk_of ?_

theorem execBrakeTestPulse_held (h : s.Held P) {a1 : Tick} {a2 : Fin 2} {a3 : BrakeSwitch} {a4 : Bool} : OutHeld P (execBrakeTestPulse a1 a2 a3 a4 s) := by
  unfold execBrakeTestPulse
  try lift_lets
  repeat' first
    | with_reducible assumption
    | (intro x; refine (?_ : State.Held P x → _) ?_; (on_goal 1 => (intro _; try clear_value x)); (on_goal 2 => unfold x))
    | (intro g; refine (?_ : (∀ s, State.Held P s → State.Held P (g s)) → _) ?_; (on_goal 1 => (intro _; try clear_value g)); (on_goal 2 => (unfold g; intro s _)))
    | (intro g; refine (?_ : (∀ s n, State.Held P s → State.Held P (g s n)) → _) ?_; (on_goal 1 => (intro _; try clear_value g)); (on_goal 2 => (unfold g; intro s _ _)))
    | (intro x; try clear_value x)
    | split
    | lift_lets
    | with_reducible refine State.upTo_held ?_
    | with_reducible refine OutHeld.next ?_
    | with_reducible refine OutHeld.next ?_
    | with_reducible refine State.modBrake_held ?_
    | with_reducible refine State.brakeFault_held ?_
    | with_reducible refine State.Held.mk_of ?_

theorem execBrakeOvercurrent_held (h : s.Held P) {a1 : Tick} {a2 : Fin 2} : OutHeld P (execBrakeOvercurrent a1 a2 s) := by
  unfold execBrakeOvercurrent
  try lift_lets
  repeat' first
    | with_reducible assumption
    | (intro x; refine (?_ : State.Held P x → _) ?_; (on_goal 1 => (intro _; try clear_value x)); (on_goal 2 => unfold x))
    | (intro x; try clear_value x)
    | split
    | lift_lets
    | with_reducible refine State.upTo_held ?_
    | with_reducible refine OutHeld.next ?_
    | with_reducible refine OutHeld.next ?_
    | with_reducible refine State.setBrake_held ?_
    | with_reducible refine State.brakeFault_held ?_

theorem execBrakeCoilCurrentLow_held (h : s.Held P) {a1 : Tick} {a2 : Fin 2} : OutHeld P (execBrakeCoilCurrentLow a1 a2 s) := by
  unfold execBrakeCoilCurrentLow
  try lift_lets
  repeat' first
    | with_reducible assumption
    | (intro x; refine (?_ : State.Held P x → _) ?_; (on_goal 1 => (intro _; try clear_value x)); (on_goal 2 => unfold x))
    | (intro x; try clear_value x)
    | split
    | lift_lets
    | with_reducible refine State.upTo_held ?_
    | with_reducible refine OutHeld.next ?_
    | with_reducible refine OutHeld.next ?_
    | with_reducible refine State.brakeFault_held ?_

theorem execVbrkLow_held (h : s.Held P) {a1 : Tick} {a2 : Fin 2} : OutHeld P (execVbrkLow a1 a2 s) := by
  unfold execVbrkLow
  try lift_lets
  repeat' first
    | with_reducible assumption
    | (intro x; refine (?_ : State.Held P x → _) ?_; (on_goal 1 => (intro _; try clear_value x)); (on_goal 2 => unfold x))
    | (intro x; try clear_value x)
    | split
    | lift_lets
    | with_reducible refine State.upTo_held ?_
    | with_reducible refine OutHeld.next ?_
    | with_reducible refine OutHeld.next ?_
    | with_reducible refine State.brakeFault_held ?_

theorem execKpPositionEdge_held (h : s.Held P) {a1 : Tick} {a2 : Nat} : OutHeld P (execKpPositionEdge a1 a2 s) := by
  unfold execKpPositionEdge
  try lift_lets
  repeat' first
    | with_reducible assumption
    | (intro x; refine (?_ : State.Held P x → _) ?_; (on_goal 1 => (intro _; try clear_value x)); (on_goal 2 => unfold x))
    | (intro x; try clear_value x)
    | split
    | lift_lets
    | with_reducible refine State.modSafety_held ?_
    | with_reducible refine State.upTo_held ?_
    | with_reducible refine OutHeld.next ?_
    | with_reducible refine OutHeld.next ?_
    | with_reducible refine State.stoAll_held ?_
    | with_reducible refine State.upKt_held ?_
    | with_reducible refine State.ss1Check_held ?_
    | with_reducible refine State.Held.mk_of ?_

theorem execKpSpeedTimeout_held (h : s.Held P) {a1 : Tick} {a2 : Nat} : OutHeld P (execKpSpeedTimeout a1 a2 s) := by
  unfold execKpSpeedTimeout
  try lift_lets
  repeat' first
    | with_reducible assumption
    | (intro x; refine (?_ : State.Held P x → _) ?_; (on_goal 1 => (intro _; try clear_value x)); (on_goal 2 => unfold x))
    | (intro x; try clear_value x)
    | split
    | lift_lets
    | with_reducible refine State.modSafety_held ?_
    | with_reducible refine State.upTo_held ?_
    | with_reducible refine OutHeld.next ?_
    | with_reducible refine OutHeld.next ?_
    | with_reducible refine State.upKt_held ?_
    | with_reducible refine State.ss1Check_held ?_
    | with_reducible refine State.Held.mk_of ?_

theorem State.xcCompare_held (h : s.Held P) : (State.xcCompare s).Held P := by
  unfold State.xcCompare
  try lift_lets
  repeat' first
    | with_reducible assumption
    | (intro x; refine (?_ : State.Held P x → _) ?_; (on_goal 1 => (intro _; try clear_value x)); (on_goal 2 => unfold x))
    | (intro x; try clear_value x)
    | split
    | lift_lets
    | with_reducible refine State.modSafety_held ?_
    | with_reducible refine State.Held.mk_of ?_

theorem execSafetyChannelDiscrepancy_held (h : s.Held P) {a1 : Tick} {a2 : Nat} {a3 : DiscrepancyKind} : OutHeld P (execSafetyChannelDiscrepancy a1 a2 a3 s) := by
  unfold execSafetyChannelDiscrepancy
  try lift_lets
  repeat' first
    | with_reducible assumption
    | (intro x; refine (?_ : State.Held P x → _) ?_; (on_goal 1 => (intro _; try clear_value x)); (on_goal 2 => unfold x))
    | (intro x; try clear_value x)
    | split
    | lift_lets
    | with_reducible refine State.modSafety_held ?_
    | with_reducible refine State.upTo_held ?_
    | with_reducible refine OutHeld.next ?_
    | with_reducible refine OutHeld.next ?_
    | with_reducible refine State.stoAll_held ?_
    | with_reducible refine State.raise_held ?_
    | with_reducible refine State.upKt_held ?_
    | with_reducible refine State.Held.mk_of ?_

theorem execKpPositionFault_held (h : s.Held P) {a1 : Tick} {a2 : Nat} {a3 : KpPositionCause} : OutHeld P (execKpPositionFault a1 a2 a3 s) := by
  unfold execKpPositionFault
  try lift_lets
  repeat' first
    | with_reducible assumption
    | (intro x; refine (?_ : State.Held P x → _) ?_; (on_goal 1 => (intro _; try clear_value x)); (on_goal 2 => unfold x))
    | (intro x; try clear_value x)
    | split
    | lift_lets
    | with_reducible refine State.modSafety_held ?_
    | with_reducible refine State.upTo_held ?_
    | with_reducible refine OutHeld.next ?_
    | with_reducible refine OutHeld.next ?_
    | with_reducible refine State.requestFn_held ?_
    | with_reducible refine State.raise_held ?_
    | with_reducible refine State.upKt_held ?_
    | with_reducible refine State.Held.mk_of ?_

theorem execSafeAckPress_held (h : s.Held P) {a1 : Tick} {a2 : Nat} : OutHeld P (execSafeAckPress a1 a2 s) := by
  unfold execSafeAckPress
  try lift_lets
  repeat' first
    | with_reducible assumption
    | (intro x; refine (?_ : State.Held P x → _) ?_; (on_goal 1 => (intro _; try clear_value x)); (on_goal 2 => unfold x))
    | (intro x; try clear_value x)
    | split
    | lift_lets
    | with_reducible refine State.modSafety_held ?_
    | with_reducible refine State.upTo_held ?_
    | with_reducible refine OutHeld.next ?_
    | with_reducible refine OutHeld.next ?_
    | with_reducible refine State.upKt_held ?_
    | with_reducible refine State.Held.mk_of ?_

theorem execSafeAckStuck_held (h : s.Held P) {a1 : Tick} {a2 : Nat} : OutHeld P (execSafeAckStuck a1 a2 s) := by
  unfold execSafeAckStuck
  try lift_lets
  repeat' first
    | with_reducible assumption
    | (intro x; refine (?_ : State.Held P x → _) ?_; (on_goal 1 => (intro _; try clear_value x)); (on_goal 2 => unfold x))
    | (intro x; try clear_value x)
    | split
    | lift_lets
    | with_reducible refine State.modSafety_held ?_
    | with_reducible refine State.upTo_held ?_
    | with_reducible refine OutHeld.next ?_
    | with_reducible refine OutHeld.next ?_
    | with_reducible refine State.info_held ?_
    | with_reducible refine State.upKt_held ?_
    | with_reducible refine State.Held.mk_of ?_

theorem State.releaseOv3_held (h : s.Held P) : (State.releaseOv3 s).Held P := by
  unfold State.releaseOv3
  try lift_lets
  repeat' first
    | with_reducible assumption
    | (intro x; refine (?_ : State.Held P x → _) ?_; (on_goal 1 => (intro _; try clear_value x)); (on_goal 2 => unfold x))
    | (intro x; try clear_value x)
    | (have hx := ‹_ = (_, _)›; have h2 := congrArg Prod.snd hx; have h1 := congrArg Prod.fst hx; dsimp only at h1 h2; subst h1 h2; clear hx)
    | split
    | lift_lets
    | with_reducible refine State.modStack_held ?_
    | with_reducible refine State.draw_held ?_
    | with_reducible refine held_foldl ?_ (fun s x h => ?_)
    | with_reducible refine State.Held.mk_of ?_

theorem State.acknowledge_held (h : s.Held P) {a1 : Nat} : (State.acknowledge s a1).Held P := by
  unfold State.acknowledge
  try lift_lets
  repeat' first
    | with_reducible assumption
    | (intro x; refine (?_ : State.Held P x → _) ?_; (on_goal 1 => (intro _; try clear_value x)); (on_goal 2 => unfold x))
    | (intro x; try clear_value x)
    | split
    | lift_lets
    | with_reducible refine State.modMotion_held ?_
    | with_reducible refine State.modSafety_held ?_
    | with_reducible refine held_foldl ?_ (fun s x h => ?_)
    | with_reducible refine State.settle_held ?_
    | with_reducible refine State.toReady_held ?_
    | with_reducible refine State.fnEvent_held ?_
    | with_reducible refine State.modPairSt_held ?_
    | with_reducible refine State.releaseOv3_held ?_
    | with_reducible refine State.Held.mk_of ?_

theorem execSafeAckRelease_held (h : s.Held P) {a1 : Tick} {a2 : Nat} : OutHeld P (execSafeAckRelease a1 a2 s) := by
  unfold execSafeAckRelease
  try lift_lets
  repeat' first
    | with_reducible assumption
    | (intro x; refine (?_ : State.Held P x → _) ?_; (on_goal 1 => (intro _)); (on_goal 2 => unfold x))
    | (intro g; refine (?_ : (∀ s, State.Held P s → State.Held P (g s)) → _) ?_; (on_goal 1 => (intro _)); (on_goal 2 => (unfold g; intro s _)))
    | (intro g; refine (?_ : (∀ s n, State.Held P s → State.Held P (g s n)) → _) ?_; (on_goal 1 => (intro _)); (on_goal 2 => (unfold g; intro s _ _)))
    | (intro x)
    | split
    | lift_lets
    | with_reducible refine State.modSafety_held ?_
    | with_reducible refine State.upTo_held ?_
    | with_reducible refine OutHeld.next ?_
    | with_reducible refine OutHeld.next ?_
    | with_reducible refine State.info_held ?_
    | with_reducible refine State.upKt_held ?_
    | with_reducible refine State.acknowledge_held ?_
    | with_reducible refine State.Held.mk_of ?_

theorem execCommissioningGrantExpiry_held (h : s.Held P) {a1 : Tick} {a2 : Nat} : OutHeld P (execCommissioningGrantExpiry a1 a2 s) := by
  unfold execCommissioningGrantExpiry
  try lift_lets
  repeat' first
    | with_reducible assumption
    | (intro x; refine (?_ : State.Held P x → _) ?_; (on_goal 1 => (intro _; try clear_value x)); (on_goal 2 => unfold x))
    | (intro x; try clear_value x)
    | split
    | lift_lets
    | with_reducible refine State.modSafety_held ?_
    | with_reducible refine State.upTo_held ?_
    | with_reducible refine OutHeld.next ?_
    | with_reducible refine OutHeld.next ?_
    | with_reducible refine State.settle_held ?_
    | with_reducible refine State.requestFn_held ?_
    | with_reducible refine State.upKt_held ?_
    | with_reducible refine State.Held.mk_of ?_

theorem State.readMotion_held (h : s.Held P) : (State.readMotion s).Held P := by
  unfold State.readMotion
  try lift_lets
  repeat' first
    | with_reducible assumption
    | (intro x; refine (?_ : State.Held P x → _) ?_; (on_goal 1 => (intro _; try clear_value x)); (on_goal 2 => unfold x))
    | (intro x; try clear_value x)
    | split
    | lift_lets
    | with_reducible refine State.modMotion_held ?_
    | with_reducible refine State.modSafety_held ?_
    | with_reducible refine State.xcCompare_held ?_
    | with_reducible refine State.Held.mk_of ?_

theorem State.ss1Cycle_held (h : s.Held P) : (State.ss1Cycle s).Held P := by
  unfold State.ss1Cycle
  try lift_lets
  repeat' first
    | with_reducible assumption
    | (intro x; refine (?_ : State.Held P x → _) ?_; (on_goal 1 => (intro _; try clear_value x)); (on_goal 2 => unfold x))
    | (intro x; try clear_value x)
    | split
    | lift_lets
    | with_reducible refine State.ss1Check_held ?_

theorem State.srefQuiet_held (h : s.Held P) : (State.srefQuiet s).Held P := by
  unfold State.srefQuiet
  try lift_lets
  repeat' first
    | with_reducible assumption
    | (intro x; refine (?_ : State.Held P x → _) ?_; (on_goal 1 => (intro _; try clear_value x)); (on_goal 2 => unfold x))
    | (intro x; try clear_value x)
    | split
    | lift_lets
    | with_reducible refine State.modSref_held ?_
    | with_reducible refine Rep.ok_held ?_
    | with_reducible refine State.Held.mk_of ?_

theorem State.srefCycle_held (h : s.Held P) : (State.srefCycle s).Held P := by
  unfold State.srefCycle
  try lift_lets
  repeat' first
    | with_reducible assumption
    | (intro x; refine (?_ : State.Held P x → _) ?_; (on_goal 1 => (intro _; try clear_value x)); (on_goal 2 => unfold x))
    | (intro x; try clear_value x)
    | split
    | lift_lets
    | with_reducible refine State.modSref_held ?_
    | with_reducible refine State.sarRequest_held ?_
    | with_reducible refine State.srefQuiet_held ?_
    | with_reducible refine State.Held.mk_of ?_

theorem State.srefPeriod_held (h : s.Held P) : (State.srefPeriod s).Held P := by
  unfold State.srefPeriod
  repeat' first
    | with_reducible assumption
    | split
    | with_reducible refine State.modSref_held ?_
    | with_reducible refine State.Held.mk_of ?_

theorem execSrefEdge_held (h : s.Held P) {a1 : Tick} {a2 : Bool} : OutHeld P (execSrefEdge a1 a2 s) := by
  unfold execSrefEdge
  try lift_lets
  repeat' first
    | with_reducible assumption
    | (intro x; refine (?_ : State.Held P x → _) ?_; (on_goal 1 => (intro _; try clear_value x)); (on_goal 2 => unfold x))
    | (intro x; try clear_value x)
    | split
    | lift_lets
    | with_reducible refine State.modSref_held ?_
    | with_reducible refine State.upTo_held ?_
    | with_reducible refine OutHeld.next ?_
    | with_reducible refine OutHeld.next ?_
    | with_reducible refine State.srefQuiet_held ?_
    | with_reducible refine State.srefPeriod_held ?_

theorem execSrefTestCurrent_held (h : s.Held P) {a1 : Tick} {a2 : Int} {a3 : Int} : OutHeld P (execSrefTestCurrent a1 a2 a3 s) := by
  unfold execSrefTestCurrent
  try lift_lets
  repeat' first
    | with_reducible assumption
    | (intro x; refine (?_ : State.Held P x → _) ?_; (on_goal 1 => (intro _; try clear_value x)); (on_goal 2 => unfold x))
    | (intro x; try clear_value x)
    | split
    | lift_lets
    | with_reducible refine State.modSref_held ?_
    | with_reducible refine State.upTo_held ?_
    | with_reducible refine OutHeld.next ?_
    | with_reducible refine OutHeld.next ?_
    | with_reducible refine State.srefQuiet_held ?_
    | with_reducible refine State.Held.mk_of ?_

theorem execSrefWireBreak_held (h : s.Held P) {a1 : Tick} {a2 : WireBreakKind} : OutHeld P (execSrefWireBreak a1 a2 s) := by
  unfold execSrefWireBreak
  try lift_lets
  repeat' first
    | with_reducible assumption
    | (intro x; refine (?_ : State.Held P x → _) ?_; (on_goal 1 => (intro _; try clear_value x)); (on_goal 2 => unfold x))
    | (intro x; try clear_value x)
    | split
    | lift_lets
    | with_reducible refine State.modSref_held ?_
    | with_reducible refine State.upTo_held ?_
    | with_reducible refine OutHeld.next ?_
    | with_reducible refine OutHeld.next ?_
    | with_reducible refine State.startStop_held ?_
    | with_reducible refine State.raise_held ?_
    | with_reducible refine State.srefQuiet_held ?_
    | with_reducible refine State.Held.mk_of ?_

theorem execSrefWireBreakEnd_held (h : s.Held P) {a1 : Tick} : OutHeld P (execSrefWireBreakEnd a1 s) := by
  unfold execSrefWireBreakEnd
  try lift_lets
  repeat' first
    | with_reducible assumption
    | (intro x; refine (?_ : State.Held P x → _) ?_; (on_goal 1 => (intro _; try clear_value x)); (on_goal 2 => unfold x))
    | (intro x; try clear_value x)
    | split
    | lift_lets
    | with_reducible refine State.modSref_held ?_
    | with_reducible refine State.upTo_held ?_
    | with_reducible refine OutHeld.next ?_
    | with_reducible refine OutHeld.next ?_
    | with_reducible refine State.srefQuiet_held ?_
    | with_reducible refine State.Held.mk_of ?_

theorem State.presetSpeed_held (h : s.Held P) : (State.presetSpeed s).Held P := by
  unfold State.presetSpeed
  repeat' first
    | with_reducible assumption
    | with_reducible refine State.modMotion_held ?_
    | with_reducible refine State.Held.mk_of ?_

theorem State.applyPreset_held (h : s.Held P) : (State.applyPreset s).Held P := by
  unfold State.applyPreset
  repeat' first
    | with_reducible assumption
    | split
    | with_reducible refine State.modMotion_held ?_
    | with_reducible refine State.Held.mk_of ?_

theorem State.enterMode_held (h : s.Held P) {a1 : Nat} {a2 : Option Int} : (State.enterMode s a1 a2).Held P := by
  unfold State.enterMode
  try lift_lets
  repeat' first
    | with_reducible assumption
    | (intro x; refine (?_ : State.Held P x → _) ?_; (on_goal 1 => (intro _; try clear_value x)); (on_goal 2 => unfold x))
    | (intro x; try clear_value x)
    | split
    | lift_lets
    | with_reducible refine State.modMotion_held ?_
    | with_reducible refine State.presetSpeed_held ?_
    | with_reducible refine State.Held.mk_of ?_

theorem State.modeChange_held (h : s.Held P) : (State.modeChange s).Held P := by
  unfold State.modeChange
  try lift_lets
  repeat' first
    | with_reducible assumption
    | (intro x; refine (?_ : State.Held P x → _) ?_; (on_goal 1 => (intro _; try clear_value x)); (on_goal 2 => unfold x))
    | (intro x; try clear_value x)
    | split
    | lift_lets
    | with_reducible refine State.modMotion_held ?_
    | with_reducible refine State.modTorsion_held ?_
    | with_reducible refine State.enterMode_held ?_
    | with_reducible refine State.Held.mk_of ?_

theorem State.pathChange_held (h : s.Held P) : (State.pathChange s).Held P := by
  unfold State.pathChange
  try lift_lets
  repeat' first
    | with_reducible assumption
    | (intro x; refine (?_ : State.Held P x → _) ?_; (on_goal 1 => (intro _; try clear_value x)); (on_goal 2 => unfold x))
    | (intro x; try clear_value x)
    | split
    | lift_lets
    | with_reducible refine State.modMotion_held ?_
    | with_reducible refine State.presetSpeed_held ?_
    | with_reducible refine State.enterMode_held ?_
    | with_reducible refine State.Held.mk_of ?_

theorem State.shelterLeave_held (h : s.Held P) : (State.shelterLeave s).Held P := by
  unfold State.shelterLeave
  repeat' first
    | with_reducible assumption
    | split
    | with_reducible refine State.shelterExit_held ?_

theorem State.ownReact_held (h : s.Held P) : (State.ownReact s).Held P := by
  unfold State.ownReact
  try lift_lets
  repeat' first
    | with_reducible assumption
    | (intro x; refine (?_ : State.Held P x → _) ?_; (on_goal 1 => (intro _; try clear_value x)); (on_goal 2 => unfold x))
    | (intro x; try clear_value x)
    | split
    | lift_lets
    | with_reducible refine State.modMotion_held ?_
    | with_reducible refine State.info_held ?_
    | with_reducible refine State.startStop_held ?_
    | with_reducible refine State.enterMode_held ?_
    | with_reducible refine State.Held.mk_of ?_

theorem State.shelterRef_held (h : s.Held P) : (State.shelterRef s).Held P := by
  unfold State.shelterRef
  try lift_lets
  repeat' first
    | with_reducible assumption
    | (intro x; refine (?_ : State.Held P x → _) ?_; (on_goal 1 => (intro _; try clear_value x)); (on_goal 2 => unfold x))
    | (intro x; try clear_value x)
    | split
    | lift_lets
    | with_reducible refine State.modMotion_held ?_
    | with_reducible refine State.Held.mk_of ?_

theorem State.obsChecks_held (h : s.Held P) : (State.obsChecks s).Held P := by
  unfold State.obsChecks
  repeat' first
    | with_reducible assumption
    | split
    | with_reducible refine held_foldl ?_ (fun s x h => ?_)
    | with_reducible refine State.obsLost_held ?_

theorem State.noSet_held (h : s.Held P) : (State.noSet s).Held P := by
  unfold State.noSet
  repeat' first
    | with_reducible assumption
    | split
    | with_reducible refine State.raise_held ?_

theorem State.stopCycle_held (h : s.Held P) : (State.stopCycle s).Held P := by
  unfold State.stopCycle
  try lift_lets
  repeat' first
    | with_reducible assumption
    | (intro x; refine (?_ : State.Held P x → _) ?_; (on_goal 1 => (intro _; try clear_value x)); (on_goal 2 => unfold x))
    | (intro x; try clear_value x)
    | split
    | lift_lets
    | with_reducible refine State.modMotion_held ?_
    | with_reducible refine held_foldl ?_ (fun s x h => ?_)
    | with_reducible refine State.stopReact_held ?_
    | with_reducible refine State.stopDone_held ?_
    | with_reducible refine State.Held.mk_of ?_

theorem State.loopCycle_held (h : s.Held P) {a1 : MLim} : (State.loopCycle s a1).Held P := by
  unfold State.loopCycle
  try lift_lets
  repeat' first
    | with_reducible assumption
    | (intro x; refine (?_ : State.Held P x → _) ?_; (on_goal 1 => (intro _; try clear_value x)); (on_goal 2 => unfold x))
    | (intro x; try clear_value x)
    | (have hx := ‹_ = (_, _)›; have h2 := congrArg Prod.snd hx; have h1 := congrArg Prod.fst hx; dsimp only at h1 h2; subst h1 h2; clear hx)
    | split
    | lift_lets
    | with_reducible refine State.modMotion_held ?_
    | with_reducible refine State.Held.mk_of ?_

theorem State.setRefs_held (h : s.Held P) {a1 : Int} {a2 : Tick} : (State.setRefs s a1 a2).Held P := by
  unfold State.setRefs
  try lift_lets
  repeat' first
    | with_reducible assumption
    | (intro x; refine (?_ : State.Held P x → _) ?_; (on_goal 1 => (intro _; try clear_value x)); (on_goal 2 => unfold x))
    | (intro x; try clear_value x)
    | split
    | lift_lets
    | with_reducible refine State.modMotion_held ?_
    | with_reducible refine held_foldl ?_ (fun s x h => ?_)
    | with_reducible refine State.modFe_held ?_
    | with_reducible refine State.Held.mk_of ?_

theorem State.shareCycle_held (h : s.Held P) {a1 : Bool} {a2 : Tick} : (State.shareCycle s a1 a2).Held P := by
  unfold State.shareCycle
  try lift_lets
  repeat' first
    | with_reducible assumption
    | (intro x; refine (?_ : State.Held P x → _) ?_; (on_goal 1 => (intro _; try clear_value x)); (on_goal 2 => unfold x))
    | (intro x; try clear_value x)
    | split
    | lift_lets
    | with_reducible refine State.modMotion_held ?_
    | with_reducible refine held_foldl ?_ (fun s x h => ?_)
    | with_reducible refine State.info_held ?_
    | with_reducible refine State.setRefs_held ?_
    | with_reducible refine State.Held.mk_of ?_

theorem State.torqueCycle_held (h : s.Held P) {a1 : Tick} {a2 : Bool} : (State.torqueCycle s a1 a2).Held P := by
  unfold State.torqueCycle
  try lift_lets
  repeat' first
    | with_reducible assumption
    | (intro x; refine (?_ : State.Held P x → _) ?_; (on_goal 1 => (intro _; try clear_value x)); (on_goal 2 => unfold x))
    | (intro x; try clear_value x)
    | split
    | lift_lets
    | with_reducible refine State.modMotion_held ?_
    | with_reducible refine State.torsCycle_held ?_
    | with_reducible refine State.applyPreset_held ?_
    | with_reducible refine State.enterMode_held ?_
    | with_reducible refine State.pathChange_held ?_
    | with_reducible refine State.loopCycle_held ?_
    | with_reducible refine State.shareCycle_held ?_
    | with_reducible refine State.Held.mk_of ?_

theorem State.snapCycle_held (h : s.Held P) : (State.snapCycle s).Held P := by
  unfold State.snapCycle
  try lift_lets
  repeat' first
    | with_reducible assumption
    | (intro x; refine (?_ : State.Held P x → _) ?_; (on_goal 1 => (intro _; try clear_value x)); (on_goal 2 => unfold x))
    | (intro x; try clear_value x)
    | split
    | lift_lets
    | with_reducible refine State.modTorsion_held ?_
    | with_reducible refine State.Held.mk_of ?_

theorem State.outerOverrun_held (h : s.Held P) {a1 : Nat} : (State.outerOverrun s a1).Held P := by
  unfold State.outerOverrun
  repeat' first
    | with_reducible assumption
    | split
    | with_reducible refine State.raise_held ?_

theorem execOuterLoopCycle_held (h : s.Held P) {a1 : OuterCycle} : OutHeld P (execOuterLoopCycle a1 s) := by
  unfold execOuterLoopCycle
  try lift_lets
  repeat' first
    | with_reducible assumption
    | (intro x; refine (?_ : State.Held P x → _) ?_; (on_goal 1 => (intro _; try clear_value x)); (on_goal 2 => unfold x))
    | (intro x; try clear_value x)
    | split
    | lift_lets
    | with_reducible refine State.modMotion_held ?_
    | with_reducible refine State.modAux_held ?_
    | with_reducible refine State.upTo_held ?_
    | with_reducible refine OutHeld.next ?_
    | with_reducible refine OutHeld.next ?_
    | with_reducible refine State.recCycle_held ?_
    | with_reducible refine State.overSpeed_held ?_
    | with_reducible refine State.readMotion_held ?_
    | with_reducible refine State.ss1Cycle_held ?_
    | with_reducible refine State.srefCycle_held ?_
    | with_reducible refine State.modeChange_held ?_
    | with_reducible refine State.pathChange_held ?_
    | with_reducible refine State.shelterLeave_held ?_
    | with_reducible refine State.ownReact_held ?_
    | with_reducible refine State.shelterRef_held ?_
    | with_reducible refine State.obsChecks_held ?_
    | with_reducible refine State.noSet_held ?_
    | with_reducible refine State.stopCycle_held ?_
    | with_reducible refine State.torqueCycle_held ?_
    | with_reducible refine State.snapCycle_held ?_
    | with_reducible refine State.outerOverrun_held ?_
    | with_reducible refine State.Held.mk_of ?_

theorem opDisable_held (h : s.Held P) {a1 : Bytes} : (opDisable a1 s).st.Held P := by
  unfold opDisable
  try lift_lets
  repeat' first
    | with_reducible assumption
    | (intro x; refine (?_ : State.Held P x → _) ?_; (on_goal 1 => (intro _; try clear_value x)); (on_goal 2 => unfold x))
    | (intro x; try clear_value x)
    | split
    | lift_lets
    | with_reducible refine Rep.ok_held ?_
    | with_reducible refine Rep.no_held ?_
    | with_reducible refine State.startStop_held ?_

theorem opSetMode_held (h : s.Held P) {a1 : Source} {a2 : Bytes} : (opSetMode a1 a2 s).st.Held P := by
  unfold opSetMode
  try lift_lets
  repeat' first
    | with_reducible assumption
    | (intro x; refine (?_ : State.Held P x → _) ?_; (on_goal 1 => (intro _; try clear_value x)); (on_goal 2 => unfold x))
    | (intro x; try clear_value x)
    | split
    | lift_lets
    | with_reducible refine State.modMotion_held ?_
    | with_reducible refine Rep.ok_held ?_
    | with_reducible refine Rep.no_held ?_
    | with_reducible refine State.Held.mk_of ?_

theorem opSetTorque_held (h : s.Held P) {a1 : Bytes} : (opSetTorque a1 s).st.Held P := by
  unfold opSetTorque
  repeat' first
    | with_reducible assumption
    | split
    | with_reducible refine State.modMotion_held ?_
    | with_reducible refine Rep.ok_held ?_
    | with_reducible refine Rep.no_held ?_
    | with_reducible refine State.Held.mk_of ?_

theorem opSetSpeed_held (h : s.Held P) {a1 : Bytes} : (opSetSpeed a1 s).st.Held P := by
  unfold opSetSpeed
  repeat' first
    | with_reducible assumption
    | split
    | with_reducible refine State.modMotion_held ?_
    | with_reducible refine Rep.ok_held ?_
    | with_reducible refine Rep.no_held ?_
    | with_reducible refine State.Held.mk_of ?_

theorem opSetPosition_held (h : s.Held P) {a1 : Bytes} : (opSetPosition a1 s).st.Held P := by
  unfold opSetPosition
  repeat' first
    | with_reducible assumption
    | split
    | with_reducible refine State.modMotion_held ?_
    | with_reducible refine Rep.ok_held ?_
    | with_reducible refine Rep.no_held ?_
    | with_reducible refine State.Held.mk_of ?_

theorem opSetLimits_held (h : s.Held P) {a1 : Bytes} : (opSetLimits a1 s).st.Held P := by
  unfold opSetLimits
  repeat' first
    | with_reducible assumption
    | split
    | with_reducible refine State.modMotion_held ?_
    | with_reducible refine Rep.ok_held ?_
    | with_reducible refine Rep.no_held ?_
    | with_reducible refine State.Held.mk_of ?_

theorem execDisable_held (h : s.Held (Bal q none)) {a1 : Tick} {a2 : Source} {a3 : Nat} {a4 : Bytes} : OutHeld (Bal q none) (execDisable a1 a2 a3 a4 s) := by
  unfold execDisable
  refine runOp_held h fun m s _ h => ?_
  first
    | exact h
    | exact opDisable_held h

theorem execSetMode_held (h : s.Held (Bal q none)) {a1 : Tick} {a2 : Source} {a3 : Nat} {a4 : Bytes} : OutHeld (Bal q none) (execSetMode a1 a2 a3 a4 s) := by
  unfold execSetMode
  refine runOp_held h fun m s _ h => ?_
  first
    | exact h
    | exact opSetMode_held h

theorem execSetTorque_held (h : s.Held (Bal q none)) {a1 : Tick} {a2 : Source} {a3 : Nat} {a4 : Bytes} : OutHeld (Bal q none) (execSetTorque a1 a2 a3 a4 s) := by
  unfold execSetTorque
  refine runOp_held h fun m s _ h => ?_
  first
    | exact h
    | exact opSetTorque_held h

theorem execSetSpeed_held (h : s.Held (Bal q none)) {a1 : Tick} {a2 : Source} {a3 : Nat} {a4 : Bytes} : OutHeld (Bal q none) (execSetSpeed a1 a2 a3 a4 s) := by
  unfold execSetSpeed
  refine runOp_held h fun m s _ h => ?_
  first
    | exact h
    | exact opSetSpeed_held h

theorem execSetPosition_held (h : s.Held (Bal q none)) {a1 : Tick} {a2 : Source} {a3 : Nat} {a4 : Bytes} : OutHeld (Bal q none) (execSetPosition a1 a2 a3 a4 s) := by
  unfold execSetPosition
  refine runOp_held h fun m s _ h => ?_
  first
    | exact h
    | exact opSetPosition_held h

theorem execSetLimits_held (h : s.Held (Bal q none)) {a1 : Tick} {a2 : Source} {a3 : Nat} {a4 : Bytes} : OutHeld (Bal q none) (execSetLimits a1 a2 a3 a4 s) := by
  unfold execSetLimits
  refine runOp_held h fun m s _ h => ?_
  first
    | exact h
    | exact opSetLimits_held h

/-- A block whose checks pass takes its place among the blocks. -/
theorem State.putBlock_held (h : s.Held (Bal q fl)) {p : Bytes} {y : Layout} (h1 : blockLayout (getN p 0 2) = some y)
    (h2 : (p.drop 4).length = y.size) (h3 : y.check (p.drop 4) = none) : (State.putBlock s p).Held (Bal q fl) := by
  have mem : ∀ (l : List (Nat × Bytes)) (b : Nat × Bytes), b ∈ blockInsert (getN p 0 2) (p.drop 4) l → b = (getN p 0 2, p.drop 4) ∨ b ∈ l := by
    intro l b
    induction l with
    | nil => simp [blockInsert]
    | cons a r ih =>
      unfold blockInsert
      split
      · simp
      · split
        · simp; tauto
        · simp; tauto
  have srt : ∀ l : List (Nat × Bytes), (l.Pairwise fun a b => a.1 < b.1) → (blockInsert (getN p 0 2) (p.drop 4) l).Pairwise fun a b => a.1 < b.1 := by
    intro l
    induction l with
    | nil => simp [blockInsert]
    | cons a r ih =>
      intro hl
      have hc := List.pairwise_cons.1 hl
      unfold blockInsert
      split
      · rename_i hlt
        refine List.pairwise_cons.2 ⟨fun b hb => ?_, hl⟩
        rcases List.mem_cons.1 hb with rfl | hb
        · exact hlt
        · exact Nat.lt_trans hlt (hc.1 b hb)
      · split
        · rename_i _ he
          exact List.pairwise_cons.2 ⟨fun b hb => he ▸ hc.1 b hb, hc.2⟩
        · rename_i hn he
          refine List.pairwise_cons.2 ⟨fun b hb => ?_, ih hc.2⟩
          rcases mem r b hb with rfl | hb
          · show a.1 < getN p 0 2
            omega
          · exact hc.1 b hb
  unfold State.putBlock
  have h := h.holds
  refine Bal.held ⟨h.pending, h.credits, h.queues, h.counters, fun b hb => ?_, srt _ h.sorted, h.staging, h.memory⟩
  rcases mem s.blocks b hb with rfl | hb
  · exact ⟨y, h1, h2, h3⟩
  · exact h.blocks b hb

theorem State.loginEvent_held (h : s.Held P) {a1 : Source} {a2 : Nat} : (State.loginEvent s a1 a2).Held P := by
  unfold State.loginEvent
  repeat' first
    | with_reducible assumption
    | with_reducible refine State.info_held ?_

theorem opSafetyLogin_held (h : s.Held P) {a1 : Source} {a2 : Bytes} : (opSafetyLogin a1 a2 s).st.Held P := by
  unfold opSafetyLogin
  try lift_lets
  repeat' first
    | with_reducible assumption
    | (intro x; refine (?_ : State.Held P x → _) ?_; (on_goal 1 => (intro _; try clear_value x)); (on_goal 2 => unfold x))
    | (intro x; try clear_value x)
    | split
    | lift_lets
    | with_reducible refine State.modSafety_held ?_
    | with_reducible refine Rep.ok_held ?_
    | with_reducible refine Rep.no_held ?_
    | with_reducible refine State.endSession_held ?_
    | with_reducible refine State.loginEvent_held ?_
    | with_reducible refine State.Held.mk_of ?_

theorem execLoginLockoutEnd_held (h : s.Held P) {a1 : Tick} : OutHeld P (execLoginLockoutEnd a1 s) := by
  unfold execLoginLockoutEnd
  try lift_lets
  repeat' first
    | with_reducible assumption
    | (intro x; refine (?_ : State.Held P x → _) ?_; (on_goal 1 => (intro _; try clear_value x)); (on_goal 2 => unfold x))
    | (intro x; try clear_value x)
    | split
    | lift_lets
    | with_reducible refine State.modSafety_held ?_
    | with_reducible refine State.upTo_held ?_
    | with_reducible refine OutHeld.next ?_
    | with_reducible refine OutHeld.next ?_
    | with_reducible refine State.Held.mk_of ?_

theorem opSafetyLogout_held (h : s.Held P) {a1 : Source} : (opSafetyLogout a1 s).st.Held P := by
  unfold opSafetyLogout
  repeat' first
    | with_reducible assumption
    | with_reducible refine Rep.ok_held ?_
    | with_reducible refine State.endSession_held ?_

/-- What an admitted packet with a block says of its length. -/
theorem State.objection_lenOk {s : State} {op : Nat} {c : Source} {p : Bytes} (h : s.objection op c p = none) : lenOk op p = true := by
  cases hl : lenOk op p with
  | true => rfl
  | false =>
    unfold State.objection at h
    simp only [hl, Bool.false_eq_true, if_false] at h
    repeat' split at h
    all_goals exact nomatch h

theorem opWriteSafetyBlock_held {c : Source} {p : Bytes} (ha : s.objection 0x0502 c p = none) (h : s.Held (Bal q fl)) :
    (opWriteSafetyBlock c p s).st.Held (Bal q fl) := by
  have hl := State.objection_lenOk ha
  unfold opWriteSafetyBlock
  split
  · exact h
  · split
    · exact h
    · rename_i hf
      unfold blockFails at hf
      cases hy : safetyLayout (getN p 0 2) with
      | none => rw [hy] at hf; simp at hf
      | some y =>
        rw [hy] at hf
        dsimp only at hf
        split at hf
        · simp at hf
        · refine State.putBlock_held h (y := y) (by unfold blockLayout; rw [hy]) ?_ (by simpa using hf)
          simp only [lenOk, writeSize, Bool.and_eq_true] at hl
          have h4 := hl.2
          rw [if_neg (by decide), hy] at h4
          simp only [Option.map_some, beq_iff_eq] at h4
          rw [List.length_drop]; omega

theorem State.logAppend_held (h : s.Held P) {a1 : Source} {a2 : Nat} {a3 : Nat} {a4 : Bytes} : (State.logAppend s a1 a2 a3 a4).Held P := by
  unfold State.logAppend
  try lift_lets
  repeat' first
    | with_reducible assumption
    | (intro x; refine (?_ : State.Held P x → _) ?_; (on_goal 1 => (intro _; try clear_value x)); (on_goal 2 => unfold x))
    | (intro x; try clear_value x)
    | split
    | lift_lets
    | with_reducible refine State.modSafety_held ?_
    | with_reducible refine State.raise_held ?_
    | with_reducible refine State.sysXfer_held ?_
    | with_reducible refine State.Held.mk_of ?_

theorem opChangePassword_held (h : s.Held P) {a1 : Source} {a2 : Bytes} : (opChangePassword a1 a2 s).st.Held P := by
  unfold opChangePassword
  try lift_lets
  repeat' first
    | with_reducible assumption
    | (intro x; refine (?_ : State.Held P x → _) ?_; (on_goal 1 => (intro _; try clear_value x)); (on_goal 2 => unfold x))
    | (intro x; try clear_value x)
    | split
    | lift_lets
    | with_reducible refine State.modSafety_held ?_
    | with_reducible refine Rep.ok_held ?_
    | with_reducible refine Rep.no_held ?_
    | with_reducible refine State.logAppend_held ?_
    | with_reducible refine State.Held.mk_of ?_

theorem opReadSafetyLog_held (h : s.Held P) {a1 : Bytes} : (opReadSafetyLog a1 s).st.Held P := by
  unfold opReadSafetyLog
  try lift_lets
  repeat' first
    | with_reducible assumption
    | (intro x; refine (?_ : State.Held P x → _) ?_; (on_goal 1 => (intro _; try clear_value x)); (on_goal 2 => unfold x))
    | (intro x; try clear_value x)
    | split
    | lift_lets
    | with_reducible refine Rep.ok_held ?_
    | with_reducible refine Rep.no_held ?_

theorem opAckSafetyLog_held (h : s.Held P) {a1 : Bytes} : (opAckSafetyLog a1 s).st.Held P := by
  unfold opAckSafetyLog
  try lift_lets
  repeat' first
    | with_reducible assumption
    | (intro x; refine (?_ : State.Held P x → _) ?_; (on_goal 1 => (intro _; try clear_value x)); (on_goal 2 => unfold x))
    | (intro x; try clear_value x)
    | split
    | lift_lets
    | with_reducible refine State.modSafety_held ?_
    | with_reducible refine Rep.ok_held ?_
    | with_reducible refine Rep.no_held ?_
    | with_reducible refine State.Held.mk_of ?_

theorem opGetSafetyStatus_held (h : s.Held P) : (opGetSafetyStatus s).st.Held P := by
  unfold opGetSafetyStatus
  try lift_lets
  repeat' first
    | with_reducible assumption
    | (intro x; refine (?_ : State.Held P x → _) ?_; (on_goal 1 => (intro _; try clear_value x)); (on_goal 2 => unfold x))
    | (intro g; refine (?_ : (∀ s, State.Held P s → State.Held P (g s)) → _) ?_; (on_goal 1 => (intro _; try clear_value g)); (on_goal 2 => (unfold g; intro s _)))
    | (intro g; refine (?_ : (∀ s n, State.Held P s → State.Held P (g s n)) → _) ?_; (on_goal 1 => (intro _; try clear_value g)); (on_goal 2 => (unfold g; intro s _ _)))
    | (intro x; try clear_value x)
    | split
    | lift_lets
    | with_reducible refine held_foldl ?_ (fun s x h => ?_)
    | with_reducible refine Rep.ok_held ?_

theorem opRequestSafetyFunction_held (h : s.Held P) {a1 : Bytes} : (opRequestSafetyFunction a1 s).st.Held P := by
  unfold opRequestSafetyFunction
  try lift_lets
  repeat' first
    | with_reducible assumption
    | (intro x; refine (?_ : State.Held P x → _) ?_; (on_goal 1 => (intro _; try clear_value x)); (on_goal 2 => unfold x))
    | (intro x; try clear_value x)
    | split
    | lift_lets
    | with_reducible refine Rep.ok_held ?_
    | with_reducible refine Rep.no_held ?_
    | with_reducible refine State.requestFn_held ?_

theorem execSafetyLogin_held (h : s.Held (Bal q none)) {a1 : Tick} {a2 : Source} {a3 : Nat} {a4 : Bytes} : OutHeld (Bal q none) (execSafetyLogin a1 a2 a3 a4 s) := by
  unfold execSafetyLogin
  refine runOp_held h fun m s _ h => ?_
  first
    | exact h
    | exact opSafetyLogin_held h

theorem execSafetyLogout_held (h : s.Held (Bal q none)) {a1 : Tick} {a2 : Source} {a3 : Nat} {a4 : Bytes} : OutHeld (Bal q none) (execSafetyLogout a1 a2 a3 a4 s) := by
  unfold execSafetyLogout
  refine runOp_held h fun m s _ h => ?_
  first
    | exact h
    | exact opSafetyLogout_held h

theorem execWriteSafetyBlock_held (h : s.Held (Bal q none)) {t : Tick} {c : Source} {n : Nat} {p : Bytes} :
    OutHeld (Bal q none) (execWriteSafetyBlock t c n p s) := by
  unfold execWriteSafetyBlock
  exact runOp_held h fun m s ha h => opWriteSafetyBlock_held ha h

theorem execReadSafetyLog_held (h : s.Held (Bal q none)) {a1 : Tick} {a2 : Source} {a3 : Nat} {a4 : Bytes} : OutHeld (Bal q none) (execReadSafetyLog a1 a2 a3 a4 s) := by
  unfold execReadSafetyLog
  refine runOp_held h fun m s _ h => ?_
  first
    | exact h
    | exact opReadSafetyLog_held h

theorem execAckSafetyLog_held (h : s.Held (Bal q none)) {a1 : Tick} {a2 : Source} {a3 : Nat} {a4 : Bytes} : OutHeld (Bal q none) (execAckSafetyLog a1 a2 a3 a4 s) := by
  unfold execAckSafetyLog
  refine runOp_held h fun m s _ h => ?_
  first
    | exact h
    | exact opAckSafetyLog_held h

theorem execGetSafetyStatus_held (h : s.Held (Bal q none)) {a1 : Tick} {a2 : Source} {a3 : Nat} {a4 : Bytes} : OutHeld (Bal q none) (execGetSafetyStatus a1 a2 a3 a4 s) := by
  unfold execGetSafetyStatus
  refine runOp_held h fun m s _ h => ?_
  first
    | exact h
    | exact opGetSafetyStatus_held h

theorem execRequestSafetyFunction_held (h : s.Held (Bal q none)) {a1 : Tick} {a2 : Source} {a3 : Nat} {a4 : Bytes} : OutHeld (Bal q none) (execRequestSafetyFunction a1 a2 a3 a4 s) := by
  unfold execRequestSafetyFunction
  refine runOp_held h fun m s _ h => ?_
  first
    | exact h
    | exact opRequestSafetyFunction_held h

theorem execChangePassword_held (h : s.Held (Bal q none)) {a1 : Tick} {a2 : Source} {a3 : Nat} {a4 : Bytes} : OutHeld (Bal q none) (execChangePassword a1 a2 a3 a4 s) := by
  unfold execChangePassword
  refine runOp_held h fun m s _ h => ?_
  first
    | exact h
    | exact opChangePassword_held h

theorem State.checkLine_held (h : s.Held P) {a1 : Nat} : (State.checkLine s a1).Held P := by
  unfold State.checkLine
  try lift_lets
  repeat' first
    | with_reducible assumption
    | (intro x; refine (?_ : State.Held P x → _) ?_; (on_goal 1 => (intro _; try clear_value x)); (on_goal 2 => unfold x))
    | (intro x; try clear_value x)
    | split
    | lift_lets
    | with_reducible refine State.modAux_held ?_
    | with_reducible refine State.modInteg_held ?_
    | with_reducible refine State.kpSafe_held ?_
    | with_reducible refine State.Held.mk_of ?_

theorem execLockstepMismatch_held (h : s.Held P) {a1 : Tick} {a2 : Engine} {a3 : BitVec 32} : OutHeld P (execLockstepMismatch a1 a2 a3 s) := by
  unfold execLockstepMismatch
  try lift_lets
  repeat' first
    | with_reducible assumption
    | (intro x; refine (?_ : State.Held P x → _) ?_; (on_goal 1 => (intro _; try clear_value x)); (on_goal 2 => unfold x))
    | (intro x; try clear_value x)
    | split
    | lift_lets
    | with_reducible refine State.upTo_held ?_
    | with_reducible refine OutHeld.next ?_
    | with_reducible refine OutHeld.next ?_
    | with_reducible refine State.raise_held ?_
    | with_reducible refine State.checkLine_held ?_

theorem execDebugAttached_held (h : s.Held P) {a1 : Tick} : OutHeld P (execDebugAttached a1 s) := by
  unfold execDebugAttached
  try lift_lets
  repeat' first
    | with_reducible assumption
    | (intro x; refine (?_ : State.Held P x → _) ?_; (on_goal 1 => (intro _; try clear_value x)); (on_goal 2 => unfold x))
    | (intro x; try clear_value x)
    | split
    | lift_lets
    | with_reducible refine State.modSafety_held ?_
    | with_reducible refine State.upTo_held ?_
    | with_reducible refine OutHeld.next ?_
    | with_reducible refine OutHeld.next ?_
    | with_reducible refine State.info_held ?_
    | with_reducible refine State.settle_held ?_
    | with_reducible refine State.setBrakes_held ?_
    | with_reducible refine State.Held.mk_of ?_

theorem State.spoilFrame_held (h : s.Held P) {a1 : Nat} : (State.spoilFrame s a1).Held P := by
  unfold State.spoilFrame
  try lift_lets
  repeat' first
    | with_reducible assumption
    | (intro x; refine (?_ : State.Held P x → _) ?_; (on_goal 1 => (intro _; try clear_value x)); (on_goal 2 => unfold x))
    | (intro x; try clear_value x)
    | split
    | lift_lets
    | with_reducible refine State.modRecorder_held ?_
    | with_reducible refine State.Held.mk_of ?_

theorem State.uncorrectable_held (h : s.Held P) {a1 : Nat} {a2 : Nat} {a3 : Nat} : (State.uncorrectable s a1 a2 a3).Held P := by
  unfold State.uncorrectable
  try lift_lets
  repeat' first
    | with_reducible assumption
    | (intro x; refine (?_ : State.Held P x → _) ?_; (on_goal 1 => (intro _; try clear_value x)); (on_goal 2 => unfold x))
    | (intro x; try clear_value x)
    | split
    | lift_lets
    | with_reducible refine State.modInteg_held ?_
    | with_reducible refine State.modApp_held ?_
    | with_reducible refine State.raise_held ?_
    | with_reducible refine State.checkLine_held ?_
    | with_reducible refine State.spoilFrame_held ?_
    | with_reducible refine State.Held.mk_of ?_

theorem State.memCorrected_held (h : s.Held P) {a1 : Nat} {a2 : Nat} : (State.memCorrected s a1 a2).Held P := by
  unfold State.memCorrected
  try lift_lets
  repeat' first
    | with_reducible assumption
    | (intro x; refine (?_ : State.Held P x → _) ?_; (on_goal 1 => (intro _; try clear_value x)); (on_goal 2 => unfold x))
    | (intro x; try clear_value x)
    | split
    | lift_lets
    | with_reducible refine State.modInteg_held ?_
    | with_reducible refine State.info_held ?_
    | with_reducible refine State.Held.mk_of ?_

theorem State.unmarkWord_held (h : s.Held P) {a1 : Nat} {a2 : Nat} : (State.unmarkWord s a1 a2).Held P := by
  unfold State.unmarkWord
  repeat' first
    | with_reducible assumption
    | with_reducible refine State.modInteg_held ?_
    | with_reducible refine State.Held.mk_of ?_

theorem State.scrubWord_held (h : s.Held P) {a1 : Bool} {a2 : Nat} {a3 : Nat} {a4 : WordCheck} : (State.scrubWord s a1 a2 a3 a4).Held P := by
  unfold State.scrubWord
  try lift_lets
  repeat' first
    | with_reducible assumption
    | (intro x; refine (?_ : State.Held P x → _) ?_; (on_goal 1 => (intro _)); (on_goal 2 => unfold x))
    | (intro g; refine (?_ : (∀ s, State.Held P s → State.Held P (g s)) → _) ?_; (on_goal 1 => (intro _)); (on_goal 2 => (unfold g; intro s _)))
    | (intro g; refine (?_ : (∀ s n, State.Held P s → State.Held P (g s n)) → _) ?_; (on_goal 1 => (intro _)); (on_goal 2 => (unfold g; intro s _ _)))
    | (intro x)
    | split
    | lift_lets
    | with_reducible refine State.modInteg_held ?_
    | with_reducible refine State.raise_held ?_
    | with_reducible refine State.uncorrectable_held ?_
    | with_reducible refine State.memCorrected_held ?_
    | with_reducible refine State.unmarkWord_held ?_
    | with_reducible refine State.Held.mk_of ?_

theorem State.scrubWords_held {b : Bool} {c : Nat} {l : List WordCheck} {o : Nat} (h : s.Held P) : (s.scrubWords b c o l).Held P := by
  induction l generalizing s o with
  | nil => exact h
  | cons w r ih => exact ih (State.scrubWord_held h)

theorem execScrubBurst_held (h : s.Held P) {t : Tick} {m : MemRegion} {b : Nat} {l : List WordCheck} {w : Bool} :
    OutHeld P (execScrubBurst t m b l w s) := by
  have hu := State.upTo_held h (t := t)
  unfold execScrubBurst
  generalize s.upTo t = u at hu
  refine OutHeld.next ?_
  split
  · exact hu
  · refine State.scrubWords_held ?_
    split
    · exact State.modInteg_held hu
    · exact hu

theorem execAlertN_held (h : s.Held P) {a1 : Tick} {a2 : Nat} {a3 : Bool} : OutHeld P (execAlertN a1 a2 a3 s) := by
  unfold execAlertN
  try lift_lets
  repeat' first
    | with_reducible assumption
    | (intro x; refine (?_ : State.Held P x → _) ?_; (on_goal 1 => (intro _; try clear_value x)); (on_goal 2 => unfold x))
    | (intro x; try clear_value x)
    | split
    | lift_lets
    | with_reducible refine State.modInteg_held ?_
    | with_reducible refine State.upTo_held ?_
    | with_reducible refine OutHeld.next ?_
    | with_reducible refine OutHeld.next ?_
    | with_reducible refine State.uncorrectable_held ?_
    | with_reducible refine State.Held.mk_of ?_

theorem execFaultHistoryAppend_held (h : s.Held P) {a1 : Tick} : OutHeld P (execFaultHistoryAppend a1 s) := by
  have hu := State.upTo_held h (t := a1)
  unfold execFaultHistoryAppend
  generalize s.upTo a1 = u at hu
  refine OutHeld.next ?_
  split
  · exact State.appendStaged_held hu
  · exact hu

theorem opReadFaultHistory_held (h : s.Held P) {a1 : Bytes} : (opReadFaultHistory a1 s).st.Held P := by
  unfold opReadFaultHistory
  try lift_lets
  repeat' first
    | with_reducible assumption
    | (intro x; refine (?_ : State.Held P x → _) ?_; (on_goal 1 => (intro _; try clear_value x)); (on_goal 2 => unfold x))
    | (intro g; refine (?_ : (∀ s, State.Held P s → State.Held P (g s)) → _) ?_; (on_goal 1 => (intro _; try clear_value g)); (on_goal 2 => (unfold g; intro s _)))
    | (intro g; refine (?_ : (∀ s n, State.Held P s → State.Held P (g s n)) → _) ?_; (on_goal 1 => (intro _; try clear_value g)); (on_goal 2 => (unfold g; intro s _ _)))
    | (intro x; try clear_value x)
    | split
    | lift_lets
    | with_reducible refine OutHeld.next ?_
    | with_reducible refine OutHeld.next ?_
    | with_reducible refine Rep.ok_held ?_
    | with_reducible refine Rep.no_held ?_

theorem execReadFaultHistory_held (h : s.Held (Bal q none)) {a1 : Tick} {a2 : Source} {a3 : Nat} {a4 : Bytes} : OutHeld (Bal q none) (execReadFaultHistory a1 a2 a3 a4 s) := by
  unfold execReadFaultHistory
  refine runOp_held h fun m s _ h => ?_
  first
    | exact h
    | exact opReadFaultHistory_held h

theorem State.setApp_held (h : s.Held P) {a1 : Nat} {a2 : Nat} : (State.setApp s a1 a2).Held P := by
  unfold State.setApp
  try lift_lets
  repeat' first
    | with_reducible assumption
    | (intro x; refine (?_ : State.Held P x → _) ?_; (on_goal 1 => (intro _; try clear_value x)); (on_goal 2 => unfold x))
    | (intro x; try clear_value x)
    | split
    | lift_lets
    | with_reducible refine State.modApp_held ?_
    | with_reducible refine State.info_held ?_
    | with_reducible refine State.Held.mk_of ?_

theorem State.haltDma_held (h : s.Held P) : (State.haltDma s).Held P := by
  unfold State.haltDma
  repeat' first
    | with_reducible assumption
    | split
    | with_reducible refine State.modDma_held ?_
    | with_reducible refine State.Held.mk_of ?_

theorem State.endApp_held (h : s.Held (Bal q fl)) {n : Nat} : (State.endApp s n).Held (Bal q fl) := by
  unfold State.endApp
  have h1 : (s.haltDma.loseOwner .app).Held (Bal q fl) := State.loseOwner_held (State.haltDma_held h)
  generalize s.haltDma.loseOwner .app = u at h1 ⊢
  refine State.setApp_held (State.modApp_held ?_)
  exact State.restore_held h1 (by decide) (fun p => ⟨rfl, rfl⟩) (fun p hp => hp)

theorem State.appFault_held (h : s.Held (Bal q fl)) {a1 : Nat} {a2 : Nat} : (State.appFault s a1 a2).Held (Bal q fl) := by
  unfold State.appFault
  repeat' first
    | with_reducible assumption
    | with_reducible refine State.raise_held ?_
    | with_reducible refine State.endApp_held ?_

theorem State.appReply_held (h : s.Held P) : (State.appReply s).st.Held P := by
  unfold State.appReply
  repeat' first
    | with_reducible assumption
    | with_reducible refine Rep.ok_held ?_

theorem State.startApp_held (h : s.Held P) {a1 : Nat} : (State.startApp s a1).Held P := by
  unfold State.startApp
  repeat' first
    | with_reducible assumption
    | with_reducible refine State.modApp_held ?_
    | with_reducible refine State.setApp_held ?_
    | with_reducible refine State.Held.mk_of ?_

theorem opAppControl_held (h : s.Held (Bal q fl)) {a1 : Bytes} : (opAppControl a1 s).st.Held (Bal q fl) := by
  unfold opAppControl
  try lift_lets
  repeat' first
    | with_reducible assumption
    | (intro x; refine (?_ : State.Held (Bal q fl) x → _) ?_; (on_goal 1 => (intro _; try clear_value x)); (on_goal 2 => unfold x))
    | (intro x; try clear_value x)
    | split
    | lift_lets
    | with_reducible refine State.modApp_held ?_
    | with_reducible refine Rep.no_held ?_
    | with_reducible refine State.endApp_held ?_
    | with_reducible refine State.appReply_held ?_
    | with_reducible refine State.startApp_held ?_
    | with_reducible refine State.Held.mk_of ?_

theorem execAppStart_held (h : s.Held (Bal q none)) {a1 : Tick} {a2 : Source} {a3 : Nat} {a4 : Bytes} : OutHeld (Bal q none) (execAppStart a1 a2 a3 a4 s) := by
  unfold execAppStart
  refine runOp_held h fun m s _ h => ?_
  first
    | exact h
    | exact opAppControl_held h

theorem execAppStop_held (h : s.Held (Bal q none)) {a1 : Tick} {a2 : Source} {a3 : Nat} {a4 : Bytes} : OutHeld (Bal q none) (execAppStop a1 a2 a3 a4 s) := by
  unfold execAppStop
  refine runOp_held h fun m s _ h => ?_
  first
    | exact h
    | exact opAppControl_held h

theorem execAppSuspend_held (h : s.Held (Bal q none)) {a1 : Tick} {a2 : Source} {a3 : Nat} {a4 : Bytes} : OutHeld (Bal q none) (execAppSuspend a1 a2 a3 a4 s) := by
  unfold execAppSuspend
  refine runOp_held h fun m s _ h => ?_
  first
    | exact h
    | exact opAppControl_held h

theorem execSuspendComplete_held (h : s.Held P) {a1 : Tick} : OutHeld P (execSuspendComplete a1 s) := by
  unfold execSuspendComplete
  try lift_lets
  repeat' first
    | with_reducible assumption
    | (intro x; refine (?_ : State.Held P x → _) ?_; (on_goal 1 => (intro _; try clear_value x)); (on_goal 2 => unfold x))
    | (intro x; try clear_value x)
    | split
    | lift_lets
    | with_reducible refine State.modApp_held ?_
    | with_reducible refine State.upTo_held ?_
    | with_reducible refine OutHeld.next ?_
    | with_reducible refine OutHeld.next ?_
    | with_reducible refine State.setApp_held ?_
    | with_reducible refine State.Held.mk_of ?_

theorem opAppMessage_held (h : s.Held P) {a1 : Bytes} : (opAppMessage a1 s).st.Held P := by
  unfold opAppMessage
  repeat' first
    | with_reducible assumption
    | split
    | with_reducible refine State.modApp_held ?_
    | with_reducible refine Rep.ok_held ?_
    | with_reducible refine Rep.no_held ?_
    | with_reducible refine State.Held.mk_of ?_

theorem execAppMessage_held (h : s.Held (Bal q none)) {a1 : Tick} {a2 : Source} {a3 : Nat} {a4 : Bytes} : OutHeld (Bal q none) (execAppMessage a1 a2 a3 a4 s) := by
  unfold execAppMessage
  refine runOp_held h fun m s _ h => ?_
  first
    | exact h
    | exact opAppMessage_held h

theorem execAppWatchdogExpiry_held (h : s.Held (Bal q none)) {a1 : Tick} : OutHeld (Bal q none) (execAppWatchdogExpiry a1 s) := by
  unfold execAppWatchdogExpiry
  try lift_lets
  repeat' first
    | with_reducible assumption
    | (intro x; refine (?_ : State.Held (Bal q none) x → _) ?_; (on_goal 1 => (intro _; try clear_value x)); (on_goal 2 => unfold x))
    | (intro x; try clear_value x)
    | split
    | lift_lets
    | with_reducible refine State.upTo_held ?_
    | with_reducible refine OutHeld.next ?_
    | with_reducible refine OutHeld.next ?_
    | with_reducible refine State.appFault_held ?_

theorem execProgramFault_held (h : s.Held (Bal q none)) {a1 : Tick} {a2 : Nat} {a3 : ProgramFaultKind} : OutHeld (Bal q none) (execProgramFault a1 a2 a3 s) := by
  unfold execProgramFault
  try lift_lets
  repeat' first
    | with_reducible assumption
    | (intro x; refine (?_ : State.Held (Bal q none) x → _) ?_; (on_goal 1 => (intro _; try clear_value x)); (on_goal 2 => unfold x))
    | (intro x; try clear_value x)
    | split
    | lift_lets
    | with_reducible refine State.upTo_held ?_
    | with_reducible refine OutHeld.next ?_
    | with_reducible refine OutHeld.next ?_
    | with_reducible refine State.uncorrectable_held ?_
    | with_reducible refine State.appFault_held ?_

theorem execProgramExit_held (h : s.Held (Bal q none)) {a1 : Tick} : OutHeld (Bal q none) (execProgramExit a1 s) := by
  unfold execProgramExit
  try lift_lets
  repeat' first
    | with_reducible assumption
    | (intro x; refine (?_ : State.Held (Bal q none) x → _) ?_; (on_goal 1 => (intro _; try clear_value x)); (on_goal 2 => unfold x))
    | (intro x; try clear_value x)
    | split
    | lift_lets
    | with_reducible refine State.upTo_held ?_
    | with_reducible refine OutHeld.next ?_
    | with_reducible refine OutHeld.next ?_
    | with_reducible refine State.endApp_held ?_

theorem execPllLockLoss_held (h : s.Held (Bal q none)) {a1 : Tick} {a2 : SidePll} : OutHeld (Bal q none) (execPllLockLoss a1 a2 s) := by
  unfold execPllLockLoss
  try lift_lets
  repeat' first
    | with_reducible assumption
    | (intro x; refine (?_ : State.Held (Bal q none) x → _) ?_; (on_goal 1 => (intro _; try clear_value x)); (on_goal 2 => unfold x))
    | (intro x; try clear_value x)
    | split
    | lift_lets
    | with_reducible refine State.modPower_held ?_
    | with_reducible refine State.modApp_held ?_
    | with_reducible refine State.upTo_held ?_
    | with_reducible refine OutHeld.next ?_
    | with_reducible refine OutHeld.next ?_
    | with_reducible refine State.pll_held ?_
    | with_reducible refine State.appFault_held ?_
    | with_reducible refine State.Held.mk_of ?_

theorem execDriveMessageInterrupt_held (h : s.Held P) {a1 : Tick} : OutHeld P (execDriveMessageInterrupt a1 s) := by
  unfold execDriveMessageInterrupt
  try lift_lets
  repeat' first
    | with_reducible assumption
    | (intro x; refine (?_ : State.Held P x → _) ?_; (on_goal 1 => (intro _; try clear_value x)); (on_goal 2 => unfold x))
    | (intro x; try clear_value x)
    | split
    | lift_lets
    | with_reducible refine State.modApp_held ?_
    | with_reducible refine State.upTo_held ?_
    | with_reducible refine OutHeld.next ?_
    | with_reducible refine OutHeld.next ?_
    | with_reducible refine State.Held.mk_of ?_

theorem execThrottlePeriod_held (h : s.Held P) {a1 : Tick} : OutHeld P (execThrottlePeriod a1 s) := by
  unfold execThrottlePeriod
  try lift_lets
  repeat' first
    | with_reducible assumption
    | (intro x; refine (?_ : State.Held P x → _) ?_; (on_goal 1 => (intro _; try clear_value x)); (on_goal 2 => unfold x))
    | (intro x; try clear_value x)
    | split
    | lift_lets
    | with_reducible refine State.modApp_held ?_
    | with_reducible refine State.upTo_held ?_
    | with_reducible refine OutHeld.next ?_
    | with_reducible refine OutHeld.next ?_
    | with_reducible refine State.Held.mk_of ?_

theorem State.translate_held (h : s.Held P) {a1 : Nat} {a2 : Nat} {a3 : Bool} : (State.translate s a1 a2 a3).2.Held P := by
  unfold State.translate
  try lift_lets
  repeat' first
    | with_reducible assumption
    | (intro x; refine (?_ : State.Held P x → _) ?_; (on_goal 1 => (intro _; try clear_value x)); (on_goal 2 => unfold x))
    | (intro x; try clear_value x)
    | split
    | lift_lets
    | with_reducible refine State.modDma_held ?_
    | with_reducible refine State.Held.mk_of ?_

theorem State.access_held (h : s.Held P) {n va len : Nat} {w : Bool} : (State.access s n va len w).2.Held P := by
  unfold State.access
  have h1 : (s.translate n va w).2.Held P := State.translate_held h
  generalize s.translate n va w = e at h1 ⊢
  split
  · dsimp only at h1 ⊢
    split
    · exact h1
    · split
      · exact h1
      · split
        · exact State.uncorrectable_held h1
        · exact h1
  · exact h1

theorem State.storePa_held (h : s.Held (Bal q fl)) {pa : Nat} {b : Bytes} : (State.storePa s pa b).Held (Bal q fl) := by
  unfold State.storePa
  refine State.modInteg_held (Bal.held ?_)
  have h := h.holds
  exact ⟨h.pending, h.credits, h.queues, h.counters, h.blocks, h.sorted, h.staging, Memory.wf_writeN pa b h.memory⟩

theorem State.freeSlot_held (h : s.Held P) {a1 : Nat} : (State.freeSlot s a1).Held P := by
  unfold State.freeSlot
  repeat' first
    | with_reducible assumption
    | split
    | with_reducible refine State.modDma_held ?_
    | with_reducible refine State.Held.mk_of ?_

theorem State.queueCh_held (h : s.Held P) {a1 : Nat} {a2 : DmaCh → DmaCh} : (State.queueCh s a1 a2).Held P := by
  unfold State.queueCh
  try lift_lets
  repeat' first
    | with_reducible assumption
    | (intro x; refine (?_ : State.Held P x → _) ?_; (on_goal 1 => (intro _; try clear_value x)); (on_goal 2 => unfold x))
    | (intro x; try clear_value x)
    | lift_lets
    | with_reducible refine State.modDma_held ?_
    | with_reducible refine State.modCh_held ?_
    | with_reducible refine State.Held.mk_of ?_

theorem State.dmaFault_held (h : s.Held P) {a1 : Nat} {a2 : Nat} {a3 : Nat} {a4 : Nat} {a5 : Xlat} : (State.dmaFault s a1 a2 a3 a4 a5).Held P := by
  unfold State.dmaFault
  try lift_lets
  repeat' first
    | with_reducible assumption
    | (intro x; refine (?_ : State.Held P x → _) ?_; (on_goal 1 => (intro _; try clear_value x)); (on_goal 2 => unfold x))
    | (intro x; try clear_value x)
    | (have hx := ‹_ = (_, _)›; have h2 := congrArg Prod.snd hx; have h1 := congrArg Prod.fst hx; dsimp only at h1 h2; subst h1 h2; clear hx)
    | split
    | lift_lets
    | with_reducible refine State.modCh_held ?_
    | with_reducible refine State.freeSlot_held ?_
    | with_reducible refine State.Held.mk_of ?_

theorem State.postRecord_held (h : s.Held P) {a1 : Nat} : (State.postRecord s a1).Held P := by
  unfold State.postRecord
  try lift_lets
  repeat' first
    | with_reducible assumption
    | (intro x; refine (?_ : State.Held P x → _) ?_; (on_goal 1 => (intro _; try clear_value x)); (on_goal 2 => unfold x))
    | (intro x; try clear_value x)
    | split
    | lift_lets
    | with_reducible refine State.modDma_held ?_
    | with_reducible refine State.modCh_held ?_
    | with_reducible refine State.Held.mk_of ?_

theorem execFaultRecordPost_held (h : s.Held P) {a1 : Tick} {a2 : Fin 16} : OutHeld P (execFaultRecordPost a1 a2 s) := by
  unfold execFaultRecordPost
  try lift_lets
  repeat' first
    | with_reducible assumption
    | (intro x; refine (?_ : State.Held P x → _) ?_; (on_goal 1 => (intro _; try clear_value x)); (on_goal 2 => unfold x))
    | (intro x; try clear_value x)
    | split
    | lift_lets
    | with_reducible refine State.upTo_held ?_
    | with_reducible refine OutHeld.next ?_
    | with_reducible refine OutHeld.next ?_
    | with_reducible refine State.postRecord_held ?_

theorem State.saveCh_held (h : s.Held (Bal q fl)) {n : Nat} : (State.saveCh s n).Held (Bal q fl) := by
  unfold State.saveCh
  dsimp only
  have h1 : (s.access n (s.dmaCh n).desc 64 true).2.Held (Bal q fl) := State.access_held h
  generalize s.access n (s.dmaCh n).desc 64 true = e at h1 ⊢
  split
  · dsimp only at h1 ⊢
    exact State.queueCh_held (State.freeSlot_held (State.storePa_held (State.storePa_held (State.storePa_held h1))))
  · exact State.dmaFault_held (State.modCh_held h1)

theorem State.dmaStart_held (h : s.Held P) {a1 : Nat} : (State.dmaStart s a1).Held P := by
  unfold State.dmaStart
  repeat' first
    | with_reducible assumption
    | split
    | with_reducible refine State.queueCh_held ?_
    | with_reducible refine State.Held.mk_of ?_

theorem State.dmaResume_held (h : s.Held (Bal q fl)) {a1 : Nat} : (State.dmaResume s a1).Held (Bal q fl) := by
  unfold State.dmaResume
  try lift_lets
  repeat' first
    | with_reducible assumption
    | (intro x; refine (?_ : State.Held (Bal q fl) x → _) ?_; (on_goal 1 => (intro _; try clear_value x)); (on_goal 2 => unfold x))
    | (intro x; try clear_value x)
    | split
    | lift_lets
    | with_reducible refine State.saveCh_held ?_
    | with_reducible refine State.queueCh_held ?_
    | with_reducible refine State.postRecord_held ?_
    | with_reducible refine State.Held.mk_of ?_

theorem State.dmaAbort_held (h : s.Held P) {a1 : Nat} : (State.dmaAbort s a1).Held P := by
  unfold State.dmaAbort
  repeat' first
    | with_reducible assumption
    | split
    | with_reducible refine State.modCh_held ?_
    | with_reducible refine State.freeSlot_held ?_
    | with_reducible refine State.Held.mk_of ?_

theorem execDmaCmdStart_held (h : s.Held P) {a1 : Tick} {a2 : Fin 16} : OutHeld P (execDmaCmdStart a1 a2 s) := by
  unfold execDmaCmdStart
  try lift_lets
  repeat' first
    | with_reducible assumption
    | (intro x; refine (?_ : State.Held P x → _) ?_; (on_goal 1 => (intro _; try clear_value x)); (on_goal 2 => unfold x))
    | (intro x; try clear_value x)
    | split
    | lift_lets
    | with_reducible refine State.upTo_held ?_
    | with_reducible refine OutHeld.next ?_
    | with_reducible refine OutHeld.next ?_
    | with_reducible refine State.dmaStart_held ?_

theorem execDmaCmdResume_held (h : s.Held (Bal q none)) {a1 : Tick} {a2 : Fin 16} : OutHeld (Bal q none) (execDmaCmdResume a1 a2 s) := by
  unfold execDmaCmdResume
  try lift_lets
  repeat' first
    | with_reducible assumption
    | (intro x; refine (?_ : State.Held (Bal q none) x → _) ?_; (on_goal 1 => (intro _; try clear_value x)); (on_goal 2 => unfold x))
    | (intro x; try clear_value x)
    | split
    | lift_lets
    | with_reducible refine State.upTo_held ?_
    | with_reducible refine OutHeld.next ?_
    | with_reducible refine OutHeld.next ?_
    | with_reducible refine State.dmaResume_held ?_

theorem execDmaCmdAbort_held (h : s.Held P) {a1 : Tick} {a2 : Fin 16} : OutHeld P (execDmaCmdAbort a1 a2 s) := by
  unfold execDmaCmdAbort
  try lift_lets
  repeat' first
    | with_reducible assumption
    | (intro x; refine (?_ : State.Held P x → _) ?_; (on_goal 1 => (intro _; try clear_value x)); (on_goal 2 => unfold x))
    | (intro x; try clear_value x)
    | split
    | lift_lets
    | with_reducible refine State.upTo_held ?_
    | with_reducible refine OutHeld.next ?_
    | with_reducible refine OutHeld.next ?_
    | with_reducible refine State.dmaAbort_held ?_

theorem State.dtuWrite_held (h : s.Held P) {a1 : Nat} : (State.dtuWrite s a1).Held P := by
  unfold State.dtuWrite
  repeat' first
    | with_reducible assumption
    | with_reducible refine State.modDma_held ?_
    | with_reducible refine State.Held.mk_of ?_

theorem execDtuInval_held (h : s.Held P) {a1 : Tick} {a2 : BitVec 32} : OutHeld P (execDtuInval a1 a2 s) := by
  unfold execDtuInval
  try lift_lets
  repeat' first
    | with_reducible assumption
    | (intro x; refine (?_ : State.Held P x → _) ?_; (on_goal 1 => (intro _; try clear_value x)); (on_goal 2 => unfold x))
    | (intro x; try clear_value x)
    | split
    | lift_lets
    | with_reducible refine State.upTo_held ?_
    | with_reducible refine OutHeld.next ?_
    | with_reducible refine OutHeld.next ?_
    | with_reducible refine State.dtuWrite_held ?_

theorem execDtuInvalComplete_held (h : s.Held P) {a1 : Tick} : OutHeld P (execDtuInvalComplete a1 s) := by
  unfold execDtuInvalComplete
  try lift_lets
  repeat' first
    | with_reducible assumption
    | (intro x; refine (?_ : State.Held P x → _) ?_; (on_goal 1 => (intro _; try clear_value x)); (on_goal 2 => unfold x))
    | (intro x; try clear_value x)
    | split
    | lift_lets
    | with_reducible refine State.modDma_held ?_
    | with_reducible refine State.upTo_held ?_
    | with_reducible refine OutHeld.next ?_
    | with_reducible refine OutHeld.next ?_
    | with_reducible refine State.Held.mk_of ?_

theorem State.grant_held (h : s.Held P) {a1 : Nat} {a2 : Nat} : (State.grant s a1 a2).Held P := by
  unfold State.grant
  try lift_lets
  repeat' first
    | with_reducible assumption
    | (intro x; refine (?_ : State.Held P x → _) ?_; (on_goal 1 => (intro _; try clear_value x)); (on_goal 2 => unfold x))
    | (intro x; try clear_value x)
    | lift_lets
    | with_reducible refine State.modDma_held ?_
    | with_reducible refine State.modCh_held ?_
    | with_reducible refine State.Held.mk_of ?_

theorem execDmaSlotGrant_held (h : s.Held (Bal q none)) {a1 : Tick} : OutHeld (Bal q none) (execDmaSlotGrant a1 s) := by
  unfold execDmaSlotGrant
  try lift_lets
  repeat' first
    | with_reducible assumption
    | (intro x; refine (?_ : State.Held (Bal q none) x → _) ?_; (on_goal 1 => (intro _; try clear_value x)); (on_goal 2 => unfold x))
    | (intro x; try clear_value x)
    | split
    | lift_lets
    | with_reducible refine State.upTo_held ?_
    | with_reducible refine OutHeld.next ?_
    | with_reducible refine OutHeld.next ?_
    | with_reducible refine State.saveCh_held ?_
    | with_reducible refine State.freeSlot_held ?_
    | with_reducible refine State.queueCh_held ?_
    | with_reducible refine State.grant_held ?_

theorem execDmaDescriptorFetch_held (h : s.Held P) {t : Tick} {n : Fin 16} : OutHeld P (execDmaDescriptorFetch t n s) := by
  unfold execDmaDescriptorFetch
  refine OutHeld.next ?_
  have h1 : (s.upTo t).Held P := State.upTo_held h
  generalize s.upTo t = u at h1 ⊢
  dsimp only
  split
  · exact h1
  · have h2 : (u.access n (u.dmaCh n).desc 64 false).2.Held P := State.access_held h1
    generalize u.access n (u.dmaCh n).desc 64 false = e at h2 ⊢
    split
    · dsimp only at h2 ⊢
      split
      · exact State.dmaFault_held h2
      · split
        · exact State.freeSlot_held (State.modCh_held h2)
        · split
          · exact State.dmaFault_held h2
          · exact State.modCh_held h2
    · exact State.dmaFault_held h2



theorem State.writeBack_held (h : s.Held (Bal q fl)) {n : Nat} : (State.writeBack s n).Held (Bal q fl) := by
  unfold State.writeBack
  dsimp only
  have h1 : (s.access n (s.dmaCh n).desc 64 true).2.Held (Bal q fl) := State.access_held h
  generalize s.access n (s.dmaCh n).desc 64 true = e at h1 ⊢
  split
  · rename_i pa u
    dsimp only at h1 ⊢
    have h2 : ((((u.storePa pa (le 2 ((s.dmaCh n).ctrl - 1))).storePa (pa + 3) (le 1 1)).storePa (pa + 32) (le 4 (s.dmaCh n).len)).storePa (pa + 40)
        (le 8 u.stamp)).Held (Bal q fl) := State.storePa_held (State.storePa_held (State.storePa_held (State.storePa_held h1)))
    generalize (((u.storePa pa (le 2 ((s.dmaCh n).ctrl - 1))).storePa (pa + 3) (le 1 1)).storePa (pa + 32) (le 4 (s.dmaCh n).len)).storePa (pa + 40)
        (le 8 u.stamp) = v at h2 ⊢
    repeat' first
      | with_reducible assumption
      | split
      | with_reducible refine State.modCh_held ?_
      | with_reducible refine State.freeSlot_held ?_
      | with_reducible refine State.modDma_held ?_
  · exact State.dmaFault_held h1

theorem State.beatSource_held (h : s.Held P) {n va len : Nat} : (State.beatSource s n va len).2.Held P := by
  unfold State.beatSource
  dsimp only
  have h1 : (s.access n va (min len (4096 - va % 4096)) false).2.Held P := State.access_held h
  generalize s.access n va (min len (4096 - va % 4096)) false = e at h1 ⊢
  split
  · rename_i p u
    dsimp only at h1 ⊢
    split
    · exact h1
    · have h2 : (u.access n (va + min len (4096 - va % 4096)) (len - min len (4096 - va % 4096)) false).2.Held P := State.access_held h1
      generalize u.access n (va + min len (4096 - va % 4096)) (len - min len (4096 - va % 4096)) false = e2 at h2 ⊢
      split <;> exact h2
  · exact h1

theorem State.beatInto_held (h : s.Held (Bal q fl)) {n va len : Nat} {src : (Nat × Xlat) ⊕ Bytes} : (match src with
  | .inl (a, f) => s.dmaFault n 1 1 a f
  | .inr b => match s.access n va len true with
    | (.at_ pa, s) => (s.storePa pa b).modCh n fun c => { c with done := c.done + len }
    | (f, s) => s.dmaFault n 1 2 va f).Held (Bal q fl) := by
  split
  · exact State.dmaFault_held h
  · have h1 : (s.access n va len true).2.Held (Bal q fl) := State.access_held h
    generalize s.access n va len true = e at h1 ⊢
    split
    · exact State.modCh_held (State.storePa_held h1)
    · exact State.dmaFault_held h1

theorem State.beat_held (h : s.Held (Bal q fl)) {n : Nat} : (State.beat s n).Held (Bal q fl) := by
  unfold State.beat
  dsimp only
  generalize hlen : min (64 - ((s.dmaCh n).dst + (s.dmaCh n).done) % 64) ((s.dmaCh n).len - (s.dmaCh n).done) = len
  have h1 : (if (s.dmaCh n).ctrl.testBit 3 = true then
      ((.inr ((List.range len).map fun i => BitVec.ofNat 8 ((s.dmaCh n).src / 256 ^ (((s.dmaCh n).done + i) % 8))), s) : ((Nat × Xlat) ⊕ Bytes) × State)
      else s.beatSource n ((s.dmaCh n).src + (s.dmaCh n).done) len).2.Held (Bal q fl) := by
    split
    · exact h
    · exact State.beatSource_held h
  revert h1
  generalize (if (s.dmaCh n).ctrl.testBit 3 = true then
      ((.inr ((List.range len).map fun i => BitVec.ofNat 8 ((s.dmaCh n).src / 256 ^ (((s.dmaCh n).done + i) % 8))), s) : ((Nat × Xlat) ⊕ Bytes) × State)
      else s.beatSource n ((s.dmaCh n).src + (s.dmaCh n).done) len) = e
  intro h1
  obtain ⟨src, u⟩ := e
  exact State.beatInto_held h1

theorem execDmaBeat_held (h : s.Held (Bal q none)) {a1 : Tick} {a2 : Fin 16} : OutHeld (Bal q none) (execDmaBeat a1 a2 s) := by
  unfold execDmaBeat
  try lift_lets
  repeat' first
    | with_reducible assumption
    | (intro x; refine (?_ : State.Held (Bal q none) x → _) ?_; (on_goal 1 => (intro _; try clear_value x)); (on_goal 2 => unfold x))
    | (intro x; try clear_value x)
    | split
    | lift_lets
    | with_reducible refine State.upTo_held ?_
    | with_reducible refine OutHeld.next ?_
    | with_reducible refine OutHeld.next ?_
    | with_reducible refine State.writeBack_held ?_
    | with_reducible refine State.beat_held ?_

theorem State.sensorEvent_held (h : s.Held P) {a1 : Reading} {a2 : Verdict} {a3 : Nat} : (State.sensorEvent s a1 a2 a3).Held P := by
  unfold State.sensorEvent
  repeat' first
    | with_reducible assumption
    | split
    | with_reducible refine State.raise_held ?_

theorem State.readTemps_held (h : s.Held P) {a1 : ThermalInput} : (State.readTemps s a1).Held P := by
  unfold State.readTemps
  try lift_lets
  repeat' first
    | with_reducible assumption
    | (intro x; refine (?_ : State.Held P x → _) ?_; (on_goal 1 => (intro _; try clear_value x)); (on_goal 2 => unfold x))
    | (intro x; try clear_value x)
    | split
    | lift_lets
    | with_reducible refine State.modThermal_held ?_
    | with_reducible refine held_foldl ?_ (fun s x h => ?_)
    | with_reducible refine OutHeld.next ?_
    | with_reducible refine OutHeld.next ?_
    | with_reducible refine State.sensorEvent_held ?_
    | with_reducible refine State.Held.mk_of ?_

theorem State.bandCycle_held (h : s.Held P) {a1 : Nat} : (State.bandCycle s a1).Held P := by
  unfold State.bandCycle
  try lift_lets
  repeat' first
    | with_reducible assumption
    | (intro x; refine (?_ : State.Held P x → _) ?_; (on_goal 1 => (intro _; try clear_value x)); (on_goal 2 => unfold x))
    | (intro x; try clear_value x)
    | split
    | lift_lets
    | with_reducible refine State.modStack_held ?_
    | with_reducible refine State.info_held ?_
    | with_reducible refine State.Held.mk_of ?_

theorem State.derateCycle_held (h : s.Held P) {a1 : Nat} : (State.derateCycle s a1).Held P := by
  unfold State.derateCycle
  try lift_lets
  repeat' first
    | with_reducible assumption
    | (intro x; refine (?_ : State.Held P x → _) ?_; (on_goal 1 => (intro _; try clear_value x)); (on_goal 2 => unfold x))
    | (intro g; refine (?_ : (∀ s, State.Held P s → State.Held P (g s)) → _) ?_; (on_goal 1 => (intro _; try clear_value g)); (on_goal 2 => (unfold g; intro s _)))
    | (intro g; refine (?_ : (∀ s n, State.Held P s → State.Held P (g s n)) → _) ?_; (on_goal 1 => (intro _; try clear_value g)); (on_goal 2 => (unfold g; intro s _ _)))
    | (intro x; try clear_value x)
    | split
    | lift_lets
    | with_reducible refine State.modThermal_held ?_
    | with_reducible refine State.info_held ?_
    | with_reducible refine State.Held.mk_of ?_

theorem State.tripCycle_held (h : s.Held P) {a1 : Nat} : (State.tripCycle s a1).2.Held P := by
  unfold State.tripCycle
  try lift_lets
  repeat' first
    | with_reducible assumption
    | (intro x; refine (?_ : State.Held P x → _) ?_; (on_goal 1 => (intro _; try clear_value x)); (on_goal 2 => unfold x))
    | (intro g; refine (?_ : (∀ s, State.Held P s → State.Held P (g s)) → _) ?_; (on_goal 1 => (intro _; try clear_value g)); (on_goal 2 => (unfold g; intro s _)))
    | (intro g; refine (?_ : (∀ s n, State.Held P s → State.Held P (g s n)) → _) ?_; (on_goal 1 => (intro _; try clear_value g)); (on_goal 2 => (unfold g; intro s _ _)))
    | (intro x; try clear_value x)
    | split
    | lift_lets
    | with_reducible refine State.modThermal_held ?_
    | with_reducible refine State.raise_held ?_
    | with_reducible refine State.Held.mk_of ?_

theorem State.throttleCycle_held (h : s.Held P) : (State.throttleCycle s).Held P := by
  unfold State.throttleCycle
  try lift_lets
  repeat' first
    | with_reducible assumption
    | (intro x; refine (?_ : State.Held P x → _) ?_; (on_goal 1 => (intro _; try clear_value x)); (on_goal 2 => unfold x))
    | (intro x; try clear_value x)
    | split
    | lift_lets
    | with_reducible refine State.modApp_held ?_
    | with_reducible refine State.modThermal_held ?_
    | with_reducible refine State.info_held ?_
    | with_reducible refine State.Held.mk_of ?_

theorem State.critCycle_held (h : s.Held P) {a1 : List Nat} : (State.critCycle s a1).Held P := by
  unfold State.critCycle
  try lift_lets
  repeat' first
    | with_reducible assumption
    | (intro x; refine (?_ : State.Held P x → _) ?_; (on_goal 1 => (intro _; try clear_value x)); (on_goal 2 => unfold x))
    | (intro x; try clear_value x)
    | split
    | lift_lets
    | with_reducible refine State.modThermal_held ?_
    | with_reducible refine State.releaseAxes_held ?_
    | with_reducible refine State.stopAll_held ?_
    | with_reducible refine State.raise_held ?_
    | with_reducible refine State.Held.mk_of ?_

theorem execThermalEvaluation_held (h : s.Held P) {t : Tick} {x : ThermalInput} : OutHeld P (execThermalEvaluation t x s) := by
  unfold execThermalEvaluation
  refine OutHeld.next ?_
  have h1 : (s.upTo t).Held P := State.upTo_held h
  generalize s.upTo t = u at h1 ⊢
  dsimp only
  split
  · exact h1
  · have h2 : (u.readTemps x).Held P := State.readTemps_held h1
    generalize u.readTemps x = v at h2 ⊢
    have h3 : (v.enStacks.foldl (fun (a : List Nat × State) k =>
        let r := ((a.2.bandCycle k).derateCycle k).tripCycle k
        (if r.1 then a.1 ++ [k] else a.1, r.2)) (([] : List Nat), v)).2.Held P :=
      held_foldl_snd h2 fun a k ha => State.tripCycle_held (State.derateCycle_held (State.bandCycle_held ha))
    exact State.throttleCycle_held (State.critCycle_held h3)

theorem opGetTemperatures_held (h : s.Held P) : (opGetTemperatures s).st.Held P := by
  unfold opGetTemperatures
  try lift_lets
  repeat' first
    | with_reducible assumption
    | (intro x; refine (?_ : State.Held P x → _) ?_; (on_goal 1 => (intro _; try clear_value x)); (on_goal 2 => unfold x))
    | (intro g; refine (?_ : (∀ s, State.Held P s → State.Held P (g s)) → _) ?_; (on_goal 1 => (intro _; try clear_value g)); (on_goal 2 => (unfold g; intro s _)))
    | (intro g; refine (?_ : (∀ s n, State.Held P s → State.Held P (g s n)) → _) ?_; (on_goal 1 => (intro _; try clear_value g)); (on_goal 2 => (unfold g; intro s _ _)))
    | (intro x; try clear_value x)
    | split
    | lift_lets
    | with_reducible refine Rep.ok_held ?_

theorem execGetTemperatures_held (h : s.Held (Bal q none)) {a1 : Tick} {a2 : Source} {a3 : Nat} {a4 : Bytes} : OutHeld (Bal q none) (execGetTemperatures a1 a2 a3 a4 s) := by
  unfold execGetTemperatures
  refine runOp_held h fun m s _ h => ?_
  first
    | exact h
    | exact opGetTemperatures_held h

end Sys2Proof.Machine
end

