-- ==== Sys2Proof/Laws/HeldE.lean ====
section
/-! SUPPORT. What the operations of Colonnade, Alcia, Pair, Update keep: one lemma each. -/
namespace Sys2Proof.Machine

variable {P : State → Prop} {q : List Instr} {fl : Option (Source × Nat)} {s : State}
theorem State.clo_held (h : s.Held P) {a1 : List Bytes} : (State.clo s a1).Held P := by
  unfold State.clo
  repeat' first
    | with_reducible assumption
    | with_reducible refine State.modCol_held ?_
    | with_reducible refine State.Held.mk_of ?_

theorem State.endSuspend_held (h : s.Held P) : (State.endSuspend s).Held P := by
  unfold State.endSuspend
  repeat' first
    | with_reducible assumption
    | split
    | with_reducible refine State.modCol_held ?_
    | with_reducible refine State.modStack_held ?_
    | with_reducible refine held_foldl ?_ (fun s x h => ?_)
    | with_reducible refine State.Held.mk_of ?_

theorem State.setCol_held (h : s.Held P) {a1 : Nat} : (State.setCol s a1).Held P := by
  unfold State.setCol
  try lift_lets
  repeat' first
    | with_reducible assumption
    | (intro x; refine (?_ : State.Held P x → _) ?_; (on_goal 1 => (intro _; try clear_value x)); (on_goal 2 => unfold x))
    | (intro x; try clear_value x)
    | split
    | lift_lets
    | with_reducible refine State.modCol_held ?_
    | with_reducible refine State.info_held ?_
    | with_reducible refine State.enterMode_held ?_
    | with_reducible refine State.endSuspend_held ?_
    | with_reducible refine State.Held.mk_of ?_

theorem State.formFail_held (h : s.Held P) {a1 : Nat} : (State.formFail s a1).Held P := by
  unfold State.formFail
  repeat' first
    | with_reducible assumption
    | with_reducible refine State.raise_held ?_

theorem State.ringError_held (h : s.Held P) {a1 : Nat} : (State.ringError s a1).Held P := by
  unfold State.ringError
  try lift_lets
  repeat' first
    | with_reducible assumption
    | (intro x; refine (?_ : State.Held P x → _) ?_; (on_goal 1 => (intro _; try clear_value x)); (on_goal 2 => unfold x))
    | (intro x; try clear_value x)
    | lift_lets
    | with_reducible refine State.modCol_held ?_
    | with_reducible refine State.raise_held ?_
    | with_reducible refine State.Held.mk_of ?_

theorem State.setShort_held (h : s.Held P) {a1 : Int} : (State.setShort s a1).Held P := by
  unfold State.setShort
  try lift_lets
  repeat' first
    | with_reducible assumption
    | (intro x; refine (?_ : State.Held P x → _) ?_; (on_goal 1 => (intro _; try clear_value x)); (on_goal 2 => unfold x))
    | (intro x; try clear_value x)
    | split
    | lift_lets
    | with_reducible refine State.modCol_held ?_
    | with_reducible refine State.raise_held ?_
    | with_reducible refine State.Held.mk_of ?_

theorem State.takeShare_held (h : s.Held P) {a1 : Int} {a2 : Tick} : (State.takeShare s a1 a2).Held P := by
  unfold State.takeShare
  try lift_lets
  repeat' first
    | with_reducible assumption
    | (intro x; refine (?_ : State.Held P x → _) ?_; (on_goal 1 => (intro _; try clear_value x)); (on_goal 2 => unfold x))
    | (intro x; try clear_value x)
    | split
    | lift_lets
    | with_reducible refine State.modCol_held ?_
    | with_reducible refine State.raise_held ?_
    | with_reducible refine State.setRefs_held ?_
    | with_reducible refine State.Held.mk_of ?_

theorem State.detach_held (h : s.Held P) {a1 : Nat} : (State.detach s a1).Held P := by
  unfold State.detach
  try lift_lets
  repeat' first
    | with_reducible assumption
    | (intro x; refine (?_ : State.Held P x → _) ?_; (on_goal 1 => (intro _; try clear_value x)); (on_goal 2 => unfold x))
    | (intro x; try clear_value x)
    | (have hx := ‹_ = (_, _)›; have h2 := congrArg Prod.snd hx; have h1 := congrArg Prod.fst hx; dsimp only at h1 h2; subst h1 h2; clear hx)
    | split
    | lift_lets
    | with_reducible refine State.modCol_held ?_
    | with_reducible refine State.stopAll_held ?_
    | with_reducible refine State.raiseV_held ?_
    | with_reducible refine State.setRefs_held ?_
    | with_reducible refine State.setCol_held ?_
    | with_reducible refine State.Held.mk_of ?_

theorem State.noteShare_held (h : s.Held P) {a1 : Bytes} : (State.noteShare s a1).Held P := by
  unfold State.noteShare
  try lift_lets
  repeat' first
    | with_reducible assumption
    | (intro x; refine (?_ : State.Held P x → _) ?_; (on_goal 1 => (intro _; try clear_value x)); (on_goal 2 => unfold x))
    | (intro x; try clear_value x)
    | lift_lets
    | with_reducible refine State.modCol_held ?_
    | with_reducible refine State.setShort_held ?_
    | with_reducible refine State.Held.mk_of ?_

theorem State.answerDetached_held (h : s.Held P) {a1 : Bytes} : (State.answerDetached s a1).Held P := by
  unfold State.answerDetached
  repeat' first
    | with_reducible assumption
    | with_reducible refine State.clo_held ?_

theorem State.answerMember_held (h : s.Held P) {a1 : Bytes} : (State.answerMember s a1).Held P := by
  unfold State.answerMember
  try lift_lets
  repeat' first
    | with_reducible assumption
    | (intro x; refine (?_ : State.Held P x → _) ?_; (on_goal 1 => (intro _; try clear_value x)); (on_goal 2 => unfold x))
    | (intro x; try clear_value x)
    | split
    | lift_lets
    | with_reducible refine State.clo_held ?_
    | with_reducible refine State.setCol_held ?_
    | with_reducible refine State.takeShare_held ?_

theorem State.followShare_held (h : s.Held P) {a1 : Bytes} : (State.followShare s a1).Held P := by
  unfold State.followShare
  try lift_lets
  repeat' first
    | with_reducible assumption
    | (intro x; refine (?_ : State.Held P x → _) ?_; (on_goal 1 => (intro _; try clear_value x)); (on_goal 2 => unfold x))
    | (intro x; try clear_value x)
    | split
    | lift_lets
    | with_reducible refine State.modCol_held ?_
    | with_reducible refine State.clo_held ?_
    | with_reducible refine State.setCol_held ?_
    | with_reducible refine State.formFail_held ?_
    | with_reducible refine State.detach_held ?_
    | with_reducible refine State.noteShare_held ?_
    | with_reducible refine State.answerDetached_held ?_
    | with_reducible refine State.answerMember_held ?_
    | with_reducible refine State.Held.mk_of ?_

theorem State.formMeasured_held (h : s.Held P) : (State.formMeasured s).Held P := by
  unfold State.formMeasured
  try lift_lets
  repeat' first
    | with_reducible assumption
    | (intro x; refine (?_ : State.Held P x → _) ?_; (on_goal 1 => (intro _; try clear_value x)); (on_goal 2 => unfold x))
    | (intro g; refine (?_ : (∀ s, State.Held P s → State.Held P (g s)) → _) ?_; (on_goal 1 => (intro _; try clear_value g)); (on_goal 2 => (unfold g; intro s _)))
    | (intro g; refine (?_ : (∀ s n, State.Held P s → State.Held P (g s n)) → _) ?_; (on_goal 1 => (intro _; try clear_value g)); (on_goal 2 => (unfold g; intro s _ _)))
    | (intro x; try clear_value x)
    | split
    | lift_lets
    | with_reducible refine State.modCol_held ?_
    | with_reducible refine State.clo_held ?_
    | with_reducible refine State.setCol_held ?_
    | with_reducible refine State.formFail_held ?_
    | with_reducible refine State.Held.mk_of ?_

theorem State.ringMeasured_held (h : s.Held P) : (State.ringMeasured s).Held P := by
  unfold State.ringMeasured
  try lift_lets
  repeat' first
    | with_reducible assumption
    | (intro x; refine (?_ : State.Held P x → _) ?_; (on_goal 1 => (intro _; try clear_value x)); (on_goal 2 => unfold x))
    | (intro x; try clear_value x)
    | split
    | lift_lets
    | with_reducible refine State.modCol_held ?_
    | with_reducible refine State.raise_held ?_
    | with_reducible refine State.Held.mk_of ?_

theorem execShareFrame_held (h : s.Held P) {a1 : Tick} {a2 : Bytes} : OutHeld P (execShareFrame a1 a2 s) := by
  unfold execShareFrame
  try lift_lets
  repeat' first
    | with_reducible assumption
    | (intro x; refine (?_ : State.Held P x → _) ?_; (on_goal 1 => (intro _; try clear_value x)); (on_goal 2 => unfold x))
    | (intro x; try clear_value x)
    | split
    | lift_lets
    | with_reducible refine State.upTo_held ?_
    | with_reducible refine OutHeld.next ?_
    | with_reducible refine OutHeld.next ?_
    | with_reducible refine State.clo_held ?_
    | with_reducible refine State.setCol_held ?_
    | with_reducible refine State.formFail_held ?_
    | with_reducible refine State.ringError_held ?_
    | with_reducible refine State.noteShare_held ?_
    | with_reducible refine State.answerDetached_held ?_
    | with_reducible refine State.followShare_held ?_
    | with_reducible refine State.formMeasured_held ?_
    | with_reducible refine State.ringMeasured_held ?_

theorem State.splitDemand_held (h : s.Held P) {a1 : Int} {a2 : List Nat} : (State.splitDemand s a1 a2).2.Held P := by
  unfold State.splitDemand
  try lift_lets
  repeat' first
    | with_reducible assumption
    | (intro x; refine (?_ : State.Held P x → _) ?_; (on_goal 1 => (intro _; try clear_value x)); (on_goal 2 => unfold x))
    | (intro g; refine (?_ : (∀ s, State.Held P s → State.Held P (g s)) → _) ?_; (on_goal 1 => (intro _; try clear_value g)); (on_goal 2 => (unfold g; intro s _)))
    | (intro g; refine (?_ : (∀ s n, State.Held P s → State.Held P (g s n)) → _) ?_; (on_goal 1 => (intro _; try clear_value g)); (on_goal 2 => (unfold g; intro s _ _)))
    | (intro x; try clear_value x)
    | split
    | lift_lets
    | with_reducible refine State.modCol_held ?_
    | with_reducible refine State.Held.mk_of ?_

theorem State.sendShare_held (h : s.Held P) : (State.sendShare s).Held P := by
  unfold State.sendShare
  try lift_lets
  repeat' first
    | with_reducible assumption
    | (intro x; refine (?_ : State.Held P x → _) ?_; (on_goal 1 => (intro _; try clear_value x)); (on_goal 2 => unfold x))
    | (intro x; try clear_value x)
    | (have hx := ‹_ = (_, _)›; have h2 := congrArg Prod.snd hx; have h1 := congrArg Prod.fst hx; dsimp only at h1 h2; subst h1 h2; clear hx)
    | split
    | lift_lets
    | with_reducible refine State.modCol_held ?_
    | with_reducible refine State.clo_held ?_
    | with_reducible refine State.setShort_held ?_
    | with_reducible refine State.takeShare_held ?_
    | with_reducible refine State.splitDemand_held ?_
    | with_reducible refine State.Held.mk_of ?_

theorem State.dropMember_held (h : s.Held P) {a1 : Nat} {a2 : Nat} {a3 : Bool} : (State.dropMember s a1 a2 a3).Held P := by
  unfold State.dropMember
  try lift_lets
  repeat' first
    | with_reducible assumption
    | (intro x; refine (?_ : State.Held P x → _) ?_; (on_goal 1 => (intro _; try clear_value x)); (on_goal 2 => unfold x))
    | (intro x; try clear_value x)
    | split
    | lift_lets
    | with_reducible refine State.modCol_held ?_
    | with_reducible refine State.raise_held ?_
    | with_reducible refine State.Held.mk_of ?_

theorem State.judgeMember_held (h : s.Held P) {a1 : Nat} : (State.judgeMember s a1).Held P := by
  unfold State.judgeMember
  try lift_lets
  repeat' first
    | with_reducible assumption
    | (intro x; refine (?_ : State.Held P x → _) ?_; (on_goal 1 => (intro _)); (on_goal 2 => unfold x))
    | (intro g; refine (?_ : (∀ s, State.Held P s → State.Held P (g s)) → _) ?_; (on_goal 1 => (intro _)); (on_goal 2 => (unfold g; intro s _)))
    | (intro g; refine (?_ : (∀ s n, State.Held P s → State.Held P (g s n)) → _) ?_; (on_goal 1 => (intro _)); (on_goal 2 => (unfold g; intro s _ _)))
    | (intro x)
    | split
    | lift_lets
    | with_reducible refine State.modCol_held ?_
    | with_reducible refine State.info_held ?_
    | with_reducible refine State.dropMember_held ?_
    | with_reducible refine State.Held.mk_of ?_

theorem State.judge_held (h : s.Held P) : (State.judge s).Held P := by
  unfold State.judge
  try lift_lets
  repeat' first
    | with_reducible assumption
    | (intro x; refine (?_ : State.Held P x → _) ?_; (on_goal 1 => (intro _; try clear_value x)); (on_goal 2 => unfold x))
    | (intro x; try clear_value x)
    | split
    | lift_lets
    | with_reducible refine State.modCol_held ?_
    | with_reducible refine held_foldl ?_ (fun s x h => ?_)
    | with_reducible refine State.judgeMember_held ?_
    | with_reducible refine State.Held.mk_of ?_

theorem execSharingCycle_held (h : s.Held P) {a1 : Tick} : OutHeld P (execSharingCycle a1 s) := by
  unfold execSharingCycle
  try lift_lets
  repeat' first
    | with_reducible assumption
    | (intro x; refine (?_ : State.Held P x → _) ?_; (on_goal 1 => (intro _; try clear_value x)); (on_goal 2 => unfold x))
    | (intro x; try clear_value x)
    | split
    | lift_lets
    | with_reducible refine State.upTo_held ?_
    | with_reducible refine OutHeld.next ?_
    | with_reducible refine OutHeld.next ?_
    | with_reducible refine State.clo_held ?_
    | with_reducible refine State.sendShare_held ?_
    | with_reducible refine State.judge_held ?_

theorem execReplyFrame_held (h : s.Held P) {a1 : Tick} {a2 : Bytes} : OutHeld P (execReplyFrame a1 a2 s) := by
  unfold execReplyFrame
  try lift_lets
  repeat' first
    | with_reducible assumption
    | (intro x; refine (?_ : State.Held P x → _) ?_; (on_goal 1 => (intro _; try clear_value x)); (on_goal 2 => unfold x))
    | (intro x; try clear_value x)
    | split
    | lift_lets
    | with_reducible refine State.modCol_held ?_
    | with_reducible refine State.upTo_held ?_
    | with_reducible refine OutHeld.next ?_
    | with_reducible refine OutHeld.next ?_
    | with_reducible refine State.clo_held ?_
    | with_reducible refine State.ringError_held ?_
    | with_reducible refine State.Held.mk_of ?_

theorem execReplyDeadline_held (h : s.Held P) {a1 : Tick} : OutHeld P (execReplyDeadline a1 s) := by
  unfold execReplyDeadline
  try lift_lets
  repeat' first
    | with_reducible assumption
    | (intro x; refine (?_ : State.Held P x → _) ?_; (on_goal 1 => (intro _; try clear_value x)); (on_goal 2 => unfold x))
    | (intro x; try clear_value x)
    | split
    | lift_lets
    | with_reducible refine State.upTo_held ?_
    | with_reducible refine OutHeld.next ?_
    | with_reducible refine OutHeld.next ?_
    | with_reducible refine State.judge_held ?_

theorem execRollSend_held (h : s.Held P) {a1 : Tick} : OutHeld P (execRollSend a1 s) := by
  unfold execRollSend
  try lift_lets
  repeat' first
    | with_reducible assumption
    | (intro x; refine (?_ : State.Held P x → _) ?_; (on_goal 1 => (intro _; try clear_value x)); (on_goal 2 => unfold x))
    | (intro x; try clear_value x)
    | split
    | lift_lets
    | with_reducible refine State.modCol_held ?_
    | with_reducible refine State.upTo_held ?_
    | with_reducible refine OutHeld.next ?_
    | with_reducible refine OutHeld.next ?_
    | with_reducible refine State.clo_held ?_
    | with_reducible refine State.Held.mk_of ?_

theorem State.formCheck_held (h : s.Held P) : (State.formCheck s).Held P := by
  unfold State.formCheck
  try lift_lets
  repeat' first
    | with_reducible assumption
    | (intro x; refine (?_ : State.Held P x → _) ?_; (on_goal 1 => (intro _; try clear_value x)); (on_goal 2 => unfold x))
    | (intro x; try clear_value x)
    | split
    | lift_lets
    | with_reducible refine State.modCol_held ?_
    | with_reducible refine State.clo_held ?_
    | with_reducible refine State.Held.mk_of ?_

theorem State.markRoll_held (h : s.Held P) {a1 : Bytes} : (State.markRoll s a1).Held P := by
  unfold State.markRoll
  try lift_lets
  repeat' first
    | with_reducible assumption
    | (intro x; refine (?_ : State.Held P x → _) ?_; (on_goal 1 => (intro _; try clear_value x)); (on_goal 2 => unfold x))
    | (intro x; try clear_value x)
    | split
    | lift_lets
    | with_reducible refine State.modCol_held ?_
    | with_reducible refine State.clo_held ?_
    | with_reducible refine State.formFail_held ?_
    | with_reducible refine State.Held.mk_of ?_

theorem execRollFrame_held (h : s.Held P) {a1 : Tick} {a2 : Bytes} : OutHeld P (execRollFrame a1 a2 s) := by
  unfold execRollFrame
  try lift_lets
  repeat' first
    | with_reducible assumption
    | (intro x; refine (?_ : State.Held P x → _) ?_; (on_goal 1 => (intro _; try clear_value x)); (on_goal 2 => unfold x))
    | (intro x; try clear_value x)
    | split
    | lift_lets
    | with_reducible refine State.modCol_held ?_
    | with_reducible refine State.upTo_held ?_
    | with_reducible refine OutHeld.next ?_
    | with_reducible refine OutHeld.next ?_
    | with_reducible refine State.clo_held ?_
    | with_reducible refine State.ringError_held ?_
    | with_reducible refine State.formCheck_held ?_
    | with_reducible refine State.markRoll_held ?_
    | with_reducible refine State.Held.mk_of ?_

theorem execFormationTimeout_held (h : s.Held P) {a1 : Tick} : OutHeld P (execFormationTimeout a1 s) := by
  unfold execFormationTimeout
  try lift_lets
  repeat' first
    | with_reducible assumption
    | (intro x; refine (?_ : State.Held P x → _) ?_; (on_goal 1 => (intro _; try clear_value x)); (on_goal 2 => unfold x))
    | (intro x; try clear_value x)
    | split
    | lift_lets
    | with_reducible refine State.upTo_held ?_
    | with_reducible refine OutHeld.next ?_
    | with_reducible refine OutHeld.next ?_
    | with_reducible refine State.setCol_held ?_
    | with_reducible refine State.formFail_held ?_
    | with_reducible refine State.formCheck_held ?_

theorem execColDetached_held (h : s.Held P) {a1 : Tick} : OutHeld P (execColDetached a1 s) := by
  unfold execColDetached
  try lift_lets
  repeat' first
    | with_reducible assumption
    | (intro x; refine (?_ : State.Held P x → _) ?_; (on_goal 1 => (intro _; try clear_value x)); (on_goal 2 => unfold x))
    | (intro x; try clear_value x)
    | split
    | lift_lets
    | with_reducible refine State.upTo_held ?_
    | with_reducible refine OutHeld.next ?_
    | with_reducible refine OutHeld.next ?_
    | with_reducible refine State.detach_held ?_

theorem opColonnadeJoin_held (h : s.Held P) {a1 : Bytes} : (opColonnadeJoin a1 s).st.Held P := by
  unfold opColonnadeJoin
  try lift_lets
  repeat' first
    | with_reducible assumption
    | (intro x; refine (?_ : State.Held P x → _) ?_; (on_goal 1 => (intro _; try clear_value x)); (on_goal 2 => unfold x))
    | (intro x; try clear_value x)
    | split
    | lift_lets
    | with_reducible refine State.modCol_held ?_
    | with_reducible refine Rep.ok_held ?_
    | with_reducible refine Rep.no_held ?_
    | with_reducible refine State.setCol_held ?_
    | with_reducible refine State.Held.mk_of ?_

theorem opColonnadeLeave_held (h : s.Held P) : (opColonnadeLeave s).st.Held P := by
  unfold opColonnadeLeave
  repeat' first
    | with_reducible assumption
    | split
    | with_reducible refine State.modCol_held ?_
    | with_reducible refine Rep.ok_held ?_
    | with_reducible refine Rep.no_held ?_
    | with_reducible refine State.clo_held ?_
    | with_reducible refine State.setCol_held ?_
    | with_reducible refine State.Held.mk_of ?_

theorem opColonnadeStatus_held (h : s.Held P) : (opColonnadeStatus s).st.Held P := by
  unfold opColonnadeStatus
  try lift_lets
  repeat' first
    | with_reducible assumption
    | (intro x; refine (?_ : State.Held P x → _) ?_; (on_goal 1 => (intro _; try clear_value x)); (on_goal 2 => unfold x))
    | (intro x; try clear_value x)
    | split
    | lift_lets
    | with_reducible refine Rep.ok_held ?_

theorem execColonnadeJoin_held (h : s.Held (Bal q none)) {a1 : Tick} {a2 : Source} {a3 : Nat} {a4 : Bytes} : OutHeld (Bal q none) (execColonnadeJoin a1 a2 a3 a4 s) := by
  unfold execColonnadeJoin
  refine runOp_held h fun m s _ h => ?_
  first
    | exact h
    | exact opColonnadeJoin_held h

theorem execColonnadeLeave_held (h : s.Held (Bal q none)) {a1 : Tick} {a2 : Source} {a3 : Nat} {a4 : Bytes} : OutHeld (Bal q none) (execColonnadeLeave a1 a2 a3 a4 s) := by
  unfold execColonnadeLeave
  refine runOp_held h fun m s _ h => ?_
  first
    | exact h
    | exact opColonnadeLeave_held h

theorem execColonnadeStatus_held (h : s.Held (Bal q none)) {a1 : Tick} {a2 : Source} {a3 : Nat} {a4 : Bytes} : OutHeld (Bal q none) (execColonnadeStatus a1 a2 a3 a4 s) := by
  unfold execColonnadeStatus
  refine runOp_held h fun m s _ h => ?_
  first
    | exact h
    | exact opColonnadeStatus_held h

theorem State.netEvent_held (h : s.Held P) {a1 : Nat} {a2 : Nat} {a3 : Bytes} : (State.netEvent s a1 a2 a3).Held P := by
  unfold State.netEvent
  repeat' first
    | with_reducible assumption
    | with_reducible refine State.raise_held ?_

theorem State.setAl_held (h : s.Held P) {a1 : Nat} {a2 : Nat} : (State.setAl s a1 a2).Held P := by
  unfold State.setAl
  try lift_lets
  repeat' first
    | with_reducible assumption
    | (intro x; refine (?_ : State.Held P x → _) ?_; (on_goal 1 => (intro _; try clear_value x)); (on_goal 2 => unfold x))
    | (intro x; try clear_value x)
    | split
    | lift_lets
    | with_reducible refine State.modPins_held ?_
    | with_reducible refine State.modAl_held ?_
    | with_reducible refine State.netEvent_held ?_
    | with_reducible refine State.Held.mk_of ?_

theorem State.alPutAt_held (h : s.Held P) {a1 : Nat} {a2 : TxFrame} {a3 : Tick} : (State.alPutAt s a1 a2 a3).Held P := by
  unfold State.alPutAt
  repeat' first
    | with_reducible assumption
    | with_reducible refine State.modAl_held ?_
    | with_reducible refine State.Held.mk_of ?_

theorem State.alPut_held (h : s.Held P) {a1 : Nat} {a2 : TxFrame} : (State.alPut s a1 a2).Held P := by
  unfold State.alPut
  repeat' first
    | with_reducible assumption
    | with_reducible refine State.alPutAt_held ?_

theorem State.alPutSys_held (h : s.Held P) {a1 : Nat} {a2 : TxFrame} : (State.alPutSys s a1 a2).Held P := by
  unfold State.alPutSys
  repeat' first
    | with_reducible assumption
    | split
    | with_reducible refine State.alPut_held ?_

theorem State.alSys_held (h : s.Held P) {a1 : Nat} {a2 : Nat} {a3 : Nat} {a4 : Bytes} : (State.alSys s a1 a2 a3 a4).Held P := by
  unfold State.alSys
  repeat' first
    | with_reducible assumption
    | with_reducible refine State.alPutSys_held ?_

theorem State.modHead_held (h : s.Held P) {a1 : Nat} {a2 : Tick} {a3 : TxFrame → Option TxFrame} : (State.modHead s a1 a2 a3).Held P := by
  unfold State.modHead
  repeat' first
    | with_reducible assumption
    | split
    | with_reducible refine State.modAl_held ?_
    | with_reducible refine State.Held.mk_of ?_

theorem State.txDone_held (h : s.Held P) {a1 : Nat} {a2 : TxFrame} {a3 : Nat} {a4 : Tick} : (State.txDone s a1 a2 a3 a4).Held P := by
  unfold State.txDone
  try lift_lets
  repeat' first
    | with_reducible assumption
    | (intro x; refine (?_ : State.Held P x → _) ?_; (on_goal 1 => (intro _; try clear_value x)); (on_goal 2 => unfold x))
    | (intro x; try clear_value x)
    | split
    | lift_lets
    | with_reducible refine State.modAl_held ?_
    | with_reducible refine State.storeFor_held ?_
    | with_reducible refine State.recEvent_held ?_
    | with_reducible refine State.Held.mk_of ?_

theorem State.returnUsers_held (h : s.Held P) {a1 : Nat} {a2 : Nat} : (State.returnUsers s a1 a2).Held P := by
  unfold State.returnUsers
  try lift_lets
  repeat' first
    | with_reducible assumption
    | (intro x; refine (?_ : State.Held P x → _) ?_; (on_goal 1 => (intro _; try clear_value x)); (on_goal 2 => unfold x))
    | (intro x; try clear_value x)
    | lift_lets
    | with_reducible refine State.modAl_held ?_
    | with_reducible refine held_foldl ?_ (fun s x h => ?_)
    | with_reducible refine State.txDone_held ?_
    | with_reducible refine State.Held.mk_of ?_

theorem State.alPump_held (h : s.Held P) : (State.alPump s).Held P := by
  unfold State.alPump
  repeat' first
    | with_reducible assumption
    | (intro x; refine (?_ : State.Held P x → _) ?_; (on_goal 1 => (intro _; try clear_value x)); (on_goal 2 => unfold x))
    | (intro x; try clear_value x)
    | (dsimp only; split)
    | split
    | with_reducible refine State.alPutAt_held ?_

theorem State.alReplyTo_held (h : s.Held P) {a1 : Nat} {a2 : Nat} {a3 : Nat} {a4 : Nat} {a5 : Bytes} : (State.alReplyTo s a1 a2 a3 a4 a5).Held P := by
  unfold State.alReplyTo
  repeat' first
    | with_reducible assumption
    | with_reducible refine held_foldl ?_ (fun s x h => ?_)
    | with_reducible refine State.alPutSys_held ?_

theorem State.unbind_held (h : s.Held (Bal q fl)) : (State.unbind s).Held (Bal q fl) := by
  unfold State.unbind
  split
  · exact h
  · have h1 : ((s.modAlcia fun a => { a with bound := none, bindLate := false, rplPos := 0 }).modPort .alcia
        fun x => { x with replies := [], credits := 8 }).Held (Bal q fl) :=
      State.restore_held (State.modAlcia_held h) (by decide) (fun p => ⟨rfl, rfl⟩) (fun p hp => hp)
    exact State.netEvent_held (held_foldl h1 fun s k h => State.modAl_held h)

theorem State.activate_held (h : s.Held P) {a1 : Nat} : (State.activate s a1).Held P := by
  unfold State.activate
  repeat' first
    | with_reducible assumption
    | split
    | with_reducible refine State.modAlcia_held ?_
    | with_reducible refine State.modAl_held ?_
    | with_reducible refine State.setAl_held ?_
    | with_reducible refine State.Held.mk_of ?_

theorem State.activateAll_held (h : s.Held P) : (State.activateAll s).Held P := by
  unfold State.activateAll
  repeat' first
    | with_reducible assumption
    | with_reducible refine State.activate_held ?_

theorem State.alStop_held (h : s.Held (Bal q fl)) {a1 : Nat} : (State.alStop s a1).Held (Bal q fl) := by
  unfold State.alStop
  try lift_lets
  repeat' first
    | with_reducible assumption
    | (intro x; refine (?_ : State.Held (Bal q fl) x → _) ?_; (on_goal 1 => (intro _; try clear_value x)); (on_goal 2 => unfold x))
    | (intro x; try clear_value x)
    | split
    | lift_lets
    | with_reducible refine State.modAl_held ?_
    | with_reducible refine State.unbind_held ?_
    | with_reducible refine State.setAl_held ?_
    | with_reducible refine State.returnUsers_held ?_
    | with_reducible refine State.Held.mk_of ?_

theorem State.alRestart_held (h : s.Held (Bal q fl)) {a1 : List Nat} : (State.alRestart s a1).Held (Bal q fl) := by
  unfold State.alRestart
  try lift_lets
  repeat' first
    | with_reducible assumption
    | (intro x; refine (?_ : State.Held (Bal q fl) x → _) ?_; (on_goal 1 => (intro _; try clear_value x)); (on_goal 2 => unfold x))
    | (intro x; try clear_value x)
    | lift_lets
    | with_reducible refine State.modAlcia_held ?_
    | with_reducible refine held_foldl ?_ (fun s x h => ?_)
    | with_reducible refine State.activateAll_held ?_
    | with_reducible refine State.alStop_held ?_
    | with_reducible refine State.Held.mk_of ?_

theorem State.alLocal_held (h : s.Held P) {a1 : Nat} {a2 : CanFrame} : (State.alLocal s a1 a2).Held P := by
  unfold State.alLocal
  repeat' first
    | with_reducible assumption
    | split
    | with_reducible refine State.modAlcia_held ?_
    | with_reducible refine State.modAl_held ?_
    | with_reducible refine State.Held.mk_of ?_

theorem opAlciaSend_held (h : s.Held P) {c : Source} {b : Bytes} : (opAlciaSend c b s).st.Held P := by
  unfold opAlciaSend
  dsimp only
  generalize (if getN b 4 2 / 4 % 4 = 0 then s.routeOf none (identCode (getN b 0 4)) (b.drop 8)
    else (false, [0, 1].filter fun p => (getN b 4 2 / 4 % 4).testBit p)) = e
  obtain ⟨loc, ports⟩ := e
  dsimp only
  split
  · exact h
  · split
    · exact h
    · split
      · exact h
      · refine held_foldl_snd ?_ fun a k ha => ?_
        · have h1 : (s.modAlcia fun a => { a with handle := (a.handle + max 1 ports.length) % 4294967296 }).Held P := State.modAlcia_held h
          split <;> split <;> first
            | exact State.txDone_held (State.alLocal_held h1)
            | exact State.txDone_held h1
            | exact State.alLocal_held h1
            | exact h1
        · dsimp only
          split
          · exact State.txDone_held ha
          · exact State.alPut_held ha

theorem execAlciaSend_held (h : s.Held (Bal q none)) {a1 : Tick} {a2 : Source} {a3 : Nat} {a4 : Bytes} : OutHeld (Bal q none) (execAlciaSend a1 a2 a3 a4 s) := by
  unfold execAlciaSend
  refine runOp_held h fun m s _ h => ?_
  first
    | exact h
    | exact opAlciaSend_held h

theorem execAlciaFrameTxDone_held (h : s.Held (Bal q none)) {t : Tick} {p : Fin 2} {sof : Tick} :
    OutHeld (Bal q none) (execAlciaFrameTxDone t p sof s) := by
  unfold execAlciaFrameTxDone
  refine OutHeld.next ?_
  have h1 : ((s.upTo t).alPump).Held (Bal q none) := State.alPump_held (State.upTo_held h)
  generalize (s.upTo t).alPump = u at h1 ⊢
  dsimp only
  split
  · exact h1
  · split
    · exact h1
    · rename_i f _
      have h2 : ((u.modHead p sof fun _ => none).modAl p fun x => { x with tec := x.tec - 1, txN := (x.txN + 1) % 4294967296, tx := restart x.tx }).Held
          (Bal q none) := State.modAl_held (State.modHead_held h1)
      generalize ((u.modHead p sof fun _ => none).modAl p fun x =>
        { x with tec := x.tec - 1, txN := (x.txN + 1) % 4294967296, tx := restart x.tx }) = v at h2 ⊢
      have h3 : (if f.brs = true ∧ (v.alB (↑p) 0 1).testBit 2 = true then v.draw.2.modAl p fun x => { x with tdc := v.draw.1 % 101 } else v).Held
          (Bal q none) := by
        split
        · exact State.modAl_held (State.draw_held h2)
        · exact h2
      generalize (if f.brs = true ∧ (v.alB (↑p) 0 1).testBit 2 = true then v.draw.2.modAl p fun x => { x with tdc := v.draw.1 % 101 } else v) = w at h3 ⊢
      split
      · exact State.txDone_held h3
      · repeat' first
          | with_reducible assumption
          | split
          | with_reducible refine State.modAl_held ?_
          | with_reducible refine State.setAl_held ?_
          | with_reducible refine State.modAlcia_held ?_
      · split
        · exact State.alPump_held (State.deliver_held (State.modAlcia_held h3))
        · exact State.alPump_held (State.modAlcia_held h3)
      · exact h3

theorem State.duplicate_held (h : s.Held P) {a1 : Nat} {a2 : Nat} : (State.duplicate s a1 a2).Held P := by
  unfold State.duplicate
  try lift_lets
  repeat' first
    | with_reducible assumption
    | (intro x; refine (?_ : State.Held P x → _) ?_; (on_goal 1 => (intro _; try clear_value x)); (on_goal 2 => unfold x))
    | (intro x; try clear_value x)
    | split
    | lift_lets
    | with_reducible refine State.modAlcia_held ?_
    | with_reducible refine State.modAl_held ?_
    | with_reducible refine held_foldl ?_ (fun s x h => ?_)
    | with_reducible refine State.netEvent_held ?_
    | with_reducible refine State.setAl_held ?_
    | with_reducible refine State.returnUsers_held ?_
    | with_reducible refine State.Held.mk_of ?_

theorem State.claimEnd_held (h : s.Held P) {a1 : Bool} : (State.claimEnd s a1).Held P := by
  unfold State.claimEnd
  try lift_lets
  repeat' first
    | with_reducible assumption
    | (intro x; refine (?_ : State.Held P x → _) ?_; (on_goal 1 => (intro _; try clear_value x)); (on_goal 2 => unfold x))
    | (intro x; try clear_value x)
    | split
    | lift_lets
    | with_reducible refine State.modAlcia_held ?_
    | with_reducible refine State.modAl_held ?_
    | with_reducible refine held_foldl ?_ (fun s x h => ?_)
    | with_reducible refine State.netEvent_held ?_
    | with_reducible refine State.setAl_held ?_
    | with_reducible refine State.activateAll_held ?_
    | with_reducible refine State.Held.mk_of ?_

theorem State.claimFailed_held (h : s.Held P) : (State.claimFailed s).Held P := by
  unfold State.claimFailed
  try lift_lets
  repeat' first
    | with_reducible assumption
    | (intro x; refine (?_ : State.Held P x → _) ?_; (on_goal 1 => (intro _; try clear_value x)); (on_goal 2 => unfold x))
    | (intro x; try clear_value x)
    | split
    | lift_lets
    | with_reducible refine State.modAlcia_held ?_
    | with_reducible refine State.modAl_held ?_
    | with_reducible refine held_foldl ?_ (fun s x h => ?_)
    | with_reducible refine State.claimEnd_held ?_
    | with_reducible refine State.Held.mk_of ?_

theorem State.busOff_held (h : s.Held P) {a1 : Nat} : (State.busOff s a1).Held P := by
  unfold State.busOff
  try lift_lets
  repeat' first
    | with_reducible assumption
    | (intro x; refine (?_ : State.Held P x → _) ?_; (on_goal 1 => (intro _; try clear_value x)); (on_goal 2 => unfold x))
    | (intro x; try clear_value x)
    | lift_lets
    | with_reducible refine State.modAl_held ?_
    | with_reducible refine State.netEvent_held ?_
    | with_reducible refine State.setAl_held ?_
    | with_reducible refine State.returnUsers_held ?_
    | with_reducible refine State.Held.mk_of ?_

theorem State.txError_held (h : s.Held (Bal q fl)) {a1 : Nat} {a2 : Tick} {a3 : Nat} {a4 : Bool} : (State.txError s a1 a2 a3 a4).Held (Bal q fl) := by
  unfold State.txError
  try lift_lets
  repeat' first
    | with_reducible assumption
    | (intro x; refine (?_ : State.Held (Bal q fl) x → _) ?_; (on_goal 1 => (intro _; try clear_value x)); (on_goal 2 => unfold x))
    | (intro x; try clear_value x)
    | split
    | lift_lets
    | with_reducible refine State.modAl_held ?_
    | with_reducible refine State.modHead_held ?_
    | with_reducible refine State.Held.mk_of ?_

theorem State.alone_held (h : s.Held P) {a1 : Nat} : (State.alone s a1).Held P := by
  unfold State.alone
  try lift_lets
  repeat' first
    | with_reducible assumption
    | (intro x; refine (?_ : State.Held P x → _) ?_; (on_goal 1 => (intro _; try clear_value x)); (on_goal 2 => unfold x))
    | (intro x; try clear_value x)
    | lift_lets
    | with_reducible refine State.modAl_held ?_
    | with_reducible refine State.netEvent_held ?_
    | with_reducible refine State.setAl_held ?_
    | with_reducible refine State.returnUsers_held ?_
    | with_reducible refine State.Held.mk_of ?_

theorem execAlciaTxError_held (h : s.Held (Bal q none)) {a1 : Tick} {a2 : Fin 2} {a3 : TxErrorAt} : OutHeld (Bal q none) (execAlciaTxError a1 a2 a3 s) := by
  unfold execAlciaTxError
  try lift_lets
  repeat' first
    | with_reducible assumption
    | (intro x; refine (?_ : State.Held (Bal q none) x → _) ?_; (on_goal 1 => (intro _; try clear_value x)); (on_goal 2 => unfold x))
    | (intro x; try clear_value x)
    | split
    | lift_lets
    | with_reducible refine State.modAlcia_held ?_
    | with_reducible refine State.modAl_held ?_
    | with_reducible refine State.upTo_held ?_
    | with_reducible refine OutHeld.next ?_
    | with_reducible refine OutHeld.next ?_
    | with_reducible refine State.alPump_held ?_
    | with_reducible refine State.duplicate_held ?_
    | with_reducible refine State.claimFailed_held ?_
    | with_reducible refine State.busOff_held ?_
    | with_reducible refine State.txError_held ?_
    | with_reducible refine State.alone_held ?_
    | with_reducible refine State.Held.mk_of ?_

theorem execBusOffRecovery_held (h : s.Held P) {a1 : Tick} {a2 : Fin 2} : OutHeld P (execBusOffRecovery a1 a2 s) := by
  unfold execBusOffRecovery
  try lift_lets
  repeat' first
    | with_reducible assumption
    | (intro x; refine (?_ : State.Held P x → _) ?_; (on_goal 1 => (intro _; try clear_value x)); (on_goal 2 => unfold x))
    | (intro x; try clear_value x)
    | split
    | lift_lets
    | with_reducible refine State.modAl_held ?_
    | with_reducible refine State.upTo_held ?_
    | with_reducible refine OutHeld.next ?_
    | with_reducible refine OutHeld.next ?_
    | with_reducible refine State.setAl_held ?_
    | with_reducible refine State.Held.mk_of ?_

theorem execProbeSend_held (h : s.Held P) {a1 : Tick} {a2 : Fin 2} : OutHeld P (execProbeSend a1 a2 s) := by
  unfold execProbeSend
  try lift_lets
  repeat' first
    | with_reducible assumption
    | (intro x; refine (?_ : State.Held P x → _) ?_; (on_goal 1 => (intro _; try clear_value x)); (on_goal 2 => unfold x))
    | (intro x; try clear_value x)
    | split
    | lift_lets
    | with_reducible refine State.modAl_held ?_
    | with_reducible refine State.upTo_held ?_
    | with_reducible refine OutHeld.next ?_
    | with_reducible refine OutHeld.next ?_
    | with_reducible refine State.alPut_held ?_
    | with_reducible refine State.Held.mk_of ?_

theorem execAddrClaimSend_held (h : s.Held P) {a1 : Tick} : OutHeld P (execAddrClaimSend a1 s) := by
  unfold execAddrClaimSend
  try lift_lets
  repeat' first
    | with_reducible assumption
    | (intro x; refine (?_ : State.Held P x → _) ?_; (on_goal 1 => (intro _; try clear_value x)); (on_goal 2 => unfold x))
    | (intro x; try clear_value x)
    | split
    | lift_lets
    | with_reducible refine State.upTo_held ?_
    | with_reducible refine held_foldl ?_ (fun s x h => ?_)
    | with_reducible refine OutHeld.next ?_
    | with_reducible refine OutHeld.next ?_
    | with_reducible refine State.alPut_held ?_

theorem execAddrClaimDecision_held (h : s.Held P) {a1 : Tick} : OutHeld P (execAddrClaimDecision a1 s) := by
  unfold execAddrClaimDecision
  try lift_lets
  repeat' first
    | with_reducible assumption
    | (intro x; refine (?_ : State.Held P x → _) ?_; (on_goal 1 => (intro _; try clear_value x)); (on_goal 2 => unfold x))
    | (intro x; try clear_value x)
    | split
    | lift_lets
    | with_reducible refine State.upTo_held ?_
    | with_reducible refine OutHeld.next ?_
    | with_reducible refine OutHeld.next ?_
    | with_reducible refine State.claimEnd_held ?_

theorem State.netTimeEvent_held (h : s.Held P) {a1 : Nat} {a2 : Nat} {a3 : Int} : (State.netTimeEvent s a1 a2 a3).Held P := by
  unfold State.netTimeEvent
  repeat' first
    | with_reducible assumption
    | with_reducible refine State.netEvent_held ?_

theorem execSyncSend_held (h : s.Held P) {a1 : Tick} {a2 : Fin 2} : OutHeld P (execSyncSend a1 a2 s) := by
  unfold execSyncSend
  try lift_lets
  repeat' first
    | with_reducible assumption
    | (intro x; refine (?_ : State.Held P x → _) ?_; (on_goal 1 => (intro _; try clear_value x)); (on_goal 2 => unfold x))
    | (intro x; try clear_value x)
    | split
    | lift_lets
    | with_reducible refine State.modAl_held ?_
    | with_reducible refine State.upTo_held ?_
    | with_reducible refine OutHeld.next ?_
    | with_reducible refine OutHeld.next ?_
    | with_reducible refine State.alSys_held ?_
    | with_reducible refine State.Held.mk_of ?_

theorem execFollowUpSend_held (h : s.Held P) {a1 : Tick} {a2 : Fin 2} : OutHeld P (execFollowUpSend a1 a2 s) := by
  unfold execFollowUpSend
  try lift_lets
  repeat' first
    | with_reducible assumption
    | (intro x; refine (?_ : State.Held P x → _) ?_; (on_goal 1 => (intro _; try clear_value x)); (on_goal 2 => unfold x))
    | (intro x; try clear_value x)
    | split
    | lift_lets
    | with_reducible refine State.modAl_held ?_
    | with_reducible refine State.upTo_held ?_
    | with_reducible refine OutHeld.next ?_
    | with_reducible refine OutHeld.next ?_
    | with_reducible refine State.alSys_held ?_
    | with_reducible refine State.Held.mk_of ?_

theorem State.timeInvalid_held (h : s.Held P) {a1 : Nat} : (State.timeInvalid s a1).Held P := by
  unfold State.timeInvalid
  try lift_lets
  repeat' first
    | with_reducible assumption
    | (intro x; refine (?_ : State.Held P x → _) ?_; (on_goal 1 => (intro _; try clear_value x)); (on_goal 2 => unfold x))
    | (intro x; try clear_value x)
    | split
    | lift_lets
    | with_reducible refine State.modAlcia_held ?_
    | with_reducible refine State.modAl_held ?_
    | with_reducible refine held_foldl ?_ (fun s x h => ?_)
    | with_reducible refine State.netTimeEvent_held ?_
    | with_reducible refine State.Held.mk_of ?_

theorem execSyncTimeout_held (h : s.Held P) {a1 : Tick} {a2 : Fin 2} : OutHeld P (execSyncTimeout a1 a2 s) := by
  unfold execSyncTimeout
  try lift_lets
  repeat' first
    | with_reducible assumption
    | (intro x; refine (?_ : State.Held P x → _) ?_; (on_goal 1 => (intro _; try clear_value x)); (on_goal 2 => unfold x))
    | (intro x; try clear_value x)
    | split
    | lift_lets
    | with_reducible refine State.modAl_held ?_
    | with_reducible refine State.upTo_held ?_
    | with_reducible refine OutHeld.next ?_
    | with_reducible refine OutHeld.next ?_
    | with_reducible refine State.timeInvalid_held ?_
    | with_reducible refine State.Held.mk_of ?_

theorem execSyncCandidateStart_held (h : s.Held P) {a1 : Tick} {a2 : Fin 2} : OutHeld P (execSyncCandidateStart a1 a2 s) := by
  unfold execSyncCandidateStart
  try lift_lets
  repeat' first
    | with_reducible assumption
    | (intro x; refine (?_ : State.Held P x → _) ?_; (on_goal 1 => (intro _; try clear_value x)); (on_goal 2 => unfold x))
    | (intro x; try clear_value x)
    | split
    | lift_lets
    | with_reducible refine State.modAl_held ?_
    | with_reducible refine State.upTo_held ?_
    | with_reducible refine OutHeld.next ?_
    | with_reducible refine OutHeld.next ?_
    | with_reducible refine State.netTimeEvent_held ?_
    | with_reducible refine State.Held.mk_of ?_

theorem State.syncRx_held (h : s.Held P) {a1 : Nat} {a2 : Nat} {a3 : Nat} {a4 : Nat} {a5 : Nat} {a6 : Tick} : (State.syncRx s a1 a2 a3 a4 a5 a6).Held P := by
  unfold State.syncRx
  try lift_lets
  repeat' first
    | with_reducible assumption
    | (intro x; refine (?_ : State.Held P x → _) ?_; (on_goal 1 => (intro _; try clear_value x)); (on_goal 2 => unfold x))
    | (intro x; try clear_value x)
    | split
    | lift_lets
    | with_reducible refine State.modAl_held ?_
    | with_reducible refine State.netTimeEvent_held ?_
    | with_reducible refine State.Held.mk_of ?_

theorem State.followRx_held (h : s.Held P) {a1 : Nat} {a2 : Nat} {a3 : Nat} {a4 : Nat} {a5 : Tick} : (State.followRx s a1 a2 a3 a4 a5).Held P := by
  unfold State.followRx
  try lift_lets
  repeat' first
    | with_reducible assumption
    | (intro x; refine (?_ : State.Held P x → _) ?_; (on_goal 1 => (intro _; try clear_value x)); (on_goal 2 => unfold x))
    | (intro x; try clear_value x)
    | split
    | lift_lets
    | with_reducible refine State.modAlcia_held ?_
    | with_reducible refine State.modAl_held ?_
    | with_reducible refine State.netTimeEvent_held ?_
    | with_reducible refine State.timeInvalid_held ?_
    | with_reducible refine State.Held.mk_of ?_

theorem State.rollCall_held (h : s.Held P) : (State.rollCall s).Held P := by
  unfold State.rollCall
  try lift_lets
  repeat' first
    | with_reducible assumption
    | (intro x; refine (?_ : State.Held P x → _) ?_; (on_goal 1 => (intro _; try clear_value x)); (on_goal 2 => unfold x))
    | (intro x; try clear_value x)
    | split
    | lift_lets
    | with_reducible refine State.modAlcia_held ?_
    | with_reducible refine held_foldl ?_ (fun s x h => ?_)
    | with_reducible refine State.Held.mk_of ?_

theorem execBridgeAnnounceSend_held (h : s.Held P) {a1 : Tick} : OutHeld P (execBridgeAnnounceSend a1 s) := by
  unfold execBridgeAnnounceSend
  try lift_lets
  repeat' first
    | with_reducible assumption
    | (intro x; refine (?_ : State.Held P x → _) ?_; (on_goal 1 => (intro _; try clear_value x)); (on_goal 2 => unfold x))
    | (intro x; try clear_value x)
    | split
    | lift_lets
    | with_reducible refine State.modAlcia_held ?_
    | with_reducible refine State.modAl_held ?_
    | with_reducible refine State.upTo_held ?_
    | with_reducible refine OutHeld.next ?_
    | with_reducible refine OutHeld.next ?_
    | with_reducible refine State.alSys_held ?_
    | with_reducible refine State.rollCall_held ?_
    | with_reducible refine State.Held.mk_of ?_

theorem execAnnounceSend_held (h : s.Held P) {a1 : Tick} : OutHeld P (execAnnounceSend a1 s) := by
  unfold execAnnounceSend
  try lift_lets
  repeat' first
    | with_reducible assumption
    | (intro x; refine (?_ : State.Held P x → _) ?_; (on_goal 1 => (intro _; try clear_value x)); (on_goal 2 => unfold x))
    | (intro x; try clear_value x)
    | split
    | lift_lets
    | with_reducible refine State.modAl_held ?_
    | with_reducible refine State.upTo_held ?_
    | with_reducible refine OutHeld.next ?_
    | with_reducible refine OutHeld.next ?_
    | with_reducible refine State.alSys_held ?_
    | with_reducible refine State.Held.mk_of ?_

theorem execRouteSummarySend_held (h : s.Held P) {a1 : Tick} : OutHeld P (execRouteSummarySend a1 s) := by
  unfold execRouteSummarySend
  try lift_lets
  repeat' first
    | with_reducible assumption
    | (intro x; refine (?_ : State.Held P x → _) ?_; (on_goal 1 => (intro _; try clear_value x)); (on_goal 2 => unfold x))
    | (intro x; try clear_value x)
    | split
    | lift_lets
    | with_reducible refine State.modAlcia_held ?_
    | with_reducible refine State.upTo_held ?_
    | with_reducible refine OutHeld.next ?_
    | with_reducible refine OutHeld.next ?_
    | with_reducible refine State.alSys_held ?_
    | with_reducible refine State.Held.mk_of ?_

theorem execSegmentTimeout_held (h : s.Held P) {a1 : Tick} {a2 : Fin 64} : OutHeld P (execSegmentTimeout a1 a2 s) := by
  unfold execSegmentTimeout
  try lift_lets
  repeat' first
    | with_reducible assumption
    | (intro x; refine (?_ : State.Held P x → _) ?_; (on_goal 1 => (intro _; try clear_value x)); (on_goal 2 => unfold x))
    | (intro x; try clear_value x)
    | split
    | lift_lets
    | with_reducible refine State.modAlcia_held ?_
    | with_reducible refine State.upTo_held ?_
    | with_reducible refine OutHeld.next ?_
    | with_reducible refine OutHeld.next ?_
    | with_reducible refine State.Held.mk_of ?_

theorem State.alIgnore_held (h : s.Held P) {a1 : Nat} : (State.alIgnore s a1).Held P := by
  unfold State.alIgnore
  repeat' first
    | with_reducible assumption
    | with_reducible refine State.modAl_held ?_
    | with_reducible refine State.Held.mk_of ?_

theorem execCmdTransferTimeout_held (h : s.Held P) {a1 : Tick} {a2 : Nat} : OutHeld P (execCmdTransferTimeout a1 a2 s) := by
  unfold execCmdTransferTimeout
  try lift_lets
  repeat' first
    | with_reducible assumption
    | (intro x; refine (?_ : State.Held P x → _) ?_; (on_goal 1 => (intro _; try clear_value x)); (on_goal 2 => unfold x))
    | (intro x; try clear_value x)
    | split
    | lift_lets
    | with_reducible refine State.modAlcia_held ?_
    | with_reducible refine State.upTo_held ?_
    | with_reducible refine OutHeld.next ?_
    | with_reducible refine OutHeld.next ?_
    | with_reducible refine State.alIgnore_held ?_
    | with_reducible refine State.Held.mk_of ?_

theorem execBindTimeout_held (h : s.Held (Bal q none)) {a1 : Tick} : OutHeld (Bal q none) (execBindTimeout a1 s) := by
  unfold execBindTimeout
  try lift_lets
  repeat' first
    | with_reducible assumption
    | (intro x; refine (?_ : State.Held (Bal q none) x → _) ?_; (on_goal 1 => (intro _; try clear_value x)); (on_goal 2 => unfold x))
    | (intro x; try clear_value x)
    | split
    | lift_lets
    | with_reducible refine State.upTo_held ?_
    | with_reducible refine OutHeld.next ?_
    | with_reducible refine OutHeld.next ?_
    | with_reducible refine State.unbind_held ?_

theorem opNetworkStatus_held (h : s.Held P) {a1 : Bytes} : (opNetworkStatus a1 s).st.Held P := by
  unfold opNetworkStatus
  try lift_lets
  repeat' first
    | with_reducible assumption
    | (intro x; refine (?_ : State.Held P x → _) ?_; (on_goal 1 => (intro _; try clear_value x)); (on_goal 2 => unfold x))
    | (intro x; try clear_value x)
    | split
    | lift_lets
    | with_reducible refine held_foldl ?_ (fun s x h => ?_)
    | with_reducible refine Rep.ok_held ?_
    | with_reducible refine Rep.no_held ?_

theorem execNetworkStatus_held (h : s.Held (Bal q none)) {a1 : Tick} {a2 : Source} {a3 : Nat} {a4 : Bytes} : OutHeld (Bal q none) (execNetworkStatus a1 a2 a3 a4 s) := by
  unfold execNetworkStatus
  refine runOp_held h fun m s _ h => ?_
  first
    | exact h
    | exact opNetworkStatus_held h

theorem State.bridle_held (h : s.Held P) {a1 : List Bytes} : (State.bridle s a1).Held P := by
  unfold State.bridle
  repeat' first
    | with_reducible assumption
    | with_reducible refine State.modPair_held ?_
    | with_reducible refine State.Held.mk_of ?_

theorem State.sendBridle_held (h : s.Held P) {a1 : Nat} {a2 : Nat} {a3 : Bytes} : (State.sendBridle s a1 a2 a3).Held P := by
  unfold State.sendBridle
  try lift_lets
  repeat' first
    | with_reducible assumption
    | (intro x; refine (?_ : State.Held P x → _) ?_; (on_goal 1 => (intro _; try clear_value x)); (on_goal 2 => unfold x))
    | (intro x; try clear_value x)
    | lift_lets
    | with_reducible refine State.modPair_held ?_
    | with_reducible refine State.bridle_held ?_
    | with_reducible refine State.Held.mk_of ?_

theorem State.bridleError_held (h : s.Held P) : (State.bridleError s).Held P := by
  unfold State.bridleError
  repeat' first
    | with_reducible assumption
    | with_reducible refine State.modPair_held ?_
    | with_reducible refine State.Held.mk_of ?_

theorem State.pairEvent_held (h : s.Held P) {a1 : Nat} {a2 : Bytes} : (State.pairEvent s a1 a2).Held P := by
  unfold State.pairEvent
  repeat' first
    | with_reducible assumption
    | with_reducible refine State.raise_held ?_

theorem State.endStandby_held (h : s.Held P) : (State.endStandby s).Held P := by
  unfold State.endStandby
  repeat' first
    | with_reducible assumption
    | split
    | with_reducible refine State.modPair_held ?_
    | with_reducible refine State.modStack_held ?_
    | with_reducible refine held_foldl ?_ (fun s x h => ?_)
    | with_reducible refine State.Held.mk_of ?_

theorem State.setPair_held (h : s.Held P) {a1 : Nat} : (State.setPair s a1).Held P := by
  unfold State.setPair
  try lift_lets
  repeat' first
    | with_reducible assumption
    | (intro x; refine (?_ : State.Held P x → _) ?_; (on_goal 1 => (intro _; try clear_value x)); (on_goal 2 => unfold x))
    | (intro x; try clear_value x)
    | split
    | lift_lets
    | with_reducible refine State.modPair_held ?_
    | with_reducible refine State.modStack_held ?_
    | with_reducible refine held_foldl ?_ (fun s x h => ?_)
    | with_reducible refine State.setAx_held ?_
    | with_reducible refine State.stopAxis_held ?_
    | with_reducible refine State.settle_held ?_
    | with_reducible refine State.axOut_held ?_
    | with_reducible refine State.pairEvent_held ?_
    | with_reducible refine State.endStandby_held ?_
    | with_reducible refine State.Held.mk_of ?_

theorem execHeartbeatSend_held (h : s.Held P) {a1 : Tick} : OutHeld P (execHeartbeatSend a1 s) := by
  unfold execHeartbeatSend
  try lift_lets
  repeat' first
    | with_reducible assumption
    | (intro x; refine (?_ : State.Held P x → _) ?_; (on_goal 1 => (intro _; try clear_value x)); (on_goal 2 => unfold x))
    | (intro x; try clear_value x)
    | split
    | lift_lets
    | with_reducible refine State.modPair_held ?_
    | with_reducible refine State.upTo_held ?_
    | with_reducible refine OutHeld.next ?_
    | with_reducible refine OutHeld.next ?_
    | with_reducible refine State.sendBridle_held ?_
    | with_reducible refine State.Held.mk_of ?_

theorem State.drainBulk_held (h : s.Held P) {n : Nat} {l : List (Nat × Bytes)} : (s.drainBulk n l).Held P := by
  induction l generalizing s n with
  | nil => exact State.modPair_held h
  | cons x l ih =>
    unfold State.drainBulk
    split
    · exact ih (State.sendBridle_held h)
    · exact State.modPair_held h

theorem State.sendMirror_held (h : s.Held P) : (State.sendMirror s).Held P := by
  unfold State.sendMirror
  lift_lets
  intro cyc u v
  have hu : u.Held P := held_foldl h fun s i h => State.sendBridle_held h
  have hv : v.Held P := held_foldl hu fun s n h => by
    dsimp only
    split
    · exact State.modPair_held h
    · exact h
  clear_value v
  split
  · exact State.drainBulk_held hv
  · exact State.sendBridle_held (State.modPair_held hv)

theorem State.handOver_held (h : s.Held P) {a1 : Nat} : (State.handOver s a1).Held P := by
  unfold State.handOver
  try lift_lets
  repeat' first
    | with_reducible assumption
    | (intro x; refine (?_ : State.Held P x → _) ?_; (on_goal 1 => (intro _; try clear_value x)); (on_goal 2 => unfold x))
    | (intro x; try clear_value x)
    | split
    | lift_lets
    | with_reducible refine State.modStack_held ?_
    | with_reducible refine State.modObs_held ?_
    | with_reducible refine held_foldl ?_ (fun s x h => ?_)
    | with_reducible refine State.setObs_held ?_
    | with_reducible refine State.Held.mk_of ?_

theorem execCarrierZero_held (h : s.Held P) {a1 : Tick} {a2 : Fin 4} : OutHeld P (execCarrierZero a1 a2 s) := by
  unfold execCarrierZero
  try lift_lets
  repeat' first
    | with_reducible assumption
    | (intro x; refine (?_ : State.Held P x → _) ?_; (on_goal 1 => (intro _; try clear_value x)); (on_goal 2 => unfold x))
    | (intro x; try clear_value x)
    | split
    | lift_lets
    | with_reducible refine State.modPair_held ?_
    | with_reducible refine State.upTo_held ?_
    | with_reducible refine OutHeld.next ?_
    | with_reducible refine OutHeld.next ?_
    | with_reducible refine State.carrierZero_held ?_
    | with_reducible refine State.sendMirror_held ?_
    | with_reducible refine State.handOver_held ?_
    | with_reducible refine State.Held.mk_of ?_

theorem State.mirrorOffsets_held (h : s.Held P) : (State.mirrorOffsets s).Held P := by
  unfold State.mirrorOffsets
  try lift_lets
  repeat' first
    | with_reducible assumption
    | (intro x; refine (?_ : State.Held P x → _) ?_; (on_goal 1 => (intro _; try clear_value x)); (on_goal 2 => unfold x))
    | (intro x; try clear_value x)
    | split
    | lift_lets
    | with_reducible refine State.modPair_held ?_
    | with_reducible refine State.Held.mk_of ?_

theorem State.mirrorRx_held (h : s.Held P) {a1 : Nat} {a2 : Nat} {a3 : Bytes} : (State.mirrorRx s a1 a2 a3).Held P := by
  unfold State.mirrorRx
  try lift_lets
  repeat' first
    | with_reducible assumption
    | (intro x; refine (?_ : State.Held P x → _) ?_; (on_goal 1 => (intro _; try clear_value x)); (on_goal 2 => unfold x))
    | (intro x; try clear_value x)
    | split
    | lift_lets
    | with_reducible refine State.modPair_held ?_
    | with_reducible refine State.mirrorOffsets_held ?_
    | with_reducible refine State.Held.mk_of ?_

theorem State.checkRx_held (h : s.Held P) {a1 : Bytes} : (State.checkRx s a1).Held P := by
  unfold State.checkRx
  try lift_lets
  repeat' first
    | with_reducible assumption
    | (intro x; refine (?_ : State.Held P x → _) ?_; (on_goal 1 => (intro _; try clear_value x)); (on_goal 2 => unfold x))
    | (intro x; try clear_value x)
    | split
    | lift_lets
    | with_reducible refine State.modPair_held ?_
    | with_reducible refine State.pairEvent_held ?_
    | with_reducible refine State.setPair_held ?_
    | with_reducible refine State.Held.mk_of ?_

theorem execPairCheckSend_held (h : s.Held P) {a1 : Tick} : OutHeld P (execPairCheckSend a1 s) := by
  unfold execPairCheckSend
  try lift_lets
  repeat' first
    | with_reducible assumption
    | (intro x; refine (?_ : State.Held P x → _) ?_; (on_goal 1 => (intro _; try clear_value x)); (on_goal 2 => unfold x))
    | (intro x; try clear_value x)
    | split
    | lift_lets
    | with_reducible refine State.modPair_held ?_
    | with_reducible refine State.upTo_held ?_
    | with_reducible refine OutHeld.next ?_
    | with_reducible refine OutHeld.next ?_
    | with_reducible refine State.sendBridle_held ?_
    | with_reducible refine State.Held.mk_of ?_

theorem execMirrorFrame_held (h : s.Held P) {a1 : Tick} {a2 : Bytes} : OutHeld P (execMirrorFrame a1 a2 s) := by
  unfold execMirrorFrame
  try lift_lets
  repeat' first
    | with_reducible assumption
    | (intro x; refine (?_ : State.Held P x → _) ?_; (on_goal 1 => (intro _; try clear_value x)); (on_goal 2 => unfold x))
    | (intro x; try clear_value x)
    | split
    | lift_lets
    | with_reducible refine State.modPair_held ?_
    | with_reducible refine State.upTo_held ?_
    | with_reducible refine OutHeld.next ?_
    | with_reducible refine OutHeld.next ?_
    | with_reducible refine State.sendBridle_held ?_
    | with_reducible refine State.bridleError_held ?_
    | with_reducible refine State.mirrorRx_held ?_
    | with_reducible refine State.checkRx_held ?_
    | with_reducible refine State.Held.mk_of ?_

theorem execMirrorAck_held (h : s.Held P) {a1 : Tick} {a2 : Bytes} : OutHeld P (execMirrorAck a1 a2 s) := by
  unfold execMirrorAck
  try lift_lets
  repeat' first
    | with_reducible assumption
    | (intro x; refine (?_ : State.Held P x → _) ?_; (on_goal 1 => (intro _; try clear_value x)); (on_goal 2 => unfold x))
    | (intro x; try clear_value x)
    | split
    | lift_lets
    | with_reducible refine State.modPair_held ?_
    | with_reducible refine State.upTo_held ?_
    | with_reducible refine OutHeld.next ?_
    | with_reducible refine OutHeld.next ?_
    | with_reducible refine State.bridleError_held ?_
    | with_reducible refine State.Held.mk_of ?_

theorem State.presetTd_held (h : s.Held P) {a1 : Int} : (State.presetTd s a1).Held P := by
  unfold State.presetTd
  try lift_lets
  repeat' first
    | with_reducible assumption
    | (intro x; refine (?_ : State.Held P x → _) ?_; (on_goal 1 => (intro _; try clear_value x)); (on_goal 2 => unfold x))
    | (intro x; try clear_value x)
    | lift_lets
    | with_reducible refine State.modMotion_held ?_
    | with_reducible refine State.Held.mk_of ?_

theorem State.takeSetpoints_held (h : s.Held P) : (State.takeSetpoints s).Held P := by
  unfold State.takeSetpoints
  try lift_lets
  repeat' first
    | with_reducible assumption
    | (intro x; refine (?_ : State.Held P x → _) ?_; (on_goal 1 => (intro _; try clear_value x)); (on_goal 2 => unfold x))
    | (intro x; try clear_value x)
    | split
    | lift_lets
    | with_reducible refine State.modMotion_held ?_
    | with_reducible refine State.modPort_held ?_ (fun p => ?_) (fun p hp => ?_)
    | exact ‹Port.queueOk _›
    | ((with_reducible refine ⟨?_, ?_⟩) <;> first | rfl | (dsimp only; split <;> rfl))
    | with_reducible refine State.Held.mk_of ?_

theorem State.takeMotion_held (h : s.Held P) : (State.takeMotion s).Held P := by
  unfold State.takeMotion
  try lift_lets
  repeat' first
    | with_reducible assumption
    | (intro x; refine (?_ : State.Held P x → _) ?_; (on_goal 1 => (intro _; try clear_value x)); (on_goal 2 => unfold x))
    | (intro g; refine (?_ : (∀ s, State.Held P s → State.Held P (g s)) → _) ?_; (on_goal 1 => (intro _; try clear_value g)); (on_goal 2 => (unfold g; intro s _)))
    | (intro g; refine (?_ : (∀ s n, State.Held P s → State.Held P (g s n)) → _) ?_; (on_goal 1 => (intro _; try clear_value g)); (on_goal 2 => (unfold g; intro s _ _)))
    | (intro x; try clear_value x)
    | split
    | lift_lets
    | with_reducible refine State.modMotion_held ?_
    | with_reducible refine State.modTorsion_held ?_
    | with_reducible refine State.info_held ?_
    | with_reducible refine State.enterMode_held ?_
    | with_reducible refine State.pairEvent_held ?_
    | with_reducible refine State.presetTd_held ?_
    | with_reducible refine State.takeSetpoints_held ?_
    | with_reducible refine State.Held.mk_of ?_

theorem State.takeAngles_held (h : s.Held P) : (State.takeAngles s).Held P := by
  unfold State.takeAngles
  try lift_lets
  repeat' first
    | with_reducible assumption
    | (intro x; refine (?_ : State.Held P x → _) ?_; (on_goal 1 => (intro _; try clear_value x)); (on_goal 2 => unfold x))
    | (intro g; refine (?_ : (∀ s, State.Held P s → State.Held P (g s)) → _) ?_; (on_goal 1 => (intro _; try clear_value g)); (on_goal 2 => (unfold g; intro s _)))
    | (intro g; refine (?_ : (∀ s n, State.Held P s → State.Held P (g s n)) → _) ?_; (on_goal 1 => (intro _; try clear_value g)); (on_goal 2 => (unfold g; intro s _ _)))
    | (intro x; try clear_value x)
    | split
    | lift_lets
    | with_reducible refine State.modObs_held ?_
    | with_reducible refine held_foldl ?_ (fun s x h => ?_)
    | with_reducible refine State.Held.mk_of ?_

theorem State.takeAxis_held (h : s.Held P) {a1 : Nat} : (State.takeAxis s a1).Held P := by
  unfold State.takeAxis
  try lift_lets
  repeat' first
    | with_reducible assumption
    | (intro x; refine (?_ : State.Held P x → _) ?_; (on_goal 1 => (intro _; try clear_value x)); (on_goal 2 => unfold x))
    | (intro x; try clear_value x)
    | split
    | lift_lets
    | with_reducible refine State.modAxis_held ?_
    | with_reducible refine State.gearTravel_held ?_
    | with_reducible refine State.axGo_held ?_
    | with_reducible refine State.Held.mk_of ?_

theorem State.takeover_held (h : s.Held P) {a1 : Nat} : (State.takeover s a1).Held P := by
  unfold State.takeover
  try lift_lets
  repeat' first
    | with_reducible assumption
    | (intro x; refine (?_ : State.Held P x → _) ?_; (on_goal 1 => (intro _; try clear_value x)); (on_goal 2 => unfold x))
    | (intro x; try clear_value x)
    | (have hx := ‹_ = (_, _)›; have h2 := congrArg Prod.snd hx; have h1 := congrArg Prod.fst hx; dsimp only at h1 h2; subst h1 h2; clear hx)
    | split
    | lift_lets
    | with_reducible refine State.modMotion_held ?_
    | with_reducible refine State.modCol_held ?_
    | with_reducible refine State.modPair_held ?_
    | with_reducible refine held_foldl ?_ (fun s x h => ?_)
    | with_reducible refine State.setCol_held ?_
    | with_reducible refine State.setShort_held ?_
    | with_reducible refine State.takeShare_held ?_
    | with_reducible refine State.splitDemand_held ?_
    | with_reducible refine State.pairEvent_held ?_
    | with_reducible refine State.setPair_held ?_
    | with_reducible refine State.takeMotion_held ?_
    | with_reducible refine State.takeAngles_held ?_
    | with_reducible refine State.takeAxis_held ?_
    | with_reducible refine State.Held.mk_of ?_

theorem State.yield_held (h : s.Held P) {a1 : Bool} : (State.yield s a1).Held P := by
  unfold State.yield
  try lift_lets
  repeat' first
    | with_reducible assumption
    | (intro x; refine (?_ : State.Held P x → _) ?_; (on_goal 1 => (intro _; try clear_value x)); (on_goal 2 => unfold x))
    | (intro x; try clear_value x)
    | lift_lets
    | with_reducible refine State.modPair_held ?_
    | with_reducible refine State.setCol_held ?_
    | with_reducible refine State.pairEvent_held ?_
    | with_reducible refine State.setPair_held ?_
    | with_reducible refine State.Held.mk_of ?_

theorem State.queryOutcome_held (h : s.Held P) {a1 : Option Bool} : (State.queryOutcome s a1).Held P := by
  unfold State.queryOutcome
  repeat' first
    | with_reducible assumption
    | split
    | with_reducible refine State.takeover_held ?_
    | with_reducible refine State.yield_held ?_

theorem State.pairMessage_held (h : s.Held P) {a1 : Nat} {a2 : Nat} : (State.pairMessage s a1 a2).Held P := by
  unfold State.pairMessage
  repeat' first
    | with_reducible assumption
    | with_reducible refine State.alSys_held ?_

theorem State.hbRx_held (h : s.Held P) {a1 : Bytes} : (State.hbRx s a1).Held P := by
  unfold State.hbRx
  try lift_lets
  repeat' first
    | with_reducible assumption
    | (intro x; refine (?_ : State.Held P x → _) ?_; (on_goal 1 => (intro _; try clear_value x)); (on_goal 2 => unfold x))
    | (intro x; try clear_value x)
    | split
    | lift_lets
    | with_reducible refine State.modPair_held ?_
    | with_reducible refine State.hold_held ?_
    | with_reducible refine State.setCol_held ?_
    | with_reducible refine State.pairEvent_held ?_
    | with_reducible refine State.setPair_held ?_
    | with_reducible refine State.takeover_held ?_
    | with_reducible refine State.Held.mk_of ?_

theorem execHeartbeat_held (h : s.Held P) {a1 : Tick} {a2 : Bytes} : OutHeld P (execHeartbeat a1 a2 s) := by
  unfold execHeartbeat
  try lift_lets
  repeat' first
    | with_reducible assumption
    | (intro x; refine (?_ : State.Held P x → _) ?_; (on_goal 1 => (intro _; try clear_value x)); (on_goal 2 => unfold x))
    | (intro x; try clear_value x)
    | split
    | lift_lets
    | with_reducible refine State.upTo_held ?_
    | with_reducible refine OutHeld.next ?_
    | with_reducible refine OutHeld.next ?_
    | with_reducible refine State.bridleError_held ?_
    | with_reducible refine State.hbRx_held ?_

theorem execBridleLinkUp_held (h : s.Held P) {a1 : Tick} : OutHeld P (execBridleLinkUp a1 s) := by
  unfold execBridleLinkUp
  try lift_lets
  repeat' first
    | with_reducible assumption
    | (intro x; refine (?_ : State.Held P x → _) ?_; (on_goal 1 => (intro _; try clear_value x)); (on_goal 2 => unfold x))
    | (intro x; try clear_value x)
    | split
    | lift_lets
    | with_reducible refine State.modPair_held ?_
    | with_reducible refine State.upTo_held ?_
    | with_reducible refine OutHeld.next ?_
    | with_reducible refine OutHeld.next ?_
    | with_reducible refine State.Held.mk_of ?_

theorem execHeartbeatLoss_held (h : s.Held P) {a1 : Tick} : OutHeld P (execHeartbeatLoss a1 s) := by
  unfold execHeartbeatLoss
  try lift_lets
  repeat' first
    | with_reducible assumption
    | (intro x; refine (?_ : State.Held P x → _) ?_; (on_goal 1 => (intro _; try clear_value x)); (on_goal 2 => unfold x))
    | (intro x; try clear_value x)
    | split
    | lift_lets
    | with_reducible refine State.modPair_held ?_
    | with_reducible refine State.upTo_held ?_
    | with_reducible refine OutHeld.next ?_
    | with_reducible refine OutHeld.next ?_
    | with_reducible refine State.clo_held ?_
    | with_reducible refine State.setPair_held ?_
    | with_reducible refine State.Held.mk_of ?_

theorem execArbitrationOutcome_held (h : s.Held P) {a1 : Tick} {a2 : RollReturn} : OutHeld P (execArbitrationOutcome a1 a2 s) := by
  unfold execArbitrationOutcome
  try lift_lets
  repeat' first
    | with_reducible assumption
    | (intro x; refine (?_ : State.Held P x → _) ?_; (on_goal 1 => (intro _; try clear_value x)); (on_goal 2 => unfold x))
    | (intro x; try clear_value x)
    | split
    | lift_lets
    | with_reducible refine State.modPair_held ?_
    | with_reducible refine State.upTo_held ?_
    | with_reducible refine held_foldl ?_ (fun s x h => ?_)
    | with_reducible refine OutHeld.next ?_
    | with_reducible refine OutHeld.next ?_
    | with_reducible refine State.pairEvent_held ?_
    | with_reducible refine State.setPair_held ?_
    | with_reducible refine State.takeover_held ?_
    | with_reducible refine State.queryOutcome_held ?_
    | with_reducible refine State.pairMessage_held ?_
    | with_reducible refine State.Held.mk_of ?_

theorem execPairQueryTimeout_held (h : s.Held P) {a1 : Tick} : OutHeld P (execPairQueryTimeout a1 s) := by
  unfold execPairQueryTimeout
  try lift_lets
  repeat' first
    | with_reducible assumption
    | (intro x; refine (?_ : State.Held P x → _) ?_; (on_goal 1 => (intro _; try clear_value x)); (on_goal 2 => unfold x))
    | (intro x; try clear_value x)
    | split
    | lift_lets
    | with_reducible refine State.upTo_held ?_
    | with_reducible refine OutHeld.next ?_
    | with_reducible refine OutHeld.next ?_
    | with_reducible refine State.queryOutcome_held ?_

theorem opPairStatus_held (h : s.Held P) : (opPairStatus s).st.Held P := by
  unfold opPairStatus
  try lift_lets
  repeat' first
    | with_reducible assumption
    | (intro x; refine (?_ : State.Held P x → _) ?_; (on_goal 1 => (intro _; try clear_value x)); (on_goal 2 => unfold x))
    | (intro x; try clear_value x)
    | (have hx := ‹_ = (_, _)›; have h2 := congrArg Prod.snd hx; have h1 := congrArg Prod.fst hx; dsimp only at h1 h2; subst h1 h2; clear hx)
    | split
    | lift_lets
    | with_reducible refine Rep.ok_held ?_
    | with_reducible refine State.hbRx_held ?_

theorem execPairStatus_held (h : s.Held (Bal q none)) {a1 : Tick} {a2 : Source} {a3 : Nat} {a4 : Bytes} : OutHeld (Bal q none) (execPairStatus a1 a2 a3 a4 s) := by
  unfold execPairStatus
  refine runOp_held h fun m s _ h => ?_
  first
    | exact h
    | exact opPairStatus_held h

theorem State.updEvent_held (h : s.Held P) {a1 : Nat} {a2 : Bytes} : (State.updEvent s a1 a2).Held P := by
  unfold State.updEvent
  repeat' first
    | with_reducible assumption
    | split
    | with_reducible refine State.raise_held ?_

theorem State.sessionEvent_held (h : s.Held P) {a1 : Nat} : (State.sessionEvent s a1).Held P := by
  unfold State.sessionEvent
  repeat' first
    | with_reducible assumption
    | with_reducible refine State.updEvent_held ?_

theorem State.closeSession_held (h : s.Held P) {k : Bool} : (State.closeSession s k).Held P := State.modUpd_held h rfl

theorem opUpdateOffer_held (h : s.Held P) {a1 : Nat} {a2 : Nat} {a3 : Bytes} : (opUpdateOffer a1 a2 a3 s).st.Held P := by
  unfold opUpdateOffer
  try lift_lets
  repeat' first
    | with_reducible assumption
    | (intro x; refine (?_ : State.Held P x → _) ?_; (on_goal 1 => (intro _; try clear_value x)); (on_goal 2 => unfold x))
    | (intro x; try clear_value x)
    | split
    | lift_lets
    | with_reducible refine State.modUpd_held ?_ rfl
    | with_reducible refine Rep.ok_held ?_
    | with_reducible refine Rep.no_held ?_
    | with_reducible refine State.sessionEvent_held ?_
    | with_reducible refine State.Held.mk_of ?_

theorem opUpdateData_held (h : s.Held P) {a1 : Bytes} : (opUpdateData a1 s).st.Held P := by
  unfold opUpdateData
  try lift_lets
  repeat' first
    | with_reducible assumption
    | (intro x; refine (?_ : State.Held P x → _) ?_; (on_goal 1 => (intro _; try clear_value x)); (on_goal 2 => unfold x))
    | (intro x; try clear_value x)
    | split
    | lift_lets
    | with_reducible refine State.modUpd_held ?_ rfl
    | with_reducible refine Rep.ok_held ?_
    | with_reducible refine Rep.no_held ?_
    | with_reducible refine State.Held.mk_of ?_

theorem opUpdateVerify_held (h : s.Held P) : (opUpdateVerify s).st.Held P := by
  unfold opUpdateVerify
  try lift_lets
  repeat' first
    | with_reducible assumption
    | (intro x; refine (?_ : State.Held P x → _) ?_; (on_goal 1 => (intro _; try clear_value x)); (on_goal 2 => unfold x))
    | (intro x; try clear_value x)
    | split
    | lift_lets
    | with_reducible refine State.modUpd_held ?_ rfl
    | with_reducible refine Rep.ok_held ?_
    | with_reducible refine State.sessionEvent_held ?_
    | with_reducible refine State.Held.mk_of ?_

theorem opUpdateActivate_held (h : s.Held P) : (opUpdateActivate s).st.Held P := by
  unfold opUpdateActivate
  try lift_lets
  repeat' first
    | with_reducible assumption
    | (intro x; refine (?_ : State.Held P x → _) ?_; (on_goal 1 => (intro _; try clear_value x)); (on_goal 2 => unfold x))
    | (intro x; try clear_value x)
    | split
    | lift_lets
    | with_reducible refine State.modPower_held ?_
    | with_reducible refine Rep.ok_held ?_
    | with_reducible refine Rep.no_held ?_
    | with_reducible refine State.writeRec_held ?_
    | with_reducible refine State.closeSession_held ?_
    | with_reducible refine State.updEvent_held ?_
    | with_reducible refine State.Held.mk_of ?_

theorem opUpdateAbort_held (h : s.Held P) : (opUpdateAbort s).st.Held P := by
  unfold opUpdateAbort
  repeat' first
    | with_reducible assumption
    | with_reducible refine Rep.ok_held ?_
    | with_reducible refine State.closeSession_held ?_
    | with_reducible refine State.sessionEvent_held ?_

theorem opUpdate_held (h : s.Held P) {a1 : Nat} {a2 : Nat} {a3 : Nat} {a4 : Bytes} : (opUpdate a1 a2 a3 a4 s).st.Held P := by
  unfold opUpdate
  repeat' first
    | with_reducible assumption
    | split
    | with_reducible refine opUpdateOffer_held ?_
    | with_reducible refine opUpdateData_held ?_
    | with_reducible refine opUpdateVerify_held ?_
    | with_reducible refine opUpdateActivate_held ?_
    | with_reducible refine opUpdateAbort_held ?_

/-- An update opcode takes and returns no credit. -/
theorem opUpdate_credits {op k n : Nat} {p : Bytes} {c : Source} : ((opUpdate op k n p s).st.port c).credits = (s.port c).credits :=
  (opUpdate_held (⟨Prim.credits, fun _ => rfl⟩ : s.Held fun v => ∀ c, (v.port c).credits = (s.port c).credits)).holds c

theorem State.lastUpd_held (h : s.Held P) {a1 : Nat} : (State.lastUpd s a1).Held P := State.modUpd_held h rfl

theorem State.sendBulk_held (h : s.Held P) {a1 : Bytes} : (State.sendBulk s a1).Held P := by
  unfold State.sendBulk
  repeat' first
    | with_reducible assumption
    | with_reducible refine State.modPair_held ?_
    | with_reducible refine held_foldl ?_ (fun s x h => ?_)
    | with_reducible refine State.sendBridle_held ?_
    | with_reducible refine State.Held.mk_of ?_

/-- A packet of the service port that is forwarded takes its credit with it. -/
theorem State.forward_held {m op n : Nat} {p : Bytes} (h : s.Held (Bal q (some (.service, m)))) :
    (State.forward s op n p).Held (Bal q none) := by
  unfold State.forward
  refine State.sendBulk_held (Bal.held ?_)
  have h : s.touchUpd.Held (Bal q (some (.service, m))) := State.touchUpd_held h
  generalize s.touchUpd = s at h
  have h := h.holds
  refine ⟨h.pending, fun d => ?_, h.queues, h.counters, h.blocks, h.sorted, h.staging, h.memory⟩
  have h1 := h.credits d
  unfold State.bal State.creditsBalance at *
  simp only at *
  by_cases hd : d = .service
  · subst hd
    simp only [if_true] at h1
    have e : (s.modUpd fun u => { u with relayOps := u.relayOps ++ [(op, n)] }).inUse .service = s.inUse .service + 1 := by
      unfold State.inUse
      show _ + _ + (if Source.service = .service then (s.upd.relayOps ++ [(op, n)]).length else 0) = _
      simp only [if_true, List.length_append, List.length_singleton]
      rfl
    rw [e]
    rcases h1 with h1 | h1
    · exact absurd rfl h1.2.2
    · omega
  · rw [if_neg hd] at h1
    have e : (s.modUpd fun u => { u with relayOps := u.relayOps ++ [(op, n)] }).inUse d = s.inUse d := by
      unfold State.inUse; rw [if_neg hd, if_neg hd]; rfl
    rw [e]; exact h1

/-- A reply on the service port takes the place of a packet that a relay forwarded. -/
theorem State.relayQueue_held (h : s.Held (Bal q none)) {r : Reply} {f : Update → Update} (h0 : s.upd.relayOps ≠ []) (hn : r.nc = false)
    (hf : ∀ u, (f u).relayOps = u.relayOps.drop 1) : ((s.queueReply .service r).modUpd f).Held (Bal q none) := by
  have h := h.holds
  refine Bal.held ⟨h.pending, fun d => ?_, fun d => ?_, h.counters, h.blocks, h.sorted, h.staging, h.memory⟩
  · have h1 := h.credits d
    unfold State.bal State.creditsBalance at *
    simp only at *
    by_cases hd : d = .service
    · subst hd
      have hlen : 0 < s.upd.relayOps.length := List.length_pos_iff.2 h0
      have e : ((s.queueReply .service r).modUpd f).inUse .service = s.inUse .service := by
        unfold State.inUse
        show (((s.queueReply .service r).port .service)).credits + ((s.queueReply .service r).port .service).owed +
          (if Source.service = .service then (f s.upd).relayOps.length else 0) = _
        unfold State.queueReply
        rw [State.port_modPort, if_pos rfl, hf, Port.owed_queue]
        simp only [if_true, List.length_drop]
        simp [hn]
        omega
      rw [e]; exact h1
    · have e : ((s.queueReply .service r).modUpd f).inUse d = s.inUse d := by
        unfold State.inUse
        show ((s.queueReply .service r).port d).credits + ((s.queueReply .service r).port d).owed + _ = _
        unfold State.queueReply
        rw [State.port_modPort, if_neg hd, if_neg hd, if_neg hd]
      rw [e]; exact h1
  · show ((s.queueReply .service r).port d).queueOk
    unfold State.queueReply
    rw [State.port_modPort]; split <;> exact h.queues d

/-- A packet that a relay forwarded is answered here: the balance stays. -/
theorem State.answerRelayed_held (h : s.Held (Bal q none)) (h0 : s.upd.relayOps ≠ []) {x : Nat × Nat} :
    (s.answerRelayed x).Held (Bal q none) :=
  State.relayQueue_held (s := s.draw.2) (r := { status := s.draw.1 % 65536, seq := x.2 })
    (f := fun u => { u with relayOps := u.relayOps.drop 1 }) (State.draw_held h) h0 rfl fun _ => rfl

theorem State.answerRelayed_fold {l : List (Nat × Nat)} (h : s.Held (Bal q none)) (hl : l.length ≤ s.upd.relayOps.length) :
    (l.foldl State.answerRelayed s).Held (Bal q none) := by
  induction l generalizing s with
  | nil => exact h
  | cons x l ih =>
    rw [List.length_cons] at hl
    refine ih (State.answerRelayed_held h fun e => ?_) ?_
    · rw [e] at hl; exact absurd hl (Nat.not_succ_le_zero _)
    · show l.length ≤ (s.upd.relayOps.drop 1).length
      rw [List.length_drop]; omega

theorem State.closeRelay_held (h : s.Held (Bal q none)) : (State.closeRelay s).Held (Bal q none) :=
  State.modUpd_held (State.answerRelayed_fold h (Nat.le_refl _)) rfl

theorem State.loseRelay_held (h : s.Held (Bal q none)) {a1 : Nat} : (State.loseRelay s a1).Held (Bal q none) :=
  State.closeRelay_held (State.updEvent_held h)

theorem State.openRelay_held {m n : Nat} {p : Bytes} (h : s.Held (Bal q (some (.service, m)))) (hm : (s.port .service).credits = m) (h8 : m < 8) :
    (State.openRelay s .service n p).Held (Bal q none) := by
  unfold State.openRelay
  split
  · exact State.lastUpd_held (State.reject_held h hm h8)
  · split
    · exact State.lastUpd_held (State.reject_held h hm h8)
    · exact State.forward_held (State.modUpd_held h rfl)

theorem State.offerTie_held (h : s.Held P) : (State.offerTie s).Held P := by
  unfold State.offerTie
  repeat' first
    | with_reducible assumption
    | split
    | with_reducible refine State.closeSession_held ?_
    | with_reducible refine State.sendBulk_held ?_

/-- The update opcodes come from the service port only (R103). -/
theorem State.objection_service {s : State} {c : Source} {op : Nat} {p : Bytes} (h : s.objection op c p = none) (h1 : 0x0902 ≤ op) (h2 : op ≤ 0x0906) :
    c = .service := by
  cases c with
  | service => rfl
  | _ =>
    exfalso
    unfold State.objection at h
    split at h
    · simp at h
    · simp [sourceOk, h1, h2] at h

/-- The session that yields to another offer of the same tick touches no port. -/
theorem State.offerTie_port {c : Source} : (s.offerTie.port c) = s.port c := by
  unfold State.offerTie
  split
  · split <;> rfl
  · rfl

theorem State.carryUpd_held {c : Source} {m op n : Nat} {p : Bytes} (h : s.Held (Bal q (some (c, m)))) (hm : (s.port c).credits = m) (h8 : m < 8) :
    (State.carryUpd s c op n p).Held (Bal q none) := by
  have hx : (s.noteRecv c).Held (Bal q (some (c, m))) ∧ ((s.noteRecv c).port c).credits = m := by
    refine ⟨State.noteRecv_held h, ?_⟩
    rw [State.noteRecv_port, if_pos rfl]; exact hm
  unfold State.carryUpd
  split
  · rename_i hc
    obtain ⟨rfl, _⟩ := hc
    exact State.forward_held hx.1
  · have hy : (if op = 0x0902 then (s.noteRecv c).offerTie else s.noteRecv c).Held (Bal q (some (c, m))) ∧
        ((if op = 0x0902 then (s.noteRecv c).offerTie else s.noteRecv c).port c).credits = m := by
      split
      · exact ⟨State.offerTie_held hx.1, by rw [State.offerTie_port]; exact hx.2⟩
      · exact hx
    dsimp only
    generalize (if op = 0x0902 then (s.noteRecv c).offerTie else s.noteRecv c) = v at hy ⊢
    split
    · exact State.lastUpd_held (State.reject_held hy.1 hy.2 h8)
    · rename_i ha
      split
      · rename_i hop
        have hc : c = .service := State.objection_service ha (by omega) (by omega)
        subst hc
        exact State.openRelay_held hy.1 hy.2 h8
      · have hu : (opUpdate op 4 n p v).st.Held (Bal q (some (c, m))) := opUpdate_held hy.1
        have hk : ((opUpdate op 4 n p v).st.port c).credits ≤ m := by rw [opUpdate_credits, hy.2]
        have hv := State.lastUpd_held (a1 := (opUpdate op 4 n p v).status) (State.queueReply_held
          (r := { status := (opUpdate op 4 n p v).status, seq := n, data := (opUpdate op 4 n p v).data }) hu rfl h8 hk)
        split
        · exact hv
        · exact State.countReject_held hv

theorem State.submitUpd_held {c : Source} {op n : Nat} {p : Bytes} (h : s.Held (Bal q none)) : (State.submitUpd s c op n p).Held (Bal q none) := by
  unfold State.submitUpd
  split
  · exact h
  · have hx : s.countPacket.Held (Bal q none) := State.countPacket_held h
    generalize s.countPacket = u at hx ⊢
    dsimp only
    split
    · exact State.overCredit_held hx
    · rename_i hc
      exact State.carryUpd_held (State.takeCredit_held hx hc) (State.takeCredit_lt hx hc).1 (State.takeCredit_lt hx hc).2

theorem State.runRelayed_held (h : s.Held P) {a1 : Bytes} : (State.runRelayed s a1).Held P := by
  unfold State.runRelayed
  try lift_lets
  repeat' first
    | with_reducible assumption
    | (intro x; refine (?_ : State.Held P x → _) ?_; (on_goal 1 => (intro _; try clear_value x)); (on_goal 2 => unfold x))
    | (intro x; refine (?_ : State.Held P x.st → _) ?_; (on_goal 1 => (intro _; try clear_value x)); (on_goal 2 => unfold x))
    | (intro x; try clear_value x)
    | split
    | lift_lets
    | with_reducible refine Rep.no_held ?_
    | with_reducible refine State.touchUpd_held ?_
    | with_reducible refine State.lastUpd_held ?_
    | with_reducible refine opUpdate_held ?_
    | with_reducible refine State.sendBulk_held ?_

theorem State.relayReply_held (h : s.Held (Bal q none)) {b : Bytes} : (State.relayReply s b).Held (Bal q none) := by
  unfold State.relayReply
  split
  · exact h
  · rename_i hc
    have h0 : s.upd.relayOps ≠ [] := fun e => hc (Or.inr (Or.inl e))
    have ht : s.touchUpd.Held (Bal q none) := State.touchUpd_held h
    have h0 : s.touchUpd.upd.relayOps ≠ [] := h0
    dsimp only
    split
    · exact State.closeRelay_held (State.lastUpd_held (State.relayQueue_held ht h0 rfl fun u => rfl))
    · exact State.lastUpd_held (State.relayQueue_held ht h0 rfl fun u => rfl)

theorem execBulkFrame_held (h : s.Held (Bal q none)) {a1 : Tick} {a2 : Bytes} : OutHeld (Bal q none) (execBulkFrame a1 a2 s) := by
  unfold execBulkFrame
  try lift_lets
  repeat' first
    | with_reducible assumption
    | (intro x; refine (?_ : State.Held (Bal q none) x → _) ?_; (on_goal 1 => (intro _; try clear_value x)); (on_goal 2 => unfold x))
    | (intro x; try clear_value x)
    | split
    | lift_lets
    | with_reducible refine State.modPair_held ?_
    | with_reducible refine State.upTo_held ?_
    | with_reducible refine OutHeld.next ?_
    | with_reducible refine OutHeld.next ?_
    | with_reducible refine State.bridleError_held ?_
    | with_reducible refine State.relayReply_held ?_
    | with_reducible refine State.runRelayed_held ?_
    | with_reducible refine State.Held.mk_of ?_

theorem execBridleLinkDown_held (h : s.Held (Bal q none)) {a1 : Tick} : OutHeld (Bal q none) (execBridleLinkDown a1 s) := by
  unfold execBridleLinkDown
  try lift_lets
  repeat' first
    | with_reducible assumption
    | (intro x; refine (?_ : State.Held (Bal q none) x → _) ?_; (on_goal 1 => (intro _; try clear_value x)); (on_goal 2 => unfold x))
    | (intro x; try clear_value x)
    | split
    | lift_lets
    | with_reducible refine State.modPair_held ?_
    | with_reducible refine State.upTo_held ?_
    | with_reducible refine OutHeld.next ?_
    | with_reducible refine OutHeld.next ?_
    | with_reducible refine State.loseRelay_held ?_
    | with_reducible refine State.Held.mk_of ?_

theorem execRelayTimeout_held (h : s.Held (Bal q none)) {a1 : Tick} : OutHeld (Bal q none) (execRelayTimeout a1 s) := by
  unfold execRelayTimeout
  try lift_lets
  repeat' first
    | with_reducible assumption
    | (intro x; refine (?_ : State.Held (Bal q none) x → _) ?_; (on_goal 1 => (intro _; try clear_value x)); (on_goal 2 => unfold x))
    | (intro x; try clear_value x)
    | split
    | lift_lets
    | with_reducible refine State.upTo_held ?_
    | with_reducible refine OutHeld.next ?_
    | with_reducible refine OutHeld.next ?_
    | with_reducible refine State.loseRelay_held ?_

theorem execUpdateSessionTimeout_held (h : s.Held P) {a1 : Tick} : OutHeld P (execUpdateSessionTimeout a1 s) := by
  unfold execUpdateSessionTimeout
  try lift_lets
  repeat' first
    | with_reducible assumption
    | (intro x; refine (?_ : State.Held P x → _) ?_; (on_goal 1 => (intro _; try clear_value x)); (on_goal 2 => unfold x))
    | (intro x; try clear_value x)
    | split
    | lift_lets
    | with_reducible refine State.upTo_held ?_
    | with_reducible refine OutHeld.next ?_
    | with_reducible refine OutHeld.next ?_
    | with_reducible refine State.closeSession_held ?_
    | with_reducible refine State.sessionEvent_held ?_

theorem execSlotEraseSector_held (h : s.Held P) {a1 : Tick} : OutHeld P (execSlotEraseSector a1 s) := by
  unfold execSlotEraseSector
  try lift_lets
  repeat' first
    | with_reducible assumption
    | (intro x; refine (?_ : State.Held P x → _) ?_; (on_goal 1 => (intro _; try clear_value x)); (on_goal 2 => unfold x))
    | (intro x; try clear_value x)
    | split
    | lift_lets
    | with_reducible refine State.modUpd_held ?_ rfl
    | with_reducible refine State.upTo_held ?_
    | with_reducible refine OutHeld.next ?_
    | with_reducible refine OutHeld.next ?_
    | with_reducible refine State.Held.mk_of ?_

theorem State.sillCommand_held {m op n : Nat} {p : Bytes} (h : s.Held (Bal q (some (.service, m)))) (hm : (s.port .service).credits = m) (h8 : m < 8) :
    (State.sillCommand s op n p).Held (Bal q none) := by
  have hx : (s.noteRecv .service).Held (Bal q (some (.service, m))) ∧ ((s.noteRecv .service).port .service).credits = m := by
    refine ⟨State.noteRecv_held h, ?_⟩
    rw [State.noteRecv_port, if_pos rfl]; exact hm
  unfold State.sillCommand
  generalize s.noteRecv .service = v at hx ⊢
  have hr : ∀ r : Rep, r.st.Held (Bal q (some (.service, m))) → (r.st.port .service).credits = m →
      (if r.status = 0 then (r.st.queueReply .service { status := r.status, seq := n, data := r.data, sill := true }).lastUpd r.status
       else ((r.st.queueReply .service { status := r.status, seq := n, data := r.data, sill := true }).lastUpd r.status).countReject).Held
        (Bal q none) := by
    intro r h1 h2
    have hv := State.lastUpd_held (a1 := r.status) (State.queueReply_held (r := { status := r.status, seq := n, data := r.data, sill := true }) h1 rfl h8 (Nat.le_of_eq h2))
    split
    · exact hv
    · exact State.countReject_held hv
  dsimp only
  refine hr _ ?_ ?_
  · split
    · exact hx.1
    · split
      · exact hx.1
      · split
        · exact opUpdate_held hx.1
        · exact hx.1
  · split
    · exact hx.2
    · split
      · exact hx.2
      · split
        · exact opUpdate_credits.trans hx.2
        · exact hx.2

theorem opUpdateStatus_held (h : s.Held P) : (opUpdateStatus s).st.Held P := by
  unfold opUpdateStatus
  try lift_lets
  repeat' first
    | with_reducible assumption
    | (intro x; refine (?_ : State.Held P x → _) ?_; (on_goal 1 => (intro _; try clear_value x)); (on_goal 2 => unfold x))
    | (intro g; refine (?_ : (∀ s, State.Held P s → State.Held P (g s)) → _) ?_; (on_goal 1 => (intro _; try clear_value g)); (on_goal 2 => (unfold g; intro s _)))
    | (intro g; refine (?_ : (∀ s n, State.Held P s → State.Held P (g s n)) → _) ?_; (on_goal 1 => (intro _; try clear_value g)); (on_goal 2 => (unfold g; intro s _ _)))
    | (intro x; try clear_value x)
    | split
    | lift_lets
    | with_reducible refine held_foldl ?_ (fun s x h => ?_)
    | with_reducible refine Rep.ok_held ?_

theorem opUpdateConfirm_held (h : s.Held P) {a1 : Bytes} : (opUpdateConfirm a1 s).st.Held P := by
  unfold opUpdateConfirm
  try lift_lets
  repeat' first
    | with_reducible assumption
    | (intro x; refine (?_ : State.Held P x → _) ?_; (on_goal 1 => (intro _; try clear_value x)); (on_goal 2 => unfold x))
    | (intro x; try clear_value x)
    | split
    | lift_lets
    | with_reducible refine State.modUpd_held ?_ rfl
    | with_reducible refine Rep.ok_held ?_
    | with_reducible refine Rep.no_held ?_
    | with_reducible refine State.writeRec_held ?_
    | with_reducible refine State.blowFuses_held ?_
    | with_reducible refine State.updEvent_held ?_
    | with_reducible refine State.Held.mk_of ?_

theorem execUpdateStatus_held (h : s.Held (Bal q none)) {a1 : Tick} {a2 : Source} {a3 : Nat} {a4 : Bytes} : OutHeld (Bal q none) (execUpdateStatus a1 a2 a3 a4 s) := by
  unfold execUpdateStatus
  refine runOp_held h fun m s _ h => ?_
  first
    | exact h
    | exact opUpdateStatus_held h

theorem execUpdateConfirm_held (h : s.Held (Bal q none)) {a1 : Tick} {a2 : Source} {a3 : Nat} {a4 : Bytes} : OutHeld (Bal q none) (execUpdateConfirm a1 a2 a3 a4 s) := by
  unfold execUpdateConfirm
  refine runOp_held h fun m s _ h => ?_
  first
    | exact h
    | exact opUpdateConfirm_held h

theorem runUpd_held (h : s.Held (Bal q none)) {a1 : Tick} {a2 : Source} {a3 : Nat} {a4 : Nat} {a5 : Bytes} : OutHeld (Bal q none) (runUpd a1 a2 a3 a4 a5 s) := by
  unfold runUpd
  repeat' first
    | with_reducible assumption
    | with_reducible refine State.upTo_held ?_
    | with_reducible refine OutHeld.next ?_
    | with_reducible refine OutHeld.next ?_
    | with_reducible refine State.submitUpd_held ?_

theorem execUpdateOffer_held (h : s.Held (Bal q none)) {a1 : Tick} {a2 : Source} {a3 : Nat} {a4 : Bytes} : OutHeld (Bal q none) (execUpdateOffer a1 a2 a3 a4 s) := by
  unfold execUpdateOffer
  exact runUpd_held h

theorem execUpdateData_held (h : s.Held (Bal q none)) {a1 : Tick} {a2 : Source} {a3 : Nat} {a4 : Bytes} : OutHeld (Bal q none) (execUpdateData a1 a2 a3 a4 s) := by
  unfold execUpdateData
  exact runUpd_held h

theorem execUpdateVerify_held (h : s.Held (Bal q none)) {a1 : Tick} {a2 : Source} {a3 : Nat} {a4 : Bytes} : OutHeld (Bal q none) (execUpdateVerify a1 a2 a3 a4 s) := by
  unfold execUpdateVerify
  exact runUpd_held h

theorem execUpdateActivate_held (h : s.Held (Bal q none)) {a1 : Tick} {a2 : Source} {a3 : Nat} {a4 : Bytes} : OutHeld (Bal q none) (execUpdateActivate a1 a2 a3 a4 s) := by
  unfold execUpdateActivate
  exact runUpd_held h

theorem execUpdateAbort_held (h : s.Held (Bal q none)) {a1 : Tick} {a2 : Source} {a3 : Nat} {a4 : Bytes} : OutHeld (Bal q none) (execUpdateAbort a1 a2 a3 a4 s) := by
  unfold execUpdateAbort
  exact runUpd_held h

end Sys2Proof.Machine
end

