-- ==== Sys2Proof/Laws/HeldF.lean ====
section
/-! SUPPORT. What the operations of Lifecycle, Watch, HostPort, AlciaRx keep: one lemma each. -/
namespace Sys2Proof.Machine

variable {P : State → Prop} {q : List Instr} {fl : Option (Source × Nat)} {s : State}
theorem ordinary_blockLayout {id : Nat} {y : Layout} (h : ordinaryLayout id = some y) : blockLayout id = some y := by
  unfold blockLayout
  have h0 : safetyLayout id = none := by
    unfold safetyLayout
    split
    · rename_i e; subst e; simp [ordinaryLayout] at h
    · split
      · rename_i e; subst e; simp [ordinaryLayout] at h
      · split
        · rename_i e; subst e; simp [ordinaryLayout] at h
        · split
          · rename_i e; subst e; simp [ordinaryLayout] at h
          · rfl
  rw [h0, h]

theorem opWriteBlock_held {c : Source} {p : Bytes} (ha : s.objection 0x0200 c p = none) (h : s.Held (Bal q fl)) :
    (opWriteBlock p s).st.Held (Bal q fl) := by
  have hl := State.objection_lenOk ha
  unfold opWriteBlock
  dsimp only
  cases hf : blockFails (ordinaryLayout (getN p 0 2)) p with
  | some e => exact h
  | none =>
    have h1 : (s.putBlock p).Held (Bal q fl) := by
      unfold blockFails at hf
      cases hy : ordinaryLayout (getN p 0 2) with
      | none => rw [hy] at hf; simp at hf
      | some y =>
        rw [hy] at hf
        dsimp only at hf
        split at hf
        · simp at hf
        · refine State.putBlock_held h (y := y) (ordinary_blockLayout hy) ?_ (by simpa using hf)
          simp only [lenOk, writeSize, Bool.and_eq_true] at hl
          have h4 := hl.2
          rw [if_pos trivial, hy] at h4
          simp only [Option.map_some, beq_iff_eq] at h4
          rw [List.length_drop]; omega
    dsimp only
    refine Rep.ok_held ?_
    split
    · exact State.alRestart_held h1
    · split
      · exact State.alRestart_held h1
      · exact h1

theorem opReadBlock_held (h : s.Held P) {a1 : Bytes} : (opReadBlock a1 s).st.Held P := by
  unfold opReadBlock
  try lift_lets
  repeat' first
    | with_reducible assumption
    | (intro x; refine (?_ : State.Held P x → _) ?_; (on_goal 1 => (intro _; try clear_value x)); (on_goal 2 => unfold x))
    | (intro x; try clear_value x)
    | split
    | lift_lets
    | with_reducible refine Rep.ok_held ?_
    | with_reducible refine Rep.no_held ?_

theorem opCheck_held (h : s.Held P) : (opCheck s).st.Held P := by
  unfold opCheck
  repeat' first
    | with_reducible assumption
    | split
    | with_reducible refine Rep.ok_held ?_

theorem opGetFingerprint_held (h : s.Held P) : (opGetFingerprint s).st.Held P := by
  unfold opGetFingerprint
  repeat' first
    | with_reducible assumption
    | split
    | with_reducible refine Rep.ok_held ?_

theorem State.atRest_held (h : s.Held P) : (State.atRest s).Held P := by
  unfold State.atRest
  repeat' first
    | with_reducible assumption
    | with_reducible refine State.Held.mk_of ?_

theorem State.sealStack_held (h : s.Held P) {a1 : Nat} : (State.sealStack s a1).Held P := by
  unfold State.sealStack
  try lift_lets
  repeat' first
    | with_reducible assumption
    | (intro x; refine (?_ : State.Held P x → _) ?_; (on_goal 1 => (intro _; try clear_value x)); (on_goal 2 => unfold x))
    | (intro g; refine (?_ : (∀ s, State.Held P s → State.Held P (g s)) → _) ?_; (on_goal 1 => (intro _; try clear_value g)); (on_goal 2 => (unfold g; intro s _)))
    | (intro g; refine (?_ : (∀ s n, State.Held P s → State.Held P (g s n)) → _) ?_; (on_goal 1 => (intro _; try clear_value g)); (on_goal 2 => (unfold g; intro s _ _)))
    | (intro x; try clear_value x)
    | split
    | lift_lets
    | with_reducible refine State.modStack_held ?_
    | with_reducible refine State.Held.mk_of ?_

theorem State.sealPort_held (h : s.Held P) {a1 : Nat} : (State.sealPort s a1).Held P := by
  unfold State.sealPort
  try lift_lets
  repeat' first
    | with_reducible assumption
    | (intro x; refine (?_ : State.Held P x → _) ?_; (on_goal 1 => (intro _; try clear_value x)); (on_goal 2 => unfold x))
    | (intro x; try clear_value x)
    | lift_lets
    | with_reducible refine State.modPins_held ?_
    | with_reducible refine State.modFb_held ?_
    | with_reducible refine State.fbUnref_held ?_
    | with_reducible refine State.Held.mk_of ?_

theorem State.sealAxis_held (h : s.Held P) {a1 : Nat} : (State.sealAxis s a1).Held P := by
  unfold State.sealAxis
  try lift_lets
  repeat' first
    | with_reducible assumption
    | (intro x; refine (?_ : State.Held P x → _) ?_; (on_goal 1 => (intro _; try clear_value x)); (on_goal 2 => unfold x))
    | (intro x; try clear_value x)
    | split
    | lift_lets
    | with_reducible refine State.modAxis_held ?_
    | with_reducible refine State.Held.mk_of ?_

theorem State.sealTorsion_held (h : s.Held P) : (State.sealTorsion s).Held P := by
  unfold State.sealTorsion
  try lift_lets
  repeat' first
    | with_reducible assumption
    | (intro x; refine (?_ : State.Held P x → _) ?_; (on_goal 1 => (intro _; try clear_value x)); (on_goal 2 => unfold x))
    | (intro g; refine (?_ : (∀ s, State.Held P s → State.Held P (g s)) → _) ?_; (on_goal 1 => (intro _; try clear_value g)); (on_goal 2 => (unfold g; intro s _)))
    | (intro g; refine (?_ : (∀ s n, State.Held P s → State.Held P (g s n)) → _) ?_; (on_goal 1 => (intro _; try clear_value g)); (on_goal 2 => (unfold g; intro s _ _)))
    | (intro x; try clear_value x)
    | split
    | lift_lets
    | with_reducible refine State.modTorsion_held ?_
    | with_reducible refine held_foldl ?_ (fun s x h => ?_)
    | with_reducible refine State.torsInfo_held ?_
    | with_reducible refine State.Held.mk_of ?_

theorem State.sealMotion_held (h : s.Held P) : (State.sealMotion s).Held P := by
  unfold State.sealMotion
  try lift_lets
  repeat' first
    | with_reducible assumption
    | (intro x; refine (?_ : State.Held P x → _) ?_; (on_goal 1 => (intro _; try clear_value x)); (on_goal 2 => unfold x))
    | (intro x; try clear_value x)
    | lift_lets
    | with_reducible refine State.modMotion_held ?_
    | with_reducible refine State.Held.mk_of ?_

theorem State.sealKingpost_held (h : s.Held P) : (State.sealKingpost s).Held P := by
  unfold State.sealKingpost
  try lift_lets
  repeat' first
    | with_reducible assumption
    | (intro x; refine (?_ : State.Held P x → _) ?_; (on_goal 1 => (intro _; try clear_value x)); (on_goal 2 => unfold x))
    | (intro x; try clear_value x)
    | split
    | lift_lets
    | with_reducible refine State.modSafety_held ?_
    | with_reducible refine State.releaseOv3_held ?_
    | with_reducible refine State.Held.mk_of ?_

theorem State.sealPairs_held (h : s.Held P) : (State.sealPairs s).Held P := by
  unfold State.sealPairs
  try lift_lets
  repeat' first
    | with_reducible assumption
    | (intro x; refine (?_ : State.Held P x → _) ?_; (on_goal 1 => (intro _; try clear_value x)); (on_goal 2 => unfold x))
    | (intro x; try clear_value x)
    | split
    | lift_lets
    | with_reducible refine held_foldl ?_ (fun s x h => ?_)
    | with_reducible refine State.modPairSt_held ?_
    | with_reducible refine State.Held.mk_of ?_

theorem State.startDemands_held (h : s.Held P) : (State.startDemands s).Held P := by
  unfold State.startDemands
  repeat' first
    | with_reducible assumption
    | split
    | with_reducible refine held_foldl ?_ (fun s x h => ?_)
    | with_reducible refine State.pairStart_held ?_

theorem State.sealApp_held (h : s.Held P) : (State.sealApp s).Held P := by
  unfold State.sealApp
  try lift_lets
  repeat' first
    | with_reducible assumption
    | (intro x; refine (?_ : State.Held P x → _) ?_; (on_goal 1 => (intro _; try clear_value x)); (on_goal 2 => unfold x))
    | (intro x; try clear_value x)
    | split
    | lift_lets
    | with_reducible refine State.modApp_held ?_
    | with_reducible refine State.modRecorder_held ?_
    | with_reducible refine State.Held.mk_of ?_

theorem State.autostart_held (h : s.Held P) : (State.autostart s).Held P := by
  unfold State.autostart
  repeat' first
    | with_reducible assumption
    | split
    | with_reducible refine State.startApp_held ?_

theorem State.sealObserver_held (h : s.Held P) {a1 : Nat} : (State.sealObserver s a1).Held P := by
  unfold State.sealObserver
  repeat' first
    | with_reducible assumption
    | split
    | with_reducible refine State.modObs_held ?_
    | with_reducible refine State.Held.mk_of ?_

theorem State.doSeal_held (h : s.Held P) {a1 : Source} : (State.doSeal s a1).Held P := by
  unfold State.doSeal
  try lift_lets
  repeat' first
    | with_reducible assumption
    | (intro x; refine (?_ : State.Held P x → _) ?_; (on_goal 1 => (intro _; try clear_value x)); (on_goal 2 => unfold x))
    | (intro x; try clear_value x)
    | split
    | lift_lets
    | with_reducible refine State.modSafety_held ?_
    | with_reducible refine State.modPair_held ?_
    | with_reducible refine State.modThermal_held ?_
    | with_reducible refine held_foldl ?_ (fun s x h => ?_)
    | with_reducible refine State.settle_held ?_
    | with_reducible refine State.toReady_held ?_
    | with_reducible refine State.logAppend_held ?_
    | with_reducible refine State.setPair_held ?_
    | with_reducible refine State.atRest_held ?_
    | with_reducible refine State.sealStack_held ?_
    | with_reducible refine State.sealPort_held ?_
    | with_reducible refine State.sealAxis_held ?_
    | with_reducible refine State.sealTorsion_held ?_
    | with_reducible refine State.sealMotion_held ?_
    | with_reducible refine State.sealKingpost_held ?_
    | with_reducible refine State.sealPairs_held ?_
    | with_reducible refine State.startDemands_held ?_
    | with_reducible refine State.sealApp_held ?_
    | with_reducible refine State.autostart_held ?_
    | with_reducible refine State.sealObserver_held ?_
    | with_reducible refine State.Held.mk_of ?_

theorem opSeal_held (h : s.Held P) {a1 : Source} : (opSeal a1 s).st.Held P := by
  unfold opSeal
  repeat' first
    | with_reducible assumption
    | split
    | with_reducible refine Rep.ok_held ?_
    | with_reducible refine Rep.no_held ?_
    | with_reducible refine State.doSeal_held ?_

theorem State.vinLevel_held (h : s.Held P) : (State.vinLevel s).2.Held P := by
  unfold State.vinLevel
  try lift_lets
  repeat' first
    | with_reducible assumption
    | (intro x; refine (?_ : State.Held P x → _) ?_; (on_goal 1 => (intro _; try clear_value x)); (on_goal 2 => unfold x))
    | (intro x; try clear_value x)
    | (have hx := ‹_ = (_, _)›; have h2 := congrArg Prod.snd hx; have h1 := congrArg Prod.fst hx; dsimp only at h1 h2; subst h1 h2; clear hx)
    | split
    | lift_lets
    | with_reducible refine State.draw_held ?_

theorem State.dropClear_held (h : s.Held P) {a1 : Bool} : (State.dropClear s a1).Held P := by
  unfold State.dropClear
  repeat' first
    | with_reducible assumption
    | with_reducible refine State.modFaults_held ?_ (fun hx => ?_)
    | (dsimp only; exact hx)
    | with_reducible refine State.Held.mk_of ?_
    | exact Nat.zero_le _
    | exact hx

theorem State.endPowerFail_held (h : s.Held P) : (State.endPowerFail s).Held P := by
  unfold State.endPowerFail
  repeat' first
    | with_reducible assumption
    | with_reducible refine State.modPower_held ?_
    | with_reducible refine State.Held.mk_of ?_

theorem State.unlockStack_held (h : s.Held P) {k : Nat} : (State.unlockStack s k).Held P := by
  have hq : ∀ (v : State) (l : List Nat), v.Held P → (l.foldl (fun (a : Bool × State) ch =>
      let (q, s) := a.2.draw
      (a.1 && (s.gate ch).out != .softOff && q % 2 == 0, s)) (true, v)).2.Held P :=
    fun v l hv => held_foldl_snd hv fun a x ha => State.draw_held ha
  unfold State.unlockStack
  dsimp only
  have h1 : ([0, 1, 2].foldl (fun s x =>
      if vget s.legLock (3 * k + x) false = true then
        if ([2 * (3 * k + x), 2 * (3 * k + x) + 1].foldl (fun (a : Bool × State) ch =>
            (a.1 && (a.2.draw.2.gate ch).out != GateOut.softOff && a.2.draw.1 % 2 == 0, a.2.draw.2)) (true, s)).1 = true then
          { ([2 * (3 * k + x), 2 * (3 * k + x) + 1].foldl (fun (a : Bool × State) ch =>
            (a.1 && (a.2.draw.2.gate ch).out != GateOut.softOff && a.2.draw.1 % 2 == 0, a.2.draw.2)) (true, s)).2 with
            legLock := vmod ([2 * (3 * k + x), 2 * (3 * k + x) + 1].foldl (fun (a : Bool × State) ch =>
            (a.1 && (a.2.draw.2.gate ch).out != GateOut.softOff && a.2.draw.1 % 2 == 0, a.2.draw.2)) (true, s)).2.legLock (3 * k + x) fun _ => false }
        else ([2 * (3 * k + x), 2 * (3 * k + x) + 1].foldl (fun (a : Bool × State) ch =>
            (a.1 && (a.2.draw.2.gate ch).out != GateOut.softOff && a.2.draw.1 % 2 == 0, a.2.draw.2)) (true, s)).2
      else s) s).Held P := by
    refine held_foldl h fun v x hv => ?_
    split
    · split
      · exact (hq v _ hv).of_eq rfl rfl rfl rfl rfl rfl rfl
      · exact hq v _ hv
    · exact hv
  revert h1
  generalize ([0, 1, 2].foldl _ s) = v
  intro h1
  split
  · split
    · exact (hq v [24 + k] h1).of_eq rfl rfl rfl rfl rfl rfl rfl
    · exact hq v [24 + k] h1
  · exact h1

theorem State.clearStack_held (h : s.Held P) {a1 : Nat} : (State.clearStack s a1).Held P := by
  unfold State.clearStack
  try lift_lets
  repeat' first
    | with_reducible assumption
    | (intro x; refine (?_ : State.Held P x → _) ?_; (on_goal 1 => (intro _; try clear_value x)); (on_goal 2 => unfold x))
    | (intro x; try clear_value x)
    | split
    | lift_lets
    | with_reducible refine State.modStack_held ?_
    | with_reducible refine State.unlockStack_held ?_
    | with_reducible refine State.Held.mk_of ?_

theorem State.clearMachine_held (h : s.Held P) {a1 : Nat} : (State.clearMachine s a1).Held P := by
  unfold State.clearMachine
  try lift_lets
  repeat' first
    | with_reducible assumption
    | (intro x; refine (?_ : State.Held P x → _) ?_; (on_goal 1 => (intro _; try clear_value x)); (on_goal 2 => unfold x))
    | (intro x; try clear_value x)
    | split
    | lift_lets
    | with_reducible refine State.modMotion_held ?_
    | with_reducible refine State.modStack_held ?_
    | with_reducible refine held_foldl ?_ (fun s x h => ?_)
    | with_reducible refine State.setObs_held ?_
    | with_reducible refine State.Held.mk_of ?_

theorem State.clearPort_held (h : s.Held P) {a1 : Nat} : (State.clearPort s a1).Held P := by
  unfold State.clearPort
  try lift_lets
  repeat' first
    | with_reducible assumption
    | (intro x; refine (?_ : State.Held P x → _) ?_; (on_goal 1 => (intro _; try clear_value x)); (on_goal 2 => unfold x))
    | (intro x; try clear_value x)
    | split
    | lift_lets
    | with_reducible refine State.setFb_held ?_
    | with_reducible refine State.fbUnref_held ?_

theorem State.clearAxis_held (h : s.Held P) {a1 : Nat} : (State.clearAxis s a1).Held P := by
  unfold State.clearAxis
  try lift_lets
  repeat' first
    | with_reducible assumption
    | (intro x; refine (?_ : State.Held P x → _) ?_; (on_goal 1 => (intro _; try clear_value x)); (on_goal 2 => unfold x))
    | (intro x; try clear_value x)
    | split
    | lift_lets
    | with_reducible refine State.modAxis_held ?_
    | with_reducible refine State.setAx_held ?_
    | with_reducible refine State.Held.mk_of ?_

theorem State.rejoin_held (h : s.Held P) {a1 : Nat} : (State.rejoin s a1).Held P := by
  unfold State.rejoin
  try lift_lets
  repeat' first
    | with_reducible assumption
    | (intro x; refine (?_ : State.Held P x → _) ?_; (on_goal 1 => (intro _; try clear_value x)); (on_goal 2 => unfold x))
    | (intro x; try clear_value x)
    | split
    | lift_lets
    | with_reducible refine State.modStack_held ?_
    | with_reducible refine State.Held.mk_of ?_

theorem State.leaveFault_held (h : s.Held P) : (State.leaveFault s).Held P := by
  unfold State.leaveFault
  try lift_lets
  repeat' first
    | with_reducible assumption
    | (intro x; refine (?_ : State.Held P x → _) ?_; (on_goal 1 => (intro _; try clear_value x)); (on_goal 2 => unfold x))
    | (intro x; try clear_value x)
    | split
    | lift_lets
    | with_reducible refine State.modFaults_held ?_ (fun hx => ?_)
    | with_reducible refine State.setDev_held ?_
    | with_reducible refine State.toReady_held ?_
    | with_reducible refine State.safetyDev_held ?_
    | (dsimp only; exact hx)
    | with_reducible refine State.Held.mk_of ?_
    | exact Nat.zero_le _
    | exact hx

theorem State.clearFaults_held (h : s.Held P) : (State.clearFaults s).Held P := by
  unfold State.clearFaults
  try lift_lets
  repeat' first
    | with_reducible assumption
    | (intro x; refine (?_ : State.Held P x → _) ?_; (on_goal 1 => (intro _; try clear_value x)); (on_goal 2 => unfold x))
    | (intro x; try clear_value x)
    | (have hx := ‹_ = (_, _)›; have h2 := congrArg Prod.snd hx; have h1 := congrArg Prod.fst hx; dsimp only at h1 h2; subst h1 h2; clear hx)
    | split
    | lift_lets
    | with_reducible refine State.modAux_held ?_
    | with_reducible refine held_foldl ?_ (fun s x h => ?_)
    | with_reducible refine State.settle_held ?_
    | with_reducible refine State.vinLevel_held ?_
    | with_reducible refine State.dropClear_held ?_
    | with_reducible refine State.endPowerFail_held ?_
    | with_reducible refine State.clearStack_held ?_
    | with_reducible refine State.clearMachine_held ?_
    | with_reducible refine State.clearPort_held ?_
    | with_reducible refine State.clearAxis_held ?_
    | with_reducible refine State.rejoin_held ?_
    | with_reducible refine State.leaveFault_held ?_
    | with_reducible refine State.Held.mk_of ?_

theorem opClearFault_held (h : s.Held P) : (opClearFault s).st.Held P := by
  unfold opClearFault
  try lift_lets
  repeat' first
    | with_reducible assumption
    | (intro x; refine (?_ : State.Held P x → _) ?_; (on_goal 1 => (intro _; try clear_value x)); (on_goal 2 => unfold x))
    | (intro x; try clear_value x)
    | split
    | lift_lets
    | with_reducible refine Rep.ok_held ?_
    | with_reducible refine Rep.no_held ?_
    | with_reducible refine State.clearFaults_held ?_

theorem State.doEnable_held (h : s.Held P) : (State.doEnable s).Held P := by
  unfold State.doEnable
  try lift_lets
  repeat' first
    | with_reducible assumption
    | (intro x; refine (?_ : State.Held P x → _) ?_; (on_goal 1 => (intro _; try clear_value x)); (on_goal 2 => unfold x))
    | (intro x; try clear_value x)
    | split
    | lift_lets
    | with_reducible refine State.modMotion_held ?_
    | with_reducible refine State.modSafety_held ?_
    | with_reducible refine State.modStack_held ?_
    | with_reducible refine held_foldl ?_ (fun s x h => ?_)
    | with_reducible refine State.setDev_held ?_
    | with_reducible refine State.settle_held ?_
    | with_reducible refine State.Held.mk_of ?_

theorem opEnable_held (h : s.Held P) : (opEnable s).st.Held P := by
  unfold opEnable
  repeat' first
    | with_reducible assumption
    | split
    | with_reducible refine Rep.ok_held ?_
    | with_reducible refine Rep.no_held ?_
    | with_reducible refine State.doEnable_held ?_

theorem State.doUnseal_held (h : s.Held P) : (State.doUnseal s).Held P := by
  unfold State.doUnseal
  try lift_lets
  repeat' first
    | with_reducible assumption
    | (intro x; refine (?_ : State.Held P x → _) ?_; (on_goal 1 => (intro _; try clear_value x)); (on_goal 2 => unfold x))
    | (intro x; try clear_value x)
    | split
    | lift_lets
    | with_reducible refine State.modPins_held ?_
    | with_reducible refine State.modSafety_held ?_
    | with_reducible refine State.modPair_held ?_
    | with_reducible refine State.modFaults_held ?_ (fun hx => ?_)
    | with_reducible refine held_foldl ?_ (fun s x h => ?_)
    | with_reducible refine State.setFb_held ?_
    | with_reducible refine State.setAx_held ?_
    | with_reducible refine State.setObs_held ?_
    | with_reducible refine State.setDev_held ?_
    | with_reducible refine State.settle_held ?_
    | with_reducible refine State.setBrakes_held ?_
    | with_reducible refine State.axOut_held ?_
    | with_reducible refine State.setPair_held ?_
    | with_reducible refine State.atRest_held ?_
    | (dsimp only; exact hx)
    | with_reducible refine State.Held.mk_of ?_
    | exact Nat.zero_le _
    | exact hx

theorem opUnseal_held (h : s.Held P) : (opUnseal s).st.Held P := by
  unfold opUnseal
  try lift_lets
  repeat' first
    | with_reducible assumption
    | (intro x; refine (?_ : State.Held P x → _) ?_; (on_goal 1 => (intro _; try clear_value x)); (on_goal 2 => unfold x))
    | (intro x; try clear_value x)
    | (have hx := ‹_ = (_, _)›; have h2 := congrArg Prod.snd hx; have h1 := congrArg Prod.fst hx; dsimp only at h1 h2; subst h1 h2; clear hx)
    | split
    | lift_lets
    | with_reducible refine Rep.ok_held ?_
    | with_reducible refine Rep.no_held ?_
    | with_reducible refine State.vinLevel_held ?_
    | with_reducible refine State.doUnseal_held ?_

theorem execWriteBlock_held (h : s.Held (Bal q none)) {t : Tick} {c : Source} {n : Nat} {p : Bytes} :
    OutHeld (Bal q none) (execWriteBlock t c n p s) := by
  unfold execWriteBlock
  exact runOp_held h fun m s ha h => opWriteBlock_held ha h

theorem execReadBlock_held (h : s.Held (Bal q none)) {a1 : Tick} {a2 : Source} {a3 : Nat} {a4 : Bytes} : OutHeld (Bal q none) (execReadBlock a1 a2 a3 a4 s) := by
  unfold execReadBlock
  refine runOp_held h fun m s _ h => ?_
  first
    | exact h
    | exact opReadBlock_held h

theorem execCheck_held (h : s.Held (Bal q none)) {a1 : Tick} {a2 : Source} {a3 : Nat} {a4 : Bytes} : OutHeld (Bal q none) (execCheck a1 a2 a3 a4 s) := by
  unfold execCheck
  refine runOp_held h fun m s _ h => ?_
  first
    | exact h
    | exact opCheck_held h

theorem execSealConfig_held (h : s.Held (Bal q none)) {a1 : Tick} {a2 : Source} {a3 : Nat} {a4 : Bytes} : OutHeld (Bal q none) (execSealConfig a1 a2 a3 a4 s) := by
  unfold execSealConfig
  refine runOp_held h fun m s _ h => ?_
  first
    | exact h
    | exact opSeal_held h

theorem execUnsealConfig_held (h : s.Held (Bal q none)) {a1 : Tick} {a2 : Source} {a3 : Nat} {a4 : Bytes} : OutHeld (Bal q none) (execUnsealConfig a1 a2 a3 a4 s) := by
  unfold execUnsealConfig
  refine runOp_held h fun m s _ h => ?_
  first
    | exact h
    | exact opUnseal_held h

theorem execGetFingerprint_held (h : s.Held (Bal q none)) {a1 : Tick} {a2 : Source} {a3 : Nat} {a4 : Bytes} : OutHeld (Bal q none) (execGetFingerprint a1 a2 a3 a4 s) := by
  unfold execGetFingerprint
  refine runOp_held h fun m s _ h => ?_
  first
    | exact h
    | exact opGetFingerprint_held h

theorem execEnable_held (h : s.Held (Bal q none)) {a1 : Tick} {a2 : Source} {a3 : Nat} {a4 : Bytes} : OutHeld (Bal q none) (execEnable a1 a2 a3 a4 s) := by
  unfold execEnable
  refine runOp_held h fun m s _ h => ?_
  first
    | exact h
    | exact opEnable_held h

theorem execClearFault_held (h : s.Held (Bal q none)) {a1 : Tick} {a2 : Source} {a3 : Nat} {a4 : Bytes} : OutHeld (Bal q none) (execClearFault a1 a2 a3 a4 s) := by
  unfold execClearFault
  refine runOp_held h fun m s _ h => ?_
  first
    | exact h
    | exact opClearFault_held h

theorem State.cyclicOff_held (h : s.Held P) {a1 : Source} : (State.cyclicOff s a1).Held P := by
  unfold State.cyclicOff
  repeat' first
    | with_reducible assumption
    | split
    | with_reducible refine State.modPort_held ?_ (fun p => ?_) (fun p hp => ?_)
    | exact ‹Port.queueOk _›
    | ((with_reducible refine ⟨?_, ?_⟩) <;> first | rfl | (dsimp only; split <;> rfl))
    | with_reducible refine State.Held.mk_of ?_

theorem State.watchStep1_held (h : s.Held (Bal q fl)) : (State.watchStep1 s).Held (Bal q fl) := by
  unfold State.watchStep1
  try lift_lets
  repeat' first
    | with_reducible assumption
    | (intro x; refine (?_ : State.Held (Bal q fl) x → _) ?_; (on_goal 1 => (intro _; try clear_value x)); (on_goal 2 => unfold x))
    | (intro x; try clear_value x)
    | split
    | lift_lets
    | with_reducible refine State.modPair_held ?_
    | with_reducible refine held_foldl ?_ (fun s x h => ?_)
    | with_reducible refine State.recState_held ?_
    | with_reducible refine State.dropOwner_held ?_
    | with_reducible refine State.unbind_held ?_
    | with_reducible refine State.returnUsers_held ?_
    | with_reducible refine State.timeInvalid_held ?_
    | with_reducible refine State.cyclicOff_held ?_
    | with_reducible refine State.Held.mk_of ?_

theorem opEnterWatch_held (h : s.Held (Bal q fl)) : (opEnterWatch s).st.Held (Bal q fl) := by
  unfold opEnterWatch
  repeat' first
    | with_reducible assumption
    | split
    | with_reducible refine State.modWatch_held ?_
    | with_reducible refine Rep.ok_held ?_
    | with_reducible refine Rep.no_held ?_
    | with_reducible refine State.watchStep1_held ?_
    | with_reducible refine State.Held.mk_of ?_

theorem execEnterWatch_held (h : s.Held (Bal q none)) {a1 : Tick} {a2 : Source} {a3 : Nat} {a4 : Bytes} : OutHeld (Bal q none) (execEnterWatch a1 a2 a3 a4 s) := by
  unfold execEnterWatch
  refine runOp_held h fun m s _ h => ?_
  first
    | exact h
    | exact opEnterWatch_held h

theorem State.wakeStep1_held (h : s.Held P) : (State.wakeStep1 s).Held P := by
  unfold State.wakeStep1
  repeat' first
    | with_reducible assumption
    | with_reducible refine State.modPins_held ?_
    | with_reducible refine State.modFb_held ?_
    | with_reducible refine held_foldl ?_ (fun s x h => ?_)
    | with_reducible refine State.Held.mk_of ?_

theorem execWatchEntryComplete_held (h : s.Held P) {a1 : Tick} : OutHeld P (execWatchEntryComplete a1 s) := by
  unfold execWatchEntryComplete
  try lift_lets
  repeat' first
    | with_reducible assumption
    | (intro x; refine (?_ : State.Held P x → _) ?_; (on_goal 1 => (intro _; try clear_value x)); (on_goal 2 => unfold x))
    | (intro x; try clear_value x)
    | split
    | lift_lets
    | with_reducible refine State.modWatch_held ?_
    | with_reducible refine State.modPins_held ?_
    | with_reducible refine State.modCol_held ?_
    | with_reducible refine State.modRecorder_held ?_
    | with_reducible refine State.modPair_held ?_
    | with_reducible refine State.upTo_held ?_
    | with_reducible refine OutHeld.next ?_
    | with_reducible refine OutHeld.next ?_
    | with_reducible refine State.sysXfer_held ?_
    | with_reducible refine State.flushHist_held ?_
    | with_reducible refine State.wakeStep1_held ?_
    | with_reducible refine State.Held.mk_of ?_

theorem State.wake_held (h : s.Held P) {a1 : WakeSource} : (State.wake s a1).Held P := by
  unfold State.wake
  repeat' first
    | with_reducible assumption
    | split
    | with_reducible refine State.modWatch_held ?_
    | with_reducible refine State.wakeStep1_held ?_
    | with_reducible refine State.Held.mk_of ?_

theorem execWakeEvent_held (h : s.Held P) {a1 : Tick} {a2 : WakeSource} : OutHeld P (execWakeEvent a1 a2 s) := by
  unfold execWakeEvent
  repeat' first
    | with_reducible assumption
    | with_reducible refine State.upTo_held ?_
    | with_reducible refine OutHeld.next ?_
    | with_reducible refine OutHeld.next ?_
    | with_reducible refine State.wake_held ?_

theorem execWatchSrefSample_held (h : s.Held P) {a1 : Tick} {a2 : Int} {a3 : Nat} : OutHeld P (execWatchSrefSample a1 a2 a3 s) := by
  unfold execWatchSrefSample
  try lift_lets
  repeat' first
    | with_reducible assumption
    | (intro x; refine (?_ : State.Held P x → _) ?_; (on_goal 1 => (intro _; try clear_value x)); (on_goal 2 => unfold x))
    | (intro x; try clear_value x)
    | split
    | lift_lets
    | with_reducible refine State.modWatch_held ?_
    | with_reducible refine State.upTo_held ?_
    | with_reducible refine OutHeld.next ?_
    | with_reducible refine OutHeld.next ?_
    | with_reducible refine State.wake_held ?_
    | with_reducible refine State.Held.mk_of ?_

theorem State.wakePort_held (h : s.Held P) {a1 : Nat} : (State.wakePort s a1).Held P := by
  unfold State.wakePort
  try lift_lets
  repeat' first
    | with_reducible assumption
    | (intro x; refine (?_ : State.Held P x → _) ?_; (on_goal 1 => (intro _; try clear_value x)); (on_goal 2 => unfold x))
    | (intro x; try clear_value x)
    | split
    | lift_lets
    | with_reducible refine State.modFb_held ?_
    | with_reducible refine State.fbUnref_held ?_
    | with_reducible refine State.Held.mk_of ?_

theorem State.wakeDev_held (h : s.Held P) : (State.wakeDev s).Held P := by
  unfold State.wakeDev
  repeat' first
    | with_reducible assumption
    | split
    | with_reducible refine State.setDev_held ?_
    | with_reducible refine State.toReady_held ?_
    | with_reducible refine State.safetyDev_held ?_

theorem execWakeComplete_held (h : s.Held P) {a1 : Tick} {a2 : Nat} : OutHeld P (execWakeComplete a1 a2 s) := by
  unfold execWakeComplete
  try lift_lets
  repeat' first
    | with_reducible assumption
    | (intro x; refine (?_ : State.Held P x → _) ?_; (on_goal 1 => (intro _)); (on_goal 2 => unfold x))
    | (intro x)
    | split
    | lift_lets
    | with_reducible refine State.modPower_held ?_
    | with_reducible refine State.modWatch_held ?_
    | with_reducible refine State.modPins_held ?_
    | with_reducible refine State.modSref_held ?_
    | with_reducible refine State.modSafety_held ?_
    | with_reducible refine State.modPair_held ?_
    | with_reducible refine State.modThermal_held ?_
    | with_reducible refine State.modStack_held ?_
    | with_reducible refine held_foldl ?_ (fun s x h => ?_)
    | with_reducible refine OutHeld.next ?_
    | with_reducible refine OutHeld.next ?_
    | with_reducible refine State.info_held ?_
    | with_reducible refine State.aonReport_held ?_
    | with_reducible refine State.wakePort_held ?_
    | with_reducible refine State.wakeDev_held ?_
    | with_reducible refine State.Held.mk_of ?_

theorem execWakeTimeout_held (h : s.Held (Bal q none)) {a1 : Tick} : OutHeld (Bal q none) (execWakeTimeout a1 s) := by
  unfold execWakeTimeout
  try lift_lets
  repeat' first
    | with_reducible assumption
    | (intro x; refine (?_ : State.Held (Bal q none) x → _) ?_; (on_goal 1 => (intro _; try clear_value x)); (on_goal 2 => unfold x))
    | (intro x; try clear_value x)
    | split
    | lift_lets
    | with_reducible refine State.upTo_held ?_
    | with_reducible refine OutHeld.next ?_
    | with_reducible refine OutHeld.next ?_
    | with_reducible refine State.enterReset_held ?_

theorem handler_held {c : Source} {n op : Nat} {p : Bytes} (ha : s.objection op c p = none) (h : s.Held (Bal q fl)) :
    (handler c n op p s).st.Held (Bal q fl) := by
  unfold handler
  split
  · exact opNop_held h
  · exact opIdentify_held h
  · exact opResetDevice_held h
  · exact opTakeOwnership_held h
  · exact opReleaseOwnership_held h
  · exact opReadEvents_held h
  · exact opAckEvents_held h
  · exact opEnterWatch_held h
  · exact opSetCyclic_held h
  · exact opGetTime_held h
  · exact opWriteBlock_held ha h
  · exact opReadBlock_held h
  · exact opCheck_held h
  · exact opSeal_held h
  · exact opUnseal_held h
  · exact opGetFingerprint_held h
  · exact opEnable_held h
  · exact opDisable_held h
  · exact opSetMode_held h
  · exact opSetTorque_held h
  · exact opSetSpeed_held h
  · exact opSetPosition_held h
  · exact opSetLimits_held h
  · exact opClearFault_held h
  · exact opCalibration_held h
  · exact opGetState_held h
  · exact opGetMeasurements_held h
  · exact opGetFaults_held h
  · exact opReadFaultHistory_held h
  · exact opGetCounters_held h
  · exact opGetTemperatures_held h
  · exact opSafetyLogin_held h
  · exact opSafetyLogout_held h
  · exact opWriteSafetyBlock_held ha h
  · exact opReadSafetyLog_held h
  · exact opAckSafetyLog_held h
  · exact opGetSafetyStatus_held h
  · exact opRequestSafetyFunction_held h
  · exact opChangePassword_held h
  · exact opAxisMove_held h
  · exact opAxisStop_held h
  · exact opAxisHome_held h
  · exact opGearSet_held h
  · exact opGearEvent_held h
  · exact opAxisStatus_held h
  · exact opRecorderSetup_held h
  · exact opRecorderArm_held h
  · exact opRecorderRead_held h
  · exact opRecorderTrigger_held h
  · exact opAppControl_held h
  · exact opAppMessage_held h
  · exact opColonnadeJoin_held h
  · exact opColonnadeLeave_held h
  · exact opColonnadeStatus_held h
  · exact opPairStatus_held h
  · exact opNetworkStatus_held h
  · exact opAlciaSend_held h
  · exact opUpdateStatus_held h
  · exact opUpdateConfirm_held h
  · exact h

theorem State.dispatch_held {c : Source} {m op n : Nat} {p : Bytes} (h : s.Held (Bal q (some (c, m)))) (hm : (s.port c).credits = m) (h8 : m < 8) :
    (State.dispatch s c op n p).Held (Bal q none) := by
  unfold State.dispatch
  split
  · exact State.carryUpd_held h hm h8
  · exact State.carryOut_held h hm h8 fun v ha hv => handler_held ha hv

theorem State.cyclicReply_held (h : s.Held P) {a1 : Source} {a2 : Nat} {a3 : Nat} {a4 : Bool} : (State.cyclicReply s a1 a2 a3 a4).Held P := by
  unfold State.cyclicReply
  try lift_lets
  repeat' first
    | with_reducible assumption
    | (intro x; refine (?_ : State.Held P x → _) ?_; (on_goal 1 => (intro _; try clear_value x)); (on_goal 2 => unfold x))
    | (intro x; try clear_value x)
    | split
    | lift_lets
    | with_reducible refine State.modApp_held ?_
    | with_reducible refine State.modPort_held ?_ (fun p => ?_) (fun p hp => ?_)
    | exact ‹Port.queueOk _›
    | ((with_reducible refine ⟨?_, ?_⟩) <;> first | rfl | (dsimp only; split <;> rfl))
    | with_reducible refine State.Held.mk_of ?_

theorem State.rejectCyc_held (h : s.Held P) {a1 : Source} {a2 : Nat} {a3 : Nat} : (State.rejectCyc s a1 a2 a3).Held P := by
  unfold State.rejectCyc
  try lift_lets
  repeat' first
    | with_reducible assumption
    | (intro x; refine (?_ : State.Held P x → _) ?_; (on_goal 1 => (intro _; try clear_value x)); (on_goal 2 => unfold x))
    | (intro x; try clear_value x)
    | split
    | lift_lets
    | with_reducible refine State.modPort_held ?_ (fun p => ?_) (fun p hp => ?_)
    | exact ‹Port.queueOk _›
    | ((with_reducible refine ⟨?_, ?_⟩) <;> first | rfl | (dsimp only; split <;> rfl))
    | with_reducible refine State.countReject_held ?_
    | with_reducible refine State.cyclicReply_held ?_
    | with_reducible refine State.Held.mk_of ?_

theorem State.cyclicIn_held (h : s.Held P) {c : Source} {n : Nat} {p : Bytes} {u : Tick} : (State.cyclicIn s c n p u).Held P := by
  unfold State.cyclicIn
  have h1 : (s.noteRecv c).Held P := State.noteRecv_held h
  generalize s.noteRecv c = v at h1 ⊢
  dsimp only
  split
  · exact State.rejectCyc_held h1
  · split
    · exact State.rejectCyc_held h1
    · split
      · exact State.rejectCyc_held h1
      · refine State.modPort_held ?_ (fun p => ⟨rfl, rfl⟩) (fun p hp => hp)
        split
        · exact State.modCounters_held h1 fun k ⟨h1, h2, h3, h4, h5, _, h7⟩ => ⟨h1, h2, h3, h4, h5, satN_lt 4 _, h7⟩
        · exact h1

theorem State.packetIn_held (h : s.Held (Bal q none)) {c : Source} {w : Bytes} {cut : Bool} {cyc : Option Nat} {u : Tick} :
    (State.packetIn s c w cut cyc u).Held (Bal q none) := by
  unfold State.packetIn
  have hx : s.countPacket.Held (Bal q none) := State.countPacket_held h
  generalize s.countPacket = v at hx ⊢
  dsimp only
  split
  · split
    · exact State.rejectCyc_held hx
    · exact State.cyclicIn_held hx
  · split
    · exact State.overCredit_held hx
    · rename_i hc
      have h1 := State.takeCredit_held hx hc
      have h2 := State.takeCredit_lt hx hc
      split
      · exact State.reject_held h1 h2.1 h2.2
      · exact State.dispatch_held h1 h2.1 h2.2

theorem State.ctrlWord_held (h : s.Held P) {a1 : Option Bytes} {a2 : Bytes} : (State.ctrlWord s a1 a2).2.Held P := by
  unfold State.ctrlWord
  try lift_lets
  repeat' first
    | with_reducible assumption
    | (intro x; refine (?_ : State.Held P x → _) ?_; (on_goal 1 => (intro _)); (on_goal 2 => unfold x))
    | (intro g; refine (?_ : (∀ s, State.Held P s → State.Held P (g s)) → _) ?_; (on_goal 1 => (intro _)); (on_goal 2 => (unfold g; intro s _)))
    | (intro g; refine (?_ : (∀ s n, State.Held P s → State.Held P (g s n)) → _) ?_; (on_goal 1 => (intro _)); (on_goal 2 => (unfold g; intro s _ _)))
    | (intro x)
    | (have hx := ‹_ = (_, _)›; have h2 := congrArg Prod.snd hx; have h1 := congrArg Prod.fst hx; dsimp only at h1 h2; subst h1 h2; clear hx)
    | split
    | lift_lets
    | with_reducible refine State.startStop_held ?_
    | with_reducible refine opClearFault_held ?_
    | with_reducible refine opEnable_held ?_

theorem State.latchApply_held (h : s.Held P) {a1 : Source} {a2 : Nat} {a3 : Bytes} : (State.latchApply s a1 a2 a3).Held P := by
  unfold State.latchApply
  try lift_lets
  repeat' first
    | with_reducible assumption
    | (intro x; refine (?_ : State.Held P x → _) ?_; (on_goal 1 => (intro _; try clear_value x)); (on_goal 2 => unfold x))
    | (intro x; try clear_value x)
    | (have hx := ‹_ = (_, _)›; have h2 := congrArg Prod.snd hx; have h1 := congrArg Prod.fst hx; dsimp only at h1 h2; subst h1 h2; clear hx)
    | split
    | lift_lets
    | with_reducible refine State.modMotion_held ?_
    | with_reducible refine State.modApp_held ?_
    | with_reducible refine State.modPort_held ?_ (fun p => ?_) (fun p hp => ?_)
    | exact ‹Port.queueOk _›
    | ((with_reducible refine ⟨?_, ?_⟩) <;> first | rfl | (dsimp only; split <;> rfl))
    | with_reducible refine State.cyclicReply_held ?_
    | with_reducible refine State.ctrlWord_held ?_
    | with_reducible refine State.Held.mk_of ?_

theorem State.latchMiss_held (h : s.Held P) {c : Source} {r : Option (Nat × Nat)} : (State.latchMiss s c r).Held P := by
  unfold State.latchMiss
  dsimp only
  have h0 : (s.modPort c fun x => { x with cyclic := { x.cyclic with missed := (s.port c).cyclic.missed + 1 } }).Held P :=
    State.modPort_held h (fun p => ⟨rfl, rfl⟩) (fun p hp => hp)
  generalize (s.modPort c fun x => { x with cyclic := { x.cyclic with missed := (s.port c).cyclic.missed + 1 } }) = z at h0 ⊢
  have h00 : (z.modCounters fun k => { k with missed := satN 4 (k.missed + 1) }).Held P :=
    State.modCounters_held h0 fun _ hk => match hk with | ⟨a, b, c, d, _, e⟩ => ⟨a, b, c, d, satN_lt 4 _, e⟩
  generalize (z.modCounters fun k => { k with missed := satN 4 (k.missed + 1) }) = y at h00 ⊢
  have h1 : (y.raise 0x8103 2 (sourceId c) []).Held P := State.raise_held h00
  generalize y.raise 0x8103 2 (sourceId c) [] = v at h1 ⊢
  repeat' first
    | with_reducible assumption
    | split
    | with_reducible refine State.cyclicReply_held ?_
    | with_reducible refine State.loseOwner_held ?_
    | with_reducible refine State.raise_held ?_

theorem execCyclicLatch_held (h : s.Held P) {a1 : Tick} {a2 : Source} : OutHeld P (execCyclicLatch a1 a2 s) := by
  unfold execCyclicLatch
  try lift_lets
  repeat' first
    | with_reducible assumption
    | (intro x; refine (?_ : State.Held P x → _) ?_; (on_goal 1 => (intro _; try clear_value x)); (on_goal 2 => unfold x))
    | (intro x; try clear_value x)
    | split
    | lift_lets
    | with_reducible refine State.modPort_held ?_ (fun p => ?_) (fun p hp => ?_)
    | exact ‹Port.queueOk _›
    | ((with_reducible refine ⟨?_, ?_⟩) <;> first | rfl | (dsimp only; split <;> rfl))
    | with_reducible refine State.upTo_held ?_
    | with_reducible refine OutHeld.next ?_
    | with_reducible refine OutHeld.next ?_
    | with_reducible refine State.latchMiss_held ?_
    | with_reducible refine State.latchApply_held ?_
    | with_reducible refine State.Held.mk_of ?_

theorem State.deafWindow_held (h : s.Held P) {a1 : Nat} {a2 : Tick} : (State.deafWindow s a1 a2).Held P := by
  unfold State.deafWindow
  repeat' first
    | with_reducible assumption
    | split
    | with_reducible refine State.modPins_held ?_
    | with_reducible refine State.Held.mk_of ?_

theorem State.hostDeliver_held (h : s.Held (Bal q none)) {n : Nat} {b : Tick} : (State.hostDeliver s n b).Held (Bal q none) := by
  unfold State.hostDeliver
  split
  · split
    · exact State.deliver_held h
    · exact h
  · exact h

theorem State.replyWindow_held (h : s.Held (Bal q none)) {n : Nat} {b : Tick} : (State.replyWindow s n b).Held (Bal q none) := by
  unfold State.replyWindow
  lift_lets
  intro m
  exact State.modPins_held (State.hostDeliver_held h)

theorem State.cyclicWindow_held (h : s.Held P) {a1 : Nat} {a2 : Tick} : (State.cyclicWindow s a1 a2).Held P := by
  unfold State.cyclicWindow
  try lift_lets
  repeat' first
    | with_reducible assumption
    | (intro x; refine (?_ : State.Held P x → _) ?_; (on_goal 1 => (intro _; try clear_value x)); (on_goal 2 => unfold x))
    | (intro x; try clear_value x)
    | split
    | lift_lets
    | with_reducible refine State.modPins_held ?_
    | with_reducible refine State.modPort_held ?_ (fun p => ?_) (fun p hp => ?_)
    | exact ‹Port.queueOk _›
    | ((with_reducible refine ⟨?_, ?_⟩) <;> first | rfl | (dsimp only; split <;> rfl))
    | with_reducible refine State.Held.mk_of ?_

theorem State.hostSync_held (h : s.Held P) {c : Source} : (State.hostSync s c).Held P := by
  unfold State.hostSync
  refine State.info_held (State.modCounters_held h fun k hk => ?_)
  exact ⟨hk.1, hk.2.1, hk.2.2.1, satN_lt 4 _, hk.2.2.2.2⟩

theorem execPacketWindow_held (h : s.Held (Bal q none)) {a1 : WindowAt} {a2 : Bytes} {a3 : Bool} : OutHeld (Bal q none) (execPacketWindow a1 a2 a3 s) := by
  unfold execPacketWindow
  try lift_lets
  repeat' first
    | with_reducible assumption
    | (intro x; refine (?_ : State.Held (Bal q none) x → _) ?_; (on_goal 1 => (intro _; try clear_value x)); (on_goal 2 => unfold x))
    | (intro x; try clear_value x)
    | split
    | lift_lets
    | with_reducible refine State.upTo_held ?_
    | with_reducible refine OutHeld.next ?_
    | with_reducible refine OutHeld.next ?_
    | with_reducible refine State.packetIn_held ?_
    | with_reducible refine State.deafWindow_held ?_
    | with_reducible refine State.replyWindow_held ?_
    | with_reducible refine State.cyclicWindow_held ?_

theorem execPollWindow_held (h : s.Held (Bal q none)) {a1 : WindowAt} {a2 : Nat} : OutHeld (Bal q none) (execPollWindow a1 a2 s) := by
  unfold execPollWindow
  try lift_lets
  repeat' first
    | with_reducible assumption
    | (intro x; refine (?_ : State.Held (Bal q none) x → _) ?_; (on_goal 1 => (intro _; try clear_value x)); (on_goal 2 => unfold x))
    | (intro x; try clear_value x)
    | split
    | lift_lets
    | with_reducible refine State.upTo_held ?_
    | with_reducible refine OutHeld.next ?_
    | with_reducible refine OutHeld.next ?_
    | with_reducible refine State.deafWindow_held ?_
    | with_reducible refine State.replyWindow_held ?_

theorem execRepeatWindow_held (h : s.Held P) {a1 : WindowAt} {a2 : Nat} : OutHeld P (execRepeatWindow a1 a2 s) := by
  unfold execRepeatWindow
  try lift_lets
  repeat' first
    | with_reducible assumption
    | (intro x; refine (?_ : State.Held P x → _) ?_; (on_goal 1 => (intro _; try clear_value x)); (on_goal 2 => unfold x))
    | (intro x; try clear_value x)
    | split
    | lift_lets
    | with_reducible refine State.modPins_held ?_
    | with_reducible refine State.upTo_held ?_
    | with_reducible refine OutHeld.next ?_
    | with_reducible refine OutHeld.next ?_
    | with_reducible refine State.deafWindow_held ?_
    | with_reducible refine State.Held.mk_of ?_

theorem execDiscardedWindow_held (h : s.Held P) {a1 : WindowAt} {a2 : Byte} {a3 : Nat} : OutHeld P (execDiscardedWindow a1 a2 a3 s) := by
  unfold execDiscardedWindow
  try lift_lets
  repeat' first
    | with_reducible assumption
    | (intro x; refine (?_ : State.Held P x → _) ?_; (on_goal 1 => (intro _; try clear_value x)); (on_goal 2 => unfold x))
    | (intro x; try clear_value x)
    | split
    | lift_lets
    | with_reducible refine State.upTo_held ?_
    | with_reducible refine OutHeld.next ?_
    | with_reducible refine OutHeld.next ?_
    | with_reducible refine State.hostSync_held ?_
    | with_reducible refine State.deafWindow_held ?_

theorem execCyclic_held (h : s.Held P) {a1 : Tick} {a2 : Source} {a3 : Nat} {a4 : Bytes} : OutHeld P (execCyclic a1 a2 a3 a4 s) := by
  unfold execCyclic
  try lift_lets
  repeat' first
    | with_reducible assumption
    | (intro x; refine (?_ : State.Held P x → _) ?_; (on_goal 1 => (intro _; try clear_value x)); (on_goal 2 => unfold x))
    | (intro x; try clear_value x)
    | split
    | lift_lets
    | with_reducible refine State.upTo_held ?_
    | with_reducible refine OutHeld.next ?_
    | with_reducible refine OutHeld.next ?_
    | with_reducible refine State.countPacket_held ?_
    | with_reducible refine State.cyclicIn_held ?_
    | with_reducible refine State.rejectCyc_held ?_
    | with_reducible refine State.cyclicWindow_held ?_

theorem execServicePortPacket_held (h : s.Held (Bal q none)) {a1 : Tick} {a2 : Bytes} : OutHeld (Bal q none) (execServicePortPacket a1 a2 s) := by
  unfold execServicePortPacket
  try lift_lets
  repeat' first
    | with_reducible assumption
    | (intro x; refine (?_ : State.Held (Bal q none) x → _) ?_; (on_goal 1 => (intro _; try clear_value x)); (on_goal 2 => unfold x))
    | (intro x; try clear_value x)
    | split
    | lift_lets
    | with_reducible refine State.upTo_held ?_
    | with_reducible refine OutHeld.next ?_
    | with_reducible refine OutHeld.next ?_
    | with_reducible refine State.packetIn_held ?_

theorem execServicePacketGap_held (h : s.Held (Bal q none)) {a1 : Tick} {a2 : Bytes} : OutHeld (Bal q none) (execServicePacketGap a1 a2 s) := by
  unfold execServicePacketGap
  try lift_lets
  repeat' first
    | with_reducible assumption
    | (intro x; refine (?_ : State.Held (Bal q none) x → _) ?_; (on_goal 1 => (intro _; try clear_value x)); (on_goal 2 => unfold x))
    | (intro x; try clear_value x)
    | split
    | lift_lets
    | with_reducible refine State.upTo_held ?_
    | with_reducible refine OutHeld.next ?_
    | with_reducible refine OutHeld.next ?_
    | with_reducible refine State.packetIn_held ?_

theorem execServiceReplySent_held (h : s.Held (Bal q none)) {t : Tick} : OutHeld (Bal q none) (execServiceReplySent t s) := by
  unfold execServiceReplySent
  refine OutHeld.next ?_
  have h1 : (s.upTo t).Held (Bal q none) := State.upTo_held h
  generalize s.upTo t = u at h1 ⊢
  split
  · rename_i r _ _ _
    have h2 : ((u.deliver .service).modPins fun p => { p with svtx := r.bytes }).Held (Bal q none) := State.modPins_held (State.deliver_held h1)
    generalize ((u.deliver .service).modPins fun p => { p with svtx := r.bytes }) = v at h2 ⊢
    dsimp only
    split
    · split
      · exact State.modUpd_held h2 rfl
      · exact h2
    · exact h2
  · exact h1

theorem execServiceByteOutsidePacket_held (h : s.Held P) {a1 : Tick} : OutHeld P (execServiceByteOutsidePacket a1 s) := by
  unfold execServiceByteOutsidePacket
  try lift_lets
  repeat' first
    | with_reducible assumption
    | (intro x; refine (?_ : State.Held P x → _) ?_; (on_goal 1 => (intro _; try clear_value x)); (on_goal 2 => unfold x))
    | (intro x; try clear_value x)
    | split
    | lift_lets
    | with_reducible refine State.upTo_held ?_
    | with_reducible refine OutHeld.next ?_
    | with_reducible refine OutHeld.next ?_
    | with_reducible refine State.hostSync_held ?_

theorem State.rejectSill_held {m n e : Nat} (h : s.Held (Bal q (some (.service, m)))) (hm : (s.port .service).credits = m) (h8 : m < 8) :
    (State.rejectSill s n e).Held (Bal q none) :=
  State.countReject_held (State.queueReply_held h rfl h8 (Nat.le_of_eq hm))

theorem execSillRecoveryFrame_held (h : s.Held (Bal q none)) {t : Tick} {b : Bytes} : OutHeld (Bal q none) (execSillRecoveryFrame t b s) := by
  unfold execSillRecoveryFrame
  refine OutHeld.next ?_
  have h1 : (s.upTo t).Held (Bal q none) := State.upTo_held h
  generalize s.upTo t = u at h1 ⊢
  dsimp only
  split
  · exact h1
  · have hx : u.countPacket.Held (Bal q none) := State.countPacket_held h1
    generalize u.countPacket = v at hx ⊢
    split
    · exact State.overCredit_held hx
    · rename_i hc
      have h2 := State.takeCredit_held hx hc
      have h3 := State.takeCredit_lt hx hc
      split
      · exact State.rejectSill_held h2 h3.1 h3.2
      · exact State.sillCommand_held h2 h3.1 h3.2

theorem State.doorbell_held (h : s.Held (Bal q none)) {a1 : Nat} : (State.doorbell s a1).Held (Bal q none) := by
  unfold State.doorbell
  try lift_lets
  repeat' first
    | with_reducible assumption
    | (intro x; refine (?_ : State.Held (Bal q none) x → _) ?_; (on_goal 1 => (intro _; try clear_value x)); (on_goal 2 => unfold x))
    | (intro x; try clear_value x)
    | split
    | lift_lets
    | with_reducible refine State.packetIn_held ?_
    | with_reducible refine State.hostSync_held ?_

theorem execCmdDoorbell_held (h : s.Held (Bal q none)) {a1 : Tick} {a2 : BitVec 32} : OutHeld (Bal q none) (execCmdDoorbell a1 a2 s) := by
  unfold execCmdDoorbell
  repeat' first
    | with_reducible assumption
    | with_reducible refine State.upTo_held ?_
    | with_reducible refine OutHeld.next ?_
    | with_reducible refine OutHeld.next ?_
    | with_reducible refine State.doorbell_held ?_

theorem State.replyDone_held (h : s.Held (Bal q none)) {n : Nat} : (State.replyDone s n).Held (Bal q none) := by
  unfold State.replyDone
  dsimp only
  split
  · split
    · exact State.deliver_held (State.modApp_held h)
    · exact h
  · exact h

theorem execReplyDone_held (h : s.Held (Bal q none)) {a1 : Tick} {a2 : BitVec 32} : OutHeld (Bal q none) (execReplyDone a1 a2 s) := by
  unfold execReplyDone
  try lift_lets
  repeat' first
    | with_reducible assumption
    | (intro x; refine (?_ : State.Held (Bal q none) x → _) ?_; (on_goal 1 => (intro _; try clear_value x)); (on_goal 2 => unfold x))
    | (intro x; try clear_value x)
    | split
    | lift_lets
    | with_reducible refine State.upTo_held ?_
    | with_reducible refine OutHeld.next ?_
    | with_reducible refine OutHeld.next ?_
    | with_reducible refine State.replyDone_held ?_

theorem State.pokeCh_held (h : s.Held (Bal q fl)) {a1 : Nat} {a2 : Nat} {a3 : Byte} : (State.pokeCh s a1 a2 a3).Held (Bal q fl) := by
  unfold State.pokeCh
  repeat' first
    | with_reducible assumption
    | split
    | with_reducible refine State.modCh_held ?_
    | with_reducible refine State.dmaStart_held ?_
    | with_reducible refine State.dmaResume_held ?_
    | with_reducible refine State.dmaAbort_held ?_
    | with_reducible refine State.Held.mk_of ?_

theorem State.pokeDtu_held (h : s.Held P) {a1 : Nat} {a2 : Byte} : (State.pokeDtu s a1 a2).Held P := by
  unfold State.pokeDtu
  repeat' first
    | with_reducible assumption
    | split
    | with_reducible refine State.modDma_held ?_
    | with_reducible refine State.dtuWrite_held ?_
    | with_reducible refine State.Held.mk_of ?_

theorem State.pokePort_held (h : s.Held P) {a1 : Nat} {a2 : Byte} : (State.pokePort s a1 a2).Held P := by
  unfold State.pokePort
  try lift_lets
  repeat' first
    | with_reducible assumption
    | (intro x; refine (?_ : State.Held P x → _) ?_; (on_goal 1 => (intro _)); (on_goal 2 => unfold x))
    | (intro g; refine (?_ : (∀ s, State.Held P s → State.Held P (g s)) → _) ?_; (on_goal 1 => (intro _)); (on_goal 2 => (unfold g; intro s _)))
    | (intro g; refine (?_ : (∀ s n, State.Held P s → State.Held P (g s n)) → _) ?_; (on_goal 1 => (intro _)); (on_goal 2 => (unfold g; intro s _ _)))
    | (intro x)
    | split
    | lift_lets
    | with_reducible refine State.modApp_held ?_
    | with_reducible refine State.Held.mk_of ?_

theorem State.poke_held (h : s.Held (Bal q fl)) {a1 : Nat} {a2 : Byte} : (State.poke s a1 a2).Held (Bal q fl) := by
  unfold State.poke
  repeat' first
    | with_reducible assumption
    | split
    | with_reducible refine State.storePa_held ?_
    | with_reducible refine State.pokeCh_held ?_
    | with_reducible refine State.pokeDtu_held ?_
    | with_reducible refine State.pokePort_held ?_

theorem State.pokes_held (h : s.Held (Bal q fl)) {a : Nat} {b : Bytes} : (State.pokes s a b).Held (Bal q fl) := by
  induction b generalizing s a with
  | nil => exact h
  | cons x r ih => exact ih (State.poke_held h)

theorem execRegisterWrite_held (h : s.Held (Bal q none)) {t : Tick} {a : Nat} {b : Bytes} : OutHeld (Bal q none) (execRegisterWrite t a b s) := by
  unfold execRegisterWrite
  refine OutHeld.next ?_
  have h1 : (s.upTo t).Held (Bal q none) := State.upTo_held h
  generalize s.upTo t = u at h1 ⊢
  repeat' first
    | split
    | with_reducible exact h1
    | with_reducible exact State.appFault_held h1
    | with_reducible exact State.doorbell_held h1
    | with_reducible exact State.replyDone_held h1
    | with_reducible exact State.dtuWrite_held h1
    | with_reducible exact State.pokes_held h1

theorem State.remoteBusy_held (h : s.Held P) {a1 : Nat} {a2 : Nat} {a3 : Nat} {a4 : Nat} {a5 : Nat} {a6 : Nat} : (State.remoteBusy s a1 a2 a3 a4 a5 a6).Held P := by
  unfold State.remoteBusy
  try lift_lets
  repeat' first
    | with_reducible assumption
    | (intro x; refine (?_ : State.Held P x → _) ?_; (on_goal 1 => (intro _; try clear_value x)); (on_goal 2 => unfold x))
    | (intro x; try clear_value x)
    | lift_lets
    | with_reducible refine State.alReplyTo_held ?_

theorem State.bind_held (h : s.Held (Bal q fl)) {a b : Nat} : (State.bind s a b).Held (Bal q fl) := by
  unfold State.bind
  have h1 : (s.modAlcia fun x => { x with bound := some (b, a, s.stamp), bindLate := false, rplPos := 0 }).Held (Bal q fl) := State.modAlcia_held h
  generalize (s.modAlcia fun x => { x with bound := some (b, a, s.stamp), bindLate := false, rplPos := 0 }) = v at h1 ⊢
  dsimp only
  have h2 : (v.modPort .alcia fun x => { x with replies := [], credits := 8 }).Held (Bal q fl) :=
    State.restore_held h1 (by decide) (fun p => ⟨rfl, rfl⟩) (fun p hp => hp)
  exact State.netEvent_held h2

/-- Replies that get class, TAG and port are owed as before. -/
theorem Port.owed_retag (l : List Reply) (k : Nat) (f : Reply → Reply) (hf : ∀ r, (f r).nc = r.nc) :
    (l.take k ++ (l.drop k).map f).countP (fun r => !r.nc) = l.countP fun r => !r.nc := by
  have h1 : l.countP (fun r => !r.nc) = (l.take k).countP (fun r => !r.nc) + (l.drop k).countP fun r => !r.nc := by
    rw [← List.countP_append, List.take_append_drop]
  rw [List.countP_append, List.countP_map, h1]
  congr 1
  congr 1
  funext r
  simp [hf]

theorem State.boundWindow_held (h : s.Held (Bal q none)) {a b c d : Nat} {w : Bytes} {u : Tick} :
    (State.boundWindow s a b c d w u).Held (Bal q none) := by
  unfold State.boundWindow
  dsimp only
  have hf : ∀ f, (s.modAlcia f).Held (Bal q none) := fun f => State.modAlcia_held h
  generalize (s.owner != some .alcia && s.alcia.bound.any fun b => decide (b.2.2 + msTicks (s.nodeB 8 2) < u)) = late
  have h1 := hf fun x => { x with bound := x.bound.map (fun y => (y.1, y.2.1, max y.2.2 u)), bindLate := x.bindLate || late }
  generalize (s.modAlcia fun x => { x with bound := x.bound.map (fun y => (y.1, y.2.1, max y.2.2 u)), bindLate := x.bindLate || late }) = v at h1 ⊢
  split
  · split
    · exact State.alReplyTo_held h1
    · exact h1
  · refine State.modPort_held (State.packetIn_held ?_) (fun p => ⟨rfl, Port.owed_retag _ _ _ fun r => rfl⟩) (fun p hp => hp)
    split
    · exact State.modPort_held (State.alReplyTo_held h1) (fun p => ⟨rfl, rfl⟩) (fun p hp => hp)
    · exact h1

theorem State.remoteWindow_held (h : s.Held (Bal q none)) {a1 : Nat} {a2 : Nat} {a3 : Nat} {a4 : Nat} {a5 : Bytes} {a6 : Tick} : (State.remoteWindow s a1 a2 a3 a4 a5 a6).Held (Bal q none) := by
  unfold State.remoteWindow
  try lift_lets
  repeat' first
    | with_reducible assumption
    | (intro x; refine (?_ : State.Held (Bal q none) x → _) ?_; (on_goal 1 => (intro _; try clear_value x)); (on_goal 2 => unfold x))
    | (intro x; try clear_value x)
    | split
    | lift_lets
    | with_reducible refine State.hostSync_held ?_
    | with_reducible refine State.bind_held ?_
    | with_reducible refine State.boundWindow_held ?_
    | with_reducible refine State.remoteBusy_held ?_

theorem State.cmdSeg_held (h : s.Held (Bal q none)) {a1 : Nat} {a2 : Nat} {a3 : Nat} {a4 : Bytes} {a5 : Tick} : (State.cmdSeg s a1 a2 a3 a4 a5).Held (Bal q none) := by
  unfold State.cmdSeg
  repeat' first
    | with_reducible assumption
    | (intro x; refine (?_ : State.Held (Bal q none) x → _) ?_; (on_goal 1 => (intro _; try clear_value x)); (on_goal 2 => unfold x))
    | (intro g; refine (?_ : (∀ s, State.Held (Bal q none) s → State.Held (Bal q none) (g s)) → _) ?_; (on_goal 1 => (intro _; try clear_value g)); (on_goal 2 => (unfold g; intro s _)))
    | (intro g; refine (?_ : (∀ s n, State.Held (Bal q none) s → State.Held (Bal q none) (g s n)) → _) ?_; (on_goal 1 => (intro _; try clear_value g)); (on_goal 2 => (unfold g; intro s _ _)))
    | (intro x; try clear_value x)
    | (dsimp only; split)
    | split
    | with_reducible refine State.modAlcia_held ?_
    | with_reducible refine OutHeld.next ?_
    | with_reducible refine OutHeld.next ?_
    | with_reducible refine State.alIgnore_held ?_
    | with_reducible refine State.remoteWindow_held ?_
    | with_reducible refine State.Held.mk_of ?_

theorem State.announceRx_held (h : s.Held P) {a1 : Nat} {a2 : Bytes} : (State.announceRx s a1 a2).Held P := by
  unfold State.announceRx
  try lift_lets
  repeat' first
    | with_reducible assumption
    | (intro x; refine (?_ : State.Held P x → _) ?_; (on_goal 1 => (intro _; try clear_value x)); (on_goal 2 => unfold x))
    | (intro x; try clear_value x)
    | split
    | lift_lets
    | with_reducible refine State.modAlcia_held ?_
    | with_reducible refine State.Held.mk_of ?_

theorem State.bridgeConflict_held (h : s.Held (Bal q fl)) {a1 : Nat} {a2 : Nat} : (State.bridgeConflict s a1 a2).Held (Bal q fl) := by
  unfold State.bridgeConflict
  try lift_lets
  repeat' first
    | with_reducible assumption
    | (intro x; refine (?_ : State.Held (Bal q fl) x → _) ?_; (on_goal 1 => (intro _; try clear_value x)); (on_goal 2 => unfold x))
    | (intro x; try clear_value x)
    | split
    | lift_lets
    | with_reducible refine State.modAlcia_held ?_
    | with_reducible refine State.netEvent_held ?_
    | with_reducible refine State.alStop_held ?_
    | with_reducible refine State.Held.mk_of ?_

theorem State.bridgeRx_held (h : s.Held (Bal q fl)) {a1 : Nat} {a2 : Nat} {a3 : Bytes} {a4 : Tick} : (State.bridgeRx s a1 a2 a3 a4).Held (Bal q fl) := by
  unfold State.bridgeRx
  try lift_lets
  repeat' first
    | with_reducible assumption
    | (intro x; refine (?_ : State.Held (Bal q fl) x → _) ?_; (on_goal 1 => (intro _; try clear_value x)); (on_goal 2 => unfold x))
    | (intro x; try clear_value x)
    | split
    | lift_lets
    | with_reducible refine State.modAl_held ?_
    | with_reducible refine State.rollCall_held ?_
    | with_reducible refine State.bridgeConflict_held ?_
    | with_reducible refine State.Held.mk_of ?_

theorem State.summaryRx_held (h : s.Held P) {a1 : Nat} {a2 : Bytes} {a3 : Tick} : (State.summaryRx s a1 a2 a3).Held P := by
  unfold State.summaryRx
  try lift_lets
  repeat' first
    | with_reducible assumption
    | (intro x; refine (?_ : State.Held P x → _) ?_; (on_goal 1 => (intro _; try clear_value x)); (on_goal 2 => unfold x))
    | (intro x; try clear_value x)
    | split
    | lift_lets
    | with_reducible refine State.modAlcia_held ?_
    | with_reducible refine State.Held.mk_of ?_

theorem State.claimRx_held (h : s.Held P) {a1 : Nat} {a2 : Bytes} {a3 : Tick} : (State.claimRx s a1 a2 a3).Held P := by
  unfold State.claimRx
  try lift_lets
  repeat' first
    | with_reducible assumption
    | (intro x; refine (?_ : State.Held P x → _) ?_; (on_goal 1 => (intro _; try clear_value x)); (on_goal 2 => unfold x))
    | (intro x; try clear_value x)
    | split
    | lift_lets
    | with_reducible refine State.modAlcia_held ?_
    | with_reducible refine State.duplicate_held ?_
    | with_reducible refine State.Held.mk_of ?_

theorem State.pairRx_held (h : s.Held P) {a1 : Nat} {a2 : Nat} {a3 : Nat} {a4 : Bytes} {a5 : Tick} : (State.pairRx s a1 a2 a3 a4 a5).Held P := by
  unfold State.pairRx
  try lift_lets
  repeat' first
    | with_reducible assumption
    | (intro x; refine (?_ : State.Held P x → _) ?_; (on_goal 1 => (intro _; try clear_value x)); (on_goal 2 => unfold x))
    | (intro x; try clear_value x)
    | split
    | lift_lets
    | with_reducible refine State.modPair_held ?_
    | with_reducible refine State.alIgnore_held ?_
    | with_reducible refine State.queryOutcome_held ?_
    | with_reducible refine State.pairMessage_held ?_
    | with_reducible refine State.Held.mk_of ?_

theorem State.systemRx_held (h : s.Held (Bal q none)) {a1 : Nat} {a2 : CanFrame} : (State.systemRx s a1 a2).Held (Bal q none) := by
  unfold State.systemRx
  try lift_lets
  repeat' first
    | with_reducible assumption
    | (intro x; refine (?_ : State.Held (Bal q none) x → _) ?_; (on_goal 1 => (intro _; try clear_value x)); (on_goal 2 => unfold x))
    | (intro x; try clear_value x)
    | split
    | lift_lets
    | with_reducible refine State.syncRx_held ?_
    | with_reducible refine State.followRx_held ?_
    | with_reducible refine State.cmdSeg_held ?_
    | with_reducible refine State.announceRx_held ?_
    | with_reducible refine State.bridgeRx_held ?_
    | with_reducible refine State.summaryRx_held ?_
    | with_reducible refine State.claimRx_held ?_
    | with_reducible refine State.pairRx_held ?_

theorem State.forwardOn_held (h : s.Held P) {a1 : CanFrame} {a2 : Nat} : (State.forwardOn s a1 a2).Held P := by
  unfold State.forwardOn
  try lift_lets
  repeat' first
    | with_reducible assumption
    | (intro x; refine (?_ : State.Held P x → _) ?_; (on_goal 1 => (intro _; try clear_value x)); (on_goal 2 => unfold x))
    | (intro x; try clear_value x)
    | split
    | lift_lets
    | with_reducible refine State.modAl_held ?_
    | with_reducible refine State.alPut_held ?_
    | with_reducible refine State.Held.mk_of ?_

theorem State.frameRx_held (h : s.Held (Bal q none)) {a1 : Nat} {a2 : CanFrame} : (State.frameRx s a1 a2).Held (Bal q none) := by
  unfold State.frameRx
  try lift_lets
  repeat' first
    | with_reducible assumption
    | (intro x; refine (?_ : State.Held (Bal q none) x → _) ?_; (on_goal 1 => (intro _; try clear_value x)); (on_goal 2 => unfold x))
    | (intro x; try clear_value x)
    | (have hx := ‹_ = (_, _)›; have h2 := congrArg Prod.snd hx; have h1 := congrArg Prod.fst hx; dsimp only at h1 h2; subst h1 h2; clear hx)
    | split
    | lift_lets
    | with_reducible refine State.modAl_held ?_
    | with_reducible refine held_foldl ?_ (fun s x h => ?_)
    | with_reducible refine State.alLocal_held ?_
    | with_reducible refine State.alIgnore_held ?_
    | with_reducible refine State.systemRx_held ?_
    | with_reducible refine State.forwardOn_held ?_
    | with_reducible refine State.Held.mk_of ?_

theorem execAlciaFrameRx_held (h : s.Held (Bal q none)) {a1 : Tick} {a2 : Fin 2} {a3 : CanFrame} : OutHeld (Bal q none) (execAlciaFrameRx a1 a2 a3 s) := by
  unfold execAlciaFrameRx
  try lift_lets
  repeat' first
    | with_reducible assumption
    | (intro x; refine (?_ : State.Held (Bal q none) x → _) ?_; (on_goal 1 => (intro _; try clear_value x)); (on_goal 2 => unfold x))
    | (intro x; try clear_value x)
    | (have hx := ‹_ = (_, _)›; have h2 := congrArg Prod.snd hx; have h1 := congrArg Prod.fst hx; dsimp only at h1 h2; subst h1 h2; clear hx)
    | split
    | lift_lets
    | with_reducible refine State.modAl_held ?_
    | with_reducible refine State.upTo_held ?_
    | with_reducible refine State.draw_held ?_
    | with_reducible refine OutHeld.next ?_
    | with_reducible refine OutHeld.next ?_
    | with_reducible refine State.alPump_held ?_
    | with_reducible refine State.alIgnore_held ?_
    | with_reducible refine State.frameRx_held ?_
    | with_reducible refine State.Held.mk_of ?_

end Sys2Proof.Machine
end

