-- ==== Sys2Proof/WellFormed.lean ====
section
/-! DEFINITION. Well-formed commands: the limits the manual puts on what can arrive at all. A command that is not well-formed
cannot be produced by any sender (a payload longer than a packet holds, a 17-bit SEQ, a CAN frame with too many data bytes);
its meaning is still total. -/
namespace Sys2Proof

/-- A packet's SEQ has 16 bits and its payload at most 4,096 bytes (R93). -/
def okPacket (seq : Nat) (payload : Bytes) : Bool := decide (seq < 65536) && decide (payload.length ≤ 4096)

/-- A CAN frame (R495, R500): identifier of 29 or 11 bits, up to 64 data bytes with FDF and 8 without, none for a remote frame
with FDF. -/
def CanFrame.ok (f : CanFrame) : Bool :=
  decide (f.ident < (if f.extended then 2 ^ 29 else 2 ^ 11)) &&
    decide (f.data.length ≤ (if f.fdf then 64 else 8)) && !(f.remote && f.fdf)

/-- The limits of a command's operands. -/
def Instr.wf : Instr → Bool
  | .packetWindow t rest _ => decide (rest.length ≤ 4111) && decide (t.fall ≤ t.t)
  | .pollWindow t len => decide (1 ≤ len) && decide (t.fall ≤ t.t)
  | .repeatWindow t len => decide (1 ≤ len) && decide (t.fall ≤ t.t)
  | .discardedWindow t _ len => decide (1 ≤ len) && decide (t.fall ≤ t.t)
  | .servicePortPacket _ _ => true
  | .servicePacketGap _ _ => true
  | .sillRecoveryFrame _ _ => true
  | .cmdDoorbell _ _ => true
  | .replyDone _ _ => true
  | .cyclic _ _ q p => okPacket q p
  | .cyclicLatch _ _ => true
  | .nop _ _ q p => okPacket q p
  | .identify _ _ q p => okPacket q p
  | .resetDevice _ _ q p => okPacket q p
  | .takeOwnership _ _ q p => okPacket q p
  | .releaseOwnership _ _ q p => okPacket q p
  | .readEvents _ _ q p => okPacket q p
  | .ackEvents _ _ q p => okPacket q p
  | .enterWatch _ _ q p => okPacket q p
  | .watchEntryComplete _ => true
  | .setCyclic _ _ q p => okPacket q p
  | .getTime _ _ q p => okPacket q p
  | .writeBlock _ _ q p => okPacket q p
  | .readBlock _ _ q p => okPacket q p
  | .check _ _ q p => okPacket q p
  | .sealConfig _ _ q p => okPacket q p
  | .unsealConfig _ _ q p => okPacket q p
  | .getFingerprint _ _ q p => okPacket q p
  | .enable _ _ q p => okPacket q p
  | .disable _ _ q p => okPacket q p
  | .setMode _ _ q p => okPacket q p
  | .setTorque _ _ q p => okPacket q p
  | .setSpeed _ _ q p => okPacket q p
  | .setPosition _ _ q p => okPacket q p
  | .setLimits _ _ q p => okPacket q p
  | .clearFault _ _ q p => okPacket q p
  | .calibrationStop _ _ q p => okPacket q p
  | .calibrationStart _ _ q p => okPacket q p
  | .calibrationRestore _ _ q p => okPacket q p
  | .getState _ _ q p => okPacket q p
  | .getMeasurements _ _ q p => okPacket q p
  | .getFaults _ _ q p => okPacket q p
  | .readFaultHistory _ _ q p => okPacket q p
  | .getCounters _ _ q p => okPacket q p
  | .getTemperatures _ _ q p => okPacket q p
  | .safetyLogin _ _ q p => okPacket q p
  | .safetyLogout _ _ q p => okPacket q p
  | .writeSafetyBlock _ _ q p => okPacket q p
  | .readSafetyLog _ _ q p => okPacket q p
  | .ackSafetyLog _ _ q p => okPacket q p
  | .getSafetyStatus _ _ q p => okPacket q p
  | .requestSafetyFunction _ _ q p => okPacket q p
  | .changePassword _ _ q p => okPacket q p
  | .axisMove _ _ q p => okPacket q p
  | .axisStop _ _ q p => okPacket q p
  | .axisHome _ _ q p => okPacket q p
  | .gearEngage _ _ q p => okPacket q p
  | .gearDisengage _ _ q p => okPacket q p
  | .gearSetRatioNow _ _ q p => okPacket q p
  | .gearEvent _ _ q p => okPacket q p
  | .axisStatus _ _ q p => okPacket q p
  | .recorderSetup _ _ q p => okPacket q p
  | .recorderArm _ _ q p => okPacket q p
  | .recorderRead _ _ q p => okPacket q p
  | .recorderTrigger _ _ q p => okPacket q p
  | .appStart _ _ q p => okPacket q p
  | .appStop _ _ q p => okPacket q p
  | .appSuspend _ _ q p => okPacket q p
  | .suspendComplete _ => true
  | .appMessage _ _ q p => okPacket q p
  | .colonnadeJoin _ _ q p => okPacket q p
  | .colonnadeLeave _ _ q p => okPacket q p
  | .colonnadeStatus _ _ q p => okPacket q p
  | .pairStatus _ _ q p => okPacket q p
  | .networkStatus _ _ q p => okPacket q p
  | .alciaSend _ _ q p => okPacket q p
  | .updateStatus _ _ q p => okPacket q p
  | .updateConfirm _ _ q p => okPacket q p
  | .updateOffer _ _ q p => okPacket q p
  | .updateData _ _ q p => okPacket q p
  | .updateVerify _ _ q p => okPacket q p
  | .updateActivate _ _ q p => okPacket q p
  | .updateAbort _ _ q p => okPacket q p
  | .updateSessionTimeout _ => true
  | .relayTimeout _ => true
  | .slotEraseSector _ => true
  | .registerWrite _ _ _ => true
  | .dmaCmdStart _ _ => true
  | .dmaCmdResume _ _ => true
  | .dmaCmdAbort _ _ => true
  | .dtuInval _ _ => true
  | .dtuInvalComplete _ => true
  | .dmaSlotGrant _ => true
  | .dmaDescriptorFetch _ _ => true
  | .dmaBeat _ _ => true
  | .faultRecordPost _ _ => true
  | .driveMessageInterrupt _ => true
  | .throttlePeriod _ => true
  | .appWatchdogExpiry _ => true
  | .programFault _ _ _ => true
  | .programExit _ => true
  | .recorderFlush _ => true
  | .vinOn _ _ => true
  | .vinLow _ _ => true
  | .powerFail _ _ => true
  | .vinReset _ => true
  | .aonMin _ => true
  | .vinHigh _ _ => true
  | .vinHighLasting _ => true
  | .vinOvr _ => true
  | .vinOvrRelease _ => true
  | .railFault _ _ => true
  | .resetExit _ => true
  | .xtal32Qualified _ => true
  | .xtal32Fail _ _ => true
  | .xtal32Retry _ => true
  | .resetNLow _ _ => true
  | .resetNRelease _ _ => true
  | .kpResetHoldEnd _ _ => true
  | .clockFault _ => true
  | .pllLockLoss _ _ => true
  | .bootComplete _ => true
  | .dramClearComplete _ => true
  | .wakeEvent _ _ => true
  | .watchSrefSample _ _ _ => true
  | .wakeComplete _ _ => true
  | .wakeTimeout _ => true
  | .watchdogService _ _ => true
  | .watchdogExpiry _ => true
  | .ownTimeoutExpiry _ _ => true
  | .carrierZero _ _ => true
  | .decimatedSample _ _ _ => true
  | .dsStuck _ _ _ => true
  | .fieldEngineCycle _ _ => true
  | .chopperOpen _ _ _ => true
  | .chopperShort _ _ => true
  | .dcUndervoltage _ _ => true
  | .dcUndervoltageClear _ _ => true
  | .ov3Trip _ _ => true
  | .reconstructionSample _ _ _ => true
  | .calPeriodEnd _ _ => true
  | .sarSlot _ _ _ => true
  | .outerLoopCycle _ => true
  | .stopChange _ _ _ => true
  | .stopStandstill _ => true
  | .stopTimeout _ => true
  | .srefTestCurrent _ _ _ => true
  | .srefWireBreak _ _ => true
  | .srefWireBreakEnd _ => true
  | .shortCircuit _ _ _ => true
  | .gateSupplyUv _ _ _ => true
  | .noCommandTimeout _ _ => true
  | .boosterFault _ _ _ => true
  | .plateauTimeout _ _ => true
  | .transitionMeasured _ _ _ _ => true
  | .millerClampEngage _ _ => true
  | .shootThroughAttempt _ _ => true
  | .thermalEvaluation _ _ => true
  | .feedbackEdge _ _ _ => true
  | .hallChange _ _ _ => true
  | .toothEdge _ _ _ => true
  | .serialFrame _ _ _ => true
  | .indexLatch _ _ => true
  | .fbSignalLoss _ _ _ => true
  | .fbSupply _ _ _ => true
  | .encPupEnd _ _ => true
  | .probeEnd _ _ => true
  | .startEvaluation _ _ => true
  | .handoverTimeout _ _ => true
  | .catchAttempt _ _ => true
  | .obsLossLasting _ _ => true
  | .snapSbcRequest _ => true
  | .axisCycle _ => true
  | .holdCurrentTimeout _ _ => true
  | .stepperChopTrip _ _ _ => true
  | .stepperToffEnd _ _ _ => true
  | .refreshSequence _ _ => true
  | .prechargeDone _ _ _ => true
  | .bootstrapUv _ _ => true
  | .auxBusOv _ _ => true
  | .auxShootThroughAttempt _ _ => true
  | .axOvercurrent _ _ => true
  | .switchChange _ _ _ _ _ _ => true
  | .sharingCycle _ => true
  | .shareFrame _ f => decide (f.length ≤ 64)
  | .replyFrame _ f => decide (f.length ≤ 64)
  | .replyDeadline _ => true
  | .rollSend _ => true
  | .rollFrame _ _ => true
  | .formationTimeout _ => true
  | .colDetached _ => true
  | .heartbeatSend _ => true
  | .heartbeat _ _ => true
  | .mirrorFrame _ _ => true
  | .pairCheckSend _ => true
  | .mirrorAck _ _ => true
  | .bulkFrame _ _ => true
  | .bridleLinkUp _ => true
  | .bridleLinkDown _ => true
  | .heartbeatLoss _ => true
  | .arbitrationOutcome _ _ => true
  | .pairQueryTimeout _ => true
  | .alciaFrameRx _ _ f => f.ok
  | .alciaFrameTxDone _ _ _ => true
  | .alciaTxError _ _ _ => true
  | .busOffRecovery _ _ => true
  | .probeSend _ _ => true
  | .addrClaimSend _ => true
  | .addrClaimDecision _ => true
  | .syncSend _ _ => true
  | .followUpSend _ _ => true
  | .syncTimeout _ _ => true
  | .syncCandidateStart _ _ => true
  | .bridgeAnnounceSend _ => true
  | .announceSend _ => true
  | .routeSummarySend _ => true
  | .segmentTimeout _ _ => true
  | .cmdTransferTimeout _ _ => true
  | .bindTimeout _ => true
  | .testPulseWindow _ _ _ => true
  | .safetyInputChange _ _ _ _ _ _ => true
  | .siDiscrepancy _ _ _ _ => true
  | .ss1EnvelopeCheck _ _ _ => true
  | .ss1End _ _ _ => true
  | .brakeSetTimeEnd _ _ _ => true
  | .ss1Timeout _ _ => true
  | .brakeReleaseRequest _ _ => true
  | .brakeReleaseComplete _ _ => true
  | .brakeTestPulse _ _ _ _ => true
  | .brakeOvercurrent _ _ => true
  | .kpPositionEdge _ _ => true
  | .kpSpeedTimeout _ _ => true
  | .safetyChannelDiscrepancy _ _ _ => true
  | .kpPositionFault _ _ _ => true
  | .safeAckPress _ _ => true
  | .safeAckRelease _ _ => true
  | .safeAckStuck _ _ => true
  | .commissioningGrantExpiry _ _ => true
  | .readbackMismatch _ _ => true
  | .loginLockoutEnd _ => true
  | .lockstepMismatch _ _ _ => true
  | .debugAttached _ => true
  | .scrubBurst _ _ _ words _ => decide (words.length ≤ 64)
  | .alertN _ _ _ => true
  | .faultHistoryAppend _ => true
  | .pwmEdge _ _ _ => true
  | .holdSwitchEngage _ _ => true
  | .boostSoftEnd _ _ => true
  | .gateSupplyUvEnd _ _ _ => true
  | .fbSignalLossEnd _ _ _ => true
  | .vbrkLow _ _ => true
  | .brakeCoilCurrentLow _ _ => true
  | .srefEdge _ _ => true
  | .axisPwmPeriod _ _ => true
  | .commandResetDue _ => true
  | .serviceReplySent _ => true
  | .serviceByteOutsidePacket _ => true

end Sys2Proof
end

