-- ==== Sys2Proof/Laws/PerInstr.lean ====
section
/-! SUPPORT. What is said of every command as syntax, one lemma per constructor: a well-formed packet has a 16-bit SEQ and at most 4,096 bytes of
payload (R93, R97). -/
namespace Sys2Proof.Laws

/-- The SEQ and the payload of a command that is a packet of the opcode set. -/
def packetOf : Instr → Option (Nat × Bytes)
  | .cyclic _ _ q p => some (q, p)
  | .nop _ _ q p => some (q, p)
  | .identify _ _ q p => some (q, p)
  | .resetDevice _ _ q p => some (q, p)
  | .takeOwnership _ _ q p => some (q, p)
  | .releaseOwnership _ _ q p => some (q, p)
  | .readEvents _ _ q p => some (q, p)
  | .ackEvents _ _ q p => some (q, p)
  | .enterWatch _ _ q p => some (q, p)
  | .setCyclic _ _ q p => some (q, p)
  | .getTime _ _ q p => some (q, p)
  | .writeBlock _ _ q p => some (q, p)
  | .readBlock _ _ q p => some (q, p)
  | .check _ _ q p => some (q, p)
  | .sealConfig _ _ q p => some (q, p)
  | .unsealConfig _ _ q p => some (q, p)
  | .getFingerprint _ _ q p => some (q, p)
  | .enable _ _ q p => some (q, p)
  | .disable _ _ q p => some (q, p)
  | .setMode _ _ q p => some (q, p)
  | .setTorque _ _ q p => some (q, p)
  | .setSpeed _ _ q p => some (q, p)
  | .setPosition _ _ q p => some (q, p)
  | .setLimits _ _ q p => some (q, p)
  | .clearFault _ _ q p => some (q, p)
  | .calibrationStop _ _ q p => some (q, p)
  | .calibrationStart _ _ q p => some (q, p)
  | .calibrationRestore _ _ q p => some (q, p)
  | .getState _ _ q p => some (q, p)
  | .getMeasurements _ _ q p => some (q, p)
  | .getFaults _ _ q p => some (q, p)
  | .readFaultHistory _ _ q p => some (q, p)
  | .getCounters _ _ q p => some (q, p)
  | .getTemperatures _ _ q p => some (q, p)
  | .safetyLogin _ _ q p => some (q, p)
  | .safetyLogout _ _ q p => some (q, p)
  | .writeSafetyBlock _ _ q p => some (q, p)
  | .readSafetyLog _ _ q p => some (q, p)
  | .ackSafetyLog _ _ q p => some (q, p)
  | .getSafetyStatus _ _ q p => some (q, p)
  | .requestSafetyFunction _ _ q p => some (q, p)
  | .changePassword _ _ q p => some (q, p)
  | .axisMove _ _ q p => some (q, p)
  | .axisStop _ _ q p => some (q, p)
  | .axisHome _ _ q p => some (q, p)
  | .gearEngage _ _ q p => some (q, p)
  | .gearDisengage _ _ q p => some (q, p)
  | .gearSetRatioNow _ _ q p => some (q, p)
  | .gearEvent _ _ q p => some (q, p)
  | .axisStatus _ _ q p => some (q, p)
  | .recorderSetup _ _ q p => some (q, p)
  | .recorderArm _ _ q p => some (q, p)
  | .recorderRead _ _ q p => some (q, p)
  | .recorderTrigger _ _ q p => some (q, p)
  | .appStart _ _ q p => some (q, p)
  | .appStop _ _ q p => some (q, p)
  | .appSuspend _ _ q p => some (q, p)
  | .appMessage _ _ q p => some (q, p)
  | .colonnadeJoin _ _ q p => some (q, p)
  | .colonnadeLeave _ _ q p => some (q, p)
  | .colonnadeStatus _ _ q p => some (q, p)
  | .pairStatus _ _ q p => some (q, p)
  | .networkStatus _ _ q p => some (q, p)
  | .alciaSend _ _ q p => some (q, p)
  | .updateStatus _ _ q p => some (q, p)
  | .updateConfirm _ _ q p => some (q, p)
  | .updateOffer _ _ q p => some (q, p)
  | .updateData _ _ q p => some (q, p)
  | .updateVerify _ _ q p => some (q, p)
  | .updateActivate _ _ q p => some (q, p)
  | .updateAbort _ _ q p => some (q, p)
  | _ => none

/-- A well-formed packet has a 16-bit SEQ and a payload of at most 4,096 bytes. -/
def Payload.Statement (i : Instr) : Prop :=
  i.wf = true → ∀ q p, packetOf i = some (q, p) → q < 65536 ∧ p.length ≤ 4096

theorem okPacket_bounds {a q : Nat} {b p : Bytes} (h : okPacket a b = true) (e : some (a, b) = some (q, p)) : q < 65536 ∧ p.length ≤ 4096 := by
  cases e; simpa [okPacket] using h

theorem Payload.packetWindow {x0 x1 x2} : Payload.Statement (.packetWindow x0 x1 x2) := fun _ _ _ e => nomatch e
theorem Payload.pollWindow {x0 x1} : Payload.Statement (.pollWindow x0 x1) := fun _ _ _ e => nomatch e
theorem Payload.repeatWindow {x0 x1} : Payload.Statement (.repeatWindow x0 x1) := fun _ _ _ e => nomatch e
theorem Payload.discardedWindow {x0 x1 x2} : Payload.Statement (.discardedWindow x0 x1 x2) := fun _ _ _ e => nomatch e
theorem Payload.servicePortPacket {x0 x1} : Payload.Statement (.servicePortPacket x0 x1) := fun _ _ _ e => nomatch e
theorem Payload.servicePacketGap {x0 x1} : Payload.Statement (.servicePacketGap x0 x1) := fun _ _ _ e => nomatch e
theorem Payload.sillRecoveryFrame {x0 x1} : Payload.Statement (.sillRecoveryFrame x0 x1) := fun _ _ _ e => nomatch e
theorem Payload.cmdDoorbell {x0 x1} : Payload.Statement (.cmdDoorbell x0 x1) := fun _ _ _ e => nomatch e
theorem Payload.replyDone {x0 x1} : Payload.Statement (.replyDone x0 x1) := fun _ _ _ e => nomatch e
theorem Payload.cyclic {x0 x1 x2 x3} : Payload.Statement (.cyclic x0 x1 x2 x3) := fun h _ _ e => okPacket_bounds h e
theorem Payload.cyclicLatch {x0 x1} : Payload.Statement (.cyclicLatch x0 x1) := fun _ _ _ e => nomatch e
theorem Payload.nop {x0 x1 x2 x3} : Payload.Statement (.nop x0 x1 x2 x3) := fun h _ _ e => okPacket_bounds h e
theorem Payload.identify {x0 x1 x2 x3} : Payload.Statement (.identify x0 x1 x2 x3) := fun h _ _ e => okPacket_bounds h e
theorem Payload.resetDevice {x0 x1 x2 x3} : Payload.Statement (.resetDevice x0 x1 x2 x3) := fun h _ _ e => okPacket_bounds h e
theorem Payload.takeOwnership {x0 x1 x2 x3} : Payload.Statement (.takeOwnership x0 x1 x2 x3) := fun h _ _ e => okPacket_bounds h e
theorem Payload.releaseOwnership {x0 x1 x2 x3} : Payload.Statement (.releaseOwnership x0 x1 x2 x3) := fun h _ _ e => okPacket_bounds h e
theorem Payload.readEvents {x0 x1 x2 x3} : Payload.Statement (.readEvents x0 x1 x2 x3) := fun h _ _ e => okPacket_bounds h e
theorem Payload.ackEvents {x0 x1 x2 x3} : Payload.Statement (.ackEvents x0 x1 x2 x3) := fun h _ _ e => okPacket_bounds h e
theorem Payload.enterWatch {x0 x1 x2 x3} : Payload.Statement (.enterWatch x0 x1 x2 x3) := fun h _ _ e => okPacket_bounds h e
theorem Payload.watchEntryComplete {x0} : Payload.Statement (.watchEntryComplete x0) := fun _ _ _ e => nomatch e
theorem Payload.setCyclic {x0 x1 x2 x3} : Payload.Statement (.setCyclic x0 x1 x2 x3) := fun h _ _ e => okPacket_bounds h e
theorem Payload.getTime {x0 x1 x2 x3} : Payload.Statement (.getTime x0 x1 x2 x3) := fun h _ _ e => okPacket_bounds h e
theorem Payload.writeBlock {x0 x1 x2 x3} : Payload.Statement (.writeBlock x0 x1 x2 x3) := fun h _ _ e => okPacket_bounds h e
theorem Payload.readBlock {x0 x1 x2 x3} : Payload.Statement (.readBlock x0 x1 x2 x3) := fun h _ _ e => okPacket_bounds h e
theorem Payload.check {x0 x1 x2 x3} : Payload.Statement (.check x0 x1 x2 x3) := fun h _ _ e => okPacket_bounds h e
theorem Payload.sealConfig {x0 x1 x2 x3} : Payload.Statement (.sealConfig x0 x1 x2 x3) := fun h _ _ e => okPacket_bounds h e
theorem Payload.unsealConfig {x0 x1 x2 x3} : Payload.Statement (.unsealConfig x0 x1 x2 x3) := fun h _ _ e => okPacket_bounds h e
theorem Payload.getFingerprint {x0 x1 x2 x3} : Payload.Statement (.getFingerprint x0 x1 x2 x3) := fun h _ _ e => okPacket_bounds h e
theorem Payload.enable {x0 x1 x2 x3} : Payload.Statement (.enable x0 x1 x2 x3) := fun h _ _ e => okPacket_bounds h e
theorem Payload.disable {x0 x1 x2 x3} : Payload.Statement (.disable x0 x1 x2 x3) := fun h _ _ e => okPacket_bounds h e
theorem Payload.setMode {x0 x1 x2 x3} : Payload.Statement (.setMode x0 x1 x2 x3) := fun h _ _ e => okPacket_bounds h e
theorem Payload.setTorque {x0 x1 x2 x3} : Payload.Statement (.setTorque x0 x1 x2 x3) := fun h _ _ e => okPacket_bounds h e
theorem Payload.setSpeed {x0 x1 x2 x3} : Payload.Statement (.setSpeed x0 x1 x2 x3) := fun h _ _ e => okPacket_bounds h e
theorem Payload.setPosition {x0 x1 x2 x3} : Payload.Statement (.setPosition x0 x1 x2 x3) := fun h _ _ e => okPacket_bounds h e
theorem Payload.setLimits {x0 x1 x2 x3} : Payload.Statement (.setLimits x0 x1 x2 x3) := fun h _ _ e => okPacket_bounds h e
theorem Payload.clearFault {x0 x1 x2 x3} : Payload.Statement (.clearFault x0 x1 x2 x3) := fun h _ _ e => okPacket_bounds h e
theorem Payload.calibrationStop {x0 x1 x2 x3} : Payload.Statement (.calibrationStop x0 x1 x2 x3) := fun h _ _ e => okPacket_bounds h e
theorem Payload.calibrationStart {x0 x1 x2 x3} : Payload.Statement (.calibrationStart x0 x1 x2 x3) := fun h _ _ e => okPacket_bounds h e
theorem Payload.calibrationRestore {x0 x1 x2 x3} : Payload.Statement (.calibrationRestore x0 x1 x2 x3) := fun h _ _ e => okPacket_bounds h e
theorem Payload.getState {x0 x1 x2 x3} : Payload.Statement (.getState x0 x1 x2 x3) := fun h _ _ e => okPacket_bounds h e
theorem Payload.getMeasurements {x0 x1 x2 x3} : Payload.Statement (.getMeasurements x0 x1 x2 x3) := fun h _ _ e => okPacket_bounds h e
theorem Payload.getFaults {x0 x1 x2 x3} : Payload.Statement (.getFaults x0 x1 x2 x3) := fun h _ _ e => okPacket_bounds h e
theorem Payload.readFaultHistory {x0 x1 x2 x3} : Payload.Statement (.readFaultHistory x0 x1 x2 x3) := fun h _ _ e => okPacket_bounds h e
theorem Payload.getCounters {x0 x1 x2 x3} : Payload.Statement (.getCounters x0 x1 x2 x3) := fun h _ _ e => okPacket_bounds h e
theorem Payload.getTemperatures {x0 x1 x2 x3} : Payload.Statement (.getTemperatures x0 x1 x2 x3) := fun h _ _ e => okPacket_bounds h e
theorem Payload.safetyLogin {x0 x1 x2 x3} : Payload.Statement (.safetyLogin x0 x1 x2 x3) := fun h _ _ e => okPacket_bounds h e
theorem Payload.safetyLogout {x0 x1 x2 x3} : Payload.Statement (.safetyLogout x0 x1 x2 x3) := fun h _ _ e => okPacket_bounds h e
theorem Payload.writeSafetyBlock {x0 x1 x2 x3} : Payload.Statement (.writeSafetyBlock x0 x1 x2 x3) := fun h _ _ e => okPacket_bounds h e
theorem Payload.readSafetyLog {x0 x1 x2 x3} : Payload.Statement (.readSafetyLog x0 x1 x2 x3) := fun h _ _ e => okPacket_bounds h e
theorem Payload.ackSafetyLog {x0 x1 x2 x3} : Payload.Statement (.ackSafetyLog x0 x1 x2 x3) := fun h _ _ e => okPacket_bounds h e
theorem Payload.getSafetyStatus {x0 x1 x2 x3} : Payload.Statement (.getSafetyStatus x0 x1 x2 x3) := fun h _ _ e => okPacket_bounds h e
theorem Payload.requestSafetyFunction {x0 x1 x2 x3} : Payload.Statement (.requestSafetyFunction x0 x1 x2 x3) := fun h _ _ e => okPacket_bounds h e
theorem Payload.changePassword {x0 x1 x2 x3} : Payload.Statement (.changePassword x0 x1 x2 x3) := fun h _ _ e => okPacket_bounds h e
theorem Payload.axisMove {x0 x1 x2 x3} : Payload.Statement (.axisMove x0 x1 x2 x3) := fun h _ _ e => okPacket_bounds h e
theorem Payload.axisStop {x0 x1 x2 x3} : Payload.Statement (.axisStop x0 x1 x2 x3) := fun h _ _ e => okPacket_bounds h e
theorem Payload.axisHome {x0 x1 x2 x3} : Payload.Statement (.axisHome x0 x1 x2 x3) := fun h _ _ e => okPacket_bounds h e
theorem Payload.gearEngage {x0 x1 x2 x3} : Payload.Statement (.gearEngage x0 x1 x2 x3) := fun h _ _ e => okPacket_bounds h e
theorem Payload.gearDisengage {x0 x1 x2 x3} : Payload.Statement (.gearDisengage x0 x1 x2 x3) := fun h _ _ e => okPacket_bounds h e
theorem Payload.gearSetRatioNow {x0 x1 x2 x3} : Payload.Statement (.gearSetRatioNow x0 x1 x2 x3) := fun h _ _ e => okPacket_bounds h e
theorem Payload.gearEvent {x0 x1 x2 x3} : Payload.Statement (.gearEvent x0 x1 x2 x3) := fun h _ _ e => okPacket_bounds h e
theorem Payload.axisStatus {x0 x1 x2 x3} : Payload.Statement (.axisStatus x0 x1 x2 x3) := fun h _ _ e => okPacket_bounds h e
theorem Payload.recorderSetup {x0 x1 x2 x3} : Payload.Statement (.recorderSetup x0 x1 x2 x3) := fun h _ _ e => okPacket_bounds h e
theorem Payload.recorderArm {x0 x1 x2 x3} : Payload.Statement (.recorderArm x0 x1 x2 x3) := fun h _ _ e => okPacket_bounds h e
theorem Payload.recorderRead {x0 x1 x2 x3} : Payload.Statement (.recorderRead x0 x1 x2 x3) := fun h _ _ e => okPacket_bounds h e
theorem Payload.recorderTrigger {x0 x1 x2 x3} : Payload.Statement (.recorderTrigger x0 x1 x2 x3) := fun h _ _ e => okPacket_bounds h e
theorem Payload.appStart {x0 x1 x2 x3} : Payload.Statement (.appStart x0 x1 x2 x3) := fun h _ _ e => okPacket_bounds h e
theorem Payload.appStop {x0 x1 x2 x3} : Payload.Statement (.appStop x0 x1 x2 x3) := fun h _ _ e => okPacket_bounds h e
theorem Payload.appSuspend {x0 x1 x2 x3} : Payload.Statement (.appSuspend x0 x1 x2 x3) := fun h _ _ e => okPacket_bounds h e
theorem Payload.suspendComplete {x0} : Payload.Statement (.suspendComplete x0) := fun _ _ _ e => nomatch e
theorem Payload.appMessage {x0 x1 x2 x3} : Payload.Statement (.appMessage x0 x1 x2 x3) := fun h _ _ e => okPacket_bounds h e
theorem Payload.colonnadeJoin {x0 x1 x2 x3} : Payload.Statement (.colonnadeJoin x0 x1 x2 x3) := fun h _ _ e => okPacket_bounds h e
theorem Payload.colonnadeLeave {x0 x1 x2 x3} : Payload.Statement (.colonnadeLeave x0 x1 x2 x3) := fun h _ _ e => okPacket_bounds h e
theorem Payload.colonnadeStatus {x0 x1 x2 x3} : Payload.Statement (.colonnadeStatus x0 x1 x2 x3) := fun h _ _ e => okPacket_bounds h e
theorem Payload.pairStatus {x0 x1 x2 x3} : Payload.Statement (.pairStatus x0 x1 x2 x3) := fun h _ _ e => okPacket_bounds h e
theorem Payload.networkStatus {x0 x1 x2 x3} : Payload.Statement (.networkStatus x0 x1 x2 x3) := fun h _ _ e => okPacket_bounds h e
theorem Payload.alciaSend {x0 x1 x2 x3} : Payload.Statement (.alciaSend x0 x1 x2 x3) := fun h _ _ e => okPacket_bounds h e
theorem Payload.updateStatus {x0 x1 x2 x3} : Payload.Statement (.updateStatus x0 x1 x2 x3) := fun h _ _ e => okPacket_bounds h e
theorem Payload.updateConfirm {x0 x1 x2 x3} : Payload.Statement (.updateConfirm x0 x1 x2 x3) := fun h _ _ e => okPacket_bounds h e
theorem Payload.updateOffer {x0 x1 x2 x3} : Payload.Statement (.updateOffer x0 x1 x2 x3) := fun h _ _ e => okPacket_bounds h e
theorem Payload.updateData {x0 x1 x2 x3} : Payload.Statement (.updateData x0 x1 x2 x3) := fun h _ _ e => okPacket_bounds h e
theorem Payload.updateVerify {x0 x1 x2 x3} : Payload.Statement (.updateVerify x0 x1 x2 x3) := fun h _ _ e => okPacket_bounds h e
theorem Payload.updateActivate {x0 x1 x2 x3} : Payload.Statement (.updateActivate x0 x1 x2 x3) := fun h _ _ e => okPacket_bounds h e
theorem Payload.updateAbort {x0 x1 x2 x3} : Payload.Statement (.updateAbort x0 x1 x2 x3) := fun h _ _ e => okPacket_bounds h e
theorem Payload.updateSessionTimeout {x0} : Payload.Statement (.updateSessionTimeout x0) := fun _ _ _ e => nomatch e
theorem Payload.relayTimeout {x0} : Payload.Statement (.relayTimeout x0) := fun _ _ _ e => nomatch e
theorem Payload.slotEraseSector {x0} : Payload.Statement (.slotEraseSector x0) := fun _ _ _ e => nomatch e
theorem Payload.registerWrite {x0 x1 x2} : Payload.Statement (.registerWrite x0 x1 x2) := fun _ _ _ e => nomatch e
theorem Payload.dmaCmdStart {x0 x1} : Payload.Statement (.dmaCmdStart x0 x1) := fun _ _ _ e => nomatch e
theorem Payload.dmaCmdResume {x0 x1} : Payload.Statement (.dmaCmdResume x0 x1) := fun _ _ _ e => nomatch e
theorem Payload.dmaCmdAbort {x0 x1} : Payload.Statement (.dmaCmdAbort x0 x1) := fun _ _ _ e => nomatch e
theorem Payload.dtuInval {x0 x1} : Payload.Statement (.dtuInval x0 x1) := fun _ _ _ e => nomatch e
theorem Payload.dtuInvalComplete {x0} : Payload.Statement (.dtuInvalComplete x0) := fun _ _ _ e => nomatch e
theorem Payload.dmaSlotGrant {x0} : Payload.Statement (.dmaSlotGrant x0) := fun _ _ _ e => nomatch e
theorem Payload.dmaDescriptorFetch {x0 x1} : Payload.Statement (.dmaDescriptorFetch x0 x1) := fun _ _ _ e => nomatch e
theorem Payload.dmaBeat {x0 x1} : Payload.Statement (.dmaBeat x0 x1) := fun _ _ _ e => nomatch e
theorem Payload.faultRecordPost {x0 x1} : Payload.Statement (.faultRecordPost x0 x1) := fun _ _ _ e => nomatch e
theorem Payload.driveMessageInterrupt {x0} : Payload.Statement (.driveMessageInterrupt x0) := fun _ _ _ e => nomatch e
theorem Payload.throttlePeriod {x0} : Payload.Statement (.throttlePeriod x0) := fun _ _ _ e => nomatch e
theorem Payload.appWatchdogExpiry {x0} : Payload.Statement (.appWatchdogExpiry x0) := fun _ _ _ e => nomatch e
theorem Payload.programFault {x0 x1 x2} : Payload.Statement (.programFault x0 x1 x2) := fun _ _ _ e => nomatch e
theorem Payload.programExit {x0} : Payload.Statement (.programExit x0) := fun _ _ _ e => nomatch e
theorem Payload.recorderFlush {x0} : Payload.Statement (.recorderFlush x0) := fun _ _ _ e => nomatch e
theorem Payload.vinOn {x0 x1} : Payload.Statement (.vinOn x0 x1) := fun _ _ _ e => nomatch e
theorem Payload.vinLow {x0 x1} : Payload.Statement (.vinLow x0 x1) := fun _ _ _ e => nomatch e
theorem Payload.powerFail {x0 x1} : Payload.Statement (.powerFail x0 x1) := fun _ _ _ e => nomatch e
theorem Payload.vinReset {x0} : Payload.Statement (.vinReset x0) := fun _ _ _ e => nomatch e
theorem Payload.aonMin {x0} : Payload.Statement (.aonMin x0) := fun _ _ _ e => nomatch e
theorem Payload.vinHigh {x0 x1} : Payload.Statement (.vinHigh x0 x1) := fun _ _ _ e => nomatch e
theorem Payload.vinHighLasting {x0} : Payload.Statement (.vinHighLasting x0) := fun _ _ _ e => nomatch e
theorem Payload.vinOvr {x0} : Payload.Statement (.vinOvr x0) := fun _ _ _ e => nomatch e
theorem Payload.vinOvrRelease {x0} : Payload.Statement (.vinOvrRelease x0) := fun _ _ _ e => nomatch e
theorem Payload.railFault {x0 x1} : Payload.Statement (.railFault x0 x1) := fun _ _ _ e => nomatch e
theorem Payload.resetExit {x0} : Payload.Statement (.resetExit x0) := fun _ _ _ e => nomatch e
theorem Payload.xtal32Qualified {x0} : Payload.Statement (.xtal32Qualified x0) := fun _ _ _ e => nomatch e
theorem Payload.xtal32Fail {x0 x1} : Payload.Statement (.xtal32Fail x0 x1) := fun _ _ _ e => nomatch e
theorem Payload.xtal32Retry {x0} : Payload.Statement (.xtal32Retry x0) := fun _ _ _ e => nomatch e
theorem Payload.resetNLow {x0 x1} : Payload.Statement (.resetNLow x0 x1) := fun _ _ _ e => nomatch e
theorem Payload.resetNRelease {x0 x1} : Payload.Statement (.resetNRelease x0 x1) := fun _ _ _ e => nomatch e
theorem Payload.kpResetHoldEnd {x0 x1} : Payload.Statement (.kpResetHoldEnd x0 x1) := fun _ _ _ e => nomatch e
theorem Payload.clockFault {x0} : Payload.Statement (.clockFault x0) := fun _ _ _ e => nomatch e
theorem Payload.pllLockLoss {x0 x1} : Payload.Statement (.pllLockLoss x0 x1) := fun _ _ _ e => nomatch e
theorem Payload.bootComplete {x0} : Payload.Statement (.bootComplete x0) := fun _ _ _ e => nomatch e
theorem Payload.dramClearComplete {x0} : Payload.Statement (.dramClearComplete x0) := fun _ _ _ e => nomatch e
theorem Payload.wakeEvent {x0 x1} : Payload.Statement (.wakeEvent x0 x1) := fun _ _ _ e => nomatch e
theorem Payload.watchSrefSample {x0 x1 x2} : Payload.Statement (.watchSrefSample x0 x1 x2) := fun _ _ _ e => nomatch e
theorem Payload.wakeComplete {x0 x1} : Payload.Statement (.wakeComplete x0 x1) := fun _ _ _ e => nomatch e
theorem Payload.wakeTimeout {x0} : Payload.Statement (.wakeTimeout x0) := fun _ _ _ e => nomatch e
theorem Payload.watchdogService {x0 x1} : Payload.Statement (.watchdogService x0 x1) := fun _ _ _ e => nomatch e
theorem Payload.watchdogExpiry {x0} : Payload.Statement (.watchdogExpiry x0) := fun _ _ _ e => nomatch e
theorem Payload.ownTimeoutExpiry {x0 x1} : Payload.Statement (.ownTimeoutExpiry x0 x1) := fun _ _ _ e => nomatch e
theorem Payload.carrierZero {x0 x1} : Payload.Statement (.carrierZero x0 x1) := fun _ _ _ e => nomatch e
theorem Payload.decimatedSample {x0 x1 x2} : Payload.Statement (.decimatedSample x0 x1 x2) := fun _ _ _ e => nomatch e
theorem Payload.dsStuck {x0 x1 x2} : Payload.Statement (.dsStuck x0 x1 x2) := fun _ _ _ e => nomatch e
theorem Payload.fieldEngineCycle {x0 x1} : Payload.Statement (.fieldEngineCycle x0 x1) := fun _ _ _ e => nomatch e
theorem Payload.chopperOpen {x0 x1 x2} : Payload.Statement (.chopperOpen x0 x1 x2) := fun _ _ _ e => nomatch e
theorem Payload.chopperShort {x0 x1} : Payload.Statement (.chopperShort x0 x1) := fun _ _ _ e => nomatch e
theorem Payload.dcUndervoltage {x0 x1} : Payload.Statement (.dcUndervoltage x0 x1) := fun _ _ _ e => nomatch e
theorem Payload.dcUndervoltageClear {x0 x1} : Payload.Statement (.dcUndervoltageClear x0 x1) := fun _ _ _ e => nomatch e
theorem Payload.ov3Trip {x0 x1} : Payload.Statement (.ov3Trip x0 x1) := fun _ _ _ e => nomatch e
theorem Payload.reconstructionSample {x0 x1 x2} : Payload.Statement (.reconstructionSample x0 x1 x2) := fun _ _ _ e => nomatch e
theorem Payload.calPeriodEnd {x0 x1} : Payload.Statement (.calPeriodEnd x0 x1) := fun _ _ _ e => nomatch e
theorem Payload.sarSlot {x0 x1 x2} : Payload.Statement (.sarSlot x0 x1 x2) := fun _ _ _ e => nomatch e
theorem Payload.outerLoopCycle {x0} : Payload.Statement (.outerLoopCycle x0) := fun _ _ _ e => nomatch e
theorem Payload.stopChange {x0 x1 x2} : Payload.Statement (.stopChange x0 x1 x2) := fun _ _ _ e => nomatch e
theorem Payload.stopStandstill {x0} : Payload.Statement (.stopStandstill x0) := fun _ _ _ e => nomatch e
theorem Payload.stopTimeout {x0} : Payload.Statement (.stopTimeout x0) := fun _ _ _ e => nomatch e
theorem Payload.srefTestCurrent {x0 x1 x2} : Payload.Statement (.srefTestCurrent x0 x1 x2) := fun _ _ _ e => nomatch e
theorem Payload.srefWireBreak {x0 x1} : Payload.Statement (.srefWireBreak x0 x1) := fun _ _ _ e => nomatch e
theorem Payload.srefWireBreakEnd {x0} : Payload.Statement (.srefWireBreakEnd x0) := fun _ _ _ e => nomatch e
theorem Payload.shortCircuit {x0 x1 x2} : Payload.Statement (.shortCircuit x0 x1 x2) := fun _ _ _ e => nomatch e
theorem Payload.gateSupplyUv {x0 x1 x2} : Payload.Statement (.gateSupplyUv x0 x1 x2) := fun _ _ _ e => nomatch e
theorem Payload.noCommandTimeout {x0 x1} : Payload.Statement (.noCommandTimeout x0 x1) := fun _ _ _ e => nomatch e
theorem Payload.boosterFault {x0 x1 x2} : Payload.Statement (.boosterFault x0 x1 x2) := fun _ _ _ e => nomatch e
theorem Payload.plateauTimeout {x0 x1} : Payload.Statement (.plateauTimeout x0 x1) := fun _ _ _ e => nomatch e
theorem Payload.transitionMeasured {x0 x1 x2 x3} : Payload.Statement (.transitionMeasured x0 x1 x2 x3) := fun _ _ _ e => nomatch e
theorem Payload.millerClampEngage {x0 x1} : Payload.Statement (.millerClampEngage x0 x1) := fun _ _ _ e => nomatch e
theorem Payload.shootThroughAttempt {x0 x1} : Payload.Statement (.shootThroughAttempt x0 x1) := fun _ _ _ e => nomatch e
theorem Payload.thermalEvaluation {x0 x1} : Payload.Statement (.thermalEvaluation x0 x1) := fun _ _ _ e => nomatch e
theorem Payload.feedbackEdge {x0 x1 x2} : Payload.Statement (.feedbackEdge x0 x1 x2) := fun _ _ _ e => nomatch e
theorem Payload.hallChange {x0 x1 x2} : Payload.Statement (.hallChange x0 x1 x2) := fun _ _ _ e => nomatch e
theorem Payload.toothEdge {x0 x1 x2} : Payload.Statement (.toothEdge x0 x1 x2) := fun _ _ _ e => nomatch e
theorem Payload.serialFrame {x0 x1 x2} : Payload.Statement (.serialFrame x0 x1 x2) := fun _ _ _ e => nomatch e
theorem Payload.indexLatch {x0 x1} : Payload.Statement (.indexLatch x0 x1) := fun _ _ _ e => nomatch e
theorem Payload.fbSignalLoss {x0 x1 x2} : Payload.Statement (.fbSignalLoss x0 x1 x2) := fun _ _ _ e => nomatch e
theorem Payload.fbSupply {x0 x1 x2} : Payload.Statement (.fbSupply x0 x1 x2) := fun _ _ _ e => nomatch e
theorem Payload.encPupEnd {x0 x1} : Payload.Statement (.encPupEnd x0 x1) := fun _ _ _ e => nomatch e
theorem Payload.probeEnd {x0 x1} : Payload.Statement (.probeEnd x0 x1) := fun _ _ _ e => nomatch e
theorem Payload.startEvaluation {x0 x1} : Payload.Statement (.startEvaluation x0 x1) := fun _ _ _ e => nomatch e
theorem Payload.handoverTimeout {x0 x1} : Payload.Statement (.handoverTimeout x0 x1) := fun _ _ _ e => nomatch e
theorem Payload.catchAttempt {x0 x1} : Payload.Statement (.catchAttempt x0 x1) := fun _ _ _ e => nomatch e
theorem Payload.obsLossLasting {x0 x1} : Payload.Statement (.obsLossLasting x0 x1) := fun _ _ _ e => nomatch e
theorem Payload.snapSbcRequest {x0} : Payload.Statement (.snapSbcRequest x0) := fun _ _ _ e => nomatch e
theorem Payload.axisCycle {x0} : Payload.Statement (.axisCycle x0) := fun _ _ _ e => nomatch e
theorem Payload.holdCurrentTimeout {x0 x1} : Payload.Statement (.holdCurrentTimeout x0 x1) := fun _ _ _ e => nomatch e
theorem Payload.stepperChopTrip {x0 x1 x2} : Payload.Statement (.stepperChopTrip x0 x1 x2) := fun _ _ _ e => nomatch e
theorem Payload.stepperToffEnd {x0 x1 x2} : Payload.Statement (.stepperToffEnd x0 x1 x2) := fun _ _ _ e => nomatch e
theorem Payload.refreshSequence {x0 x1} : Payload.Statement (.refreshSequence x0 x1) := fun _ _ _ e => nomatch e
theorem Payload.prechargeDone {x0 x1 x2} : Payload.Statement (.prechargeDone x0 x1 x2) := fun _ _ _ e => nomatch e
theorem Payload.bootstrapUv {x0 x1} : Payload.Statement (.bootstrapUv x0 x1) := fun _ _ _ e => nomatch e
theorem Payload.auxBusOv {x0 x1} : Payload.Statement (.auxBusOv x0 x1) := fun _ _ _ e => nomatch e
theorem Payload.auxShootThroughAttempt {x0 x1} : Payload.Statement (.auxShootThroughAttempt x0 x1) := fun _ _ _ e => nomatch e
theorem Payload.axOvercurrent {x0 x1} : Payload.Statement (.axOvercurrent x0 x1) := fun _ _ _ e => nomatch e
theorem Payload.switchChange {x0 x1 x2 x3 x4 x5} : Payload.Statement (.switchChange x0 x1 x2 x3 x4 x5) := fun _ _ _ e => nomatch e
theorem Payload.sharingCycle {x0} : Payload.Statement (.sharingCycle x0) := fun _ _ _ e => nomatch e
theorem Payload.shareFrame {x0 x1} : Payload.Statement (.shareFrame x0 x1) := fun _ _ _ e => nomatch e
theorem Payload.replyFrame {x0 x1} : Payload.Statement (.replyFrame x0 x1) := fun _ _ _ e => nomatch e
theorem Payload.replyDeadline {x0} : Payload.Statement (.replyDeadline x0) := fun _ _ _ e => nomatch e
theorem Payload.rollSend {x0} : Payload.Statement (.rollSend x0) := fun _ _ _ e => nomatch e
theorem Payload.rollFrame {x0 x1} : Payload.Statement (.rollFrame x0 x1) := fun _ _ _ e => nomatch e
theorem Payload.formationTimeout {x0} : Payload.Statement (.formationTimeout x0) := fun _ _ _ e => nomatch e
theorem Payload.colDetached {x0} : Payload.Statement (.colDetached x0) := fun _ _ _ e => nomatch e
theorem Payload.heartbeatSend {x0} : Payload.Statement (.heartbeatSend x0) := fun _ _ _ e => nomatch e
theorem Payload.heartbeat {x0 x1} : Payload.Statement (.heartbeat x0 x1) := fun _ _ _ e => nomatch e
theorem Payload.mirrorFrame {x0 x1} : Payload.Statement (.mirrorFrame x0 x1) := fun _ _ _ e => nomatch e
theorem Payload.pairCheckSend {x0} : Payload.Statement (.pairCheckSend x0) := fun _ _ _ e => nomatch e
theorem Payload.mirrorAck {x0 x1} : Payload.Statement (.mirrorAck x0 x1) := fun _ _ _ e => nomatch e
theorem Payload.bulkFrame {x0 x1} : Payload.Statement (.bulkFrame x0 x1) := fun _ _ _ e => nomatch e
theorem Payload.bridleLinkUp {x0} : Payload.Statement (.bridleLinkUp x0) := fun _ _ _ e => nomatch e
theorem Payload.bridleLinkDown {x0} : Payload.Statement (.bridleLinkDown x0) := fun _ _ _ e => nomatch e
theorem Payload.heartbeatLoss {x0} : Payload.Statement (.heartbeatLoss x0) := fun _ _ _ e => nomatch e
theorem Payload.arbitrationOutcome {x0 x1} : Payload.Statement (.arbitrationOutcome x0 x1) := fun _ _ _ e => nomatch e
theorem Payload.pairQueryTimeout {x0} : Payload.Statement (.pairQueryTimeout x0) := fun _ _ _ e => nomatch e
theorem Payload.alciaFrameRx {x0 x1 x2} : Payload.Statement (.alciaFrameRx x0 x1 x2) := fun _ _ _ e => nomatch e
theorem Payload.alciaFrameTxDone {x0 x1 x2} : Payload.Statement (.alciaFrameTxDone x0 x1 x2) := fun _ _ _ e => nomatch e
theorem Payload.alciaTxError {x0 x1 x2} : Payload.Statement (.alciaTxError x0 x1 x2) := fun _ _ _ e => nomatch e
theorem Payload.busOffRecovery {x0 x1} : Payload.Statement (.busOffRecovery x0 x1) := fun _ _ _ e => nomatch e
theorem Payload.probeSend {x0 x1} : Payload.Statement (.probeSend x0 x1) := fun _ _ _ e => nomatch e
theorem Payload.addrClaimSend {x0} : Payload.Statement (.addrClaimSend x0) := fun _ _ _ e => nomatch e
theorem Payload.addrClaimDecision {x0} : Payload.Statement (.addrClaimDecision x0) := fun _ _ _ e => nomatch e
theorem Payload.syncSend {x0 x1} : Payload.Statement (.syncSend x0 x1) := fun _ _ _ e => nomatch e
theorem Payload.followUpSend {x0 x1} : Payload.Statement (.followUpSend x0 x1) := fun _ _ _ e => nomatch e
theorem Payload.syncTimeout {x0 x1} : Payload.Statement (.syncTimeout x0 x1) := fun _ _ _ e => nomatch e
theorem Payload.syncCandidateStart {x0 x1} : Payload.Statement (.syncCandidateStart x0 x1) := fun _ _ _ e => nomatch e
theorem Payload.bridgeAnnounceSend {x0} : Payload.Statement (.bridgeAnnounceSend x0) := fun _ _ _ e => nomatch e
theorem Payload.announceSend {x0} : Payload.Statement (.announceSend x0) := fun _ _ _ e => nomatch e
theorem Payload.routeSummarySend {x0} : Payload.Statement (.routeSummarySend x0) := fun _ _ _ e => nomatch e
theorem Payload.segmentTimeout {x0 x1} : Payload.Statement (.segmentTimeout x0 x1) := fun _ _ _ e => nomatch e
theorem Payload.cmdTransferTimeout {x0 x1} : Payload.Statement (.cmdTransferTimeout x0 x1) := fun _ _ _ e => nomatch e
theorem Payload.bindTimeout {x0} : Payload.Statement (.bindTimeout x0) := fun _ _ _ e => nomatch e
theorem Payload.testPulseWindow {x0 x1 x2} : Payload.Statement (.testPulseWindow x0 x1 x2) := fun _ _ _ e => nomatch e
theorem Payload.safetyInputChange {x0 x1 x2 x3 x4 x5} : Payload.Statement (.safetyInputChange x0 x1 x2 x3 x4 x5) := fun _ _ _ e => nomatch e
theorem Payload.siDiscrepancy {x0 x1 x2 x3} : Payload.Statement (.siDiscrepancy x0 x1 x2 x3) := fun _ _ _ e => nomatch e
theorem Payload.ss1EnvelopeCheck {x0 x1 x2} : Payload.Statement (.ss1EnvelopeCheck x0 x1 x2) := fun _ _ _ e => nomatch e
theorem Payload.ss1End {x0 x1 x2} : Payload.Statement (.ss1End x0 x1 x2) := fun _ _ _ e => nomatch e
theorem Payload.brakeSetTimeEnd {x0 x1 x2} : Payload.Statement (.brakeSetTimeEnd x0 x1 x2) := fun _ _ _ e => nomatch e
theorem Payload.ss1Timeout {x0 x1} : Payload.Statement (.ss1Timeout x0 x1) := fun _ _ _ e => nomatch e
theorem Payload.brakeReleaseRequest {x0 x1} : Payload.Statement (.brakeReleaseRequest x0 x1) := fun _ _ _ e => nomatch e
theorem Payload.brakeReleaseComplete {x0 x1} : Payload.Statement (.brakeReleaseComplete x0 x1) := fun _ _ _ e => nomatch e
theorem Payload.brakeTestPulse {x0 x1 x2 x3} : Payload.Statement (.brakeTestPulse x0 x1 x2 x3) := fun _ _ _ e => nomatch e
theorem Payload.brakeOvercurrent {x0 x1} : Payload.Statement (.brakeOvercurrent x0 x1) := fun _ _ _ e => nomatch e
theorem Payload.kpPositionEdge {x0 x1} : Payload.Statement (.kpPositionEdge x0 x1) := fun _ _ _ e => nomatch e
theorem Payload.kpSpeedTimeout {x0 x1} : Payload.Statement (.kpSpeedTimeout x0 x1) := fun _ _ _ e => nomatch e
theorem Payload.safetyChannelDiscrepancy {x0 x1 x2} : Payload.Statement (.safetyChannelDiscrepancy x0 x1 x2) := fun _ _ _ e => nomatch e
theorem Payload.kpPositionFault {x0 x1 x2} : Payload.Statement (.kpPositionFault x0 x1 x2) := fun _ _ _ e => nomatch e
theorem Payload.safeAckPress {x0 x1} : Payload.Statement (.safeAckPress x0 x1) := fun _ _ _ e => nomatch e
theorem Payload.safeAckRelease {x0 x1} : Payload.Statement (.safeAckRelease x0 x1) := fun _ _ _ e => nomatch e
theorem Payload.safeAckStuck {x0 x1} : Payload.Statement (.safeAckStuck x0 x1) := fun _ _ _ e => nomatch e
theorem Payload.commissioningGrantExpiry {x0 x1} : Payload.Statement (.commissioningGrantExpiry x0 x1) := fun _ _ _ e => nomatch e
theorem Payload.readbackMismatch {x0 x1} : Payload.Statement (.readbackMismatch x0 x1) := fun _ _ _ e => nomatch e
theorem Payload.loginLockoutEnd {x0} : Payload.Statement (.loginLockoutEnd x0) := fun _ _ _ e => nomatch e
theorem Payload.lockstepMismatch {x0 x1 x2} : Payload.Statement (.lockstepMismatch x0 x1 x2) := fun _ _ _ e => nomatch e
theorem Payload.debugAttached {x0} : Payload.Statement (.debugAttached x0) := fun _ _ _ e => nomatch e
theorem Payload.scrubBurst {x0 x1 x2 x3 x4} : Payload.Statement (.scrubBurst x0 x1 x2 x3 x4) := fun _ _ _ e => nomatch e
theorem Payload.alertN {x0 x1 x2} : Payload.Statement (.alertN x0 x1 x2) := fun _ _ _ e => nomatch e
theorem Payload.faultHistoryAppend {x0} : Payload.Statement (.faultHistoryAppend x0) := fun _ _ _ e => nomatch e
theorem Payload.pwmEdge {x0 x1 x2} : Payload.Statement (.pwmEdge x0 x1 x2) := fun _ _ _ e => nomatch e
theorem Payload.holdSwitchEngage {x0 x1} : Payload.Statement (.holdSwitchEngage x0 x1) := fun _ _ _ e => nomatch e
theorem Payload.boostSoftEnd {x0 x1} : Payload.Statement (.boostSoftEnd x0 x1) := fun _ _ _ e => nomatch e
theorem Payload.gateSupplyUvEnd {x0 x1 x2} : Payload.Statement (.gateSupplyUvEnd x0 x1 x2) := fun _ _ _ e => nomatch e
theorem Payload.fbSignalLossEnd {x0 x1 x2} : Payload.Statement (.fbSignalLossEnd x0 x1 x2) := fun _ _ _ e => nomatch e
theorem Payload.vbrkLow {x0 x1} : Payload.Statement (.vbrkLow x0 x1) := fun _ _ _ e => nomatch e
theorem Payload.brakeCoilCurrentLow {x0 x1} : Payload.Statement (.brakeCoilCurrentLow x0 x1) := fun _ _ _ e => nomatch e
theorem Payload.srefEdge {x0 x1} : Payload.Statement (.srefEdge x0 x1) := fun _ _ _ e => nomatch e
theorem Payload.axisPwmPeriod {x0 x1} : Payload.Statement (.axisPwmPeriod x0 x1) := fun _ _ _ e => nomatch e
theorem Payload.commandResetDue {x0} : Payload.Statement (.commandResetDue x0) := fun _ _ _ e => nomatch e
theorem Payload.serviceReplySent {x0} : Payload.Statement (.serviceReplySent x0) := fun _ _ _ e => nomatch e
theorem Payload.serviceByteOutsidePacket {x0} : Payload.Statement (.serviceByteOutsidePacket x0) := fun _ _ _ e => nomatch e

end Sys2Proof.Laws
end

