-- ==== Sys2Proof/Laws/Session.lean ====
section
/-! SUPPORT. What happens to an admitted packet of an opcode row. -/
namespace Sys2Proof.Machine

/-- Charging a packet changes the ports, the counters and the update session's clock only. -/
theorem State.charged_eq (s : State) (c : Source) :
    s.charged c = { s with
      ports := (s.charged c).ports, counters := (s.charged c).counters
      upd := { s.upd with lastAt := (s.charged c).upd.lastAt, late := (s.charged c).upd.late } } := by
  unfold State.charged State.noteRecv
  dsimp only
  split <;> rfl

/-- The port of a source after its admitted packet was charged. -/
theorem State.charged_port (s : State) (c d : Source) : (s.charged c).port d =
    if d = c then { s.port d with
      credits := (s.port d).credits - 1, lastOk := max (s.port d).lastOk s.stamp, ownLate := (s.port d).ownLate || s.ownMissed c }
    else s.port d := by
  have h : (s.countPacket.takeCredit c).ownMissed c = s.ownMissed c := by
    simp only [State.ownMissed, State.takeCredit, State.countPacket, State.port_modPort, if_true]
    rfl
  have hp : ∀ (v : State) (f : Port → Port), ((if c = .service ∧ v.upd.holder = 4 then v.touchUpd else v).modPort c f).port d = (v.modPort c f).port d := by
    intro v f
    split <;> rfl
  unfold State.charged State.noteRecv
  simp only [h, hp]
  simp only [State.takeCredit, State.countPacket, State.port_modPort]
  split <;> rfl

/-- Charging a packet changes no check of its opcode. -/
theorem State.charged_admit (s : State) (c d : Source) (op : Nat) (p : Bytes) :
    (s.charged c).objection op d p = s.objection op d p := by
  unfold State.charged State.noteRecv
  dsimp only
  split <;> rfl

/-- An admitted packet is carried out by its opcode's meaning, whose status and data are queued as the reply, where the meaning leaves the
credits of its source as they are. -/
theorem State.submit_of_takes {s : State} {c : Source} {op q : Nat} {p : Bytes} {h : State → Rep} (hs : s.takes c op p)
    (hc : ((h (s.charged c)).st.port c).credits ≤ ((s.charged c).port c).credits) :
    s.submit c op q p h =
      let r := h (s.charged c)
      let v := r.st.queueReply c { status := r.status, seq := q, data := r.data }
      if r.status = 0 then v else v.countReject := by
  obtain ⟨h1, h2, h3⟩ := hs
  have h4 : (opInfo op).isSome := by unfold State.objection at h3; split at h3 <;> simp_all
  have h5 : (s.countPacket.port c).credits ≠ 0 := Nat.ne_of_gt h2
  have h6 : (s.charged c).objection op c p = none := (s.charged_admit c c op p).trans h3
  unfold State.submit
  simp only [h1, Bool.not_true, Bool.false_eq_true, if_false, h5]
  unfold State.carryOut
  simp only [h4, if_true]
  change (match (s.charged c).objection op c p with | some (st, d) => _ | none => _) = _
  simp only [h6]
  exact if_neg (Nat.not_lt.2 hc)

/-- A packet that its opcode accepts is answered OK with the data it gives. -/
theorem runOp_of_ok {t : Tick} {s v : State} {c : Source} {op q : Nat} {p d : Bytes} {h : State → Rep}
    (hs : (s.upTo t).takes c op p) (hh : h ((s.upTo t).charged c) = .ok v d)
    (hc : (v.port c).credits ≤ (((s.upTo t).charged c).port c).credits) :
    runOp t c op q p h s = .next (v.answered c q d) := by
  unfold runOp; rw [State.submit_of_takes hs (by rw [hh]; exact hc), hh]; rfl

/-- A packet that its opcode turns away with a status is answered with it, after what the opcode did. -/
theorem runOp_of_fail {t : Tick} {s v : State} {c : Source} {op q e : Nat} {p d : Bytes} {h : State → Rep}
    (hs : (s.upTo t).takes c op p) (hh : h ((s.upTo t).charged c) = .no v e d) (he : e ≠ 0)
    (hc : (v.port c).credits ≤ (((s.upTo t).charged c).port c).credits) :
    runOp t c op q p h s = .next (v.reject c q e d) := by
  unfold runOp; rw [State.submit_of_takes hs (by rw [hh]; exact hc), hh]
  unfold State.reject
  simp [Rep.no, he]

/-- A packet that its opcode turns away is answered with the status, and nothing but the reply and the counters changes. -/
theorem runOp_of_no {t : Tick} {s : State} {c : Source} {op q e : Nat} {p d : Bytes} {h : State → Rep}
    (hs : (s.upTo t).takes c op p) (hh : h ((s.upTo t).charged c) = .no ((s.upTo t).charged c) e d) (he : e ≠ 0) :
    runOp t c op q p h s = .next (((s.upTo t).charged c).reject c q e d) :=
  runOp_of_fail hs hh he (Nat.le_refl _)

end Sys2Proof.Machine
end

