-- ==== Sys2Proof/Laws/Seal.lean ====
section
/-! SUPPORT. The rules of CHECK and SEAL look at no port and no counter. -/
namespace Sys2Proof.Machine

variable (s : State) (c : Source)

/-- Charging a packet changes no verdict on the blocks. -/
theorem State.charged_firstFail (b : Bool) : (s.charged c).firstFail b = s.firstFail b := by
  rw [s.charged_eq c]; rfl

end Sys2Proof.Machine
end

