-- ==== Sys2Proof/Tests/Slice0.lean ====
section
/-! SUPPORT. The tests: values the manual works out, ill-formed commands, and for every statement a state and operands that meet its
hypotheses, one for each of its clauses. -/
set_option Elab.async false
namespace Sys2Proof.Tests
open Sys2Proof.Machine

/-! ### Small states -/

theorem takes_of {s : State} {c : Source} {op : Nat} {p : Bytes} (h : (s.listens && decide (0 < (s.port c).credits) && (s.objection op c p).isNone) = true) :
    s.takes c op p := by simp_all [State.takes]
/-- Bytes set in the data of a block. -/
def put (d : Bytes) (l : List (Nat × Nat)) : Bytes := l.foldl (fun d x => d.set x.1 (BitVec.ofNat 8 x.2)) d
/-- A block with its values after reset but for the bytes given. -/
def blk (id : Nat) (l : List (Nat × Nat)) : Nat × Bytes := (id, put (blockDefaults id) l)
/-- A sealed configuration. -/
def sealed0 : Sealed := ⟨zeros 32, zeros 32, 0⟩
/-- UNCONFIGURED, owned by the host. -/
def unc : State := { State.reset with dev := .unconfigured, owner := some .host }
/-- READY with the blocks given, owned by the host. -/
def cfgd (l : List (Nat × Bytes)) : State := { unc with dev := .ready, blocks := l, sealedCfg := some sealed0 }
/-- READY with stack 0 enabled. -/
def rdy : State := cfgd [blk 1 [(0, 1)]]
/-- RUN. -/
def run : State := { rdy with dev := .run }
/-- RUN with stack 0 switching and its angle valid. -/
def ramps : State := (run.modStack 0 fun x => { x with switching := true }).modFb 0 fun p => { p with state := 2 }
/-- RESET. -/
def rst : State := { State.reset with dev := .inReset }
/-- WATCH. -/
def wat (l : List (Nat × Nat)) : State := { cfgd [blk 1 ((0, 1) :: l)] with dev := .watch }
/-- WATCH with the analog SREF input as wake source. -/
def wat2 (l : List (Nat × Nat)) : State := { cfgd [blk 1 ((5, 1) :: l), blk 0x14 [(40, 1)]] with dev := .watch }
/-- An event record with ESEQ 5. -/
def ev5 : EventRec := { code := 0x8100, eseq := 5, state := 2, level := 2, obj := 0, cls := 0, stamp := 0, data := zeros 8 }
/-- A table of 512 entries. -/
def tab (f : Nat → Int) : Bytes := (List.range 512).flatMap fun i => leI 4 (f i)
/-- Flux tables of stack 0 that rise as rule g asks. -/
def maps : List (Nat × Bytes) := ((List.range 8).map fun (j : Nat) => (0x1000 + j, tab fun i => (i % 64 : Nat))) ++
  ((List.range 8).map fun (j : Nat) => (0x1040 + j, tab fun i => (512 * j + i : Nat))) ++ [blk 0x1080 []]
/-- A configuration that passes every rule. -/
def sealable : State := { unc with
  safety := { stored := some ⟨zeros 16, []⟩ }
  upd := { unc.upd with loaded := 7 }
  blocks := [blk 1 [(0, 1), (9, 1)], blk 0x10 [(1, 0)], blk 0x14 [(3, 0)], blk 0x20 [], blk 0x30 [], blk 0x40 [], blk 0x60 [], blk 0x68 [], blk 0xB0 [], blk 0x0F00 []] ++ maps }
theorem wrongPw (s : State) (p : Bytes) (h : s.safety.stored = some ⟨zeros 16, []⟩) : s.pwOk p = false := by
  simp only [State.pwOk, h]
  have : (passwordDigest (zeros 16) p).toList.length = 32 := by simp
  cases h2 : (passwordDigest (zeros 16) p).toList with
  | nil => simp [h2] at this
  | cons a l => rfl
theorem sealable_ok (b : Bool) : (sealable.upTo 0).firstFail b = none := by
  unfold State.firstFail State.ruleF
  dsimp only
  rw [State.deliveryInForce, wrongPw _ _ rfl]
  cases b <;> decide +kernel
/-- The same with WD_T beyond its range, which the Kingpost refuses. -/
def sealKp : State :=
  { sealable with blocks := sealable.blocks.map fun b => if b.1 = 0x0F00 then (b.1, put b.2 [(8, 255), (9, 255)]) else b }
theorem sealKp_ok : (sealKp.upTo 0).firstFail true = none := by
  unfold State.firstFail State.ruleF
  dsimp only
  rw [State.deliveryInForce, wrongPw _ _ rfl]
  decide +kernel
/-- The state with the Kingpost granting the gates. -/
def granted (s : State) : State := s.modSafety fun x => { x with kpState := 2 }
/-- READY with an SREF mode. -/
def sr (m : Nat) (x : Sref) : State := { cfgd [blk 1 [(0, 1)], blk 0x14 [(40, m)]] with sref := x }
/-- A password, a state in which it is in force, and a session opened with it. -/
def pw : Bytes := List.replicate 8 0x41
/-- The same before the session. -/
def withPw : State := unc.modSafety fun x => { x with stored := some ⟨zeros 16, (passwordDigest (zeros 16) pw).toList⟩ }
theorem withPw_ok (t : Tick) : (withPw.upTo t).pwOk pw = true := beq_self_eq_true (passwordDigest (zeros 16) pw).toList
/-- A safety session of the host. -/
def inSession : State := withPw.modSafety fun x => { x with session := some .host, pwLen := 8 }
/-- A fault held on stack 0. -/
def fatal0 : State := rdy.modFaults fun f => { f with objs := [{ key := ⟨14, 2, 0⟩, held := [(0x850A, 0)] }] }
theorem noFaults : (rdy.upTo 0).heldFaults = [] := List.mergeSort_nil
theorem oneFault : (fatal0.upTo 0).heldFaults = [(⟨14, 2, 0⟩, 0)] := List.mergeSort_singleton _
/-- A change log entry. -/
def log0 : LogEntry := ⟨0, 1, 1, 0, 0, 0, 0, 1, zeros 32, false⟩
/-- SAFE_ACK pressed. -/
def press (b : Bool) : State := rdy.modSafety fun x => { x with pressAt := some 0, stuck := b }
/-- A setup of the recorder: the position record of port 0 on the drive pair's base. -/
def setup0 : Bytes := [1, 0, 4, 1, 0, 0, 0, 0] ++ zeros 12 ++ le 4 1 ++ zeros 8 ++ [1, 0, 0, 4]
/-- A recorder in a state. -/
def recd (n : Nat) (r : List Bytes) : State :=
  { rdy with recorder := { state := n, setup := some setup0, ring := r, staged := 24 }, power := { rdy.power with dramBusy := false } }
/-- A program in a state with its inbound queue. -/
def appS (n : Nat) (q : List Bytes) : State :=
  { cfgd [blk 1 [(0, 1), (12, 1)], blk 0xC0 [(8, 1)]] with
    app := { state := n, inbound := q }
    power := { rdy.power with dramBusy := false } }
/-- DMA channel 0 changed. -/
def chS (f : DmaCh → DmaCh) : State := rdy.modCh 0 f
/-- Channel 0 active at descriptor 0, which its address space shows at 0x08000000. -/
def dmaS (f : DmaCh → DmaCh) (d : Bytes) : State :=
  ((chS fun c => f { c with state := 2, atp := 8 * 2 ^ 60 }).modDma fun d => { d with tlb := [(0, 0, 0, 0x8000 * 1024 + 0xC7)] }).storePa 0x08000000 d
/-- A pattern descriptor under way. -/
def beatS : State := dmaS (fun c => { c with fetched := true, ctrl := 8, len := 128 }) []
/-- 64 KB of zeros. -/
def big : Bytes := List.replicate 65536 0
theorem big_len : big.length = 65536 := List.length_replicate
theorem full_ok : 65536 < (((((appS 2 [big]).upTo 0).app).inbound.map List.length).sum + ([1] : Bytes).length) := by
  have h : ∀ b : Bytes, b.length = 65536 → 65536 < (((((appS 2 [b]).upTo 0).app).inbound.map List.length).sum + ([1] : Bytes).length) := by
    intro b h
    show 65536 < ([b.length]).sum + 1
    simp [h]
  exact h _ big_len
/-- READY with the brake chopper of stack 0 fitted. -/
def dc0 : State := cfgd [blk 1 [(0, 1)], blk 0x60 [(0, 1)]]
/-- A member of a ring of two in colonnade state `n`. -/
def colS (n : Nat) : State := { cfgd [blk 1 [(0, 1), (11, 1)], blk 0x80 [(1, 2)]] with col := { state := n } }
/-- A SHARE frame of member 0. -/
def share1 : Bytes := shareFrameOf 0 0 false false 0 0 0 (Vector.replicate 8 0)
/-- A REPLY frame of member 1. -/
def reply1 : Bytes := let b := le 1 0x52 ++ le 1 (1 + 8) ++ le 2 0 ++ leI 4 5 ++ leI 2 1 ++ leI 2 (-1)
  [0xBC#8] ++ b ++ (le 2 (crc16 b).toNat).reverse
/-- The ROLL frame of member 1. -/
def roll1 : Bytes := ({ cfgd [blk 1 [(0, 1), (11, 1)], blk 0x80 [(0, 1), (1, 2)]] with col := { state := 1 } } : State).rollOf
/-- A device of a pair in state `n`, its bridle link up. -/
def pairS (n : Nat) : State := { cfgd [blk 1 [(0, 1), (11, 2)], blk 0x81 [(4, 1), (6, 2)]] with pair := { state := n, link := true } }
/-- A bridle frame. -/
def brf (ty seg : Nat) (d : Bytes) : Bytes := frame32 (le 1 ty ++ le 2 0 ++ le 2 d.length ++ le 2 seg ++ d)
/-- An image header of kind 0 with 1,024 bytes. -/
def hdr0 : Bytes := put (zeros 512) [(0, 0x4C), (1, 0x54), (2, 0x42), (3, 0x49), (4, 0), (5, 1), (17, 4)]
/-- An update session in a state, of a holder. -/
def updS (n holder : Nat) (b : Bytes) : State :=
  { unc with upd := { session := n, holder := holder, kind := 0, header := hdr0, body := b } }
theorem verdict_ne : ((({ updS 1 4 (zeros 512) with upd := { (updS 1 4 (zeros 512)).upd with counter := 1 } } : State).upTo 0).verdict) ≠ 0 := by
  unfold State.verdict
  dsimp only
  split
  · decide
  · rw [if_pos (by decide)]; decide

theorem dram_least : 2048 ≤ Config.dramMb := Nat.le_mul_of_pos_right 2048 (Nat.two_pow_pos _)
theorem fs0 : frameSize setup0 = 24 := by decide +kernel
theorem ap0 : ((recd 0 []).upTo 0).app.appMb = 512 := by
  unfold State.upTo
  split <;> rfl
theorem ring1 (s : State) (h : s.app.appMb = 512) : 1 ≤ s.ringFrames setup0 := by
  have h2 : ∀ n m, 2048 ≤ n → m = 512 → 1 ≤ (n - 64 - m) * 1048576 / 24 := by omega
  unfold State.ringFrames State.ringBytes
  rw [fs0]
  exact h2 _ _ dram_least h
theorem so (s : State) (h : 1 ≤ s.ringFrames setup0) (h2 : (s.record 1 0).map List.length = some 32) : s.recSetupOk setup0 = true := by
  have hs : recSels setup0 = [(1, 0, 0, 4)] := by decide +kernel
  have h3 : ∃ r, s.record 1 0 = some r ∧ r.length = 32 := by
    cases h4 : s.record 1 0 with
    | none => simp [h4] at h2
    | some r => exact ⟨r, rfl, by simpa [h4] using h2⟩
  obtain ⟨r, h4, h5⟩ := h3
  unfold State.recSetupOk
  simp only [hs, Bool.and_eq_true, decide_eq_true_eq, List.all_cons, List.all_nil, h4, h5]
  refine ⟨?_, Nat.le_trans (by decide +kernel) h⟩
  and_intros <;> first | decide +kernel | rfl
theorem rc : (((recd 0 []).upTo 0).record 1 0).map List.length = some 32 := by decide +kernel
theorem setup0_ok : ((recd 0 []).upTo 0).recSetupOk setup0 = true := so _ (ring1 _ ap0) rc
theorem dram_ok : 0 < regionSize .dram / 64 := by
  have h : ∀ n m, 2048 ≤ n → regionSize .dram = n * m → m = 1048576 → 0 < regionSize .dram / 64 := by
    intro n m hn h hm
    rw [h, hm]
    omega
  exact h _ _ dram_least rfl rfl
/-- Port 0 of the network in state `n`. -/
def netS (n : Nat) (l : List (Nat × Nat)) (f : Alcia → Alcia) : State :=
  { cfgd [blk 1 [(0, 1), (10, 1)], blk 0x91 [(0, 1)], blk 0x92 l] with alcia := f { ports := vmod (Vector.replicate 2 {}) 0 fun x => { x with state := n } } }
/-- A user frame of the host. -/
def user0 : TxFrame := { ident := mkIdent 2 0x100 0, kind := 0, src := some .host }
theorem claim_ok (k a : Nat) (ha : a = 0) : a + (msTicks 1 + serialNo / 2 ^ (10 * k) % 1024 * usTicks 100) ≤ 10330000 := by
  have h2 : serialNo / 2 ^ (10 * k) % 1024 < 1024 := Nat.mod_lt _ (by decide)
  generalize serialNo / 2 ^ (10 * k) % 1024 = n at *
  have h3 : msTicks 1 = 100000 := by decide +kernel
  have h4 : usTicks 100 = 10000 := by decide +kernel
  rw [h3, h4]
  omega
/-- A bridge: port 0 on its segment, port 1 on the backbone. -/
def brg (f : Alcia → Alcia) : State := netS 1 [(0, 1)] fun a => f { a with
  ports := (vmod a.ports 0 fun x => { x with annBase := some 0, brgCount := 1 }).set 1 { state := 1 } }
/-- A cyclic exchange of source 2, which holds ownership. -/
def cycS (c : CyclicX) : State :=
  { rdy with owner := some .alcia, ports := vmod rdy.ports 1 fun x => { x with cyclic := c } }
/-- The bytes of a NOP packet after its first. -/
def nopW : Bytes := [0x00, 0x00, 0x01, 0x34, 0x12, 0x02, 0x00, 0xAA, 0x55] ++
  le 4 (crc32c [0xB5, 0x00, 0x00, 0x01, 0x34, 0x12, 0x02, 0x00, 0xAA, 0x55]).toNat
/-- The device in SILL. -/
def sill0 : State := { State.reset with dev := .sill }
/-- A recovery frame without its first byte and CRC. -/
def sillP : Bytes := zeros 1 ++ le 2 0x0100 ++ zeros 4
/-- The same with its CRC. -/
def sillB : Bytes := sillP ++ le 4 (crc32c ([0xA5] ++ sillP)).toNat
/-- A recovery frame of UPDATE_OFFER with the header `hdr0`. -/
def offerP : Bytes := zeros 1 ++ le 2 0x0902 ++ zeros 2 ++ le 2 516 ++ zeros 4 ++ hdr0
/-- The same with its CRC. -/
def offerB : Bytes := offerP ++ le 4 (crc32c ([0xA5] ++ offerP)).toNat
/-- Stack 0 switching, the upper switch of its first leg called for since the lower one was switched off at 0. -/
def legS : State :=
  { (rdy.modStack 0 fun x => { x with switching := true, kpOff := false }) with
    gates := vmod (vmod rdy.gates 0 fun g => { g with noCmd := false, pwm := true }) 1 fun g => { g with noCmd := false, lastOff := some 0 } }
/-- READY with gate channel 0 changed. -/
def gS (f : GateCh → GateCh) : State := { rdy with gates := vmod rdy.gates 0 f }
/-- Feedback port 0 in a mode, VALID. -/
def fbS (mode : Nat) (l : List (Nat × Nat)) (f : FbPort → FbPort) : State :=
  (cfgd [blk 1 [(0, 1), (9, 1)], blk 0x40 ((0, mode) :: l)]).modFb 0 fun p => f { p with state := 2 }
/-- An observer of machine 0. -/
def obsS (l : List (Nat × Nat)) (f : Observer → Observer) : State := (cfgd [blk 1 [(0, 1)], blk 0x50 l]).modObs 0 f
/-- RUN with axis 0. -/
def axS (l : List (Nat × Nat)) (f : Axis → Axis) : State :=
  ({ cfgd [blk 1 [(0, 1), (8, 1)], blk 0x70 ((4, 0) :: l)] with dev := .run } : State).modAxis 0 f
/-- Architecture B with a position sensor for the Kingpost, pair 0 in use, brake 0 of stack 0. -/
def safB (f : Safety → Safety) : State :=
  (cfgd [blk 1 [(0, 1)], blk 0x0F00 [(0, 1), (1, 1)], blk 0x0F01 [(0, 1)], blk 0x0F03 [(0, 1)]]).modSafety fun x => f { x with kpState := 2 }
/-- Brake 0, used by stack 0. -/
def brkS (d : DevState) (b : Brake → Brake) (m : Motion → Motion) : State :=
  ({ safB fun x => { x with brakes := vmod x.brakes 0 b } with dev := d } : State).modMotion m
/-- An SS1 of the Kingpost. -/
def fn2 : SafeFn := { fn := 2, mask := 1, source := 8, channel := .kingpost, slow := some 0 }
/-- The state a command answers. -/
def nextOf (i : Instr) (s : State) : State := match exec i s with
  | .next t => t
  | _ => s
/-- The state a step answers. -/
def stepOf (s : State) : State := match step s with
  | .next t => t
  | _ => s

/-- A node whose address claim waits. -/
def claimS : State := netS 4 [] fun a => { a with claiming := true }
theorem claim_t (u : State) (h : u.time = 10330000) (h2 : u.alcia.claimAt = 0) :
    u.alcia.claimAt + (msTicks 1 + serialNo / 2 ^ (10 * u.alcia.claimK) % 1024 * usTicks 100) ≤ u.time := by
  rw [h]
  exact claim_ok _ _ h2
/-- A state with a command waiting. -/
def busy : State := { unc with pending := [.nop 1 .host 0 [1]] }
theorem busy_inv : busy.Inv where
  credits := by intro c; cases c <;> (show State.inUse _ _ = 8; decide +kernel)
  queues := by intro c; refine ⟨?_, ?_, ?_⟩ <;> cases c <;> decide +kernel
  counters := by refine ⟨?_, ?_, ?_, ?_, ?_, ?_, ?_⟩ <;> decide +kernel
  blocks := by intro b h; cases h
  sorted := List.Pairwise.nil
  staging := by decide +kernel
  memory := by decide +kernel

/-! ### Values the manual works out -/

/-- R95: the check value of the CRC-32C. -/
theorem test_crc32c : (crc32c [0x31, 0x32, 0x33, 0x34, 0x35, 0x36, 0x37, 0x38, 0x39]).toNat = 0xE3069283 := by decide +kernel
/-- R301: the check value of the CRC-16. -/
theorem test_crc16 : (crc16 [0x31, 0x32, 0x33, 0x34, 0x35, 0x36, 0x37, 0x38, 0x39]).toNat = 0x29B1 := by decide +kernel
/-- R10: halfway rounds towards zero, and a result outside the range saturates. -/
theorem test_fixed_point : toFix 32 24 (3 / 2 / 16777216) = 1 ∧ toFix 32 24 (-3 / 2 / 16777216) = -1 ∧ toFix 32 24 200 = 2147483647 := by decide +kernel
/-- R90, the state query of chapter 04: READY, owned by the host, first without a reply and then with one of 28 bytes. -/
theorem test_status_word : rdy.statusWord .host = 0x05400000 ∧
    (rdy.modPort .host fun x => { x with replies := [{ data := zeros 16 }] }).statusWord .host = 0x0541001C := by decide +kernel
/-- The state query of chapter 04: the reply data with brake 0 applied, at the time the reply was formed, and the credit it takes (R98). -/
theorem test_get_state :
    let s : State := cfgd [blk 1 [(0, 1)], blk 0x0F03 [(0, 1)]]
    let t := nextOf (.getState 200001950 .host 0x11 []) s
    (t.port .host).replies.map (fun r => (r.status, r.seq, r.data)) =
      [(0, 0x11, [0x05, 0x01, 0x40, 0x00, 0x00, 0x01, 0x00, 0x00, 0x9E, 0xC9, 0xEB, 0x0B, 0x00, 0x00, 0x00, 0x00])] ∧ (t.port .host).credits = 7 := by decide +kernel
/-- The same: a poll window of 32 bytes delivers the reply and returns the credit. -/
theorem test_poll_delivers :
    let t := nextOf (.pollWindow ⟨2500, 2400⟩ 32) (nextOf (.getState 2000 .host 0x11 []) rdy)
    (t.port .host).credits = 8 ∧ (t.port .host).replies = [] ∧ t.pins.miso.take 5 = [0x1C, 0x00, 0x41, 0x05, 0x5B] := by decide +kernel
/-- The same: a poll window of 20 bytes ends before the CRC, so that the reply stays queued. -/
theorem test_poll_too_short :
    let t := nextOf (.pollWindow ⟨2500, 2400⟩ 20) (nextOf (.getState 2000 .host 0x11 []) rdy)
    (t.port .host).credits = 7 ∧ (t.port .host).replies.length = 1 := by decide +kernel
/-- R97: a packet whose CRC is wrong is answered E_CRC (0x03) with its SEQ. -/
theorem test_packet_crc : ((nextOf (.packetWindow ⟨0, 0⟩ (nopW.set 9 0) false) rdy).port .host).replies.map (fun r => r.seq) = [0x1234] ∧
    ((nextOf (.packetWindow ⟨0, 0⟩ nopW false) rdy).port .host).replies.map (fun r => (r.status, r.data)) = [(0, [0xAA, 0x55])] := by decide +kernel
/-- R356, the level-wind of chapter 14: halfway through the ramp the carriage stands 2,080 counts on. -/
theorem test_gear_half : (({ ra := 136314880, rb := -136314880, p0 := 2000000, l := 1024, d := 1 } : Axis).section 2000000 2000512).ppos = 2080 * 2 ^ 32 := by
  decide +kernel
/-- R356: at the end of the ramp it is back, in one section or in two. -/
theorem test_gear_back : ((({ ra := 136314880, rb := -136314880, p0 := 2000000, l := 1024, d := 1 } : Axis).section 2000000 2000512).section 2000512 2001024).ppos = 0 := by
  decide +kernel
/-- The axis of chapter 14: GEARED, GUARD 4,096, its master at `m`. -/
def levelWind (m : Int) : State := axS [(85, 16)] fun a => { a with state := 3, ra := 136314880, rb := 136314880, mLast := m }
/-- The same: the first event is 10,000 counts ahead, is queued and answered with the master's count. -/
theorem test_gear_event :
    let t := nextOf (.gearEvent 0 .host 7 (le 4 0 ++ le 4 1024 ++ le 8 2000000 ++ leI 8 (-136314880))) (levelWind 1990000)
    (t.port .host).replies.map (fun r => (r.status, r.data)) = [(0, leI 8 1990000)] ∧ (t.axis 0).queue.length = 1 := by decide +kernel
/-- The same: the second one is behind the master. -/
theorem test_gear_behind :
    let t := nextOf (.gearEvent 0 .host 7 (le 4 0 ++ le 4 1024 ++ le 8 1994000 ++ leI 8 (-136314880))) (levelWind 1994915)
    (t.port .host).replies.map (fun r => (r.status, r.data)) = [(eBehind, leI 8 1994915)] ∧ (t.axis 0).queue.length = 0 ∧ (t.axis 0).behind = 1 := by decide +kernel
/-- R307, chapter 12: the first pass caps member 3, the second gives the others x = 158,054,793,216. -/
theorem test_division_passes :
    let p := Division.passes (Vector.ofFn fun i : Fin 8 => if i = 3 then 2097152 else 2793472) (Vector.replicate 8 256) 8
      { left := 11744051, fr := [0, 1, 3, 4, 5], n := Vector.replicate 8 0, x := Vector.replicate 8 0 }
    p.left = 9646899 ∧ p.fr = [0, 1, 4, 5] ∧ vget p.n 3 0 = 2097152 ∧ vget p.x 0 0 = 158054793216 := by decide +kernel
/-- The upset of chapter 16: the Kingpost enters its safe state with cause 1, and its pulse-off overrides the ASC of OV3. -/
theorem test_lockstep :
    let t := nextOf (.lockstepMismatch 0 .drivePair 0) ((granted run).modStack 0 fun x => { x with ov3 := true, ov3Act := some false })
    t.safety.cause = 1 ∧ (t.stack 0).kpOff = true ∧ (t.gate 0).out ≠ .on ∧ (t.gate 1).out ≠ .on := by decide +kernel
/-- The DMA transfer of chapter 18: the first beat to 0x0080_1F50 ends at a 64-byte boundary, after 48 bytes. -/
theorem test_dma_first_beat :
    let s := (dmaS (fun c => { c with fetched := true, ctrl := 8, len := 10000, dst := 0x801F50 }) []).modDma fun d => { d with tlb := [(0, 0x801, 0, 0x8000 * 1024 + 0xC7)] }
    ((nextOf (.dmaBeat 0 0) s).dmaCh 0).done = 48 := by decide +kernel
/-- The same: a walk that finds V = 0 stops the channel as FAULTED, with a record. -/
theorem test_dma_unmapped :
    let s := (dmaS (fun c => { c with fetched := true, ctrl := 8, len := 10000, dst := 0x803000, atp := 8 * 2 ^ 60 }) []).modDma fun d => { d with tlb := [] }
    ((nextOf (.dmaBeat 0 0) s).dmaCh 0).state = 3 ∧ ((nextOf (.dmaBeat 0 0) s).dmaCh 0).record.isSome = true := by decide +kernel
/-- The warm die of chapter 22: 99.4 °C throttles the application cores by 5. -/
theorem test_throttle : (nextOf (.thermalEvaluation 0 ⟨Vector.replicate 6 (some 994)⟩) rdy).thermal.level = 5 := by
  decide +kernel
/-- R241, the feed-roller of chapter 09: δ of the two gaps. -/
theorem test_index_drift : wrapCpr 1560 60 = 0 ∧ wrapCpr 1619 60 = -1 := by decide +kernel
/-- R234: A leading B counts up, and both at once is an error that counts nothing. -/
theorem test_quadrature : ((nextOf (.feedbackEdge 0 0 (.edgeA true 0)) (fbS 1 [] id)).fbPort 0).count = 1 ∧
    ((nextOf (.feedbackEdge 0 0 (.edgeBoth true true 0)) (fbS 1 [] id)).fbPort 0).quadErrs = 1 := by decide +kernel
/-- R500, the node of chapter 20: the group frame goes out with identifier 0x0612_30C5. -/
theorem test_alcia_send :
    let s := netS 1 [(0, 0xC5)] fun a => { a with handle := 0x100 }
    let t := nextOf (.alciaSend 0 .host 0 ([0x00, 0x30, 0x12, 0x06, 0x03, 0x00, 0x10, 0x00] ++ zeros 16)) s
    (t.alPort 0).tx.map (fun f => f.ident) = [0x061230C5] ∧ (t.port .host).replies.map (fun r => r.data) = [le 4 0x100] := by decide +kernel
/-- R541, the firmware of chapter 21: the record written has SEQ 42, control slot 1, TRIAL 2 and TRIES 3. -/
theorem test_activate :
    let s := { updS 2 4 [] with upd := { (updS 2 4 []).upd with kind := 2, slots := vmod (Vector.replicate 8 none) 0 fun _ => some { header := put hdr0 [(65, 1), (66, 1)] }, recs := #v[{ valid := true, seq := 41 }, { valid := true, seq := 40 }] } }
    (nextOf (.updateActivate 0 .service 0 []) s).upd.recs[1] = { valid := true, seq := 42, slots := 4, trial := 2, tries := 3 } := by decide +kernel
/-- R383, the winch of chapter 15: the envelope at 1,001 ms for n0 = 20,000 and t0 = 1 ms. -/
theorem test_envelope : (cfgd [blk 1 [(0, 1)]]).envelope { fn := 2, mask := 1, source := 2, channel := .drivePair, t0 := 100000, n0 := 20000 } 100100000 = 13800 := by
  decide +kernel

/-! ### Ill-formed commands: one for every check of `Instr.wf`, which refuses it -/

theorem test_ill_formed_packet_window : (Instr.packetWindow ⟨0, 0⟩ (List.replicate 4112 0) false).wf = false := by decide +kernel
theorem test_ill_formed_poll_window : (Instr.pollWindow ⟨0, 0⟩ 0).wf = false := by decide
theorem test_ill_formed_repeat_window : (Instr.repeatWindow ⟨0, 0⟩ 0).wf = false := by decide
theorem test_ill_formed_discarded_window : (Instr.discardedWindow ⟨0, 0⟩ 0x11 0).wf = false := by decide
theorem test_ill_formed_seq : (Instr.nop 0 .host 65536 []).wf = false := by decide
theorem test_ill_formed_payload : (Instr.nop 0 .host 0 (List.replicate 4097 0)).wf = false := by decide +kernel
theorem test_ill_formed_share : (Instr.shareFrame 0 (zeros 65)).wf = false := by decide +kernel
theorem test_ill_formed_reply : (Instr.replyFrame 0 (zeros 65)).wf = false := by decide +kernel
theorem test_ill_formed_ident : (Instr.alciaFrameRx 0 0 ⟨2 ^ 29, true, false, true, false, [], 0⟩).wf = false ∧
    (Instr.alciaFrameRx 0 0 ⟨2 ^ 11, false, false, false, false, [], 0⟩).wf = false := by decide +kernel
theorem test_ill_formed_can_data : (Instr.alciaFrameRx 0 0 ⟨0, true, false, true, false, zeros 65, 0⟩).wf = false ∧
    (Instr.alciaFrameRx 0 0 ⟨0, true, false, false, false, zeros 9, 0⟩).wf = false := by decide +kernel
theorem test_ill_formed_remote_fd : (Instr.alciaFrameRx 0 0 ⟨0, true, true, true, false, [], 0⟩).wf = false := by decide
theorem test_ill_formed_scrub : (Instr.scrubBurst 0 .dram 0 (List.replicate 65 .clean) false).wf = false := by decide +kernel
theorem test_well_formed : (Instr.nop 0 .host 65535 (zeros 4096)).wf = true ∧ (Instr.pollWindow ⟨0, 0⟩ 1).wf = true := by decide +kernel

/-! ### Witnesses: for every clause of a statement that has hypotheses, operands and a state that meet them all -/

/-- The saliency of one angle whose rise is `r` (R261). -/
def salOf (r : Rat) : Rat :=
  let c2 := ([r].zipIdx.map fun x => x.1 * Config.cosTurn (2 * (x.2 : Rat) / (1 : Nat))).sum
  let s2 := ([r].zipIdx.map fun x => x.1 * Config.sinTurn (2 * (x.2 : Rat) / (1 : Nat))).sum
  2 * Config.sqrt (c2 * c2 + s2 * s2) / [r].sum
theorem salience : 0 ≤ salOf 1 * 100 ∨ 0 ≤ salOf (-1) * 100 := by
  have h : ∀ a b : Rat, ((-1) * a + 0) * ((-1) * a + 0) + ((-1) * b + 0) * ((-1) * b + 0) = (1 * a + 0) * (1 * a + 0) + (1 * b + 0) * (1 * b + 0) := by
    intro a b
    simp only [Rat.neg_mul, Rat.one_mul, Rat.add_zero, Rat.mul_neg, Rat.neg_neg]
  have hs : ∀ q : Rat, 0 ≤ q ∨ 0 ≤ -q := fun q => (Rat.le_total (a := 0) (b := q)).imp id fun h => by simpa using Rat.neg_le_neg h
  let X : Rat := Config.sqrt ((1 * Config.cosTurn (2 * ((0 : Nat) : Rat) / (1 : Nat)) + 0) * (1 * Config.cosTurn (2 * ((0 : Nat) : Rat) / (1 : Nat)) + 0) +
    (1 * Config.sinTurn (2 * ((0 : Nat) : Rat) / (1 : Nat)) + 0) * (1 * Config.sinTurn (2 * ((0 : Nat) : Rat) / (1 : Nat)) + 0))
  rcases hs (2 * X) with hx | hx
  · refine .inl ?_
    show 0 ≤ 2 * X / (1 + 0) * 100
    have : (1 : Rat) + 0 = 1 := by decide +kernel
    rw [this, Rat.div_def]
    exact Rat.mul_nonneg (Rat.mul_nonneg hx (by decide +kernel)) (by decide +kernel)
  · refine .inr ?_
    show 0 ≤ 2 * Config.sqrt ((-1 * Config.cosTurn _ + 0) * (-1 * Config.cosTurn _ + 0) + (-1 * Config.sinTurn _ + 0) * (-1 * Config.sinTurn _ + 0)) / (-1 + 0) * 100
    rw [h]
    show 0 ≤ 2 * X / (-1 + 0) * 100
    have : ((-1 : Rat) + 0)⁻¹ = -1 := by decide +kernel
    rw [Rat.div_def, this, Rat.mul_neg, Rat.mul_one]
    exact Rat.mul_nonneg hx (by decide +kernel)
/-- An observer of machine 0 in START after its only angle. -/
def salS (r : Rat) : State := obsS [(1, 1), (2, 1), (3, 1), (12, 0)] fun o => { o with state := 2, axis := none, step := 3, rises := [r] }
theorem sal_of {r : Rat} {d n : Nat} {l : List Rat} (hd : d = 0) (hn : n = 1) (hl : l = [r]) (h : 0 ≤ salOf r * 100) :
    (d : Rat) ≤ 2 * Config.sqrt ((l.zipIdx.map fun (x : Rat × Nat) => x.1 * Config.cosTurn (2 * (x.2 : Rat) / n)).sum *
      (l.zipIdx.map fun (x : Rat × Nat) => x.1 * Config.cosTurn (2 * (x.2 : Rat) / n)).sum + (l.zipIdx.map fun (x : Rat × Nat) => x.1 * Config.sinTurn (2 * (x.2 : Rat) / n)).sum *
      (l.zipIdx.map fun (x : Rat × Nat) => x.1 * Config.sinTurn (2 * (x.2 : Rat) / n)).sum) / l.sum * 100 := by
  subst hd hn hl
  exact h

/-- A session with the candidate `h`, `b` downloaded. -/
def updV (h b : Bytes) : State := { updS 1 4 b with upd := { (updS 1 4 b).upd with header := h } }
theorem updV_takes (h b : Bytes) (hne : b ≠ []) (hr : 512 + b.length = hdrSize h) : ((updV h b).upTo 0).takes .service 0x0904 [] :=
  takes_of (by
    have hd : ((updV h b).upTo 0).dev = .unconfigured := rfl
    have hl : ((updV h b).upTo 0).listens = true := rfl
    have hc : (((updV h b).upTo 0).port .service).credits = 8 := rfl
    have ho : opInfo 0x0904 = some ⟨63, false⟩ := by decide +kernel
    have hs : sourceOk 0x0904 .service = true := by decide +kernel
    have hn : lenOk 0x0904 [] = true := by decide +kernel
    have hb : ((updV h b).upTo 0).busyFor 0x0904 .service [] = none := rfl
    have hu : ((updV h b).upTo 0).upd.received = 512 + b.length := by
      have hx : ((updV h b).upTo 0).upd.body = b := rfl
      simp [Update.received, hx, hne]
    have hh : ((updV h b).upTo 0).upd.header = h := rfl
    have ho2 : ((updV h b).upTo 0).updOther 4 = false := rfl
    have hx : ((updV h b).upTo 0).upd.session = 1 := rfl
    have hk : ((updV h b).upTo 0).updOk 0x0904 4 = true := by simp [State.updOk, hu, hh, ho2, hx, hr]
    have hg : ((updV h b).upTo 0).sealedCfg = none := rfl
    have ht : ((updV h b).upTo 0).stateOk 0x0904 63 = true := by simp [State.stateOk, hk, hd, hg]; decide +kernel
    simp [State.objection, hl, hc, ho, hs, hn, hb, ht])

/-- The clause of `UpdateSession` on an image that passes: met by any image the keys in OTP accept (assumption 5). -/
theorem witness_UpdateVerified (h b : Bytes) (hne : b ≠ []) (hr : 512 + b.length = hdrSize h) (ha : authentic { header := h, body := b } = true)
    (hc : ((updV h b).upTo 0).compatible ((updV h b).upTo 0).judgedSet 0 h = true) :
    ∃ (t : Tick) (p : Bytes) (s : State), let u := s.upTo t; let c := Source.service; u.takes c 0x0904 p ∧ u.upd.session ≠ 3 ∧ u.verdict = 0 := by
  refine ⟨0, [], updV h b, updV_takes h b hne hr, (by intro h; cases h), ?_⟩
  have h1 : ((updV h b).upTo 0).upd.header = h := rfl
  have h2 : ((updV h b).upTo 0).upd.body = b := rfl
  have h3 : ((updV h b).upTo 0).upd.counter = 0 := rfl
  have h4 : ((updV h b).upTo 0).upd.kind = 0 := rfl
  unfold State.verdict
  simp only [h1, h2, h3, h4, ha, hc]
  rfl


theorem witness_StepRunsTheQueue :
    ∃ (s : State), s.pending = [] :=
  ⟨rdy, by decide +kernel⟩

theorem witness_QueriesAndEventQueue :
    (∃ (t : Tick) (c : Source) (p : Bytes) (s : State), let u := s.upTo t; u.takes c 0x0100 p) ∧
    (∃ (t : Tick) (c : Source) (p : Bytes) (s : State), let u := s.upTo t; u.takes c 0x0101 p) ∧
    (∃ (t : Tick) (c : Source) (p : Bytes) (s : State), let u := s.upTo t; u.takes c 0x0109 p) ∧
    (∃ (t : Tick) (c : Source) (p : Bytes) (s : State), let u := s.upTo t; u.takes c 0x0400 p) ∧
    (∃ (t : Tick) (c : Source) (p : Bytes) (s : State), let u := s.upTo t; u.takes c 0x0404 p) ∧
    (∃ (t : Tick) (c : Source) (p : Bytes) (s : State), let u := s.upTo t; u.takes c 0x0105 p ∧ 1 ≤ getN p 0 2 ∧ getN p 0 2 ≤ 170) ∧
    (∃ (t : Tick) (c : Source) (p : Bytes) (s : State) (pre : List EventRec) (post : List EventRec) (e : EventRec), let u := s.upTo t;
    u.takes c 0x0106 p ∧ (u.port c).events = pre ++ e :: post ∧ e.eseq = getN p 0 2 ∧ (∀ x ∈ pre, x.eseq ≠ getN p 0 2) ∧ (u.port c).lost = 0) :=
  ⟨⟨0, .host, [], rdy, takes_of (by decide +kernel)⟩,
    ⟨0, .host, [], rdy, takes_of (by decide +kernel)⟩,
    ⟨0, .host, [], rdy, takes_of (by decide +kernel)⟩,
    ⟨0, .host, [], rdy, takes_of (by decide +kernel)⟩,
    ⟨0, .host, [], rdy, takes_of (by decide +kernel)⟩,
    ⟨0, .host, [170, 0], rdy, takes_of (by decide +kernel), by decide +kernel, by decide +kernel⟩,
    ⟨0, .host, [5, 0], { rdy with ports := vmod rdy.ports 0 fun x => { x with events := [ev5] } }, [], [], ev5, takes_of (by decide +kernel),
    by decide +kernel, by decide +kernel, by decide +kernel, by decide +kernel⟩⟩

theorem witness_OwnershipResetAndCyclicSetup :
    (∃ (t : Tick) (c : Source) (p : Bytes) (s : State), let u := s.upTo t; u.takes c 0x0103 p ∧ 1 ≤ getN p 0 4 ∧ getN p 0 4 ≤ 60000 ∧ u.owner = none ∧
    u.dev ≠ .shelter) ∧
    (∃ (t : Tick) (c : Source) (p : Bytes) (s : State) (o : _), let u := s.upTo t; u.takes c 0x0104 p ∧ u.owner = some o ∧ u.safety.session ≠ some o) ∧
    (∃ (t : Tick) (c : Source) (s : State), let u := s.upTo t; u.owner = some c ∧ (u.port c).cyclic.enabled = false ∧
    ((u.port c).ownLate = true ∨ max (u.port c).lastOk (u.port c).cyclic.offSince + msTicks (u.port c).ownMs + 100 ≤ t)) ∧
    (∃ (t : Tick) (c : Source) (p : Bytes) (s : State), let u := s.upTo t; u.takes c 0x0102 p ∧ getN p 0 4 = 0x4820B0C5) ∧
    (∃ (t : Tick) (c : Source) (p : Bytes) (s : State) (t' : _), let u := s.upTo t; u.takes c 0x0102 p ∧ getN p 0 4 = 0x4820B0C5 ∧ u.time + 1000000 ≤ t') ∧
    (∃ (t : Tick) (c : Source) (p : Bytes) (s : State), let u := s.upTo t; u.takes c 0x0108 p ∧ getN p 0 1 = 1 ∧ 1 ≤ getN p 1 1 ∧ getN p 1 1 ≤ 16 ∧
    getN p 2 2 = 0 ∧ getN p 4 4 + 500 ≤ u.ctrlCycle) ∧
    (∃ (t : Tick) (c : Source) (p : Bytes) (s : State), let u := s.upTo t; u.takes c 0x0108 p ∧ getN p 0 1 = 0 ∧ 1 ≤ getN p 1 1 ∧ getN p 1 1 ≤ 16 ∧
    getN p 2 2 = 0 ∧ getN p 4 4 + 500 ≤ u.ctrlCycle) :=
  ⟨⟨0, .host, [96, 234, 0, 0], { rdy with owner := none }, takes_of (by decide +kernel), by decide +kernel, by decide +kernel, by decide +kernel,
    by decide +kernel⟩,
    ⟨0, .host, [], rdy, .host, takes_of (by decide +kernel), by decide +kernel, by decide +kernel⟩,
    ⟨100000 * 1 + 100, .host, { rdy with ports := vmod rdy.ports 0 fun x => { x with ownMs := 1 } }, by decide +kernel, by decide +kernel,
    .inr (by decide +kernel)⟩,
    ⟨0, .host, [197, 176, 32, 72], rdy, takes_of (by decide +kernel), by decide +kernel⟩,
    ⟨0, .host, [197, 176, 32, 72], rdy, 1000000, takes_of (by decide +kernel), by decide +kernel, by decide +kernel⟩,
    ⟨0, .host, [1, 16, 0, 0, 0, 0, 0, 0], rdy, takes_of (by decide +kernel), by decide +kernel, by decide +kernel, by decide +kernel, by decide +kernel,
    by decide +kernel⟩,
    ⟨0, .host, [0, 1, 0, 0, 0, 0, 0, 0], rdy, takes_of (by decide +kernel), by decide +kernel, by decide +kernel, by decide +kernel, by decide +kernel,
    by decide +kernel⟩⟩

theorem witness_SupplySupervised :
    (∃ (s : State), s.dev = .off) ∧
    (∃ (s : State), s.dev = .inReset ∧ s.power.vinHold = true) ∧
    (∃ (s : State), s.dev = .inReset ∧ s.power.ovrHold = true) ∧
    (∃ (s : State), s.dev ≠ .inReset) ∧
    (∃ (s : State), s.dev ≠ .off ∧ s.dev ≠ .inReset) ∧
    (∃ (t : Tick) (s : State), let u := s.upTo t; u.awake = true) ∧
    (∃ (t : Tick) (s : State), let u := s.upTo t; u.awake = true ∧ u.power.vinHigh = true) ∧
    (∃ (t : Tick) (s : State), let u := s.upTo t; u.awake = true ∧ u.dev ≠ .boot) :=
  ⟨⟨{ State.reset with dev := .off }, by decide +kernel⟩,
    ⟨{ rst with power := { rst.power with vinHold := true } }, by decide +kernel, by decide +kernel⟩,
    ⟨{ rst with power := { rst.power with ovrHold := true } }, by decide +kernel, by decide +kernel⟩,
    ⟨run, by decide +kernel⟩,
    ⟨run, by decide +kernel, by decide +kernel⟩,
    ⟨0, rdy, by decide +kernel⟩,
    ⟨0, rdy.modPower fun x => { x with vinHigh := true }, by decide +kernel, by decide +kernel⟩,
    ⟨0, rdy, by decide +kernel, by decide +kernel⟩⟩

theorem witness_ResetsBeginAndEnd :
    (∃ (ns : Nat), ns < 500) ∧
    (∃ (ns : Nat) (s : State), 2000 ≤ ns ∧ s.dev ≠ .off) ∧
    (∃ (t : Tick) (s : State), let u := s.upTo t; u.power.rstPin = true ∧ u.power.nextCause.getLsbD 1 = true) ∧
    (∃ (t : Tick) (c : Source) (q : Tick) (d : Tick) (s : State), let u := s.upTo t; s.dev ≠ .off ∧ (c, q, some d) ∈ u.power.resetDue ∧ d + 1000 ≤ t) ∧
    (∃ (t : Tick) (c : Source) (q : Tick) (s : State), let u := s.upTo t; s.dev ≠ .off ∧ (c, q, none) ∈ u.power.resetDue ∧ q + 1000000 ≤ t) ∧
    (∃ (s : State), s.dev = .inReset ∧ s.power.rstPin = false ∧ s.power.vinHold = false ∧ s.power.ovrHold = false ∧ s.power.kpHold = none) :=
  ⟨⟨499, by decide +kernel⟩,
    ⟨2000, rdy, by decide +kernel, by decide +kernel⟩,
    ⟨0, rst.modPower fun x => { x with rstPin := true, nextCause := 2 }, by decide +kernel, by decide +kernel⟩,
    ⟨1000, .host, 0, 0, rdy.modPower fun x => { x with resetDue := [(.host, 0, some 0)] }, by decide +kernel, by decide +kernel, by decide +kernel⟩,
    ⟨1000000, .host, 0, rdy.modPower fun x => { x with resetDue := [(.host, 0, none)] }, by decide +kernel, by decide +kernel, by decide +kernel⟩,
    ⟨rst, by decide +kernel, by decide +kernel, by decide +kernel, by decide +kernel, by decide +kernel⟩⟩

theorem witness_FaultResetsAndWatchdog :
    (∃ (r : Rail) (s : State), s.dev ≠ .off ∧ s.dev ≠ .inReset ∧ ¬(s.dev = .watch ∧ railOffInWatch r = true)) ∧
    (∃ (s : State), s.dev ≠ .off ∧ s.dev ≠ .watch) ∧
    (∃ (s : State), s.dev = .inReset ∧ s.power.kpHold ≠ none) ∧
    (∃ (t : Tick) (kt : Nat) (w : BitVec 16) (s : State), let u := (s.upTo t).upKt kt; u.wdRuns = true ∧ w = ~~~u.safety.challenge ∧
    kt ≤ u.safety.wdLast + u.wdT ∧ (u.safety.wdServed = false ∨ u.wdT ≤ 8 * (kt - u.safety.wdLast))) ∧
    (∃ (t : Tick) (kt : Nat) (w : BitVec 16) (s : State), let u := (s.upTo t).upKt kt; u.wdRuns = true ∧
    (w ≠ ~~~u.safety.challenge ∨ u.safety.wdLast + u.wdT < kt ∨ (u.safety.wdServed = true ∧ 8 * (kt - u.safety.wdLast) < u.wdT))) ∧
    (∃ (t : Tick) (kt : Nat) (s : State), let u := (s.upTo t).upKt kt; u.wdRuns = true ∧ u.safety.wdLast + u.wdT < kt) :=
  ⟨⟨.vcore, rdy, by decide +kernel, by decide +kernel, by decide +kernel⟩,
    ⟨rdy, by decide +kernel, by decide +kernel⟩,
    ⟨rst.modPower fun x => { x with kpHold := some .clock }, by decide +kernel, by decide +kernel⟩,
    ⟨0, rdy.wdT / 8, 0, rdy, by decide +kernel, by decide +kernel, by decide +kernel, by decide +kernel⟩,
    ⟨0, 0, 1, rdy, by decide +kernel, by decide +kernel⟩,
    ⟨0, rdy.wdT + 1, rdy, by decide +kernel, by decide +kernel⟩⟩

theorem witness_BootReachesUnconfigured :
    (∃ (t : Tick) (s : State), let u := s.upTo t; u.dev ≠ .off) ∧
    (∃ (t : Tick) (s : State), let u := s.upTo t; u.awake = true ∧ u.power.xtalOk = true) ∧
    (∃ (t : Tick) (s : State), let u := s.upTo t; u.awake = true ∧ u.power.xtalOk = false) ∧
    (∃ (s : State), s.dev = .boot ∧ s.power.memFail = none ∧ s.safety.kpState ≠ 3 ∧ s.upd.fallback = [] ∧ s.power.late = [] ∧ s.faults.objs = []) ∧
    (∃ (s : State), s.dev = .boot ∧ s.power.memFail.isSome = true) ∧
    (∃ (t : Tick) (s : State), let u := s.upTo t; u.awake = true ∧ u.dev ≠ .boot) :=
  ⟨⟨0, rdy, by decide +kernel⟩,
    ⟨0, rdy.modPower fun x => { x with xtalOk := true }, by decide +kernel, by decide +kernel⟩,
    ⟨0, rdy, by decide +kernel, by decide +kernel⟩,
    ⟨State.reset.modSafety fun x => { x with kpState := 2 }, by decide +kernel, by decide +kernel, by decide +kernel, by decide +kernel,
    by decide +kernel, by decide +kernel⟩,
    ⟨State.reset.modPower fun x => { x with memFail := some .dram }, by decide +kernel, by decide +kernel⟩,
    ⟨0, rdy, by decide +kernel, by decide +kernel⟩⟩

theorem witness_WatchEntryBegins :
    (∃ (t : Tick) (c : Source) (p : Bytes) (s : State), let u := s.upTo t; u.takes c 0x0107 p ∧ u.mayWatch = true ∧ c ≠ .alcia) ∧
    (∃ (t : Tick) (c : Source) (p : Bytes) (s : State), let u := s.upTo t; u.takes c 0x0107 p ∧ u.mayWatch = false) :=
  ⟨⟨0, .host, [], rdy, takes_of (by decide +kernel), by decide +kernel, by decide +kernel⟩,
    ⟨0, .host, [], { rdy with app := { rdy.app with state := 2 } }, takes_of (by decide +kernel), by decide +kernel⟩⟩

theorem witness_WatchEntersAndWakes :
    (∃ (t : Tick) (s : State), let u := s.upTo t; u.watch.entry.isSome = true ∧ u.dev = .ready ∧ u.watch.waking = none ∧ u.up = true) ∧
    (∃ (w : WakeSource) (s : State), s.dev = .watch ∧ s.watch.waking = none ∧ s.wakeEnabled w = true) ∧
    (∃ (w : WakeSource) (s : State), s.wakeEnabled w = false) ∧
    (∃ (mv : Int) (s : State), s.dev = .watch ∧ s.cu 0x14 40 1 = 1 ∧ (mv - s.watch.srefEntry).natAbs ≤ 50 * s.cu 1 5 1) ∧
    (∃ (mv : Int) (s : State), s.dev = .watch ∧ s.cu 0x14 40 1 = 1 ∧ (s.cu 1 4 1).testBit 2 = true ∧ s.watch.waking = none ∧
    50 * s.cu 1 5 1 < (mv - s.watch.srefEntry).natAbs) ∧
    (∃ (s : State), s.dev = .watch ∧ s.watch.waking.isSome = true) ∧
    (∃ (w : WakeSource) (s : State), s.dev = .watch ∧ s.watch.waking = some w) :=
  ⟨⟨0, { rdy with watch := { entry := some 0 } }, by decide +kernel, by decide +kernel, by decide +kernel, by decide +kernel⟩,
    ⟨.hcs, wat [(4, 7)], by decide +kernel, by decide +kernel, by decide +kernel⟩,
    ⟨.sref, wat [], by decide +kernel⟩,
    ⟨50, wat2 [], by decide +kernel, by decide +kernel, by decide +kernel⟩,
    ⟨51, wat2 [(4, 7)], by decide +kernel, by decide +kernel, by decide +kernel, by decide +kernel, by decide +kernel⟩,
    ⟨{ wat [] with watch := { waking := some .hcs } }, by decide +kernel, by decide +kernel⟩,
    ⟨.hcs, { wat [] with watch := { waking := some .hcs } }, by decide +kernel, by decide +kernel⟩⟩

theorem witness_ConfigurationWrittenAndRead :
    (∃ (t : Tick) (c : Source) (p : Bytes) (s : State), let u := s.upTo t; u.takes c 0x0200 p ∧ blockFails (ordinaryLayout (getN p 0 2)) p = none ∧
    getN p 0 2 ∉ [0x0001, 0x0090, 0x0091, 0x0092]) ∧
    (∃ (t : Tick) (c : Source) (p : Bytes) (s : State) (l : _), let u := s.upTo t; u.takes c 0x0200 p ∧
    blockFails (ordinaryLayout (getN p 0 2)) p = some l) ∧
    (∃ (l : List (Nat × Bytes)), (l.Pairwise fun a b => a.1 < b.1)) ∧
    (∃ (t : Tick) (c : Source) (p : Bytes) (s : State), let u := s.upTo t; u.takes c 0x0201 p ∧ (blockLayout (getN p 0 2)).isSome = true ∧ getN p 2 2 ≤ 1) ∧
    (∃ (t : Tick) (c : Source) (p : Bytes) (s : State), let u := s.upTo t; u.takes c 0x0202 p ∧ u.firstFail false = none) ∧
    (∃ (t : Tick) (c : Source) (p : Bytes) (s : State) (f : _), let u := s.upTo t; u.takes c 0x0202 p ∧ u.firstFail false = some f) ∧
    (∃ (t : Tick) (c : Source) (p : Bytes) (s : State) (g : _), let u := s.upTo t; u.takes c 0x0205 p ∧ u.sealedCfg = some g) :=
  ⟨⟨0, .host, [0x24, 0, 1, 0] ++ blockDefaults 0x24, unc, takes_of (by decide +kernel), by decide +kernel, by decide +kernel⟩,
    ⟨0, .host, [0x24, 0, 2, 0] ++ blockDefaults 0x24, unc, (0, 2), takes_of (by decide +kernel), by decide +kernel⟩,
    ⟨[(1, []), (2, [])], by decide +kernel⟩,
    ⟨0, .host, [1, 0, 1, 0], rdy, takes_of (by decide +kernel), by decide +kernel, by decide +kernel⟩,
    ⟨0, .host, [], sealable, takes_of (by decide +kernel), by exact sealable_ok false⟩,
    ⟨0, .host, [], unc, (1, 0xFFFF, eRange), takes_of (by decide +kernel), by decide +kernel⟩,
    ⟨0, .host, [], rdy, sealed0, takes_of (by decide +kernel), by decide +kernel⟩⟩

theorem witness_SealEnableAndClear :
    (∃ (t : Tick) (c : Source) (p : Bytes) (s : State), let u := s.upTo t; u.takes c 0x0203 p ∧ u.firstFail true = none ∧ u.kpRefuses = none) ∧
    (∃ (t : Tick) (c : Source) (p : Bytes) (s : State) (f : _), let u := s.upTo t; u.takes c 0x0203 p ∧ u.firstFail true = some f ∧ f.2.2 ≠ 0) ∧
    (∃ (t : Tick) (c : Source) (p : Bytes) (s : State) (i : _), let u := s.upTo t; u.takes c 0x0203 p ∧ u.firstFail true = none ∧ u.kpRefuses = some i) ∧
    (∃ (t : Tick) (c : Source) (p : Bytes) (s : State), let u := s.upTo t; u.takes c 0x0204 p ∧ u.dev = .ready ∧ u.mayUnseal true = true) ∧
    (∃ (t : Tick) (c : Source) (p : Bytes) (s : State), let u := s.upTo t; u.takes c 0x0300 p ∧ u.mayEnable = true) ∧
    (∃ (t : Tick) (c : Source) (p : Bytes) (s : State), let u := s.upTo t; u.takes c 0x0300 p ∧ u.mayEnable = false) ∧
    (∃ (t : Tick) (c : Source) (p : Bytes) (s : State), let u := s.upTo t; u.takes c 0x0307 p ∧ (∀ h ∈ u.heldFaults, h.1.cls ≠ 14)) ∧
    (∃ (t : Tick) (c : Source) (p : Bytes) (s : State) (h : _), let u := s.upTo t; u.takes c 0x0307 p ∧
    (u.heldFaults.find? fun x => x.1.cls == 14) = some h) :=
  ⟨⟨0, .host, [], sealable, takes_of (by decide +kernel), by exact sealable_ok true, by decide +kernel⟩,
    ⟨0, .host, [], unc, (1, 0xFFFF, eRange), takes_of (by decide +kernel), by decide +kernel, by decide +kernel⟩,
    ⟨0, .host, [], sealKp, 0x0F00, takes_of (by decide +kernel), sealKp_ok, by decide +kernel⟩,
    ⟨0, .host, [], rdy, takes_of (by decide +kernel), by decide +kernel, by decide +kernel⟩,
    ⟨0, .host, [], granted rdy, takes_of (by decide +kernel), by decide +kernel⟩,
    ⟨0, .host, [], rdy, takes_of (by decide +kernel), by decide +kernel⟩,
    ⟨0, .host, [], rdy, takes_of (by decide +kernel), by rw [noFaults]; nofun⟩,
    ⟨0, .host, [], fatal0, (⟨14, 2, 0⟩, 0), takes_of (by decide +kernel), by rw [oneFault]; rfl⟩⟩

theorem witness_MotionSetpointsKept :
    (∃ (t : Tick) (c : Source) (p : Bytes) (s : State), let u := s.upTo t; u.takes c 0x0302 p ∧ getN p 0 1 ≤ 2 ∧ getN p 2 2 = 0 ∧
    (getN p 1 1 = 0 ∨ (getN p 1 1 = 1 ∧ (u.port c).cyclic.enabled = true) ∨ (getN p 1 1 = 2 ∧ u.cu 0x0014 40 1 ≠ 0 ∧ getN p 0 1 = u.cu 0x0014 41 1))) ∧
    (∃ (t : Tick) (c : Source) (p : Bytes) (s : State), let u := s.upTo t; u.takes c 0x0303 p ∧ u.onPath 0 = true) ∧
    (∃ (t : Tick) (c : Source) (p : Bytes) (s : State), let u := s.upTo t; u.takes c 0x0304 p ∧ u.onPath 1 = true ∧ 0 ≤ getI p 4 4) ∧
    (∃ (t : Tick) (c : Source) (p : Bytes) (s : State), let u := s.upTo t; u.takes c 0x0305 p ∧ u.onPath 2 = true ∧ 0 ≤ getI p 8 4 ∧ getN p 12 4 = 0) ∧
    (∃ (t : Tick) (c : Source) (p : Bytes) (s : State), let u := s.upTo t; u.takes c 0x0306 p ∧ 0 ≤ getI p 0 4 ∧ getI p 4 4 ≤ 0 ∧ 0 ≤ getI p 8 4 ∧
    getN p 12 4 = 0) ∧
    (∃ (t : Tick) (c : Source) (p : Bytes) (s : State), let u := s.upTo t; u.takes c 0x0303 p ∧ u.onPath 0 = false) :=
  ⟨⟨0, .host, [2, 0, 0, 0], rdy, takes_of (by decide +kernel), by decide +kernel, by decide +kernel, by decide +kernel⟩,
    ⟨0, .host, [0, 0, 0, 0x80], run, takes_of (by decide +kernel), by decide +kernel⟩,
    ⟨0, .host, [0, 0, 0, 128, 0, 0, 0, 0], run.modMotion fun m => { m with mode := 1 }, takes_of (by decide +kernel), by decide +kernel,
    by decide +kernel⟩,
    ⟨0, .host, [0, 0, 0, 0, 0, 0, 0, 0, 0, 0, 0, 0, 0, 0, 0, 0], run.modMotion fun m => { m with mode := 2 }, takes_of (by decide +kernel),
    by decide +kernel, by decide +kernel, by decide +kernel⟩,
    ⟨0, .host, [0, 0, 0, 0, 0, 0, 0, 0, 0, 0, 0, 0, 0, 0, 0, 0], rdy, takes_of (by decide +kernel), by decide +kernel, by decide +kernel,
    by decide +kernel, by decide +kernel⟩,
    ⟨0, .host, [0, 0, 0, 0], run.modMotion fun m => { m with path := 2 }, takes_of (by decide +kernel), by decide +kernel⟩⟩

theorem witness_OuterLoopAndStops :
    (∃ (t : Tick) (c : Source) (p : Bytes) (s : State), let u := s.upTo t; u.takes c 0x0301 p ∧ getN p 0 1 ≤ 1 ∧ u.dev = .ready) ∧
    (∃ (t : Tick) (c : Source) (p : Bytes) (s : State), let u := s.upTo t; u.takes c 0x0301 p ∧ getN p 0 1 ≤ 1 ∧ (∀ k ∈ u.enStacks, u.canRamp k = true) ∧
    u.motion.stop = none ∧ getN p 0 1 = 0 ∧ (u.dev = .run ∨ u.dev = .shelter)) ∧
    (∃ (t : Tick) (c : Source) (p : Bytes) (s : State), let u := s.upTo t; u.takes c 0x0301 p ∧ 1 < getN p 0 1) ∧
    (∃ (t : Tick) (s : State), let u := s.upTo t; (u.sealedCfg = none ∨ u.motion.outerAt ≠ some t)) ∧
    (∃ (t : Tick) (s : State), let u := s.upTo t; u.sealedCfg.isSome = true ∧ u.awake = true ∧ u.motion.outerAt = some t ∧
    vget u.integ.halted 0 false = false) :=
  ⟨⟨0, .host, [1], rdy, takes_of (by decide +kernel), by decide +kernel, by decide +kernel⟩,
    ⟨0, .host, [0], ramps, takes_of (by decide +kernel), by decide +kernel, by decide +kernel, by decide +kernel, by decide +kernel, by decide +kernel⟩,
    ⟨0, .host, [2], rdy, takes_of (by decide +kernel), by decide +kernel⟩,
    ⟨0, unc, by decide +kernel⟩,
    ⟨0, run.modMotion fun m => { m with outerAt := some 0 }, by decide +kernel, by decide +kernel, by decide +kernel, by decide +kernel⟩⟩

theorem witness_SrefInputFollowed :
    (∃ (t : Tick) (s : State) (r : _) (f : _), let u := s.upTo t; u.sealedCfg.isSome = true ∧ u.awake = true ∧
    (u.cu 0x0014 40 1 = 3 ∨ u.cu 0x0014 40 1 = 4) ∧ u.sref.high = false ∧ u.sref.lastRise = some r ∧ u.sref.lastFall = some f ∧ r ≤ f) ∧
    (∃ (t : Tick) (s : State), let u := s.upTo t; u.sealedCfg.isSome = true ∧ u.awake = true ∧ (u.cu 0x0014 40 1 = 3 ∨ u.cu 0x0014 40 1 = 4) ∧
    u.sref.high = true) ∧
    (∃ (t : Tick) (s : State), let u := s.upTo t; u.sealedCfg.isSome = true ∧ u.awake = true ∧ u.cu 0x0014 40 1 = 2) ∧
    (∃ (t : Tick) (kind : WireBreakKind) (s : State), let u := s.upTo t; u.sealedCfg.isSome = true ∧ u.awake = true ∧ u.sref.broken = false ∧
    u.wireBroken kind = true) ∧
    (∃ (t : Tick) (s : State) (f : _), let u := s.upTo t; u.sealedCfg.isSome = true ∧ u.awake = true ∧ u.sref.broken = true ∧ u.srefValid = true ∧
    u.srefC = 0 ∧ u.sref.quiet = some f ∧ f + 10000000 ≤ u.time) :=
  ⟨⟨0, sr 3 { lastRise := some 3, lastFall := some 3 }, 3, 3, by decide +kernel, by decide +kernel, by decide +kernel, by decide +kernel,
    by decide +kernel, by decide +kernel, by decide +kernel⟩,
    ⟨0, sr 4 { high := true }, by decide +kernel, by decide +kernel, by decide +kernel, by decide +kernel⟩,
    ⟨0, sr 2 {}, by decide +kernel, by decide +kernel, by decide +kernel⟩,
    ⟨1000000000, .lowLevel, sr 1 { lowSince := some 0 }, by decide +kernel, by decide +kernel, by decide +kernel, by decide +kernel⟩,
    ⟨10000000, sr 1 { broken := true, quiet := some 0, lowSince := none, mv := 700 }, 0, by decide +kernel, by decide +kernel, by decide +kernel,
    by decide +kernel, by decide +kernel, by decide +kernel, by decide +kernel⟩⟩

theorem witness_SafetySessionsAndBlocks :
    (∃ (t : Tick) (c : Source) (p : Bytes) (s : State), let u := s.upTo t; u.takes c 0x0500 p ∧ u.lockedOut = false ∧ u.pwOk p = true) ∧
    (∃ (t : Tick) (c : Source) (p : Bytes) (s : State), let u := s.upTo t; u.takes c 0x0500 p ∧ u.lockedOut = false ∧ u.pwOk p = false ∧
    u.safety.failures = 4 ∧ u.safety.session = none) ∧
    (∃ (t : Tick) (c : Source) (p : Bytes) (s : State), let u := s.upTo t; u.takes c 0x0500 p ∧ u.lockedOut = true) ∧
    (∃ (t : Tick) (s : State) (e : _), let u := s.upTo t; u.safety.lockedTo = some e ∧ e ≤ u.time) ∧
    (∃ (t : Tick) (c : Source) (p : Bytes) (s : State), let u := s.upTo t; u.takes c 0x0501 p ∧ u.safety.session = some c) ∧
    (∃ (t : Tick) (c : Source) (p : Bytes) (s : State), let u := s.upTo t; u.takes c 0x0507 p ∧ u.safety.session = some c ∧
    u.pwOk (p.take u.safety.pwLen) = true ∧ pwForm (p.drop u.safety.pwLen) = true ∧ u.logRoom = true) ∧
    (∃ (t : Tick) (c : Source) (p : Bytes) (s : State), let u := s.upTo t; u.takes c 0x0507 p ∧ u.safety.session ≠ some c) ∧
    (∃ (t : Tick) (c : Source) (p : Bytes) (s : State), let u := s.upTo t; u.takes c 0x0502 p ∧ u.safety.session = some c ∧
    blockFails (safetyLayout (getN p 0 2)) p = none) ∧
    (∃ (t : Tick) (c : Source) (p : Bytes) (s : State), let u := s.upTo t; u.takes c 0x0502 p ∧ u.safety.session ≠ some c) ∧
    (∃ (t : Tick) (c : Source) (p : Bytes) (s : State), let u := s.upTo t; u.takes c 0x0503 p ∧ getN p 0 2 = 0xFFFF) ∧
    (∃ (t : Tick) (c : Source) (p : Bytes) (s : State) (pre : _) (e : _) (post : _), let u := s.upTo t; u.takes c 0x0504 p ∧
    u.safety.log = pre ++ e :: post ∧ e.index = getN p 0 2 ∧ (∀ x ∈ pre, x.index ≠ getN p 0 2)) ∧
    (∃ (t : Tick) (c : Source) (p : Bytes) (s : State), let u := s.upTo t; u.takes c 0x0505 p) :=
  ⟨⟨0, .host, pw, withPw, takes_of (by decide +kernel), by decide +kernel, by exact withPw_ok 0⟩,
    ⟨0, .host, zeros 8, unc.modSafety fun x => { x with failures := 4, stored := some ⟨zeros 16, []⟩ }, takes_of (by decide +kernel), by decide +kernel,
    by exact wrongPw _ _ rfl, by decide +kernel, by decide +kernel⟩,
    ⟨0, .host, zeros 8, unc.modSafety fun x => { x with lockedTo := some 1 }, takes_of (by decide +kernel), by decide +kernel⟩,
    ⟨0, unc.modSafety fun x => { x with lockedTo := some 0 }, 0, by decide +kernel, by decide +kernel⟩,
    ⟨0, .host, [], inSession, takes_of (by decide +kernel), by decide +kernel⟩,
    ⟨0, .host, pw ++ List.replicate 8 0x42, inSession, takes_of (by decide +kernel), by decide +kernel, by exact withPw_ok 0, by decide +kernel,
    by decide +kernel⟩,
    ⟨0, .host, zeros 16, unc, takes_of (by decide +kernel), by decide +kernel⟩,
    ⟨0, .host, [0, 15, 1, 0] ++ blockDefaults 0x0F00, inSession, takes_of (by decide +kernel), by decide +kernel, by decide +kernel⟩,
    ⟨0, .host, [0, 15, 1, 0] ++ blockDefaults 0x0F00, unc, takes_of (by decide +kernel), by decide +kernel⟩,
    ⟨0, .host, [255, 255], rdy, takes_of (by decide +kernel), by decide +kernel⟩,
    ⟨0, .host, [0, 0], { inSession with safety := { inSession.safety with log := [log0] } }, [], log0, [], takes_of (by decide +kernel),
    by decide +kernel, by decide +kernel, by decide +kernel⟩,
    ⟨0, .host, [], rdy, takes_of (by decide +kernel)⟩⟩

theorem witness_FunctionRequestedAndAcknowledged :
    (∃ (t : Tick) (c : Source) (p : Bytes) (s : State), let u := s.upTo t; let mask := BitVec.ofNat 4 (getN p 1 1); u.takes c 0x0506 p ∧ 1 ≤ getN p 0 1 ∧
    getN p 0 1 ≤ 3 ∧ 1 ≤ getN p 1 1 ∧ getN p 1 1 ≤ 15 ∧ getN p 2 2 = 0 ∧ mask &&& ~~~u.enMask = 0 ∧ (getN p 0 1 = 2 → mask = u.enMask) ∧
    (getN p 0 1 = 3 → u.brakesOf mask ≠ [])) ∧
    (∃ (t : Tick) (c : Source) (p : Bytes) (s : State), let u := s.upTo t; let mask := BitVec.ofNat 4 (getN p 1 1); u.takes c 0x0506 p ∧ 1 ≤ getN p 0 1 ∧
    getN p 0 1 ≤ 3 ∧ mask &&& ~~~u.enMask ≠ 0) ∧
    (∃ (t : Tick) (kt : Nat) (s : State), let u := (s.upTo t).upKt kt; u.dev ≠ .off ∧ u.dev ≠ .inReset) ∧
    (∃ (t : Tick) (kt : Nat) (a : Nat) (s : State), let u := (s.upTo t).upKt kt; u.safety.pressAt = some a ∧ u.safety.stuck = false ∧ a + msKt 10000 < kt) ∧
    (∃ (t : Tick) (kt : Nat) (a : Nat) (s : State), let u := (s.upTo t).upKt kt; u.safety.pressAt = some a ∧ u.safety.stuck = true) ∧
    (∃ (t : Tick) (kt : Nat) (a : Nat) (s : State), let u := (s.upTo t).upKt kt; u.safety.pressAt = some a ∧ u.safety.stuck = false ∧ a + msKt 5000 < kt) ∧
    (∃ (t : Tick) (kt : Nat) (a : Nat) (s : State), let u := (s.upTo t).upKt kt; u.safety.pressAt = some a ∧ u.safety.stuck = false ∧ kt ≤ a + msKt 5000 ∧
    (u.zeroSpd : Rat) < absR u.safety.dpSpeed) ∧
    (∃ (t : Tick) (kt : Nat) (a : Nat) (s : State), let u := (s.upTo t).upKt kt; u.safety.pressAt = some a ∧ u.safety.stuck = false ∧ kt ≤ a + msKt 5000 ∧
    absR u.safety.dpSpeed ≤ (u.zeroSpd : Rat) ∧ u.archB = false) :=
  ⟨⟨0, .host, [1, 1, 0, 0], rdy, takes_of (by decide +kernel), by decide +kernel, by decide +kernel, by decide +kernel, by decide +kernel,
    by decide +kernel, by decide +kernel, by decide +kernel, by decide +kernel⟩,
    ⟨0, .host, [3, 2, 0, 0], rdy, takes_of (by decide +kernel), by decide +kernel, by decide +kernel, by decide +kernel⟩,
    ⟨0, 0, rdy, by decide +kernel, by decide +kernel⟩,
    ⟨0, msKt 10000 + 1, 0, press false, by decide +kernel, by decide +kernel, by decide +kernel⟩,
    ⟨0, 0, 0, press true, by decide +kernel, by decide +kernel⟩,
    ⟨0, msKt 5000 + 1, 0, press false, by decide +kernel, by decide +kernel, by decide +kernel⟩,
    ⟨0, msKt 5000, 0, { press false with safety := { (press false).safety with dpSpeed := 1000000 } }, by decide +kernel, by decide +kernel,
    by decide +kernel, by decide +kernel⟩,
    ⟨0, msKt 5000, 0, press false, by decide +kernel, by decide +kernel, by decide +kernel, by decide +kernel, by decide +kernel⟩⟩

theorem witness_IntegrityUnitReacts :
    (∃ (t : Tick) (s : State), let u := s.upTo t; u.safety.debug = true) ∧
    (∃ (t : Tick) (e : Engine) (s : State), let u := s.upTo t; u.up = true ∧ u.safety.debug = false ∧ vget u.integ.halted (engineIx e) true = false) ∧
    (∃ (t : Tick) (s : State), let u := s.upTo t; u.up = true ∧ u.safety.debug = false) ∧
    (∃ (t : Tick) (r : MemRegion) (b : Nat) (s : State), let u := s.upTo t; u.clockRuns = true ∧ b < regionSize r / 64 ∧ u.scrubPass r b = false) ∧
    (∃ (t : Tick) (r : MemRegion) (b : Nat) (s : State), let u := s.upTo t; u.clockRuns = true ∧ b < regionSize r / 64 ∧ u.scrubPass r b = true) ∧
    (∃ (t : Tick) (s : State), let u := s.upTo t; u.clockRuns = true) ∧
    (∃ (t : Tick) (a : Nat) (s : State), let u := s.upTo t; u.clockRuns = true ∧ u.integ.alert = some a) :=
  ⟨⟨0, rdy.modSafety fun x => { x with debug := true }, by decide +kernel⟩,
    ⟨0, .field 3, rdy, by decide +kernel, by decide +kernel, by decide +kernel⟩,
    ⟨0, rdy, by decide +kernel, by decide +kernel⟩,
    ⟨0, .appL2, 1, rdy, by decide +kernel, by decide +kernel, by decide +kernel⟩,
    ⟨0, .dram, 0, rdy, by decide +kernel, by exact dram_ok, by decide +kernel⟩,
    ⟨0, rdy, by decide +kernel⟩,
    ⟨0, 64, { rdy with integ := { rdy.integ with alert := some 64 } }, by decide +kernel, by decide +kernel⟩⟩

theorem witness_FaultHistoryKeptAndRead :
    (∃ (t : Tick) (s : State) (e : _) (f : _) (r : _) (n : _), let u := s.upTo t; u.up = true ∧ u.faults.staging = (e, f) :: r ∧ u.sysIdle 14 15 = some n) ∧
    (∃ (t : Tick) (s : State), let u := s.upTo t; u.sysIdle 14 15 = none) ∧
    (∃ (t : Tick) (s : State), let u := s.upTo t; (vget u.faults.hist u.histRegion []).length < 65535 ∧ u.histRegion < 2) ∧
    (∃ (t : Tick) (c : Source) (p : Bytes) (s : State), let u := s.upTo t; u.takes c 0x0403 p ∧ getN p 0 4 = 0xFFFFFFFF ∧
    vget u.faults.hist u.histRegion [] = []) ∧
    (∃ (t : Tick) (c : Source) (p : Bytes) (s : State) (r : _) (l : _), let u := s.upTo t; u.takes c 0x0403 p ∧ getN p 0 4 = 0xFFFFFFFF ∧
    vget u.faults.hist u.histRegion [] = r :: l ∧ (r :: l).length ≤ 127) ∧
    (∃ (t : Tick) (c : Source) (p : Bytes) (s : State), let u := s.upTo t; u.takes c 0x0402 p ∧ u.heldFaults = []) :=
  ⟨⟨0, rdy.modFaults fun x => { x with staging := [(ev5, 0)] }, ev5, 0, [], 14, by decide +kernel, by decide +kernel, by decide +kernel⟩,
    ⟨0, (rdy.modCh 14 fun c => { c with state := 1 }).modCh 15 fun c => { c with state := 1 }, by decide +kernel⟩,
    ⟨0, rdy, by decide +kernel, by decide +kernel⟩,
    ⟨0, .host, [255, 255, 255, 255], rdy, takes_of (by decide +kernel), by decide +kernel, by decide +kernel⟩,
    ⟨0, .host, [255, 255, 255, 255], rdy.modFaults fun x => { x with hist := #v[[⟨0, 0, 0, ev5⟩], []] }, ⟨0, 0, 0, ev5⟩, [], takes_of (by decide +kernel),
    by decide +kernel, by decide +kernel, by decide +kernel⟩,
    ⟨0, .host, [], rdy, takes_of (by decide +kernel), by exact noFaults⟩⟩

theorem witness_RecorderCommands :
    (∃ (t : Tick) (c : Source) (p : Bytes) (s : State), let u := s.upTo t; u.takes c 0x0700 p ∧ u.recSetupOk p = true ∧ u.recorder.state = 0) ∧
    (∃ (t : Tick) (c : Source) (p : Bytes) (s : State) (w : _), let u := s.upTo t; u.takes c 0x0701 p ∧ u.recorder.setup = some w ∧ u.recorder.state = 0) ∧
    (∃ (t : Tick) (c : Source) (p : Bytes) (s : State), let u := s.upTo t; u.takes c 0x0703 p ∧ u.recorder.state = 1) ∧
    (∃ (t : Tick) (c : Source) (p : Bytes) (s : State), let u := s.upTo t; u.takes c 0x0703 p ∧ u.recorder.state ≠ 1) ∧
    (∃ (t : Tick) (c : Source) (p : Bytes) (s : State) (w : _), let u := s.upTo t; u.takes c 0x0702 p ∧ u.recorder.state = 3 ∧ u.recorder.setup = some w ∧
    1 ≤ getN p 8 4 ∧ getN p 8 4 ≤ 4096 ∧ getN p 0 8 + getN p 8 4 ≤ u.recKept.length * frameSize w) ∧
    (∃ (t : Tick) (s : State) (n : _), let u := s.upTo t; 4096 ≤ u.recorder.staged ∧ u.sysIdle 8 9 = some n) ∧
    (∃ (t : Tick) (s : State) (n : _), let u := s.upTo t; 0 < u.recorder.staged ∧ u.recorder.staged < 4096 ∧ u.recorder.state = 3 ∧
    u.sysIdle 8 9 = some n) :=
  ⟨⟨0, .host, setup0, recd 0 [], takes_of (by decide +kernel), by exact setup0_ok, by decide +kernel⟩,
    ⟨0, .host, [], recd 0 [], setup0, takes_of (by decide +kernel), by decide +kernel, by decide +kernel⟩,
    ⟨0, .host, [], recd 1 [], takes_of (by decide +kernel), by decide +kernel⟩,
    ⟨0, .host, [], rdy, takes_of (by decide +kernel), by decide +kernel⟩,
    ⟨0, .host, [0, 0, 0, 0, 0, 0, 0, 0, 1, 0, 0, 0], recd 3 [zeros 24], setup0, takes_of (by decide +kernel), by decide +kernel, by decide +kernel,
    by decide +kernel, by decide +kernel, by decide +kernel⟩,
    ⟨0, rdy.modRecorder fun r => { r with staged := 4096 }, 8, by decide +kernel, by decide +kernel⟩,
    ⟨0, rdy.modRecorder fun r => { r with staged := 24, state := 3 }, 8, by decide +kernel, by decide +kernel, by decide +kernel, by decide +kernel⟩⟩

theorem witness_ProgramControlled :
    (∃ (t : Tick) (c : Source) (s : State), let u := s.upTo t; u.takes c 0x0704 [1, 0, 0, 0] ∧ u.sealedCfg.isSome = true ∧
    (u.cu 0x0001 12 1).testBit 0 = true ∧ (u.app.state = 1 ∨ u.app.state = 3 ∨ u.app.state = 4) ∧ u.power.pllBLost = false ∧ u.power.ddrLost = false) ∧
    (∃ (t : Tick) (c : Source) (s : State), let u := s.upTo t; u.takes c 0x0704 [2, 0, 0, 0] ∧ u.app.state = 2) ∧
    (∃ (t : Tick) (c : Source) (s : State), let u := s.upTo t; u.takes c 0x0704 [0, 0, 0, 0] ∧ (u.app.state = 2 ∨ u.app.state = 3) ∧ c ≠ .app) ∧
    (∃ (t : Tick) (c : Source) (s : State), let u := s.upTo t; u.takes c 0x0704 [0, 0, 0, 0] ∧ u.app.state ≠ 2 ∧ u.app.state ≠ 3) ∧
    (∃ (t : Tick) (s : State), let u := s.upTo t; u.up = true ∧ u.app.state = 2 ∧ u.app.suspendReq = true ∧ u.appDmaIdle = true) :=
  ⟨⟨0, .host, appS 1 [], takes_of (by decide +kernel), by decide +kernel, by decide +kernel, by decide +kernel, by decide +kernel, by decide +kernel⟩,
    ⟨0, .host, appS 2 [], takes_of (by decide +kernel), by decide +kernel⟩,
    ⟨0, .host, appS 2 [], takes_of (by decide +kernel), by decide +kernel, by decide +kernel⟩,
    ⟨0, .host, rdy, takes_of (by decide +kernel), by decide +kernel, by decide +kernel⟩,
    ⟨0, (appS 2 []).modApp fun x => { x with suspendReq := true }, by decide +kernel, by decide +kernel, by decide +kernel, by decide +kernel⟩⟩

theorem witness_ProgramMessagesAndEnds :
    (∃ (t : Tick) (c : Source) (p : Bytes) (s : State), let u := s.upTo t; u.takes c 0x0705 p ∧ (u.app.state = 2 ∨ u.app.state = 3) ∧
    (u.app.inbound.map List.length).sum + p.length ≤ 65536) ∧
    (∃ (t : Tick) (c : Source) (p : Bytes) (s : State), let u := s.upTo t; u.takes c 0x0705 p ∧ u.app.state ≠ 2 ∧ u.app.state ≠ 3) ∧
    (∃ (t : Tick) (c : Source) (p : Bytes) (s : State), let u := s.upTo t; u.takes c 0x0705 p ∧ (u.app.state = 2 ∨ u.app.state = 3) ∧
    65536 < (u.app.inbound.map List.length).sum + p.length) ∧
    (∃ (t : Tick) (s : State), let u := s.upTo t; u.up = true ∧ u.app.state = 2 ∧ u.app.inbound ≠ []) ∧
    (∃ (t : Tick) (s : State), let u := s.upTo t; u.up = true ∧ u.time % 1600 = 0) ∧
    (∃ (t : Tick) (s : State), let u := s.upTo t; u.up = true ∧ u.app.state = 2) ∧
    (∃ (t : Tick) (a : Nat) (s : State), let u := s.upTo t; u.up = true ∧ (u.app.state = 2 ∨ u.app.state = 3) ∧ u.inAppMap a 1 = true ∧
    u.app.memFault = some (a / 8 * 8)) ∧
    (∃ (t : Tick) (s : State), let u := s.upTo t; u.up = true ∧ u.app.state = 2 ∧ u.cu 0x00C0 8 2 ≠ 0 ∧
    u.app.wdLast + msTicks (u.cu 0x00C0 8 2) + 100 ≤ t) ∧
    (∃ (t : Tick) (s : State), let u := s.upTo t; u.up = true ∧ u.app.state ≠ 2 ∧ u.app.state ≠ 3) :=
  ⟨⟨0, .host, [1], appS 2 [], takes_of (by decide +kernel), by decide +kernel, by decide +kernel⟩,
    ⟨0, .host, [1], rdy, takes_of (by decide +kernel), by decide +kernel, by decide +kernel⟩,
    ⟨0, .host, [1], appS 2 [big], takes_of (by decide +kernel), by decide +kernel, by exact full_ok⟩,
    ⟨0, appS 2 [[1]], by decide +kernel, by decide +kernel, by decide +kernel⟩,
    ⟨0, rdy, by decide +kernel, by decide +kernel⟩,
    ⟨0, appS 2 [], by decide +kernel, by decide +kernel⟩,
    ⟨0, 0x08000000, (appS 2 []).modApp fun x => { x with memFault := some 0x08000000 }, by decide +kernel, by decide +kernel, by decide +kernel,
    by decide +kernel⟩,
    ⟨100100, appS 2 [], by decide +kernel, by decide +kernel, by decide +kernel, by decide +kernel⟩,
    ⟨0, rdy, by decide +kernel, by decide +kernel, by decide +kernel⟩⟩

theorem witness_DmaChannelsAndSlots :
    (∃ (t : Tick) (n : Fin 16) (s : State), let u := s.upTo t; u.up = true ∧ (u.dmaCh n).state = 0) ∧
    (∃ (t : Tick) (n : Fin 16) (s : State), let u := s.upTo t; u.up = true ∧ (u.dmaCh n).state ≠ 0) ∧
    (∃ (t : Tick) (n : Fin 16) (s : State), let u := s.upTo t; u.up = true ∧ (u.dmaCh n).state = 3 ∧ (u.dmaCh n).record = none ∧
    (u.dmaCh n).saving = false) ∧
    (∃ (t : Tick) (n : Fin 16) (s : State), let u := s.upTo t; u.up = true ∧ (u.dmaCh n).state ≠ 3) ∧
    (∃ (t : Tick) (n : Fin 16) (s : State) (r : _), let u := s.upTo t; u.up = true ∧ (u.dmaCh n).record = some r ∧ r.length = 46 ∧
    (u.dma.fqWrite + 256 - u.dma.fqRead) % 256 ≠ 64) ∧
    (∃ (t : Tick) (n : Fin 16) (s : State) (r : _), let u := s.upTo t; u.up = true ∧ (u.dmaCh n).record = some r ∧
    (u.dma.fqWrite + 256 - u.dma.fqRead) % 256 = 64) ∧
    (∃ (t : Tick) (s : State) (n : _) (i : _), let u := s.upTo t; u.up = true ∧ u.nextCh = some n ∧ u.emptySlot = some i) ∧
    (∃ (t : Tick) (s : State) (n : _), let u := s.upTo t; u.up = true ∧ u.nextCh = some n ∧ u.emptySlot = none ∧ u.outranks n = false) ∧
    (∃ (t : Tick) (s : State) (n : _) (w : _) (i : _), let u := s.upTo t; u.up = true ∧ u.nextCh = some n ∧ u.emptySlot = none ∧ u.victim = some w ∧
    u.outranks n = true ∧ (u.dmaCh w).fetched = false ∧ ((u.freeSlot w).queueCh w id).emptySlot = some i) ∧
    (∃ (t : Tick) (s : State) (n : _), let u := s.upTo t; u.nextCh = some n) ∧
    (∃ (t : Tick) (s : State) (n : _) (m : _), let u := s.upTo t; u.nextCh = some n ∧ m < 16 ∧ (u.dmaCh m).state = 1) ∧
    (∃ (t : Tick) (s : State), let u := s.upTo t; u.up = true) ∧
    (∃ (t : Tick) (s : State), let u := s.upTo t; u.dma.inval.testBit 31 = true) :=
  ⟨⟨0, 0, rdy, by decide +kernel, by decide +kernel⟩,
    ⟨0, 0, chS fun c => { c with state := 1 }, by decide +kernel, by decide +kernel⟩,
    ⟨0, 0, chS fun c => { c with state := 3 }, by decide +kernel, by decide +kernel, by decide +kernel, by decide +kernel⟩,
    ⟨0, 0, rdy, by decide +kernel, by decide +kernel⟩,
    ⟨0, 0, chS fun c => { c with record := some (zeros 46) }, zeros 46, by decide +kernel, by decide +kernel, by decide +kernel, by decide +kernel⟩,
    ⟨0, 0, (chS fun c => { c with record := some (zeros 46) }).modDma fun d => { d with fqWrite := 64 }, zeros 46, by decide +kernel, by decide +kernel,
    by decide +kernel⟩,
    ⟨0, chS fun c => { c with state := 1 }, 0, 0, by decide +kernel, by decide +kernel, by decide +kernel⟩,
    ⟨0, (chS fun c => { c with state := 1 }).modDma fun d => { d with slots := Vector.replicate 4 (some (1, 0)) }, 0, by decide +kernel,
    by decide +kernel, by decide +kernel, by decide +kernel⟩,
    ⟨0,
    ((chS fun c => { c with state := 1, prio := 1 }).modCh 1 fun c => { c with state := 2 }).modDma fun d => { d with slots := Vector.replicate 4 (some (1, 0)) },
    0, 1, 0, by decide +kernel, by decide +kernel, by decide +kernel, by decide +kernel, by decide +kernel, by decide +kernel, by decide +kernel⟩,
    ⟨0, chS fun c => { c with state := 1 }, 0, by decide +kernel⟩,
    ⟨0, chS fun c => { c with state := 1 }, 0, 0, by decide +kernel, by decide +kernel, by decide +kernel⟩,
    ⟨0, rdy, by decide +kernel⟩,
    ⟨0, rdy.modDma fun d => { d with inval := 0x80000000 }, by decide +kernel⟩⟩

theorem witness_DmaDescriptorsAndBeats :
    (∃ (t : Tick) (n : Fin 16) (a : Nat) (v : State) (s : State), let u := s.upTo t; let ch := u.dmaCh n; u.up = true ∧ ch.state = 2 ∧
    ch.fetched = false ∧ u.access n ch.desc 64 false = (.at_ a, v) ∧ ch.desc % 64 = 0 ∧ getN (Memory.readN v.mem a 64) 0 1 % 2 = 0) ∧
    (∃ (t : Tick) (n : Fin 16) (a : Nat) (v : State) (s : State), let u := s.upTo t; let ch := u.dmaCh n; let d := Memory.readN v.mem a 64; u.up = true ∧
    ch.state = 2 ∧ ch.fetched = false ∧ u.access n ch.desc 64 false = (.at_ a, v) ∧ ch.desc % 64 = 0 ∧ getN d 0 1 % 2 = 1 ∧ badDesc d = false ∧
    getN d 3 1 ≠ 3) ∧
    (∃ (t : Tick) (n : Fin 16) (a : Nat) (v : State) (s : State), let u := s.upTo t; let ch := u.dmaCh n; let va := ch.dst + ch.done;
    let len := min (64 - va % 64) (ch.len - ch.done); u.up = true ∧ ch.state = 2 ∧ ch.fetched = true ∧ (10 ≤ n.val ∨ u.throttled = false) ∧
    ch.ctrl.testBit 3 = true ∧ ch.done + len < ch.len ∧ u.access n va len true = (.at_ a, v) ∧ (v.dmaCh n) = ch) ∧
    (∃ (t : Tick) (n : Fin 16) (a : Nat) (v : State) (s : State) (x : _), let u := s.upTo t; let ch := u.dmaCh n; let va := ch.dst + ch.done;
    let len := min (64 - va % 64) (ch.len - ch.done); u.up = true ∧ ch.state = 2 ∧ ch.fetched = true ∧ (10 ≤ n.val ∨ u.throttled = false) ∧
    ch.ctrl.testBit 3 = true ∧ ch.done + len < ch.len ∧ u.access n va len true = (.at_ a, v) ∧ (v.dmaCh n) = ch ∧ Memory.wf v.mem = true ∧
    (x < a ∨ a + len ≤ x)) :=
  ⟨⟨0, 0, 0x08000000, (dmaS id []).upTo 0, dmaS id [], by decide +kernel, by decide +kernel, by decide +kernel, by decide +kernel, by decide +kernel,
    by decide +kernel⟩,
    ⟨0, 0, 0x08000000, (dmaS id [1, 0, 0, 0, 1]).upTo 0, dmaS id [1, 0, 0, 0, 1], by decide +kernel, by decide +kernel, by decide +kernel,
    by decide +kernel, by decide +kernel, by decide +kernel, by decide +kernel, by decide +kernel⟩,
    ⟨0, 0, 0x08000000, beatS.upTo 0, beatS, by decide +kernel, by decide +kernel, by decide +kernel, by decide +kernel, by decide +kernel,
    by decide +kernel, by decide +kernel, by decide +kernel⟩,
    ⟨0, 0, 0x08000000, beatS.upTo 0, beatS, 0, by decide +kernel, by decide +kernel, by decide +kernel, by decide +kernel, by decide +kernel,
    by decide +kernel, by decide +kernel, by decide +kernel, by decide +kernel, by decide +kernel⟩⟩

theorem witness_SamplesTaken :
    (∃ (t : Tick) (s : State), let u := s.upTo t; u.sealedCfg = none) ∧
    (∃ (t : Tick) (k : Fin 4) (s : State) (tc : _) (e : _), let u := s.upTo t; u.sealedCfg.isSome = true ∧ u.enabled k = true ∧ u.awake = true ∧
    u.centreOf k t = some tc ∧ winCentre (u.cu (0x30 + k) 8 2) t = some e) ∧
    (∃ (t : Tick) (k : Fin 4) (s : State), let u := s.upTo t; u.centreOf k t = none) ∧
    (∃ (t : Tick) (i : Fin 24) (s : State) (j : _), let u := s.upTo t; dsSlot i = (j, 5) ∧ u.sealedCfg.isSome = true ∧ u.enabled j = true ∧
    u.awake = true ∧ (u.cu (0x30 + j) 0 1).testBit 5 = true) ∧
    (∃ (t : Tick) (k : Fin 4) (m : RecSample) (s : State), let u := s.upTo t; m.lasts < minVector (u.cfg (0x30 + k))) ∧
    (∃ (t : Tick) (k : Fin 4) (s : State), let u := s.upTo t; (u.stack k).switching = false) ∧
    (∃ (t : Tick) (k : Fin 4) (m : RecSample) (s : State), let u := s.upTo t; let d := u.cfg (0x30 + k); u.sealedCfg.isSome = true ∧ u.enabled k = true ∧
    u.awake = true ∧ (u.stack k).switching = true ∧ (u.stack k).sense.dcFailed = false ∧ minVector d ≤ m.lasts ∧ (recWindow d m.start).2 = t ∧
    vecPhase m.vec = none ∧ (getN d 72 1).testBit 0 = true ∧ u.obsBusy (machineOf u.arrange k) = false) ∧
    (∃ (t : Tick) (k : Fin 4) (m : RecSample) (s : State) (x : _) (sg : _), let u := s.upTo t; let d := u.cfg (0x30 + k); u.sealedCfg.isSome = true ∧
    u.enabled k = true ∧ u.awake = true ∧ (u.stack k).switching = true ∧ (u.stack k).sense.dcFailed = false ∧ minVector d ≤ m.lasts ∧
    (recWindow d m.start).2 = t ∧ vecPhase m.vec = some (x, sg) ∧ (u.halfSet k m.start).gives = true) ∧
    (∃ (t : Tick) (k : Fin 4) (m : RecSample) (s : State) (x : _) (sg : _), let u := s.upTo t; let d := u.cfg (0x30 + k); u.sealedCfg.isSome = true ∧
    u.enabled k = true ∧ u.awake = true ∧ (u.stack k).switching = true ∧ (u.stack k).sense.dcFailed = false ∧ minVector d ≤ m.lasts ∧
    (recWindow d m.start).2 = t ∧ vecPhase m.vec = some (x, sg) ∧ (u.halfSet k m.start).gives = false) :=
  ⟨⟨0, unc, by decide +kernel⟩,
    ⟨485, 0, rdy, 0, 0, by decide +kernel, by decide +kernel, by decide +kernel, by decide +kernel, by decide +kernel⟩,
    ⟨0, 0, rdy, by decide +kernel⟩,
    ⟨0, 20, cfgd [blk 1 [(0, 1)], blk 0x30 [(0, 0x20)]], 0, by decide +kernel, by decide +kernel, by decide +kernel, by decide +kernel, by decide +kernel⟩,
    ⟨0, 0, ⟨0, 0, 0, 0, 0, 0, 0⟩, rdy, by decide +kernel⟩,
    ⟨0, 0, rdy, by decide +kernel⟩,
    ⟨(recWindow ((((cfgd [blk 1 [(0, 1)], blk 0x30 [(72, 1)]]).modStack 0 fun x => { x with switching := true } : State).upTo 0).cfg 0x30) 0).2, 0, ⟨0, 0,
    1000000, 0, 0, 0, 0⟩, (cfgd [blk 1 [(0, 1)], blk 0x30 [(72, 1)]]).modStack 0 fun x => { x with switching := true }, by decide +kernel,
    by decide +kernel, by decide +kernel, by decide +kernel, by decide +kernel, by decide +kernel, by decide +kernel, by decide +kernel,
    by decide +kernel, by decide +kernel⟩,
    ⟨(recWindow (((rdy.modStack 0 fun x => { x with switching := true }).upTo 0).cfg 0x30) 0).2, 0, ⟨0, 1, 1000000, 0, 0, 0, 0⟩,
    (rdy.modStack 0 fun x => { x with switching := true }), 0, 1, by decide +kernel, by decide +kernel, by decide +kernel, by decide +kernel,
    by decide +kernel, by decide +kernel, by decide +kernel, by decide +kernel, by decide +kernel⟩,
    ⟨(recWindow ((((rdy.modStack 0 fun x => { x with switching := true }).modStack 0 fun x => { x with fe := { x.fe with rise := { gives := false }, fall := { gives := false } } }).upTo 0).cfg 0x30) 0).2,
    0, ⟨0, 1, 1000000, 0, 0, 0, 0⟩,
    ((rdy.modStack 0 fun x => { x with switching := true }).modStack 0 fun x => { x with fe := { x.fe with rise := { gives := false }, fall := { gives := false } } }),
    0, 1, by decide +kernel, by decide +kernel, by decide +kernel, by decide +kernel, by decide +kernel, by decide +kernel, by decide +kernel,
    by decide +kernel, by decide +kernel⟩⟩

theorem witness_CalibrationAndMeasurements :
    (∃ (t : Tick) (c : Source) (k : Fin 4) (s : State), let u := s.upTo t; u.takes c 0x0308 (le 1 k ++ [0, 3, 0])) ∧
    (∃ (t : Tick) (c : Source) (k : Fin 4) (s : State), let u := s.upTo t; u.takes c 0x0308 (le 1 k ++ [2, 3, 0]) ∧ u.inPulseOff k = true) ∧
    (∃ (t : Tick) (c : Source) (k : Fin 4) (s : State), let u := s.upTo t; u.takes c 0x0308 (le 1 k ++ [2, 3, 0]) ∧ u.inPulseOff k = false) ∧
    (∃ (t : Tick) (c : Source) (k : Fin 4) (s : State), let u := s.upTo t; u.takes c 0x0308 (le 1 k ++ [1, 2, 0]) ∧
    (u.cu (0x30 + k) 72 1).testBit 2 = true) ∧
    (∃ (t : Tick) (c : Source) (p : Bytes) (s : State), let u := s.upTo t; u.takes c 0x0401 p ∧ getN p 0 1 < 4 ∧ u.enabled (getN p 0 1) = true) ∧
    (∃ (t : Tick) (c : Source) (p : Bytes) (s : State), let u := s.upTo t; u.takes c 0x0401 p ∧ u.enabled (getN p 0 1) = false) ∧
    (∃ (t : Tick) (c : Source) (p : Bytes) (s : State), let u := s.upTo t; u.takes c 0x0405 p) :=
  ⟨⟨0, .host, 0, rdy, takes_of (by decide +kernel)⟩,
    ⟨0, .host, 0, rdy, takes_of (by decide +kernel), by decide +kernel⟩,
    ⟨0, .host, 0, rdy.modStack 0 fun x => { x with switching := true }, takes_of (by decide +kernel), by decide +kernel⟩,
    ⟨0, .host, 0, cfgd [blk 1 [(0, 1)], blk 0x30 [(72, 4)]], takes_of (by decide +kernel), by decide +kernel⟩,
    ⟨0, .host, [0], rdy, takes_of (by decide +kernel), by decide +kernel, by decide +kernel⟩,
    ⟨0, .host, [1], rdy, takes_of (by decide +kernel), by decide +kernel⟩,
    ⟨0, .host, [], rdy, takes_of (by decide +kernel)⟩⟩

theorem witness_PeriodicEvaluations :
    (∃ (t : Tick) (s : State), let u := s.upTo t; u.up = true ∧ u.stamp % 100000 = 0 ∧ vget u.integ.halted 0 false = false) ∧
    (∃ (t : Tick) (s : State), let u := s.upTo t; u.stamp % 100000 ≠ 0) ∧
    (∃ (t : Tick) (k : Fin 4) (s : State), let u := s.upTo t; u.sealedCfg.isSome = true ∧ u.awake = true ∧ u.enabled k = true ∧
    (u.stack k).sense.calFrom + msTicks (1000 * u.cu (0x30 + k) 73 1) ≤ t) ∧
    (∃ (t : Tick) (k : Fin 4) (s : State), let u := s.upTo t; u.sealedCfg.isSome = true ∧ u.awake = true ∧ u.axEn k = true ∧
    (u.axis k).calFrom + msTicks (1000 * u.cu 0x30 73 1) ≤ t) ∧
    (∃ (t : Tick) (s : State), let u := s.upTo t; u.awake = true ∧ u.sarA.slot = none) ∧
    (∃ (t : Tick) (s : State) (r : _), let u := s.upTo t; u.awake = true ∧ u.sarB.slot = some r) ∧
    (∃ (t : Tick) (s : State) (r : _), let u := s.upTo t; nextReq u.time u.sarB.pending = some r ∧ 6 ≤ r.input) ∧
    (∃ (t : Tick) (s : State), let u := s.upTo t; nextReq u.time u.sarB.pending = none) :=
  ⟨⟨0, rdy, by decide +kernel, by decide +kernel, by decide +kernel⟩,
    ⟨1, rdy, by decide +kernel⟩,
    ⟨100000000000, 0, rdy, by decide +kernel, by decide +kernel, by decide +kernel, by decide +kernel⟩,
    ⟨100000000000, 0, cfgd [blk 1 [(0, 1), (8, 1)]], by decide +kernel, by decide +kernel, by decide +kernel, by decide +kernel⟩,
    ⟨0, rdy, by decide +kernel, by decide +kernel⟩,
    ⟨0, { rdy with sarB := { slot := some ⟨1, 0, 0⟩ } }, ⟨1, 0, 0⟩, by decide +kernel, by decide +kernel⟩,
    ⟨0, { rdy with sarB := { pending := [⟨0, 6, 0⟩] } }, ⟨0, 6, 0⟩, by decide +kernel, by decide +kernel⟩,
    ⟨0, rdy, by decide +kernel⟩⟩

theorem witness_DcLinkAndStopReactions :
    (∃ (t : Tick) (k : Fin 4) (s : State), let u := s.upTo t; let x := u.stack k; let d := u.dcCfg k; u.stackRuns k = true ∧
    (getN d 0 1).testBit 0 = true ∧ x.chop.isOpen = false ∧ x.chop.cmd = true ∧ (u.gate (24 + k)).out = .on ∧
    getN (u.cfg (0x20 + k)) 0 1 / 4 % 4 ≠ 2 ∧ (u.gate (24 + k)).t0 + getN (u.cfg (0x20 + k)) 16 1 + 100 ≤ u.time) ∧
    (∃ (t : Tick) (k : Fin 4) (s : State), let u := s.upTo t; let x := u.stack k; x.chop.cmd = false) ∧
    (∃ (t : Tick) (k : Fin 4) (s : State), let u := s.upTo t; let x := u.stack k; let d := u.dcCfg k; u.stackRuns k = true ∧
    (getN d 0 1).testBit 0 = true ∧ x.chop.cmd = false ∧ x.chop.since + usTicks (getN d 22 2) ≤ u.time ∧ x.sense.udcLost = false ∧
    (getN d 16 2 : Rat) * 100 ≤ x.sense.uDc) ∧
    (∃ (t : Tick) (k : Fin 4) (s : State) (f : _), let u := s.upTo t; let x := u.stack k; u.stackRuns k = true ∧ x.chop.uv = false ∧
    x.chop.below = some f ∧ f + 1000000 ≤ u.time) ∧
    (∃ (t : Tick) (k : Fin 4) (s : State) (f : _), let u := s.upTo t; let x := u.stack k; u.stackRuns k = true ∧ x.chop.uv = true ∧
    x.chop.above = some f ∧ f + 10000000 ≤ u.time) ∧
    (∃ (t : Tick) (k : Fin 4) (s : State), let u := s.upTo t; u.awake = true ∧ u.dev ≠ .boot ∧ (u.stack k).ov3 = false) ∧
    (∃ (t : Tick) (k : Fin 4) (s : State), let u := s.upTo t; (u.stack k).ov3 = true) ∧
    (∃ (t : Tick) (k : Fin 4) (cause : StopChangeCause) (s : State), let u := s.upTo t; u.stackRuns k = true ∧ (u.stack k).stop.kind = .select ∧
    (u.stack k).fw = .asc ∧ u.stopCond k cause = true) ∧
    (∃ (t : Tick) (s : State) (d : _) (b : _), let u := s.upTo t; u.motion.stop = some d ∧ (u.dev = .run ∨ u.dev = .shelter) ∧ d.brakeAt = none ∧
    d.began = some b ∧ b + msTicks (u.cu 0x0068 24 4) + 100 ≤ t) ∧
    (∃ (t : Tick) (s : State) (d : _) (z : _), let u := s.upTo t; u.motion.stop = some d ∧ d.slow = some z ∧ d.brakeAt = none ∧
    (u.dev = .run ∨ u.dev = .shelter) ∧ z + msTicks (u.cu 0x0068 32 2) ≤ u.time ∧ u.brakesInUse = []) :=
  ⟨⟨100000, 0,
    { dc0.modStack 0 (fun x => { x with chop := { x.chop with cmd := true } }) with gates := vmod dc0.gates 24 fun g => { g with out := .on } },
    by decide +kernel, by decide +kernel, by decide +kernel, by decide +kernel, by decide +kernel, by decide +kernel, by decide +kernel⟩,
    ⟨0, 0, rdy, by decide +kernel⟩,
    ⟨100000000, 0, dc0.modStack 0 fun x => { x with sense := { x.sense with uDc := 100000000 } }, by decide +kernel, by decide +kernel, by decide +kernel,
    by decide +kernel, by decide +kernel, by decide +kernel⟩,
    ⟨1000000, 0, dc0.modStack 0 fun x => { x with chop := { x.chop with below := some 0 } }, 0, by decide +kernel, by decide +kernel, by decide +kernel,
    by decide +kernel⟩,
    ⟨10000000, 0, dc0.modStack 0 fun x => { x with chop := { x.chop with uv := true, above := some 0 } }, 0, by decide +kernel, by decide +kernel,
    by decide +kernel, by decide +kernel⟩,
    ⟨0, 0, rdy, by decide +kernel, by decide +kernel, by decide +kernel⟩,
    ⟨0, 0, rdy.modStack 0 fun x => { x with ov3 := true }, by decide +kernel⟩,
    ⟨0, 0, .crossings, rdy.modStack 0 fun x => { x with fw := .asc, stop := ⟨.select, 0⟩, watch := { x.watch with low := 2 } }, by decide +kernel,
    by decide +kernel, by decide +kernel, by decide +kernel⟩,
    ⟨msTicks (run.cu 0x68 24 4) + 100, run.modMotion fun m => { m with stop := some { quick := false, began := some 0 } },
    { quick := false, began := some 0 }, 0, by decide +kernel, by decide +kernel, by decide +kernel, by decide +kernel, by decide +kernel⟩,
    ⟨msTicks (run.cu 0x68 32 2), run.modMotion fun m => { m with stop := some { quick := false, began := some 0, slow := some 0 } },
    { quick := false, began := some 0, slow := some 0 }, 0, by decide +kernel, by decide +kernel, by decide +kernel, by decide +kernel,
    by decide +kernel, by decide +kernel⟩⟩

theorem witness_ColonnadeCommands :
    (∃ (t : Tick) (c : Source) (p : Bytes) (s : State), let u := s.upTo t; u.takes c 0x0800 p ∧ u.sealedCfg.isSome = true ∧
    (u.cu 0x0001 11 1).testBit 0 = true ∧ u.col.state = 0 ∧ 100 ≤ getN p 0 2 ∧ getN p 0 2 ≤ 10000 ∧ 2 ≤ getN p 2 1 ∧ getN p 2 1 ≤ u.colN ∧
    getN p 3 5 = 0) ∧
    (∃ (t : Tick) (c : Source) (p : Bytes) (s : State), let u := s.upTo t; u.takes c 0x0800 p ∧ u.col.state ≠ 0) ∧
    (∃ (t : Tick) (c : Source) (p : Bytes) (s : State), let u := s.upTo t; u.takes c 0x0801 p ∧ u.col.state = 3) ∧
    (∃ (t : Tick) (c : Source) (p : Bytes) (s : State), let u := s.upTo t; u.takes c 0x0801 p ∧ u.col.state = 2 ∧ u.dev ≠ .run) ∧
    (∃ (t : Tick) (c : Source) (p : Bytes) (s : State), let u := s.upTo t; u.takes c 0x0801 p ∧ u.col.state = 2 ∧ u.dev = .run) ∧
    (∃ (t : Tick) (c : Source) (p : Bytes) (s : State), let u := s.upTo t; u.takes c 0x0801 p ∧ u.col.state = 0) ∧
    (∃ (t : Tick) (c : Source) (p : Bytes) (s : State), let u := s.upTo t; u.takes c 0x0802 p) :=
  ⟨⟨0, .host, [100, 0, 2, 0, 0, 0, 0, 0], colS 0, takes_of (by decide +kernel), by decide +kernel, by decide +kernel, by decide +kernel,
    by decide +kernel, by decide +kernel, by decide +kernel, by decide +kernel, by decide +kernel⟩,
    ⟨0, .host, [100, 0, 2, 0, 0, 0, 0, 0], colS 2, takes_of (by decide +kernel), by decide +kernel⟩,
    ⟨0, .host, [], colS 3, takes_of (by decide +kernel), by decide +kernel⟩,
    ⟨0, .host, [], colS 2, takes_of (by decide +kernel), by decide +kernel, by decide +kernel⟩,
    ⟨0, .host, [], { colS 2 with dev := .run }, takes_of (by decide +kernel), by decide +kernel, by decide +kernel⟩,
    ⟨0, .host, [], colS 0, takes_of (by decide +kernel), by decide +kernel⟩,
    ⟨0, .host, [], rdy, takes_of (by decide +kernel)⟩⟩

theorem witness_ColonnadeFramesAndFormation :
    (∃ (t : Tick) (s : State), let u := s.upTo t; u.ringOn = true ∧ u.colOn = false) ∧
    (∃ (t : Tick) (f : Bytes) (s : State), let u := s.upTo t; u.colOn = true ∧ u.col.state = 2 ∧ frameOk 0x53 52 f = false) ∧
    (∃ (t : Tick) (f : Bytes) (s : State), let u := s.upTo t; u.colOn = true ∧ u.col.state = 2 ∧ frameOk 0x53 52 f = true ∧ getN f 4 1 % 8 = u.colMe) ∧
    (∃ (t : Tick) (f : Bytes) (s : State), let u := s.upTo t; u.colOn = true ∧ u.col.state = 2 ∧ f.length = 15 ∧ getN f 1 1 = 0x52 ∧
    f.drop 13 = (le 2 (crc16 ((f.drop 1).take 12)).toNat).reverse ∧ getN f 3 2 = u.col.cycle ∧ u.stamp ≤ u.col.sk + 800 ∧ getN f 2 1 % 8 < u.colN ∧
    getN f 2 1 % 8 ≠ u.colMe) ∧
    (∃ (t : Tick) (s : State) (k : _), let u := s.upTo t; u.colOn = true ∧ u.col.state = 2 ∧ u.col.judged = true ∧ u.sealedCfg = some k ∧ k.t0 ≤ u.time ∧
    (u.time - k.t0) % u.ctrlCycle = 0 ∧ (u.col.sk = 0 ∨ u.col.sk + u.colPeriod ≤ u.time + 208)) ∧
    (∃ (t : Tick) (s : State), let u := s.upTo t; u.colOn = true ∧ u.col.state = 1 ∧ u.col.rollAt ≤ t) ∧
    (∃ (t : Tick) (s : State), let u := s.upTo t; u.colOn = true ∧ u.col.state = 4 ∧ u.col.rollAt ≤ t) ∧
    (∃ (t : Tick) (s : State), let u := s.upTo t; u.colOn = true ∧ u.col.state ≠ 1 ∧ u.col.state ≠ 4) ∧
    (∃ (t : Tick) (f : Bytes) (s : State), let u := s.upTo t; u.colOn = true ∧ u.col.state ≠ 0 ∧ frameOk 0x4C 56 f = true ∧ getN f 2 1 ≠ u.colMe) ∧
    (∃ (t : Tick) (s : State), let u := s.upTo t; u.colOn = true ∧ u.col.state = 2 ∧ u.col.judged = false ∧ u.col.sk + 900 ≤ t) ∧
    (∃ (t : Tick) (s : State), let u := s.upTo t; u.colOn = true ∧ u.col.state = 1 ∧ u.col.forming0 = false ∧
    u.col.formAt + msTicks u.col.formT + 100 ≤ t ∧ u.candidate = false) ∧
    (∃ (t : Tick) (s : State), let u := s.upTo t; u.colOn = true ∧ u.col.state = 3 ∧ u.pair.query = none ∧
    u.col.lastFrame + getN u.colCfg 10 1 * u.colPeriod + 300 ≤ t) :=
  ⟨⟨0, rdy, by decide +kernel, by decide +kernel⟩,
    ⟨0, [], colS 2, by decide +kernel, by decide +kernel, by decide +kernel⟩,
    ⟨0, share1, colS 2, by decide +kernel, by decide +kernel, by decide +kernel, by decide +kernel⟩,
    ⟨0, reply1, colS 2, by decide +kernel, by decide +kernel, by decide +kernel, by decide +kernel, by decide +kernel, by decide +kernel,
    by decide +kernel, by decide +kernel, by decide +kernel⟩,
    ⟨0, colS 2, sealed0, by decide +kernel, by decide +kernel, by decide +kernel, by decide +kernel, by decide +kernel, by decide +kernel,
    by decide +kernel⟩,
    ⟨1000000000, colS 1, by decide +kernel, by decide +kernel, by decide +kernel⟩,
    ⟨1000000000, colS 4, by decide +kernel, by decide +kernel, by decide +kernel⟩,
    ⟨0, colS 2, by decide +kernel, by decide +kernel, by decide +kernel⟩,
    ⟨0, roll1, colS 1, by decide +kernel, by decide +kernel, by decide +kernel, by decide +kernel⟩,
    ⟨900, (colS 2).modCol fun c => { c with judged := false }, by decide +kernel, by decide +kernel, by decide +kernel, by decide +kernel⟩,
    ⟨100, colS 1, by decide +kernel, by decide +kernel, by decide +kernel, by decide +kernel, by decide +kernel⟩,
    ⟨10000000, colS 3, by decide +kernel, by decide +kernel, by decide +kernel, by decide +kernel⟩⟩

theorem witness_BridleFrames :
    (∃ (t : Tick) (s : State), let u := s.upTo t; u.pairOn = true ∧ u.time % 2000 = 0) ∧
    (∃ (t : Tick) (s : State), let u := s.upTo t; u.time % 2000 ≠ 0) ∧
    (∃ (t : Tick) (f : Bytes) (s : State), let u := s.upTo t; u.pairOn = true ∧ u.pair.link = true ∧ bridleOk 0x48 f = true ∧ f.length = 28) ∧
    (∃ (t : Tick) (f : Bytes) (s : State), let u := s.upTo t; u.pairOn = true ∧ u.pair.link = true ∧ bridleOk 0x48 f = false) ∧
    (∃ (t : Tick) (s : State), let u := s.upTo t; u.pairOn = true) ∧
    (∃ (t : Tick) (s : State), let u := s.upTo t; u.pair.link = true ∧ u.upd.session ≠ 3) ∧
    (∃ (t : Tick) (s : State), let u := s.upTo t; u.pair.link = true ∧ u.upd.session = 3) ∧
    (∃ (t : Tick) (s : State), let u := s.upTo t; u.pairOn = true ∧ u.pair.state = 1 ∧ (∀ a, u.pair.checkAt = some a → a + 100000 ≤ u.time)) ∧
    (∃ (t : Tick) (f : Bytes) (s : State), let u := s.upTo t; u.pairOn = true ∧ u.pair.link = true ∧ bridleOk 0x4D f = true ∧ getN f 6 2 = 0xFFFF) ∧
    (∃ (t : Tick) (f : Bytes) (s : State), let u := s.upTo t; u.pairOn = true ∧ u.pair.link = true ∧ bridleOk 0x4D f = true ∧ getN f 6 2 ≠ 0xFFFF ∧
    getN f 6 2 % 256 ≤ 6) ∧
    (∃ (t : Tick) (f : Bytes) (s : State), let u := s.upTo t; u.pairOn = true ∧ u.pair.link = true ∧ bridleOk 0x4D f = true ∧ getN f 6 2 % 256 = 7) ∧
    (∃ (t : Tick) (f : Bytes) (s : State), let u := s.upTo t; u.pairOn = true ∧ u.pair.link = true ∧ bridleOk 0x41 f = true) ∧
    (∃ (t : Tick) (f : Bytes) (s : State), let u := s.upTo t; u.pairOn = true ∧ u.pair.link = true ∧ bridleOk 0x55 f = true ∧ getN f 6 2 = 0 ∧
    (bridleData f).length < 12) ∧
    (∃ (t : Tick) (f : Bytes) (s : State), let u := s.upTo t; u.pairOn = true ∧ u.pair.link = true ∧ bridleOk 0x55 f = true ∧ getN f 6 2 = 0 ∧
    12 + getN (bridleData f) 6 2 ≤ (bridleData f).length ∧ 12 ≤ (bridleData f).length ∧ (bridleData f).head? = some 0xB5) :=
  ⟨⟨0, pairS 2, by decide +kernel, by decide +kernel⟩,
    ⟨1, rdy, by decide +kernel⟩,
    ⟨0, brf 0x48 0 (zeros 16), pairS 2, by decide +kernel, by decide +kernel, by decide +kernel, by decide +kernel⟩,
    ⟨0, [], pairS 2, by decide +kernel, by decide +kernel, by decide +kernel⟩,
    ⟨0, pairS 2, by decide +kernel⟩,
    ⟨0, pairS 2, by decide +kernel, by decide +kernel⟩,
    ⟨0, { pairS 2 with upd := { session := 3 } }, by decide +kernel, by decide +kernel⟩,
    ⟨0, (pairS 1).modPair fun p => { p with checkAt := none }, by decide +kernel, by decide +kernel, by intro a h; cases h⟩,
    ⟨0, brf 0x4D 0xFFFF [], pairS 2, by decide +kernel, by decide +kernel, by decide +kernel, by decide +kernel⟩,
    ⟨0, brf 0x4D 6 [], pairS 2, by decide +kernel, by decide +kernel, by decide +kernel, by decide +kernel, by decide +kernel⟩,
    ⟨0, brf 0x4D 7 [], pairS 2, by decide +kernel, by decide +kernel, by decide +kernel, by decide +kernel⟩,
    ⟨0, brf 0x41 0 [], pairS 2, by decide +kernel, by decide +kernel, by decide +kernel⟩,
    ⟨0, brf 0x55 0 [], pairS 2, by decide +kernel, by decide +kernel, by decide +kernel, by decide +kernel, by decide +kernel⟩,
    ⟨0, brf 0x55 0 (packetBytes 0x0100 0 []), pairS 2, by decide +kernel, by decide +kernel, by decide +kernel, by decide +kernel, by decide +kernel,
    by decide +kernel, by decide +kernel⟩⟩

theorem witness_SuccessionArbitrated :
    (∃ (t : Tick) (s : State) (a : _) (d : _), let u := s.upTo t; u.pair.lastHb = some (a, d) ∧ u.pairOn = true ∧ u.pair.state = 2 ∧
    (u.pair.hbLate = true ∨ a + 6700 ≤ t)) ∧
    (∃ (t : Tick) (s : State), let u := s.upTo t; u.pairOn = true ∧ u.pair.state = 3 ∧ u.pair.query = none ∧ u.stamp ≤ u.pair.rollAt + 1000) ∧
    (∃ (t : Tick) (s : State), let u := s.upTo t; u.pairOn = true ∧ u.pair.state = 3 ∧ u.pair.query = none ∧ u.pair.rollAt + 1100 ≤ t ∧
    (u.alPort 0).state = 0 ∧ (u.alPort 1).state = 0) ∧
    (∃ (t : Tick) (s : State) (a : _), let u := s.upTo t; u.pair.query = some a ∧ u.pairOn = true ∧ u.pair.state = 3 ∧
    a + msTicks (getN u.pairCfg 2 1) + 100 ≤ t ∧ u.ownAddr < u.partnerAddr) ∧
    (∃ (t : Tick) (c : Source) (p : Bytes) (s : State), let u := s.upTo t; u.takes c 0x0803 p) :=
  ⟨⟨6700, (pairS 2).modPair fun p => { p with lastHb := some (0, []) }, 0, [], by decide +kernel, by decide +kernel, by decide +kernel,
    .inr (by decide +kernel)⟩,
    ⟨0, pairS 3, by decide +kernel, by decide +kernel, by decide +kernel, by decide +kernel⟩,
    ⟨1100, pairS 3, by decide +kernel, by decide +kernel, by decide +kernel, by decide +kernel, by decide +kernel, by decide +kernel⟩,
    ⟨msTicks (getN (pairS 3).pairCfg 2 1) + 100, (pairS 3).modPair fun p => { p with query := some 0 }, 0, by decide +kernel, by decide +kernel,
    by decide +kernel, by decide +kernel, by decide +kernel⟩,
    ⟨0, .host, [], rdy, takes_of (by decide +kernel)⟩⟩

theorem witness_UpdateSession :
    (∃ (t : Tick) (p : Bytes) (s : State), let u := s.upTo t; let c := Source.service; u.takes c 0x0902 p ∧ getN p 0 4 = 0 ∧ hdrOk (p.drop 4) = true) ∧
    (∃ (t : Tick) (p : Bytes) (s : State), let u := s.upTo t; let c := Source.service; u.takes c 0x0903 p ∧ u.upd.session ≠ 3 ∧ getN p 4 4 = 0 ∧
    getN p 0 4 = 512 + u.upd.body.length ∧ 512 + u.upd.body.length + (p.drop 8).length ≤ hdrSize u.upd.header) ∧
    (∃ (t : Tick) (p : Bytes) (s : State), let u := s.upTo t; let c := Source.service; u.takes c 0x0904 p ∧ u.upd.session ≠ 3 ∧ u.verdict ≠ 0) ∧
    (∃ (t : Tick) (p : Bytes) (s : State), let u := s.upTo t; let c := Source.service; u.takes c 0x0906 p ∧ u.upd.session ≠ 3) ∧
    (∃ (t : Tick) (s : State), let u := s.upTo t; let c := Source.service; u.listens = true ∧ 0 < (u.port c).credits ∧ u.upd.session = 3) :=
  ⟨⟨0, zeros 4 ++ hdr0, unc, takes_of (by decide +kernel), by decide +kernel, by decide +kernel⟩,
    ⟨0, le 4 512 ++ zeros 4 ++ zeros 4, updS 1 4 [], takes_of (by decide +kernel), by decide +kernel, by decide +kernel, by decide +kernel,
    by decide +kernel⟩,
    ⟨0, [], { updS 1 4 (zeros 512) with upd := { (updS 1 4 (zeros 512)).upd with counter := 1 } }, takes_of (by decide +kernel), by decide +kernel,
    by exact verdict_ne⟩,
    ⟨0, [], updS 1 4 [], takes_of (by decide +kernel), by decide +kernel⟩,
    ⟨0, updS 3 4 [], by decide +kernel, by decide +kernel, by decide +kernel⟩⟩

theorem witness_UpdateActivationAndTimeouts :
    (∃ (t : Tick) (p : Bytes) (s : State), let u := s.upTo t; let c := Source.service; u.takes c 0x0905 p ∧ u.upd.session ≠ 3 ∧ u.dev ≠ .sill ∧
    u.mayActivateImage = true ∧ u.compatible u.judgedSet u.upd.kind u.upd.header = true ∧ u.upd.holder = 4) ∧
    (∃ (t : Tick) (p : Bytes) (s : State) (b : _), let u := s.upTo t; u.takes b 0x0901 p ∧ getN p 0 1 < 4 ∧ getN p 1 3 = 0 ∧ u.bootRec.trial = getN p 0 1) ∧
    (∃ (t : Tick) (p : Bytes) (s : State) (b : _), let u := s.upTo t; u.takes b 0x0900 p) ∧
    (∃ (t : Tick) (s : State), let u := s.upTo t; (u.upd.session = 1 ∨ u.upd.session = 2) ∧ (u.upd.late = true ∨ u.upd.lastAt + 1000000100 ≤ t)) ∧
    (∃ (t : Tick) (s : State), let u := s.upTo t; u.upd.session = 3 ∧ (u.upd.late = true ∨ u.upd.lastAt + 1000000100 ≤ t)) ∧
    (∃ (t : Tick) (s : State), let u := s.upTo t; u.upd.session = 1 ∧ u.power.powerFail = false ∧ u.upd.erased < slotSize u.upd.kind / 65536) ∧
    (∃ (t : Tick) (s : State), let u := s.upTo t; (u.upd.session ≠ 1 ∨ u.power.powerFail = true)) :=
  ⟨⟨0, [], { updS 2 4 [] with upd := { (updS 2 4 []).upd with slots := Vector.replicate 8 none } }, takes_of (by decide +kernel), by decide +kernel,
    by decide +kernel, by decide +kernel, by decide +kernel, by decide +kernel⟩,
    ⟨0, [0, 0, 0, 0], { rdy with upd := { rdy.upd with recs := #v[{ valid := true, trial := 0 }, {}] } }, .host, takes_of (by decide +kernel),
    by decide +kernel, by decide +kernel, by decide +kernel⟩,
    ⟨0, [], rdy, .host, takes_of (by decide +kernel)⟩,
    ⟨1000000100, updS 1 5 [], by decide +kernel, .inr (by decide +kernel)⟩,
    ⟨1000000100, updS 3 4 [], by decide +kernel, .inr (by decide +kernel)⟩,
    ⟨0, updS 1 4 [], by decide +kernel, by decide +kernel, by decide +kernel⟩,
    ⟨0, rdy, by decide +kernel⟩⟩

theorem witness_NetworkCommands :
    (∃ (t : Tick) (c : Source) (p : Bytes) (s : State), let u := s.upTo t; let id := getN p 0 4; u.takes c 0x0805 p ∧ id % 4096 = 0 ∧ id < 2 ^ 29 ∧
    getN p 4 2 = 4 + 1 ∧ 0x100 ≤ identCode id ∧ identCode id < 0x800 ∧ 2 ≤ identClass id ∧ dlOk (getN p 6 2) = true ∧ (u.alPort 0).state = 1 ∧
    ((u.alPort 0).tx.filter (·.kind == 0)).length < 32) ∧
    (∃ (t : Tick) (c : Source) (p : Bytes) (s : State), let u := s.upTo t; let id := getN p 0 4; u.takes c 0x0805 p ∧ id % 4096 ≠ 0) ∧
    (∃ (t : Tick) (c : Source) (p : Bytes) (s : State), let u := s.upTo t; u.takes c 0x0804 p ∧ getN p 0 1 ≤ 1) :=
  ⟨⟨0, .host, le 4 (mkIdent 2 0x100 0) ++ le 2 5 ++ le 2 0, netS 1 [] id, takes_of (by decide +kernel), by decide +kernel, by decide +kernel,
    by decide +kernel, by decide +kernel, by decide +kernel, by decide +kernel, by decide +kernel, by decide +kernel, by decide +kernel⟩,
    ⟨0, .host, le 4 1 ++ le 2 5 ++ le 2 0, netS 1 [] id, takes_of (by decide +kernel), by decide +kernel⟩,
    ⟨0, .host, [0], rdy, takes_of (by decide +kernel), by decide +kernel⟩⟩

theorem witness_NetworkPortsAndFrames :
    (∃ (t : Tick) (p : Fin 2) (f : CanFrame) (s : State), let u := (s.upTo t).alPump; u.alOn = true ∧ (u.alPort p).state ≠ 0 ∧ (u.alPort p).state ≠ 3 ∧
    (u.alPort p).rxErr ≤ 127 ∧ f.extended = true ∧ f.remote = false) ∧
    (∃ (t : Tick) (p : Fin 2) (s : State), let u := (s.upTo t).alPump; (u.alPort p).state = 0) ∧
    (∃ (t : Tick) (p : Fin 2) (sof : Tick) (s : State) (g : _), let u := (s.upTo t).alPump; u.alOn = true ∧ u.alHead p sof = some g ∧ g.kind = 0 ∧
    g.brs = false) ∧
    (∃ (t : Tick) (p : Fin 2) (sof : Tick) (s : State), let u := (s.upTo t).alPump; u.alOn = true ∧ u.alHead p sof = none) ∧
    (∃ (t : Tick) (p : Fin 2) (s : State), let u := (s.upTo t).alPump; u.alOn = true ∧ (u.alPort p).state ≠ 0 ∧ (u.alPort p).state ≠ 3 ∧
    (u.alPort p).tec ≤ 255) ∧
    (∃ (t : Tick) (p : Fin 2) (s : State), let u := s.upTo t; u.alOn = true ∧ (u.alPort p).state = 3 ∧
    (u.alPort p).busOffAt + 1408 * u.nomQ p * 5 / 4 ≤ u.time) ∧
    (∃ (t : Tick) (p : Fin 2) (s : State), let u := s.upTo t; (u.alPort p).state ≠ 3) ∧
    (∃ (t : Tick) (p : Fin 2) (s : State), let u := s.upTo t; u.alOn = true ∧ (u.alPort p).state = 2 ∧ (∀ f ∈ (u.alPort p).tx,
    identCode f.ident ≠ 0x0FF) ∧ (u.alPort p).probeAt + 1000000 ≤ u.time) ∧
    (∃ (t : Tick) (s : State), let u := s.upTo t; u.alOn = true ∧ u.alcia.claiming = true ∧ u.alcia.claimSent = none ∧
    u.alcia.claimAt + (msTicks 1 + serialNo / 2 ^ (10 * u.alcia.claimK) % 1024 * usTicks 100) ≤ u.time ∧ (u.alPort 0).state = 4 ∧
    (u.alPort 1).state = 0 ∧ (u.alPort 0).tx = []) ∧
    (∃ (t : Tick) (s : State) (a : _), let u := s.upTo t; u.alOn = true ∧ u.alcia.claiming = true ∧ u.alcia.claimSent = some a ∧ a + 5000100 ≤ t) :=
  ⟨⟨0, 0, ⟨0, true, false, true, false, [], 0⟩, netS 1 [] id, by decide +kernel, by decide +kernel, by decide +kernel, by decide +kernel,
    by decide +kernel, by decide +kernel⟩,
    ⟨0, 0, rdy, by decide +kernel⟩,
    ⟨0, 0, 0, (netS 1 [] id).modAl 0 fun x => { x with tx := [user0] }, user0, by decide +kernel, by decide +kernel, by decide +kernel, by decide +kernel⟩,
    ⟨0, 0, 0, netS 1 [] id, by decide +kernel, by decide +kernel⟩,
    ⟨0, 0, netS 1 [] id, by decide +kernel, by decide +kernel, by decide +kernel, by decide +kernel⟩,
    ⟨1000000000, 0, netS 3 [] id, by decide +kernel, by decide +kernel, by decide +kernel⟩,
    ⟨0, 0, netS 1 [] id, by decide +kernel⟩,
    ⟨1000000, 0, netS 2 [] id, by decide +kernel, by decide +kernel, by decide +kernel, by decide +kernel⟩,
    ⟨10330000, claimS, by decide +kernel, by decide +kernel, by decide +kernel, by exact claim_t _ (by decide +kernel) (by decide +kernel),
    by decide +kernel, by decide +kernel, by decide +kernel⟩,
    ⟨5000100, netS 4 [] fun a => { a with claiming := true, claimSent := some 0 }, 0, by decide +kernel, by decide +kernel, by decide +kernel,
    by decide +kernel⟩⟩

theorem witness_NetworkTimeMapAndTransfers :
    (∃ (t : Tick) (p : Fin 2) (s : State) (n : _), let u := s.upTo t; let x := u.alPort p; u.ownPrio p = some n ∧ u.alOn = true ∧ x.sending = true ∧
    x.state = 1 ∧ (∀ a, x.syncSentAt = some a → a + u.syncP ≤ u.time)) ∧
    (∃ (t : Tick) (p : Fin 2) (s : State) (n : _) (a : _), let u := s.upTo t; let x := u.alPort p; x.syncAt = some (n, a) ∧ u.alOn = true ∧
    x.sending = true ∧ x.state = 1) ∧
    (∃ (t : Tick) (p : Fin 2) (s : State), let u := s.upTo t; let x := u.alPort p; u.alOn = true ∧ x.sending = false ∧ x.state ≠ 0 ∧
    (x.followLate = true ∨ x.followAt + 5 * u.syncP + 100 ≤ t)) ∧
    (∃ (t : Tick) (p : Fin 2) (s : State), let u := s.upTo t; let x := u.alPort p; x.sending = true) ∧
    (∃ (t : Tick) (p : Fin 2) (s : State) (n : _), let u := s.upTo t; let x := u.alPort p; u.ownPrio p = some n ∧ u.alOn = true ∧ x.state = 1 ∧
    x.sending = false ∧ (x.heardLate = true ∨ x.heardAt + 3 * u.syncP + 100 ≤ t)) ∧
    (∃ (t : Tick) (s : State), let u := s.upTo t; u.alcia.valid = true) ∧
    (∃ (t : Tick) (s : State) (p : _) (b : _), let u := s.upTo t; u.rolePort false = some p ∧ u.alOn = true ∧ (u.alPort p).state = 1 ∧
    (u.alPort p).annBase = some b ∧ (u.alPort p).annDone = false ∧ b + u.alAddr % 64 * u.tSlot p ≤ u.time) ∧
    (∃ (t : Tick) (s : State) (p : _), let u := s.upTo t; u.rolePort true = some p ∧ u.alOn = true ∧ u.isBridge = true ∧ (u.alPort p).state = 1 ∧
    u.summaryDue p = true) ∧
    (∃ (t : Tick) (s : State) (p : _), let u := s.upTo t; u.rolePort false = some p ∧ u.alOn = true ∧ u.isBridge = true ∧ (u.alPort p).state = 1 ∧
    u.bridgeDue p ≤ u.time ∧ (u.alPort p).brgCount ≠ 0 ∧ u.time ≤ max (u.alPort p).activeAt (u.alPort (1 - p)).activeAt + msTicks 2000) ∧
    (∃ (t : Tick) (g : Fin 64) (s : State) (a : _), let u := s.upTo t; u.alcia.segSeen[g] = some a ∧ u.alOn = true ∧
    (u.alcia.segLate[g] = true ∨ a + 300000100 ≤ t)) ∧
    (∃ (t : Tick) (n : Nat) (s : State) (x : _), let u := s.upTo t; (u.alcia.xfers.find? (·.node == n)) = some x ∧ u.alOn = true ∧ x.first + 1000100 ≤ t) ∧
    (∃ (t : Tick) (s : State) (a : _) (b : _) (d : _), let u := s.upTo t; u.alcia.bound = some (a, b, d) ∧ u.alOn = true ∧ u.owner ≠ some .alcia ∧
    (u.alcia.bindLate = true ∨ d + msTicks (u.nodeB 8 2) + 100 ≤ t)) :=
  ⟨⟨0, 0, (netS 1 [(2, 1)] id).modAl 0 fun x => { x with sending := true, syncSentAt := none }, 1, by decide +kernel, by decide +kernel,
    by decide +kernel, by decide +kernel, by intro a h; cases h⟩,
    ⟨0, 0, (netS 1 [(2, 1)] id).modAl 0 fun x => { x with sending := true, syncAt := some (0, 0) }, 0, 0, by decide +kernel, by decide +kernel,
    by decide +kernel, by decide +kernel⟩,
    ⟨100000000, 0, netS 1 [] id, by decide +kernel, by decide +kernel, by decide +kernel, .inr (by decide +kernel)⟩,
    ⟨0, 0, (netS 1 [(2, 1)] id).modAl 0 fun x => { x with sending := true }, by decide +kernel⟩,
    ⟨100000000, 0, netS 1 [(2, 1)] id, 1, by decide +kernel, by decide +kernel, by decide +kernel, by decide +kernel, .inr (by decide +kernel)⟩,
    ⟨0, netS 1 [] fun a => { a with valid := true }, by decide +kernel⟩,
    ⟨100000000, brg id, 0, 0, by decide +kernel, by decide +kernel, by decide +kernel, by decide +kernel, by decide +kernel, by decide +kernel⟩,
    ⟨1000000000, brg fun a => { a with sumAt := some 0 }, 1, by decide +kernel, by decide +kernel, by decide +kernel, by decide +kernel,
    by decide +kernel⟩,
    ⟨100000000, brg id, 0, by decide +kernel, by decide +kernel, by decide +kernel, by decide +kernel, by decide +kernel, by decide +kernel,
    by decide +kernel⟩,
    ⟨300000100, 0, netS 1 [] fun a => { a with segSeen := a.segSeen.set 0 (some 0) }, 0, by decide +kernel, by decide +kernel, .inr (by decide +kernel)⟩,
    ⟨1000100, 0, netS 1 [] fun a => { a with xfers := [⟨0, 0, 0, 0, 0, 0, []⟩] }, ⟨0, 0, 0, 0, 0, 0, []⟩, by decide +kernel, by decide +kernel,
    by decide +kernel⟩,
    ⟨1000000000, netS 1 [] fun a => { a with bound := some (0, 0, 0) }, 0, 0, 0, by decide +kernel, by decide +kernel, by decide +kernel,
    .inr (by decide +kernel)⟩⟩

theorem witness_HostWindowsAndCyclicExchange :
    (∃ (t : Tick) (b : Tick) (n : Nat) (s : State) (r : _) (l : _), let u := s.upTo t; u.hears b = true ∧ (u.port .host).replies = r :: l ∧ r.queued ≤ b ∧
    16 + r.data.length ≤ n ∧ r.nc = false ∧ u.power.resetDue = []) ∧
    (∃ (t : Tick) (b : Tick) (s : State), let u := s.upTo t; u.hears b = true ∧ (u.port .host).replies = []) ∧
    (∃ (t : Tick) (b : Tick) (s : State) (r : _), let u := s.upTo t; u.hears b = true ∧ (u.port .host).delivered = some r) ∧
    (∃ (t : Tick) (b : Tick) (f : Byte) (s : State), let u := s.upTo t; u.hears b = true ∧ u.driving = true ∧ f ≠ 0xB5 ∧ f ≠ 0x00 ∧ f ≠ 0x3C) ∧
    (∃ (t : Tick) (b : Tick) (s : State), let u := s.upTo t; u.hears b = false ∧ u.driving = true) ∧
    (∃ (t : Tick) (b : Tick) (n : Nat) (w : Bytes) (s : State), let u := s.upTo t; u.hears b = false ∧ u.driving = true ∧ w.length + 1 = n) ∧
    (∃ (t : Tick) (p : Bytes) (s : State), let u := s.upTo t; let c := Source.alcia; let x := (u.port c).cyclic; u.listens = true ∧ p.length = 64 ∧
    u.objection 0x0310 c p = none ∧ x.enabled = true ∧ x.held = none ∧ cycFieldsOk p = true) ∧
    (∃ (t : Tick) (s : State) (a : _) (n : _) (d : _), let u := s.upTo t; let c := Source.alcia; let x := (u.port c).cyclic; u.up = true ∧
    u.linkHalted = false ∧ u.latchTick c t = true ∧ x.held = some (a, n, d) ∧ a ≤ t ∧ u.owner = some c ∧ x.rejected = none) ∧
    (∃ (t : Tick) (s : State) (a : _) (n : _) (d : _), let u := s.upTo t; let c := Source.alcia; let x := (u.port c).cyclic; u.up = true ∧
    u.linkHalted = false ∧ u.latchTick c t = true ∧ x.held = some (a, n, d) ∧ a ≤ t ∧ u.owner = some c ∧ x.rejected.isSome = true) ∧
    (∃ (t : Tick) (s : State) (a : _) (n : _) (d : _), let u := s.upTo t; let c := Source.alcia; let x := (u.port c).cyclic; u.up = true ∧
    u.linkHalted = false ∧ u.latchTick c t = true ∧ x.held = some (a, n, d) ∧ a ≤ t ∧ u.owner ≠ some c) ∧
    (∃ (t : Tick) (s : State), let u := s.upTo t; let c := Source.alcia; let x := (u.port c).cyclic; u.up = true ∧ u.linkHalted = false ∧
    u.latchTick c t = true ∧ x.held = none) ∧
    (∃ (t : Tick) (s : State), let u := s.upTo t; let c := Source.alcia; u.latchTick c t = false) :=
  ⟨⟨0, 0, 16, rdy.modPort .host fun x => { x with replies := [{}] }, {}, [], by decide +kernel, by decide +kernel, by decide +kernel, by decide +kernel,
    by decide +kernel, by decide +kernel⟩,
    ⟨0, 0, rdy, by decide +kernel, by decide +kernel⟩,
    ⟨0, 0, rdy.modPort .host fun x => { x with delivered := some {} }, {}, by decide +kernel, by decide +kernel⟩,
    ⟨0, 0, 0x11, rdy, by decide +kernel, by decide +kernel, by decide +kernel, by decide +kernel, by decide +kernel⟩,
    ⟨0, 0, { rdy with watch := { listenFrom := 1 } }, by decide +kernel, by decide +kernel⟩,
    ⟨0, 0, 2, [0], { rdy with watch := { listenFrom := 1 } }, by decide +kernel, by decide +kernel, by decide +kernel⟩,
    ⟨0, zeros 64, cycS { enabled := true }, by decide +kernel, by decide +kernel, by decide +kernel, by decide +kernel, by decide +kernel,
    by decide +kernel⟩,
    ⟨rdy.ctrlCycle, cycS { enabled := true, held := some (0, 0, []) }, 0, 0, [], by decide +kernel, by decide +kernel, by decide +kernel,
    by decide +kernel, by decide +kernel, by decide +kernel, by decide +kernel⟩,
    ⟨rdy.ctrlCycle, cycS { enabled := true, held := some (0, 0, []), rejected := some (0, 0) }, 0, 0, [], by decide +kernel, by decide +kernel,
    by decide +kernel, by decide +kernel, by decide +kernel, by decide +kernel, by decide +kernel⟩,
    ⟨rdy.ctrlCycle, { cycS { enabled := true, held := some (0, 0, []) } with owner := some .host }, 0, 0, [], by decide +kernel, by decide +kernel,
    by decide +kernel, by decide +kernel, by decide +kernel, by decide +kernel⟩,
    ⟨rdy.ctrlCycle, cycS { enabled := true }, by decide +kernel, by decide +kernel, by decide +kernel, by decide +kernel⟩,
    ⟨0, rdy, by decide +kernel⟩⟩

set_option maxRecDepth 100000 in
theorem witness_PacketsFromEveryPort :
    (∃ (t : Tick) (q : Nat) (p : Bytes) (s : State), let u := s.upTo t; q < 65536 ∧ p.length ≤ 4096 ∧ u.takes .service 0x0100 p) ∧
    (∃ (t : Tick) (b : Tick) (q : Nat) (p : Bytes) (s : State), let u := s.upTo t; q < 65536 ∧ p.length ≤ 4096 ∧ u.takes .host 0x0100 p ∧
    u.hears b = true ∧ (u.port .host).replies = []) ∧
    (∃ (t : Tick) (q : Nat) (p : Bytes) (s : State) (v : BitVec 32) (j : Nat), let u := s.upTo t;
    let h : Bytes := [0x00] ++ le 2 0x0100 ++ le 2 q ++ le 2 p.length ++ p; let w : Bytes := h ++ le 4 (crc32c (0xB5 :: h)).toNat; q < 65536 ∧
    p.length ≤ 4096 ∧ u.takes .app 0x0100 p ∧ j ≤ 8 ∧ bitsN v.toNat 3 0 = j ∧ bitsN v.toNat 20 8 = w.length + 1 ∧ vget u.app.slots j [] = 0xB5 :: w) ∧
    (∃ (t : Tick) (b : Bytes) (s : State), let u := s.upTo t; u.listens = true ∧ 0 < (u.port .service).credits ∧ b.length < 7 ∧
    getN (0xB5 :: b) 1 1 % 2 = 0) ∧
    (∃ (t : Tick) (s : State), let u := s.upTo t; u.listens = true) ∧
    (∃ (t : Tick) (s : State), let u := s.upTo t; u.listens = false) ∧
    (∃ (t : Tick) (s : State) (r : _) (l : _), let u := s.upTo t; u.listens = true ∧ (u.port .service).replies = r :: l ∧ r.nc = false ∧
    u.power.resetDue = [] ∧ u.upd.baudNext = none) ∧
    (∃ (t : Tick) (b : Bytes) (s : State) (op : _) (seq : _) (p : _), let u := s.upTo t; u.dev = .sill ∧ u.listens = true ∧
    0 < (u.port .service).credits ∧ transport (0xA5 :: b) false none = .inr (op, p) ∧ getN (0xA5 :: b) 4 2 = seq ∧ op < 0x0902) ∧
    (∃ (t : Tick) (b : Bytes) (s : State) (op : _) (seq : _) (p : _), let u := s.upTo t; u.dev = .sill ∧ u.listens = true ∧
    0 < (u.port .service).credits ∧ transport (0xA5 :: b) false none = .inr (op, p) ∧ getN (0xA5 :: b) 4 2 = seq ∧ op = 0x0902 ∧ p.length = 516 ∧
    getN p 0 4 = 0 ∧ hdrOk (p.drop 4) = true ∧ u.upd.session = 0 ∧ 4 ≤ u.bootRec.trial ∧ u.power.powerFail = false) ∧
    (∃ (t : Tick) (v : BitVec 32) (s : State) (r : _) (l : _), let u := s.upTo t; u.listens = true ∧ (u.port .app).replies = r :: l ∧
    bitsN v.toNat 3 0 = u.app.replySlot ∧ r.nc = false ∧ u.power.resetDue = []) ∧
    (∃ (t : Tick) (v : BitVec 32) (d : Bytes) (s : State), let u := s.upTo t; u.up = true ∧ d.length = 4 ∧ natOf d = v.toNat) ∧
    (∃ (t : Tick) (a : Nat) (s : State), let u := s.upTo t; u.up = true ∧ u.inAppMap a 1 = true) ∧
    (∃ (t : Tick) (a : Nat) (d : Bytes) (s : State), let u := s.upTo t; u.up = true ∧ u.mapped a d.length = false ∧ u.app.state = 2) ∧
    (∃ (t : Tick) (a : Nat) (d : Bytes) (s : State), let u := s.upTo t; u.up = true ∧ u.mapped a d.length = false ∧ u.app.state ≠ 2) ∧
    (∃ (t : Tick) (s : State), let u := s.upTo t; Memory.wf u.mem = true) ∧
    (∃ (t : Tick) (a : Nat) (s : State) (x : _), let u := s.upTo t; Memory.wf u.mem = true ∧ x ≠ a) :=
  ⟨⟨0, 0x1234, [0xAA, 0x55], rdy, by decide +kernel, by decide +kernel, takes_of (by decide +kernel)⟩,
    ⟨0, 0, 0x1234, [0xAA, 0x55], rdy, by decide +kernel, by decide +kernel, takes_of (by decide +kernel), by decide +kernel, by decide +kernel⟩,
    ⟨0, 0x1234, [0xAA, 0x55], rdy.modApp fun x => { x with slots := vmod x.slots 2 fun _ => 0xB5 :: nopW }, 0x0E02, 2, by decide +kernel,
    by decide +kernel, takes_of (by decide +kernel), by decide +kernel, by decide +kernel, by decide +kernel, by decide +kernel⟩,
    ⟨0, [], rdy, by decide +kernel, by decide +kernel, by decide +kernel, by decide +kernel⟩,
    ⟨0, rdy, by decide +kernel⟩,
    ⟨0, { rdy with dev := .off }, by decide +kernel⟩,
    ⟨0, rdy.modPort .service fun x => { x with replies := [{}] }, {}, [], by decide +kernel, by decide +kernel, by decide +kernel, by decide +kernel,
    by decide +kernel⟩,
    ⟨0, sillB, sill0, 0x0100, 0, [], by decide +kernel, by decide +kernel, by decide +kernel, by decide +kernel, by decide +kernel, by decide +kernel⟩,
    ⟨0, offerB, sill0, 0x0902, 0, zeros 4 ++ hdr0, by decide +kernel, by decide +kernel, by decide +kernel, by decide +kernel, by decide +kernel,
    by decide +kernel, by decide +kernel, by decide +kernel, by decide +kernel, by decide +kernel, by decide +kernel, by decide +kernel⟩,
    ⟨0, 0, rdy.modPort .app fun x => { x with replies := [{}] }, {}, [], by decide +kernel, by decide +kernel, by decide +kernel, by decide +kernel,
    by decide +kernel⟩,
    ⟨0, 0, [0, 0, 0, 0], rdy, by decide +kernel, by decide +kernel, by decide +kernel⟩,
    ⟨0, 0x08000000, rdy, by decide +kernel, by decide +kernel⟩,
    ⟨0, 0, [0], appS 2 [], by decide +kernel, by decide +kernel, by decide +kernel⟩,
    ⟨0, 0, [0], rdy, by decide +kernel, by decide +kernel, by decide +kernel⟩,
    ⟨0, rdy, by decide +kernel⟩,
    ⟨0, 0, rdy, 1, by decide +kernel, by decide +kernel⟩⟩

theorem witness_GateTransitionsProceed :
    (∃ (s : State) (ch : Fin 24) (a : Tick), s.gateTarget ch = .on ∧ (s.gate ch).out = .off ∧ (s.gate ch).onAt = none ∧ s.offCmd (partner ch) = some a ∧
    s.time < a + s.deadTicks ch) ∧
    (∃ (s : State) (ch : Fin 24) (a : Tick), s.gateTarget ch = .on ∧ (s.gate ch).out = .off ∧ (s.gate ch).onAt = none ∧ s.offCmd (partner ch) = some a ∧
    a + s.deadTicks ch ≤ s.time) ∧
    (∃ (s : State) (ch : Fin 24) (a : Tick), (vget s.gates ch {}).onAt = some a ∧ a ≤ s.time) ∧
    (∃ (t : Tick) (ch : Fin 28) (s : State), let u := s.upTo t; let g := u.gate ch; g.out = .on ∨ g.out = .off) ∧
    (∃ (t : Tick) (ch : Fin 28) (s : State), let u := s.upTo t; let g := u.gate ch; g.t0 + u.cu (0x20 + chStack ch) 16 1 ≤ t ∧ g.phase = .onPlateau) ∧
    (∃ (t : Tick) (ch : Fin 28) (s : State), let u := s.upTo t; let g := u.gate ch; g.t0 + u.cu (0x20 + chStack ch) 16 1 ≤ t ∧ g.phase = .offPlateau) ∧
    (∃ (t : Tick) (ch : Fin 28) (s : State), let u := s.upTo t; let g := u.gate ch; g.phase = .onPlateau ∧ g.mode ≠ 1 ∧ g.t0 ≤ t ∧
    t < g.t0 + u.cu (0x20 + chStack ch) 16 1) ∧
    (∃ (t : Tick) (ch : Fin 28) (s : State), let u := s.upTo t; let g := u.gate ch; g.phase = .offPlateau ∧ g.mode ≠ 1 ∧ g.t0 ≤ t ∧
    t < g.t0 + u.cu (0x20 + chStack ch) 16 1) ∧
    (∃ (t : Tick) (ch : Fin 28) (s : State), let u := s.upTo t; let g := u.gate ch; g.mode ≠ 2 ∧ (g.out = .off ∨ g.out = .softOff)) ∧
    (∃ (t : Tick) (ch : Fin 28) (s : State), let u := s.upTo t; let g := u.gate ch; g.mode = 2) ∧
    (∃ (t : Tick) (ch : Fin 28) (s : State), let u := s.upTo t; let g := u.gate ch; g.mode = 2 ∧ g.out = .softOff ∧
    g.softT0 + 10 * u.cu (0x20 + chStack ch) 26 1 ≤ t) ∧
    (∃ (t : Tick) (k : Fin 4) (e : PwmEdgeInput) (s : State), let u := s.upTo t; u.sealedCfg.isSome = true ∧ u.enabled k = true ∧ u.clockRuns = true ∧
    u.crosses k t e = true) :=
  ⟨⟨legS, 0, 0, by decide +kernel, by decide +kernel, by decide +kernel, by decide +kernel, by decide +kernel⟩,
    ⟨{ legS with time := 1000000 }, 0, 0, by decide +kernel, by decide +kernel, by decide +kernel, by decide +kernel, by decide +kernel⟩,
    ⟨{ legS with gates := vmod legS.gates 0 fun g => { g with onAt := some 0 } }, 0, 0, by decide +kernel, by decide +kernel⟩,
    ⟨0, 0, rdy, by decide +kernel⟩,
    ⟨1000000, 0, gS fun g => { g with phase := .onPlateau }, by decide +kernel, by decide +kernel⟩,
    ⟨1000000, 0, gS fun g => { g with phase := .offPlateau }, by decide +kernel, by decide +kernel⟩,
    ⟨0, 0, gS fun g => { g with phase := .onPlateau }, by decide +kernel, by decide +kernel, by decide +kernel, by decide +kernel⟩,
    ⟨0, 0, gS fun g => { g with phase := .offPlateau }, by decide +kernel, by decide +kernel, by decide +kernel, by decide +kernel⟩,
    ⟨0, 0, rdy, by decide +kernel, by decide +kernel⟩,
    ⟨0, 0, gS fun g => { g with mode := 2 }, by decide +kernel⟩,
    ⟨1000000, 0, gS fun g => { g with mode := 2, out := .softOff }, by decide +kernel, by decide +kernel, by decide +kernel⟩,
    ⟨0, 0, { phase := 0, counter := 0, rising := true }, rdy, by decide +kernel, by decide +kernel, by decide +kernel, by decide +kernel⟩⟩

theorem witness_GateFaultsLockOut :
    (∃ (t : Tick) (ch : Fin 28) (ns : Nat) (s : State), let u := s.upTo t; let k := chStack ch; (u.gate ch).out = .on ∧
    10 * u.cu (0x20 + k) (if isBk ch then 13 else 11) 1 ≤ ns) ∧
    (∃ (t : Tick) (ch : Fin 28) (ns : Nat) (s : State), let u := s.upTo t; let k := chStack ch; ns < 10 * u.cu (0x20 + k) (if isBk ch then 13 else 11) 1) ∧
    (∃ (t : Tick) (ch : Fin 28) (s : State) (x : _), let u := s.upTo t; (u.gate ch).mode = 2 ∧ u.boosterDue ch x t = true) ∧
    (∃ (t : Tick) (ch : Fin 28) (s : State) (x : _), let u := s.upTo t; ((u.gate ch).mode ≠ 2 ∨ u.boosterDue ch x t = false)) ∧
    (∃ (t : Tick) (ch : Fin 28) (s : State), let u := s.upTo t; let k := chStack ch; (u.gate ch).uvPos = false ∧ u.enabled k = true ∧ u.dev = .run) ∧
    (∃ (t : Tick) (ch : Fin 28) (s : State), let u := s.upTo t; let k := chStack ch; (u.gate ch).uvPos = false ∧ u.enabled k = false) ∧
    (∃ (t : Tick) (kt : Nat) (leg : Fin 12) (s : State), let u := s.upTo t; let c := 2 * leg.val; let u := u.upKt kt; u.enabled (c / 6) = true ∧
    (u.stack (c / 6)).switching = true ∧ (u.stack (c / 6)).stLimit = true) :=
  ⟨⟨0, 0, 10000, gS fun g => { g with out := .on }, by decide +kernel, by decide +kernel⟩,
    ⟨0, 0, 0, rdy, by decide +kernel⟩,
    ⟨1000000, 0, gS fun g => { g with mode := 2 }, .off, by decide +kernel, by decide +kernel⟩,
    ⟨0, 0, rdy, .off, by decide +kernel⟩,
    ⟨0, 0, run, by decide +kernel, by decide +kernel, by decide +kernel⟩,
    ⟨0, 0, unc, by decide +kernel, by decide +kernel⟩,
    ⟨0, 0, 0, rdy.modStack 0 fun x => { x with switching := true, stLimit := true }, by decide +kernel, by decide +kernel, by decide +kernel⟩⟩

theorem witness_FeedbackCounts :
    (∃ (t : Tick) (n : Fin 6) (b : Bool) (s : State), let u := s.upTo t; let p := u.fbPort n; u.fbLive n = true ∧ u.fbMode n = 1 ∧ b ≠ p.lvA) ∧
    (∃ (t : Tick) (n : Fin 6) (b : Bool) (s : State), let u := s.upTo t; let p := u.fbPort n; u.fbLive n = true ∧ u.fbMode n = 1 ∧ b ≠ p.lvB) ∧
    (∃ (t : Tick) (n : Fin 6) (s : State), let u := s.upTo t; u.fbLive n = true ∧ u.fbMode n = 1) ∧
    (∃ (t : Tick) (n : Fin 6) (s : State), let u := s.upTo t; let p := u.fbPort n; u.fbLive n = true ∧ u.fbMode n = 2 ∧ p.lastEdge = none) ∧
    (∃ (t : Tick) (n : Fin 6) (s : State), let u := s.upTo t; u.fbLive n = true ∧ (u.fbMode n = 1 ∨ u.fbMode n = 6)) ∧
    (∃ (t : Tick) (n : Fin 6) (s : State), let u := s.upTo t; u.fbLive n = false) ∧
    (∃ (t : Tick) (n : Fin 6) (code : Fin 8) (s : State), let u := s.upTo t; u.fbLive n = true ∧ u.fbMode n = 5 ∧ hallSector (u.fbBit n 0) code = none) ∧
    (∃ (t : Tick) (n : Fin 6) (code : Fin 8) (s : State) (k : _), let u := s.upTo t; let p := u.fbPort n; u.fbLive n = true ∧ u.fbMode n = 5 ∧
    hallSector (u.fbBit n 0) code = some k ∧ p.hall = none ∧ p.state = 1) ∧
    (∃ (t : Tick) (n : Fin 6) (code : Fin 8) (s : State) (j : _) (k : _), let u := s.upTo t; let p := u.fbPort n; u.fbLive n = true ∧ u.fbMode n = 5 ∧
    hallSector (u.fbBit n 0) code = some k ∧ p.hall.bind (hallSector (u.fbBit n 0)) = some j ∧ k = (j + 1) % 6) ∧
    (∃ (t : Tick) (n : Fin 6) (s : State), let u := s.upTo t; let p := u.fbPort n; u.fbLive n = true ∧ u.fbMode n = 6 ∧ p.lastEdge = none) ∧
    (∃ (t : Tick) (n : Fin 6) (x : Nat) (s : State) (e : SpdEdge) (r : Rat), let u := s.upTo t; let p := u.fbPort n; let m := getN (u.fbCfg n) 32 1;
    u.fbLive n = true ∧ u.fbMode n = 6 ∧ p.lastEdge = some e ∧ e.t5 ≤ x ∧ p.tRef = some r ∧ 0 < r ∧ 0 < m ∧
    ((m : Rat) + 1 / 2) * r ≤ (x - e.t5 : Nat) ∧ (x - e.t5 : Nat) ≤ 3 / 2 * ((m : Rat) + 1) * r) :=
  ⟨⟨0, 0, true, fbS 1 [] id, by decide +kernel, by decide +kernel, by decide +kernel⟩,
    ⟨0, 0, true, fbS 1 [] id, by decide +kernel, by decide +kernel, by decide +kernel⟩,
    ⟨0, 0, fbS 1 [] id, by decide +kernel, by decide +kernel⟩,
    ⟨0, 0, fbS 2 [] id, by decide +kernel, by decide +kernel, by decide +kernel⟩,
    ⟨0, 0, fbS 6 [] id, by decide +kernel, by decide +kernel⟩,
    ⟨0, 0, rdy, by decide +kernel⟩,
    ⟨0, 0, 0, fbS 5 [] id, by decide +kernel, by decide +kernel, by decide +kernel⟩,
    ⟨0, 0, 1, fbS 5 [] fun p => { p with state := 1 }, 0, by decide +kernel, by decide +kernel, by decide +kernel, by decide +kernel, by decide +kernel⟩,
    ⟨0, 0, 3, fbS 5 [] fun p => { p with hall := some 1 }, 0, 1, by decide +kernel, by decide +kernel, by decide +kernel, by decide +kernel,
    by decide +kernel⟩,
    ⟨0, 0, fbS 6 [] id, by decide +kernel, by decide +kernel, by decide +kernel⟩,
    ⟨0, 0, 1500, fbS 6 [(32, 1)] fun p => { p with lastEdge := some ⟨0, 0, true⟩, tRef := some 1000 }, ⟨0, 0, true⟩, 1000, by decide +kernel,
    by decide +kernel, by decide +kernel, by decide +kernel, by decide +kernel, by decide +kernel, by decide +kernel, by decide +kernel,
    by decide +kernel⟩⟩

theorem witness_FeedbackFramesAndLines :
    (∃ (t : Tick) (n : Fin 6) (s : State), let u := s.upTo t; u.fbLive n = true ∧ u.fbMode n = 3) ∧
    (∃ (t : Tick) (n : Fin 6) (x : Nat) (ex : Nat) (crc : Nat) (nE : Bool) (nW : Bool) (s : State), let u := s.upTo t; let d := u.fbCfg n;
    let good := getN d 19 1 = 0 ∨ crc = crcOfBits (getN d 19 1) (getN d 20 2) (frameBits d true x ex nE nW); u.fbLive n = true ∧ u.fbMode n = 3 ∧
    ¬good) ∧
    (∃ (t : Tick) (n : Fin 6) (x : Nat) (ex : Nat) (crc : Nat) (nE : Bool) (nW : Bool) (s : State), let u := s.upTo t; let d := u.fbCfg n;
    let good := getN d 19 1 = 0 ∨ crc = crcOfBits (getN d 19 1) (getN d 20 2) (frameBits d true x ex nE nW); u.fbLive n = true ∧ u.fbMode n = 3 ∧
    good ∧ nE = false) ∧
    (∃ (t : Tick) (n : Fin 6) (x : Nat) (ex : Nat) (crc : Nat) (nE : Bool) (nW : Bool) (s : State), let u := s.upTo t; let p := u.fbPort n;
    let d := u.fbCfg n; let good := getN d 19 1 = 0 ∨ crc = crcOfBits (getN d 19 1) (getN d 20 2) (frameBits d true x ex nE nW); u.fbLive n = true ∧
    u.fbMode n = 3 ∧ good ∧ nE = true ∧ nW = true ∧ p.serialSeen = false) ∧
    (∃ (t : Tick) (n : Fin 6) (s : State) (l : _), let u := s.upTo t; let p := u.fbPort n; u.fbLive n = true ∧ u.fbIdx n = true ∧ u.idxValue n = some l ∧
    p.idxFirst = none ∧ p.state = 1) ∧
    (∃ (t : Tick) (n : Fin 6) (s : State), let u := s.upTo t; u.fbLive n = true ∧ u.fbIdx n = true ∧ u.idxValue n = none) ∧
    (∃ (t : Tick) (n : Fin 6) (s : State), let u := s.upTo t; u.fbLive n = true ∧ u.fbMode n = 1 ∧ u.fbBit n 2 = true) ∧
    (∃ (t : Tick) (n : Fin 6) (s : State), let u := s.upTo t; u.awake = true ∧ vget u.pins.fbSup n false = true ∧ u.fbMode n ≠ 0) :=
  ⟨⟨0, 0, fbS 3 [] id, by decide +kernel, by decide +kernel⟩,
    ⟨0, 0, 0, 0, 64, true, true, fbS 3 [(19, 6), (20, 3), (16, 12)] id, by decide +kernel, by decide +kernel, by decide +kernel⟩,
    ⟨0, 0, 0, 0, 0, false, true, fbS 3 [(19, 0)] id, by decide +kernel, by decide +kernel, .inl (by decide +kernel), by decide +kernel⟩,
    ⟨0, 0, 0, 0, 0, true, true, fbS 3 [(19, 0)] id, by decide +kernel, by decide +kernel, .inl (by decide +kernel), by decide +kernel, by decide +kernel,
    by decide +kernel⟩,
    ⟨0, 0, fbS 1 [(1, 4), (3, 0)] fun p => { p with state := 1, lvZ := true }, 0, by decide +kernel, by decide +kernel, by decide +kernel,
    by decide +kernel, by decide +kernel⟩,
    ⟨0, 0, fbS 1 [(1, 4)] id, by decide +kernel, by decide +kernel, by decide +kernel⟩,
    ⟨0, 0, fbS 1 [(1, 4)] id, by decide +kernel, by decide +kernel, by decide +kernel⟩,
    ⟨0, 0, { fbS 1 [] id with pins := { rdy.pins with fbSup := vmod rdy.pins.fbSup 0 fun _ => true } }, by decide +kernel, by decide +kernel,
    by decide +kernel⟩⟩

theorem witness_FieldEngineRuns :
    (∃ (t : Tick) (k : Fin 4) (s : State), let u := s.upTo t; u.sealedCfg.isSome = true ∧ u.enabled k = true ∧ u.awake = true ∧ u.zeroAt k t = true) ∧
    (∃ (t : Tick) (k : Fin 4) (s : State), let u := s.upTo t; (u.enabled k = false ∨ u.zeroAt k t = false)) ∧
    (∃ (t : Tick) (k : Fin 4) (s : State), let u := s.upTo t; u.sealedCfg.isSome = true ∧ u.enabled k = true ∧ u.awake = true ∧
    vget u.integ.halted (2 + k) false = false ∧ (u.stack k).sense.fresh = true) ∧
    (∃ (t : Tick) (k : Fin 4) (s : State), let u := s.upTo t; (vget u.integ.halted (2 + k) false = true ∨ (u.stack k).sense.fresh = false)) :=
  ⟨⟨0, 0, rdy, by decide +kernel, by decide +kernel, by decide +kernel, by decide +kernel⟩,
    ⟨0, 1, rdy, by decide +kernel⟩,
    ⟨0, 0, rdy.modStack 0 fun x => { x with sense := { x.sense with fresh := true } }, by decide +kernel, by decide +kernel, by decide +kernel,
    by decide +kernel, by decide +kernel⟩,
    ⟨0, 0, rdy, by decide +kernel⟩⟩

theorem witness_ObserverEventsFollow :
    (∃ (t : Tick) (m : Fin 4) (s : State) (a : _) (l : _), let u := s.upTo t; let o := u.observer m; let d := u.slMachine m; o.state = 1 ∧
    o.along = false ∧ o.since + slCatchT d ≤ t ∧ (o.eHist.filter fun p => decide (t ≤ p.1 + slCatchOk d)) = a :: l ∧ (∀ p ∈ a :: l,
    p.2 < (getN d 42 2 : Rat) / 10) ∧ (getN d 0 1).testBit 1 = true) ∧
    (∃ (t : Tick) (m : Fin 4) (s : State), let u := s.upTo t; let o := u.observer m; o.state ≠ 1) ∧
    (∃ (t : Tick) (m : Fin 4) (s : State), let u := s.upTo t; let o := u.observer m; let d := u.slMachine m; let n := getN d 1 1;
    let len := 2 * getN d 2 1 + getN d 3 1; let c2 := (o.rises.zipIdx.map fun x => x.1 * Config.cosTurn (2 * (x.2 : Rat) / n)).sum;
    let s2 := (o.rises.zipIdx.map fun x => x.1 * Config.sinTurn (2 * (x.2 : Rat) / n)).sum;
    let sal := 2 * Config.sqrt (c2 * c2 + s2 * s2) / o.rises.sum; o.state = 2 ∧ o.axis = none ∧ o.step = n * len ∧ o.rises.length = n ∧
    o.rises.sum ≠ 0 ∧ (getN d 12 1 : Rat) ≤ sal * 100) ∧
    (∃ (t : Tick) (m : Fin 4) (s : State), let u := s.upTo t; let o := u.observer m; let d := u.slMachine m; let n := getN d 1 1;
    let len := 2 * getN d 2 1 + getN d 3 1; let p := o.rises[n]?.getD 0; let q := o.rises[n + 1]?.getD 0; let pol := absR (p - q) / ((p + q) / 2);
    o.state = 2 ∧ o.axis.isSome = true ∧ o.step = (n + 2) * len ∧ o.rises.length = n + 2 ∧ 0 < p + q ∧ pol * 100 < getN d 13 1) ∧
    (∃ (t : Tick) (m : Fin 4) (s : State) (ax : _), let u := s.upTo t; let o := u.observer m; let d := u.slMachine m; let n := getN d 1 1;
    let len := 2 * getN d 2 1 + getN d 3 1; let p := o.rises[n]?.getD 0; let q := o.rises[n + 1]?.getD 0; let pol := absR (p - q) / ((p + q) / 2);
    o.state = 2 ∧ o.axis = some ax ∧ o.step = (n + 2) * len ∧ o.rises.length = n + 2 ∧ 0 < p + q ∧ (getN d 13 1 : Rat) ≤ pol * 100) ∧
    (∃ (t : Tick) (m : Fin 4) (s : State), let u := s.upTo t; let o := u.observer m; o.state ≠ 2) ∧
    (∃ (t : Tick) (m : Fin 4) (s : State) (a : _), let u := s.upTo t; let o := u.observer m; o.wlsAt = some a ∧ o.state = 3 ∧ u.obsAngle m = true ∧
    a + msTicks 2000 + 100 ≤ t) ∧
    (∃ (t : Tick) (m : Fin 4) (s : State), let u := s.upTo t; let o := u.observer m; let d := u.slMachine m; o.state = 5 ∧ o.asc = false ∧
    u.zeroActs m = true ∧ o.attempts = 0 ∧ 0 < getN d 46 1 ∧ t ≤ o.lossAt + msTicks 2000) ∧
    (∃ (t : Tick) (m : Fin 4) (s : State), let u := s.upTo t; let o := u.observer m; let d := u.slMachine m; o.state = 5 ∧ getN d 46 1 ≤ o.attempts) ∧
    (∃ (t : Tick) (s : State) (a : _), let u := s.upTo t; u.torsion.snapSlow = some a ∧ u.torsion.snap = true ∧ getN u.torsCfg 1 1 = 2 ∧
    a + msTicks 50 ≤ u.time) :=
  ⟨⟨100000000, 0, obsS [(0, 2), (42, 1)] fun o => { o with state := 1, eHist := [(100000000, 0)] }, (100000000, 0), [], by decide +kernel,
    by decide +kernel, by decide +kernel, by decide +kernel, by decide +kernel, by decide +kernel⟩,
    ⟨0, 0, rdy, by decide +kernel⟩,
    (by
      rcases salience with h | h
      · exact ⟨0, 0, salS 1, by decide +kernel, by decide +kernel, by decide +kernel, by decide +kernel, by decide +kernel, sal_of (by decide +kernel) (by decide +kernel) (by decide +kernel) h⟩
      · exact ⟨0, 0, salS (-1), by decide +kernel, by decide +kernel, by decide +kernel, by decide +kernel, by decide +kernel, sal_of (by decide +kernel) (by decide +kernel) (by decide +kernel) h⟩),
    ⟨0, 0, obsS [(1, 1), (2, 1), (3, 1), (13, 1)] fun o => { o with state := 2, axis := some 0, step := 9, rises := [1, 1, 1] }, by decide +kernel,
    by decide +kernel, by decide +kernel, by decide +kernel, by decide +kernel, by decide +kernel⟩,
    ⟨0, 0, obsS [(1, 1), (2, 1), (3, 1), (13, 1)] fun o => { o with state := 2, axis := some 0, step := 9, rises := [1, 1, 3] }, 0, by decide +kernel,
    by decide +kernel, by decide +kernel, by decide +kernel, by decide +kernel, by decide +kernel⟩,
    ⟨0, 0, rdy, by decide +kernel⟩,
    ⟨1000000000, 0, (obsS [] fun o => { o with state := 3, wlsAt := some 0 }).modFe 0 fun f => { f with angleSrc := 16 }, 0, by decide +kernel,
    by decide +kernel, by decide +kernel, by decide +kernel⟩,
    ⟨0, 0, (obsS [(46, 1)] fun o => { o with state := 5 }).modStack 0 fun x => { x with switching := true, obs := { x.obs with ab := [(0, 0, 0)] } },
    by decide +kernel, by decide +kernel, by decide +kernel, by decide +kernel, by decide +kernel, by decide +kernel⟩,
    ⟨0, 0, obsS [(46, 1)] fun o => { o with state := 5, attempts := 1 }, by decide +kernel, by decide +kernel⟩,
    ⟨msTicks 50, (cfgd [blk 1 [(0, 1)], blk 0x58 [(1, 2)]]).modTorsion fun x => { x with snap := true, snapSlow := some 0 }, 0, by decide +kernel,
    by decide +kernel, by decide +kernel, by decide +kernel⟩⟩

theorem witness_AxisCommandsAccepted :
    (∃ (t : Tick) (c : Source) (p : Bytes) (s : State), let u := s.upTo t; let n := getN p 0 1; let a := u.axis n; u.takes c 0x0600 p ∧ n < 4 ∧
    getN p 1 1 = 2 ∧ getN p 2 2 = 0 ∧ getN p 8 4 = 0 ∧ u.axEn n = true ∧ u.pairHolds n = false ∧ (a.state = 0 ∨ a.state = 1 ∨ a.state = 2) ∧
    u.limitIn n (getI p 4 4) = false) ∧
    (∃ (t : Tick) (c : Source) (p : Bytes) (s : State), let u := s.upTo t; let n := getN p 0 1; let a := u.axis n; u.takes c 0x0600 p ∧ n < 4 ∧
    getN p 1 1 = 2 ∧ getN p 2 2 = 0 ∧ getN p 8 4 = 0 ∧ a.state = 6) ∧
    (∃ (t : Tick) (c : Source) (p : Bytes) (s : State), let u := s.upTo t; u.takes c 0x0601 p) ∧
    (∃ (t : Tick) (c : Source) (p : Bytes) (s : State), let u := s.upTo t; let n := getN p 0 1; let a := u.axis n; u.takes c 0x0602 p ∧ n < 4 ∧
    getN p 1 1 = 3 ∧ getN p 2 2 = 0 ∧ u.axEn n = true ∧ u.pairHolds n = false ∧ (a.state = 0 ∨ a.state = 1)) ∧
    (∃ (t : Tick) (c : Source) (p : Bytes) (s : State), let u := s.upTo t; let g := withAction 1 1 p; let i := getN g 0 1; u.takes c 0x0603 g ∧
    getN g 1 1 = 1 ∧ i < 4 ∧ getN g 2 2 = 0 ∧ getN g 4 4 ≤ 2147483647 ∧ -(2 ^ 47) ≤ getI g 8 8 ∧ getI g 8 8 < 2 ^ 47 ∧ u.axEn i = true ∧
    u.pairHolds i = false ∧ getN (u.axCfg i) 4 1 ≤ 5 ∧ ((u.axis i).state = 0 ∨ (u.axis i).state = 1)) ∧
    (∃ (t : Tick) (c : Source) (p : Bytes) (s : State), let u := s.upTo t; let g := withAction 1 0 p; let i := getN g 0 1; u.takes c 0x0603 g ∧
    getN g 1 1 = 0 ∧ i < 4 ∧ getN g 2 2 = 0 ∧ getN g 4 4 ≤ 2147483647 ∧ -(2 ^ 47) ≤ getI g 8 8 ∧ getI g 8 8 < 2 ^ 47 ∧ u.axEn i = true ∧
    u.pairHolds i = false ∧ getN (u.axCfg i) 4 1 ≤ 5 ∧ (u.axis i).state = 3) ∧
    (∃ (t : Tick) (c : Source) (p : Bytes) (s : State), let u := s.upTo t; let g := withAction 1 2 p; let i := getN g 0 1; u.takes c 0x0603 g ∧
    getN g 1 1 = 2 ∧ i < 4 ∧ getN g 2 2 = 0 ∧ getN g 4 4 ≤ 2147483647 ∧ -(2 ^ 47) ≤ getI g 8 8 ∧ getI g 8 8 < 2 ^ 47 ∧ u.axEn i = true ∧
    u.pairHolds i = false ∧ getN (u.axCfg i) 4 1 ≤ 5 ∧ (u.axis i).state = 3) ∧
    (∃ (t : Tick) (c : Source) (p : Bytes) (s : State), let u := s.upTo t; let n := getN p 0 1; let a := u.axis n; u.takes c 0x0604 p ∧ n < 4 ∧
    getN p 1 1 = 0 ∧ getN p 2 2 = 0 ∧ getN p 4 4 ≤ 2147483647 ∧ -(2 ^ 47) ≤ getI p 16 8 ∧ getI p 16 8 < 2 ^ 47 ∧ u.axEn n = true ∧ a.state = 3 ∧
    a.queue = [] ∧ (getN (u.axCfg n) 84 4 : Int) ≤ a.mDir * (getI p 8 8 - a.mLast)) ∧
    (∃ (t : Tick) (c : Source) (p : Bytes) (s : State), let u := s.upTo t; let n := getN p 0 1; u.takes c 0x0605 p ∧ n < 4) ∧
    (∃ (t : Tick) (c : Source) (p : Bytes) (s : State), let u := s.upTo t; let n := getN p 0 1; u.takes c 0x0605 p ∧ 4 ≤ n) :=
  ⟨⟨0, .host, [0, 2, 0, 0] ++ zeros 16, axS [] id, takes_of (by decide +kernel), by decide +kernel, by decide +kernel, by decide +kernel,
    by decide +kernel, by decide +kernel, by decide +kernel, by decide +kernel, by decide +kernel⟩,
    ⟨0, .host, [0, 2, 0, 0] ++ zeros 16, axS [] fun a => { a with state := 6 }, takes_of (by decide +kernel), by decide +kernel, by decide +kernel,
    by decide +kernel, by decide +kernel, by decide +kernel⟩,
    ⟨0, .host, [1], rdy, takes_of (by decide +kernel)⟩,
    ⟨0, .host, [0, 3, 0, 0], axS [] id, takes_of (by decide +kernel), by decide +kernel, by decide +kernel, by decide +kernel, by decide +kernel,
    by decide +kernel, by decide +kernel⟩,
    ⟨0, .host, zeros 16, axS [] id, takes_of (by decide +kernel), by decide +kernel, by decide +kernel, by decide +kernel, by decide +kernel,
    by decide +kernel, by decide +kernel, by decide +kernel, by decide +kernel, by decide +kernel, by decide +kernel⟩,
    ⟨0, .host, zeros 16, axS [] fun a => { a with state := 3 }, takes_of (by decide +kernel), by decide +kernel, by decide +kernel, by decide +kernel,
    by decide +kernel, by decide +kernel, by decide +kernel, by decide +kernel, by decide +kernel, by decide +kernel, by decide +kernel⟩,
    ⟨0, .host, zeros 16, axS [] fun a => { a with state := 3 }, takes_of (by decide +kernel), by decide +kernel, by decide +kernel, by decide +kernel,
    by decide +kernel, by decide +kernel, by decide +kernel, by decide +kernel, by decide +kernel, by decide +kernel, by decide +kernel⟩,
    ⟨0, .host, zeros 8 ++ le 8 1000000 ++ zeros 8, axS [(84, 1)] fun a => { a with state := 3 }, takes_of (by decide +kernel), by decide +kernel,
    by decide +kernel, by decide +kernel, by decide +kernel, by decide +kernel, by decide +kernel, by decide +kernel, by decide +kernel,
    by decide +kernel, by decide +kernel⟩,
    ⟨0, .host, [0], rdy, takes_of (by decide +kernel), by decide +kernel⟩,
    ⟨0, .host, [4], rdy, takes_of (by decide +kernel), by decide +kernel⟩⟩

theorem witness_AuxiliaryAxesFollow :
    (∃ (t : Tick) (s : State) (y : _), let u := s.upTo t; u.awake = true ∧ u.sealedCfg.isSome = true ∧ vget u.integ.halted 0 false = false ∧
    u.aux.cycleAt = some y ∧ y ≤ t) ∧
    (∃ (t : Tick) (s : State), let u := s.upTo t; (u.sealedCfg = none ∨ u.aux.cycleAt = none)) ∧
    (∃ (t : Tick) (n : Fin 4) (s : State), let u := s.upTo t; let a := u.axis n; u.axEn n = true ∧ u.axType n = 0 ∧ a.speed = 0 ∧
    a.lastChg + msTicks (getN (u.axCfg n) 18 2) + 100 ≤ t) ∧
    (∃ (t : Tick) (n : Fin 4) (b : Fin 2) (s : State), let u := s.upTo t; let a := u.axis n; let br := vget a.bridges b {}; u.axEn n = true ∧
    u.axType n = 0 ∧ br.onPhase = true ∧ br.blankAt + 10 * getN (u.axCfg n) 22 1 ≤ t) ∧
    (∃ (t : Tick) (n : Fin 4) (b : Fin 2) (s : State), let u := s.upTo t; let a := u.axis n; let br := vget a.bridges b {}; u.axEn n = true ∧
    u.axType n = 0 ∧ a.state = 1 ∧ a.precharge = false ∧ br.onPhase = false ∧ br.offAt + 50 * getN (u.axCfg n) 20 1 ≤ t ∧
    100000 ≤ (t - br.onAt) * getN (u.axCfg n) 23 1) ∧
    (∃ (t : Tick) (n : Fin 4) (s : State), let u := s.upTo t; let a := u.axis n; u.axEn n = true ∧ u.awake = true ∧ vget u.integ.halted 0 false = false ∧
    u.axPeriodAt n t = true ∧ (a.state = 0 ∨ a.state = 6) ∧ a.precharge = false ∧ (u.axSlew n).axQuiet n = true ∧ a.measure = 0) ∧
    (∃ (t : Tick) (n : Fin 4) (s : State), let u := s.upTo t; let a := u.axis n; u.axEn n = true ∧ u.awake = true ∧ vget u.integ.halted 0 false = false ∧
    u.axPeriodAt n t = true ∧ a.state ≠ 0 ∧ a.state ≠ 6 ∧ a.precharge = false ∧ u.axType n ≠ 0) ∧
    (∃ (t : Tick) (n : Fin 4) (since : Tick) (s : State), let u := s.upTo t; let a := u.axis n; u.axEn n = true ∧ u.awake = true ∧ a.state ≠ 4 ∧
    since + 10000 * getN (u.axCfg n) 80 1 ≤ t) ∧
    (∃ (t : Tick) (n : Fin 4) (since : Tick) (s : State), let u := s.upTo t; t < since + 10000 * getN (u.axCfg n) 80 1) ∧
    (∃ (t : Tick) (n : Fin 4) (i : AxisSwitch) (s : State), let u := s.upTo t; let a := u.axis n; u.axEn n = true ∧ u.awake = true ∧
    (vget a.sw (swIx i) {}).faulty = true) ∧
    (∃ (t : Tick) (h : Fin 16) (s : State), let u := s.upTo t; let m := h.val / 4; (u.hbNow h).hi = true ∧ u.axType m ≠ 0) ∧
    (∃ (t : Tick) (h : Fin 16) (s : State), let u := s.upTo t; (u.hbNow h).hi = false) ∧
    (∃ (t : Tick) (n : Fin 4) (s : State), let u := s.upTo t; (u.axis n).precharge = true ∧ (∀ i < 4, (vget u.aux.hb (4 * n + i) {}).boot = false)) ∧
    (∃ (t : Tick) (n : Fin 4) (s : State), let u := s.upTo t; (u.axis n).precharge = false) ∧
    (∃ (t : Tick) (h : Fin 16) (s : State), let u := s.upTo t; let m := h.val / 4; u.axEn m = true ∧ h.val % 4 < usedHb (u.axType m) ∧
    (u.axis m).precharge = true) ∧
    (∃ (t : Tick) (v : Nat) (s : State), let u := s.upTo t; u.awake = true ∧ u.cu 0x24 32 2 < v) ∧
    (∃ (t : Tick) (h : Fin 16) (s : State), let u := s.upTo t; let m := h.val / 4; u.axEn m = true ∧ (u.axis m).state ≠ 0) ∧
    (∃ (t : Tick) (sh : Fin 8) (s : State), let u := s.upTo t; let k := sh.val / 2; u.axEn k = true ∧ (u.axis k).state ≠ 0 ∧ (u.axis k).state ≠ 6) :=
  ⟨⟨0, rdy.modAux fun x => { x with cycleAt := some 0 }, 0, by decide +kernel, by decide +kernel, by decide +kernel, by decide +kernel,
    by decide +kernel⟩,
    ⟨0, unc, by decide +kernel⟩,
    ⟨100000000, 0, axS [] id, by decide +kernel, by decide +kernel, by decide +kernel, by decide +kernel⟩,
    ⟨100000000, 0, 0, axS [] fun a => { a with bridges := vmod a.bridges 0 fun x => { x with onPhase := true } }, by decide +kernel, by decide +kernel,
    by decide +kernel, by decide +kernel⟩,
    ⟨100000000, 0, 0, axS [(23, 1)] fun a => { a with state := 1 }, by decide +kernel, by decide +kernel, by decide +kernel, by decide +kernel,
    by decide +kernel, by decide +kernel, by decide +kernel⟩,
    ⟨0, 0, axS [] id, by decide +kernel, by decide +kernel, by decide +kernel, by decide +kernel, by decide +kernel, by decide +kernel, by decide +kernel,
    by decide +kernel⟩,
    ⟨0, 0, axS [(0, 1)] fun a => { a with state := 1 }, by decide +kernel, by decide +kernel, by decide +kernel, by decide +kernel, by decide +kernel,
    by decide +kernel, by decide +kernel, by decide +kernel⟩,
    ⟨1000000000, 0, 0, axS [] id, by decide +kernel, by decide +kernel, by decide +kernel, by decide +kernel⟩,
    ⟨0, 0, 1, axS [] id, by decide +kernel⟩,
    ⟨0, 0, .home, axS [] fun a => { a with sw := vmod a.sw 0 fun x => { x with faulty := true } }, by decide +kernel, by decide +kernel,
    by decide +kernel⟩,
    ⟨0, 0, (axS [(0, 1)] id).modAux fun x => { x with hb := vmod x.hb 0 fun y => { y with hi := true } }, by decide +kernel, by decide +kernel⟩,
    ⟨0, 0, rdy, by decide +kernel⟩,
    ⟨0, 0, axS [] fun a => { a with precharge := true }, by decide +kernel, by decide +kernel⟩,
    ⟨0, 0, rdy, by decide +kernel⟩,
    ⟨0, 0, axS [] fun a => { a with precharge := true }, by decide +kernel, by decide +kernel, by decide +kernel⟩,
    ⟨0, 100000, rdy, by decide +kernel, by decide +kernel⟩,
    ⟨0, 0, axS [] fun a => { a with state := 1 }, by decide +kernel, by decide +kernel⟩,
    ⟨0, 0, axS [] fun a => { a with state := 1 }, by decide +kernel, by decide +kernel, by decide +kernel⟩⟩

theorem witness_SafetyInputsJudged :
    (∃ (t : Tick) (kt : Nat) (s : State), let u := (s.upTo t).upKt kt; u.dev ≠ .off ∧ (u.dev ≠ .inReset ∨ u.power.kpHold.isSome = true)) ∧
    (∃ (t : Tick) (kt : Nat) (ch : Channel) (n : Fin 8) (x : Contact) (lv : Bool) (s : State), let u := (s.upTo t).upKt kt; u.dev ≠ .off ∧
    u.dev ≠ .inReset ∧ ((u.pairSt ch n).contact x).closed ≠ lv ∧ getN (u.pairRec n) 0 1 = 0) ∧
    (∃ (t : Tick) (kt : Nat) (ch : Channel) (n : Fin 8) (x : Contact) (lv : Bool) (since : Nat) (s : State), let u := (s.upTo t).upKt kt; u.dev ≠ .off ∧
    u.dev ≠ .inReset ∧ ((u.pairSt ch n).contact x).closed ≠ lv ∧ getN (u.pairRec n) 0 1 ≠ 0 ∧ u.qualifyAt ch n x lv since kt ≤ u.chNow ch kt) ∧
    (∃ (t : Tick) (kt : Nat) (ch : Channel) (n : Fin 8) (x : Contact) (lv : Bool) (since : Nat) (s : State), let u := (s.upTo t).upKt kt;
    (((u.pairSt ch n).contact x).closed = lv ∨ (getN (u.pairRec n) 0 1 ≠ 0 ∧ u.chNow ch kt < u.qualifyAt ch n x lv since kt))) ∧
    (∃ (t : Tick) (kt : Nat) (ch : Channel) (n : Fin 8) (s : State) (y : _) (r : _), let u := (s.upTo t).upKt kt; (u.pairSt ch n).mate = some (.b, y, r) ∧
    u.pairKind n ≠ 0 ∧ u.chDue ch (r + chMs ch (getN (u.pairRec n) 4 2)) kt = true) ∧
    (∃ (t : Tick) (kt : Nat) (tp : Fin 4) (s : State), let u := (s.upTo t).upKt kt; u.dev ≠ .off ∧ u.dev ≠ .inReset ∧
    kt % 800000 = 200000 * tp.val + 20000) ∧
    (∃ (kt : Nat) (tp : Fin 4), kt % 800000 ≠ 200000 * tp.val + 20000) ∧
    (∃ (t : Tick) (kt : Nat) (s : State) (a : _), let u := (s.upTo t).upKt kt; u.archB = true ∧ u.safety.xcSince = some a ∧ a + msTicks u.xcMs ≤ u.time) ∧
    (∃ (t : Tick) (kt : Nat) (s : State), let u := (s.upTo t).upKt kt; u.archB = true ∧ u.safety.dpSpeedAt + 2 * u.outerTicks + msTicks 1 + 100 ≤ u.time) ∧
    (∃ (t : Tick) (kt : Nat) (s : State), let u := (s.upTo t).upKt kt; u.archB = false) :=
  ⟨⟨0, 0, rdy, by decide +kernel, by decide +kernel⟩,
    ⟨0, 0, .kingpost, 0, .a, false, rdy, by decide +kernel, by decide +kernel, by decide +kernel, by decide +kernel⟩,
    ⟨0, 1000000000, .kingpost, 0, .a, false, 0, safB id, by decide +kernel, by decide +kernel, by decide +kernel, by decide +kernel, by decide +kernel⟩,
    ⟨0, 0, .kingpost, 0, .a, true, 0, safB id, by decide +kernel⟩,
    ⟨0, 1000000000, .kingpost, 0, (safB id).modPairSt .kingpost 0 fun p => { p with mate := some (.b, true, 0) }, true, 0, by decide +kernel,
    by decide +kernel, by decide +kernel⟩,
    ⟨0, 20000, 0, rdy, by decide +kernel, by decide +kernel, by decide +kernel⟩,
    ⟨0, 0, by decide +kernel⟩,
    ⟨1000000000, 0, safB fun x => { x with xcSince := some 0 }, 0, by decide +kernel, by decide +kernel, by decide +kernel⟩,
    ⟨1000000000, 0, safB id, by decide +kernel, by decide +kernel⟩,
    ⟨0, 0, rdy, by decide +kernel⟩⟩

theorem witness_SafeStopsProceed :
    (∃ (kt : Nat), kt % 4000 = 0) ∧
    (∃ (t : Tick) (kt : Nat) (s : State), let u := (s.upTo t).upKt kt; u.safety.dpSpeedAt = u.time) ∧
    (∃ (t : Tick) (kt : Nat) (s : State) (f : _) (z : _), let u := (s.upTo t).upKt kt; u.safety.fns = [f] ∧ f.fn = 2 ∧ f.phase = 0 ∧ f.slow = some z ∧
    z + chMs f.channel (u.cu 0x0F02 20 2) ≤ u.chNow f.channel kt) ∧
    (∃ (t : Tick) (kt : Nat) (s : State) (f : SafeFn), let u := (s.upTo t).upKt kt; f ∈ u.safety.fns ∧ f.fn = 2 ∧ f.phase = 0 ∧ f.channel = .kingpost ∧
    f.t0 + msKt (u.cu 0x0F02 14 2) < kt) ∧
    (∃ (t : Tick) (kt : Nat) (s : State), let u := (s.upTo t).upKt kt; u.archB = true ∧ u.kpSrc ≠ 0 ∧ u.dev ≠ .watch ∧ u.safety.kpLast = none ∧
    u.safety.debug = false) ∧
    (∃ (t : Tick) (kt : Nat) (s : State) (l : _), let u := (s.upTo t).upKt kt; u.archB = true ∧ u.kpSrc ≠ 0 ∧ u.dev ≠ .watch ∧ u.safety.kpLast = some l ∧
    l < kt ∧ 0 < u.cu 0x0F00 4 4 ∧ u.safety.debug = false) ∧
    (∃ (t : Tick) (kt : Nat) (s : State) (l : _), let u := (s.upTo t).upKt kt; u.safety.kpLast = some l ∧ u.archB = true ∧
    l + msKt (u.cu 0x0F00 28 2) < kt) ∧
    (∃ (t : Tick) (kt : Nat) (cs : KpPositionCause) (s : State), let u := (s.upTo t).upKt kt; u.archB = true ∧ u.kpSrc ≠ 0 ∧ u.dev ≠ .watch ∧
    (cs = .signalLoss ∨ (∃ a b, u.safety.kpEdges = some (a, b) ∧ b < a + 80))) ∧
    (∃ (t : Tick) (kt : Nat) (s : State) (a : _), let u := (s.upTo t).upKt kt; u.safety.commUntil = some a ∧ a < kt) :=
  ⟨⟨0, by decide +kernel⟩,
    ⟨0, 0, rdy, by decide +kernel⟩,
    ⟨0, 100000000, safB fun x => { x with fns := [fn2] }, fn2, 0, by decide +kernel, by decide +kernel, by decide +kernel, by decide +kernel,
    by decide +kernel⟩,
    ⟨0, 1000000000, safB fun x => { x with fns := [fn2] }, fn2, by decide +kernel, by decide +kernel, by decide +kernel, by decide +kernel,
    by decide +kernel⟩,
    ⟨0, 0, safB id, by decide +kernel, by decide +kernel, by decide +kernel, by decide +kernel, by decide +kernel⟩,
    ⟨0, 1, safB fun x => { x with kpLast := some 0 }, 0, by decide +kernel, by decide +kernel, by decide +kernel, by decide +kernel, by decide +kernel,
    by decide +kernel, by decide +kernel⟩,
    ⟨0, 100000000, safB fun x => { x with kpLast := some 0 }, 0, by decide +kernel, by decide +kernel, by decide +kernel⟩,
    ⟨0, 0, .signalLoss, safB id, by decide +kernel, by decide +kernel, by decide +kernel, .inl rfl⟩,
    ⟨0, 1, safB fun x => { x with commUntil := some 0 }, 0, by decide +kernel, by decide +kernel⟩⟩

theorem witness_BrakesFollow :
    (∃ (t : Tick) (n : Fin 2) (a : Tick) (s : State), let u := s.upTo t; let b := vget u.safety.brakes n {};
    let m := BitVec.ofNat 4 (u.cu 0x0F03 (16 * n) 1); u.motion.brakeHold = some a ∧ u.dev = .run ∧ n.val ∈ u.brakesInUse ∧
    a + msTicks (u.cu 0x0F03 (16 * n + 6) 2) ≤ u.time ∧ b.request = false ∧ b.high = false ∧ b.low = false ∧ (∀ k < 4,
    m.getLsbD k = true → u.kpGrants k = true) ∧ (∀ f ∈ u.safety.fns, f.mask &&& m = 0)) ∧
    (∃ (t : Tick) (n : Fin 2) (a : Tick) (s : State), let u := s.upTo t; u.motion.brakeHold = some a ∧ u.brakesInUse = [n.val] ∧
    a + msTicks (u.cu 0x0F03 (16 * n + 6) 2 + u.cu 0x0F03 (16 * n + 4) 2) ≤ u.time) ∧
    (∃ (t : Tick) (n : Fin 2) (s : State), let u := s.upTo t; let b := vget u.safety.brakes n {}; u.released n = true ∧ b.testDue .low u.time = true) ∧
    (∃ (t : Tick) (n : Fin 2) (s : State), let u := s.upTo t; let b := vget u.safety.brakes n {}; u.released n = true ∧ b.testDue .high u.time = true) ∧
    (∃ (t : Tick) (n : Fin 2) (s : State), let u := s.upTo t; u.released n = false) ∧
    (∃ (t : Tick) (n : Fin 2) (s : State), let u := s.upTo t; u.released n = true) ∧
    (∃ (t : Tick) (n : Fin 2) (a : Tick) (s : State), let u := s.upTo t; let b := vget u.safety.brakes n {}; u.released n = true ∧ b.relAt = some a ∧
    a + msTicks (u.cu 0x0F03 (16 * n + 4) 2) ≤ u.time) ∧
    (∃ (t : Tick) (n : Fin 2) (a : Tick) (s : State) (d : _) (z : _), let u := s.upTo t; let b := vget u.safety.brakes n {}; b.setAtDp = some a ∧
    a + u.brkSet n ≤ u.time ∧ u.safety.fns = [] ∧ u.motion.stop = some d ∧ d.brakeAt = some z ∧ u.dev = .run ∧ z ≤ u.time) ∧
    (∃ (t : Tick) (n : Fin 2) (a : Tick) (s : State) (d : _) (z : _), let u := s.upTo t; let b := vget u.safety.brakes n {}; b.setAtDp = some a ∧
    a + u.brkSet n ≤ u.time ∧ u.safety.fns = [] ∧ u.motion.stop = some d ∧ d.brakeAt = some z ∧ u.dev = .run ∧ u.time < z) ∧
    (∃ (t : Tick) (n : Fin 2) (s : State), let u := s.upTo t; let b := vget u.safety.brakes n {}; b.setAtKp = none) :=
  ⟨⟨1000000000, 0, 0, brkS .run id fun m => { m with brakeHold := some 0 }, by decide +kernel, by decide +kernel, by decide +kernel, by decide +kernel,
    by decide +kernel, by decide +kernel, by decide +kernel, by decide +kernel, by decide +kernel⟩,
    ⟨1000000000, 0, 0, brkS .run id fun m => { m with brakeHold := some 0 }, by decide +kernel, by decide +kernel, by decide +kernel⟩,
    ⟨100000000, 0, brkS .run (fun b => { b with high := true, low := true, relAt := some 0, testHigh := true }) id, by decide +kernel, by decide +kernel⟩,
    ⟨100000000, 0, brkS .run (fun b => { b with high := true, low := true, relAt := some 0, testHigh := false }) id, by decide +kernel, by decide +kernel⟩,
    ⟨0, 0, rdy, by decide +kernel⟩,
    ⟨0, 0, brkS .run (fun b => { b with high := true, low := true }) id, by decide +kernel⟩,
    ⟨1000000000, 0, 0, brkS .run (fun b => { b with high := true, low := true, relAt := some 0 }) id, by decide +kernel, by decide +kernel,
    by decide +kernel⟩,
    ⟨1000000000, 0, 0,
    brkS .run (fun b => { b with setAtDp := some 0 }) fun m => { m with stop := some { quick := false, began := some 0, brakeAt := some 0 } },
    { quick := false, began := some 0, brakeAt := some 0 }, 0, by decide +kernel, by decide +kernel, by decide +kernel, by decide +kernel,
    by decide +kernel, by decide +kernel, by decide +kernel⟩,
    ⟨1000000000, 0, 0, brkS .run (fun b => { b with setAtDp := some 0 }) fun m => { m with stop := some { quick := false, brakeAt := some 1000000001 } },
    { quick := false, brakeAt := some 1000000001 }, 1000000001, by decide +kernel, by decide +kernel, by decide +kernel, by decide +kernel,
    by decide +kernel, by decide +kernel, by decide +kernel⟩,
    ⟨0, 0, rdy, by decide +kernel⟩⟩

theorem witness_SealedConfigurationRefusesWriting :
    ∃ (t : Tick) (c : Source) (s : State), let u := s.upTo t; u.listens = true ∧ 0 < (u.port c).credits ∧ c ≠ .service ∧ u.sealedCfg.isSome = true :=
  ⟨0, .host, rdy, by decide +kernel, by decide +kernel, by decide +kernel, by decide +kernel⟩

theorem witness_StopsNeedNoOwnership :
    ∃ (op : Nat) (i : OpInfo) (c : Source) (p : Bytes) (s : State), (op = 0x0301 ∨ op = 0x0601 ∨ op = 0x0506) ∧ opInfo op = some i ∧ (c = .host ∨ c =
    .alcia ∨ c = .app) ∧ s.listens = true ∧ 0 < (s.port c).credits ∧ s.stateOk op i.states = true ∧ lenOk op p = true :=
  ⟨0x0601, (opInfo 0x0601).getD ⟨0, true⟩, .host, [1], rdy, by decide +kernel, by decide +kernel, by decide +kernel, by decide +kernel,
  by decide +kernel, by decide +kernel, by decide +kernel⟩

theorem witness_BehindAndHomeLimitEffects :
    (∃ (t : Tick) (c : Source) (p : Bytes) (s : State), let u := s.upTo t; let n := getN p 0 1; let a := u.axis n; u.takes c 0x0604 p ∧ n < 4 ∧
    getN p 1 1 = 0 ∧ getN p 2 2 = 0 ∧ getN p 4 4 ≤ 2147483647 ∧ -(2 ^ 47) ≤ getI p 16 8 ∧ getI p 16 8 < 2 ^ 47 ∧ u.axEn n = true ∧ a.state = 3 ∧
    a.queue = [] ∧ a.mDir * (getI p 8 8 - a.mLast) < (getN (u.axCfg n) 84 4 : Int)) ∧
    (∃ (t : Tick) (c : Source) (p : Bytes) (s : State), let u := s.upTo t; let n := getN p 0 1; let a := u.axis n; u.takes c 0x0602 p ∧ n < 4 ∧
    getN p 1 1 = 0 ∧ getN p 2 2 = 0 ∧ u.axEn n = true ∧ u.pairHolds n = false ∧ (a.state = 0 ∨ a.state = 1) ∧ u.axBit n 5 = true ∧
    (vget a.sw 0 {}).faulty = false ∧ u.limitIn n (if u.axBit n 2 then -1 else 1) = true ∧ u.axBit n 3 = false) :=
  ⟨⟨0, .host, zeros 24, axS [(84, 1)] fun a => { a with state := 3 }, takes_of (by decide +kernel), by decide +kernel, by decide +kernel,
    by decide +kernel, by decide +kernel, by decide +kernel, by decide +kernel, by decide +kernel, by decide +kernel, by decide +kernel,
    by decide +kernel⟩,
    ⟨0, .host, zeros 4, axS [(1, 48)] fun a => { a with sw := vmod a.sw 1 fun x => { x with active := true } }, takes_of (by decide +kernel),
    by decide +kernel, by decide +kernel, by decide +kernel, by decide +kernel, by decide +kernel, by decide +kernel, by decide +kernel,
    by decide +kernel, by decide +kernel, by decide +kernel⟩⟩

theorem witness_QueueKept :
    ∃ (i : Instr) (s : State) (t : State), s.Inv ∧ exec i s = .next t :=
  ⟨.nop 1 .host 0 [1], busy, nextOf (.nop 1 .host 0 [1]) busy, by exact busy_inv, by rfl⟩

theorem witness_SharedOperationsFrame :
    ∃ (c : Source) (d : Source), d ≠ c :=
  ⟨.host, .alcia, by decide +kernel⟩

theorem witness_OtherCommandsKeepMemoryBlocksAndCredits :
    ∃ (i : Instr) (s : State) (t : State), outward i = false ∧ exec i s = .next t :=
  ⟨.encPupEnd 0 0, rdy, nextOf (.encPupEnd 0 0) rdy, by decide +kernel, by rfl⟩

theorem witness_InvKeptByEveryStep :
    ∃ (s : State) (t : State), s.Inv ∧ step s = .next t :=
  ⟨busy, stepOf busy, by exact busy_inv, by rfl⟩

end Sys2Proof.Tests
end

section
/-! SUPPORT. A packet as its sender lays it out (R93) is read back by the transport's checks (R97), and a packet that passes them is
carried out as the packet of its opcode. -/
namespace Sys2Proof.Machine

/-! ### Numbers and fields in a byte string (R9) -/

@[simp] theorem length_le (n v : Nat) : (le n v).length = n := by
  induction n generalizing v with
  | zero => rfl
  | succ n ih => simp [le, ih]

/-- The bytes of a number hold it again, as far as they reach. -/
theorem natOf_le (n v : Nat) : natOf (le n v) = v % 256 ^ n := by
  induction n generalizing v with
  | zero => simp [le, natOf, Nat.mod_one]
  | succ n ih => simp [le, natOf, ih, Nat.pow_succ', Nat.mod_mul]

/-- A number that fits its field is read back from it, whatever stands before and behind. -/
theorem getN_le {a r : Bytes} {off n v : Nat} (ha : a.length = off) (hv : v < 256 ^ n) : getN (a ++ le n v ++ r) off n = v := by
  have hd : (a ++ le n v ++ r).drop off = le n v ++ r := by rw [List.append_assoc, ← ha, List.drop_left]
  have ht : (le n v ++ r).take n = le n v := by simp
  rw [getN, hd, ht, natOf_le, Nat.mod_eq_of_lt hv]

/-- A byte string of its own length is not cut and not filled. -/
theorem fit_length (b : Bytes) : fit b.length b = b := by simp [fit]

/-! ### The packet of R93 -/

variable {op q : Nat} {p : Bytes}

@[simp] theorem length_packetBytes : (packetBytes op q p).length = 12 + p.length := by
  simp [packetBytes]; omega

theorem getN_packetBytes_flags : getN (packetBytes op q p) 1 1 = 0 := by
  rw [show packetBytes op q p = [0xB5#8] ++ le 1 0 ++ (packetBytes op q p).drop 2 by simp [packetBytes, le]]
  exact getN_le rfl (by decide)

theorem getN_packetBytes_opcode (h : op < 65536) : getN (packetBytes op q p) 2 2 = op := by
  rw [show packetBytes op q p = ([0xB5#8] ++ le 1 0) ++ le 2 op ++ (packetBytes op q p).drop 4 by simp [packetBytes, le]]
  exact getN_le rfl h

theorem getN_packetBytes_seq (h : q < 65536) : getN (packetBytes op q p) 4 2 = q := by
  rw [show packetBytes op q p = ([0xB5#8] ++ le 1 0 ++ le 2 op) ++ le 2 q ++ (packetBytes op q p).drop 6 by simp [packetBytes, le]]
  exact getN_le rfl h

theorem getN_packetBytes_length (h : p.length < 65536) : getN (packetBytes op q p) 6 2 = p.length := by
  rw [show packetBytes op q p = ([0xB5#8] ++ le 1 0 ++ le 2 op ++ le 2 q) ++ le 2 p.length ++ (packetBytes op q p).drop 8 by
    simp [packetBytes, le]]
  exact getN_le rfl h

/-- The CRC of a packet is that of the bytes before it (R95). -/
theorem getN_packetBytes_crc :
    getN (packetBytes op q p) (8 + p.length) 4 = (crc32c ((packetBytes op q p).take (8 + p.length))).toNat := by
  have hl : ([0xB5#8] ++ le 1 0 ++ le 2 op ++ le 2 q ++ le 2 p.length ++ p).length = 8 + p.length := by simp; omega
  unfold packetBytes
  dsimp only
  rw [List.take_left' hl, ← List.append_nil (_ ++ le 4 _)]
  exact getN_le hl (BitVec.isLt _)

theorem packetBytes_payload : ((packetBytes op q p).drop 8).take p.length = p := by
  simp [packetBytes, le]

/-- A packet laid out by R93 passes the checks 3 to 8. -/
theorem transport_packetBytes (cyc : Option Nat) (hop : op < 65536) (hi : (opInfo op).isSome) (hc : op ≠ 0x0310) (hp : p.length ≤ 4096) :
    transport (packetBytes op q p) false cyc = .inr (op, p) := by
  have hn : getN (packetBytes op q p) 6 2 = p.length := getN_packetBytes_length (by omega)
  have hy : isCyc (packetBytes op q p) = false := by simp [isCyc, getN_packetBytes_flags]
  have he : (packetBytes op q p).drop (12 + p.length) = [] := by simp
  have hs : (opInfo op).isNone = false := by simpa using hi
  have h8 : ¬12 + p.length < 8 := by omega
  unfold transport
  simp only [hn, getN_packetBytes_opcode hop, getN_packetBytes_flags, ← getN_packetBytes_crc, packetBytes_payload, hy, he, hs, length_packetBytes]
  simp [hc, h8, Nat.not_lt.2 hp]

/-! ### From a window to the opcode's meaning (R97) -/

/-- A packet laid out by R93, of an opcode that is neither cyclic nor of an update session, is submitted to its opcode. -/
theorem State.packetIn_packetBytes {s : State} (c : Source) (cyc : Option Nat) (at' : Tick) (hl : s.listens = true) (hq : q < 65536)
    (hp : p.length ≤ 4096) (hop : op < 0x0902) (hi : (opInfo op).isSome) (hc : op ≠ 0x0310) :
    s.packetIn c (packetBytes op q p) false cyc at' = s.submit c op q p (handler c q op p) := by
  have hy : isCyc (packetBytes op q p) = false := by simp [isCyc, getN_packetBytes_flags]
  unfold State.packetIn State.submit
  simp only [hy, hl, getN_packetBytes_seq hq, transport_packetBytes cyc (by omega) hi hc hp, State.dispatch, Nat.not_le.2 hop, false_and,
    if_false, Bool.not_true, Bool.false_eq_true]

/-- NOP is answered with its payload, whatever transport has brought it (R113). -/
theorem State.packetIn_nop {s : State} {c : Source} (cyc : Option Nat) (at' : Tick) (hq : q < 65536) (hp : p.length ≤ 4096)
    (hs : s.takes c 0x0100 p) : s.packetIn c (packetBytes 0x0100 q p) false cyc at' = (s.charged c).answered c q p := by
  rw [State.packetIn_packetBytes c cyc at' hs.1 hq hp (by decide) rfl (by decide)]
  exact State.submit_of_takes (h := opNop p) hs (Nat.le_refl _)

end Sys2Proof.Machine
end

section
/-! SUPPORT. What each transport does with what it brings: the host's window, the service port, a recovery frame of SILL, the internal
port's doorbell and its register writes. -/
namespace Sys2Proof.Machine

variable {t b : Tick} {q : Nat} {p : Bytes} {s : State}

/-! ### The host's window (R89 to R92) -/

/-- A window with no reply to send carries the status word alone (R90). -/
theorem State.replyWindow_of_no_replies (n : Nat) (h : (s.port .host).replies = []) :
    s.replyWindow n b = { s with pins := { s.pins with miso := fit n (le 4 (s.statusAt b)) } } := by
  have ha : ((s.asOf .host b).port .host).replies = [] := by simp [State.asOf, State.port_modPort, h]
  have hd : s.hostDeliver n b = s := by simp [State.hostDeliver, h]
  simp [State.replyWindow, ha, hd, misoBytes, State.modPins]

/-- What a window has sent stands in no way of the packet it brings. -/
theorem State.takes_pins {c : Source} {op : Nat} (m : Pins) (h : s.takes c op p) : ({ s with pins := m } : State).takes c op p := h

/-- The host's window with a packet of R93 carries the status word out and brings NOP (R89, R90, R113). -/
theorem execPacketWindow_nop (hq : q < 65536) (hp : p.length ≤ 4096) {w : Bytes} (hw : 0xB5#8 :: w = packetBytes 0x0100 q p)
    (hs : (s.upTo t).takes .host 0x0100 p) (hb : (s.upTo t).hears b = true) (hr : ((s.upTo t).port .host).replies = []) :
    exec (.packetWindow ⟨t, b⟩ w false) s = .next ((({ s.upTo t with
      pins := { (s.upTo t).pins with miso := fit (w.length + 1) (le 4 ((s.upTo t).statusAt b)) } } : State).charged .host).answered .host q p) := by
  have hy : isCyc (packetBytes 0x0100 q p) = false := by simp [isCyc, getN_packetBytes_flags]
  change execPacketWindow ⟨t, b⟩ w false s = _
  simp only [execPacketWindow, hb, hw, hy, Bool.not_true, Bool.false_eq_true, if_false, State.replyWindow_of_no_replies _ hr]
  rw [State.packetIn_nop _ _ hq hp (State.takes_pins _ hs), ← hw, List.length_cons]

/-! ### The service port (R537) -/

/-- The service port's packet of R93 is NOP (R113). -/
theorem execServicePortPacket_nop (hq : q < 65536) (hp : p.length ≤ 4096) {w : Bytes} (hw : 0xB5#8 :: w = packetBytes 0x0100 q p)
    (hs : (s.upTo t).takes .service 0x0100 p) :
    exec (.servicePortPacket t w) s = .next (((s.upTo t).charged .service).answered .service q p) := by
  change execServicePortPacket t w s = _
  simp only [execServicePortPacket, hs.1, hw, Bool.not_true, Bool.false_eq_true, if_false, State.packetIn_nop _ _ hq hp hs]

/-- What is less than a header fails check 3 (R97). -/
theorem transport_short {w : Bytes} (cut : Bool) (cyc : Option Nat) (h : w.length < 8) : transport w cut cyc = .inl eFrame := if_pos h

/-- A gap that leaves less than a header is answered E_FRAME (R97, R537). -/
theorem execServicePacketGap_short {r : Bytes} (hl : (s.upTo t).listens = true) (hc : 0 < ((s.upTo t).port .service).credits)
    (hr : r.length < 7) (hy : getN (0xB5#8 :: r) 1 1 % 2 = 0) : exec (.servicePacketGap t r) s =
      .next (((s.upTo t).countPacket.takeCredit .service).reject .service (getN (0xB5#8 :: r) 4 2) eFrame) := by
  have hw : (0xB5#8 :: r).length < 8 := Nat.succ_lt_succ hr
  have hi : isCyc (0xB5#8 :: r) = false := by simp [isCyc, hy]
  have hk : ((s.upTo t).countPacket.port .service).credits ≠ 0 := Nat.ne_of_gt hc
  change execServicePacketGap t r s = _
  simp only [execServicePacketGap, State.packetIn, hl, hi, hk, Nat.not_le.2 hw, transport_short _ _ hw, Bool.not_true, Bool.false_eq_true,
    false_and, or_self, if_false]

/-- A byte outside a packet is HOST_SYNC while the device listens, and nothing else ever. -/
theorem execServiceByteOutsidePacket_eq : exec (.serviceByteOutsidePacket t) s =
    .next (if (s.upTo t).listens then (s.upTo t).hostSync .service else s.upTo t) := rfl

/-- An update of the power part that finds it as it leaves it. -/
theorem State.modPower_eq_self {f : Power → Power} (h : f s.power = s.power) : s.modPower f = s := by rw [State.modPower, h]

/-- The delivery of a reply that returns its credit, where no reset waits for one (R91, R98). -/
theorem State.deliver_of_head {c : Source} {r : Reply} {l : List Reply} (h : (s.port c).replies = r :: l) (hn : r.nc = false)
    (hd : s.power.resetDue = []) :
    s.deliver c = s.modPort c fun x => { x with replies := l, delivered := some r, credits := min 8 (x.credits + 1) } := by
  have hm : ∀ g, s.power.resetDue.map g = s.power.resetDue := fun g => by rw [hd]; rfl
  simp only [State.deliver, h, hn, Bool.false_eq_true, if_false]
  exact State.modPower_eq_self (by simp only [State.modPort_power, hm])

/-- The oldest reply sent on the service port is delivered, and its bytes were on SVTX (R91, R98, R537). -/
theorem execServiceReplySent_of_head {r : Reply} {l : List Reply} (hl : (s.upTo t).listens = true)
    (h : ((s.upTo t).port .service).replies = r :: l) (hn : r.nc = false) (hd : (s.upTo t).power.resetDue = [])
    (hb : (s.upTo t).upd.baudNext = none) : exec (.serviceReplySent t) s = .next (((s.upTo t).modPort .service fun x =>
      { x with replies := l, delivered := some r, credits := min 8 (x.credits + 1) }).modPins fun m => { m with svtx := r.bytes }) := by
  change execServiceReplySent t s = _
  simp only [execServiceReplySent, hl, h, State.deliver_of_head h hn hd, State.modPins_upd, State.modPort_upd, hb]

/-! ### Recovery in SILL (R546) -/

@[simp] theorem State.charged_dev (c : Source) : (s.charged c).dev = s.dev := by rw [s.charged_eq c]
@[simp] theorem State.charged_stamp (c : Source) : (s.charged c).stamp = s.stamp := by rw [s.charged_eq c]
@[simp] theorem State.charged_power (c : Source) : (s.charged c).power = s.power := by rw [s.charged_eq c]
@[simp] theorem State.charged_session (c : Source) : (s.charged c).upd.session = s.upd.session := by rw [s.charged_eq c]
@[simp] theorem State.charged_bootRec (c : Source) : (s.charged c).bootRec = s.bootRec := by rw [s.charged_eq c]; rfl

/-- What a recovery frame brings to an opcode's meaning is queued with SYNC 0x5A. -/
theorem State.sillCommand_answered {op : Nat} {w v : State} (ho : 0x0902 ≤ op) (ho' : op ≤ 0x0905) (hw : s.noteRecv .service = w)
    (hu : w.updOk op 4 = true) (hp : lenOk op p = true) (hr : opUpdate op 4 q p w = .ok v) :
    s.sillCommand op q p = (v.queueReply .service { seq := q, sill := true }).lastUpd 0 := by
  have h1 : ¬(op < 0x0902 ∨ 0x0905 < op) := by omega
  simp only [State.sillCommand, h1, hw, hu, hp, hr, Rep.ok, Bool.not_true, Bool.false_eq_true, if_false, if_true]

/-- An opcode outside the recovery group is answered E_OPCODE with SYNC 0x5A. -/
theorem State.sillCommand_outside {op : Nat} (h : op < 0x0902) : s.sillCommand op q p =
    (((s.noteRecv .service).queueReply .service { status := eOpcode, seq := q, sill := true }).lastUpd eOpcode).countReject := by
  simp [State.sillCommand, h, Rep.no]

/-- An offer of the service port is accepted where no session is open, no image is on trial and no power failure is in force (R538). -/
theorem State.updOk_offer (hs : s.upd.session = 0) (ht : 4 ≤ s.bootRec.trial) (hf : s.power.powerFail = false) : s.updOk 0x0902 4 = true := by
  simp [State.updOk, State.updOther, hs, ht, hf]

/-- The opcode 0x0902 of an update session is UPDATE_OFFER (R538). -/
theorem opUpdate_offer (holder : Nat) : opUpdate 0x0902 holder q p s = opUpdateOffer holder q p s := if_pos rfl

/-- An offer without options opens a session in SILL, and no event is raised there (R539, R546; assumption 100). -/
theorem opUpdateOffer_sill (hd : s.dev = .sill) (h0 : getN p 0 4 = 0) (hh : hdrOk (p.drop 4) = true) :
    opUpdateOffer 4 q p s = .ok ((s.modUpd fun x => { x with
      session := 1, holder := 4, kind := getN p 8 1, header := p.drop 4, body := [], erased := 0, lastAt := s.stamp, late := false
      baudNext := none, offerAt := none }).modUpd fun x => { x with slots := x.emptied }) := by
  have hk : getN (p.drop 4) 4 1 = getN p 8 1 := by simp [getN]
  simp [opUpdateOffer, optsOk, State.sessionEvent, State.updEvent, hd, h0, hh, hk]

/-- A recovery frame that passes the checks 1 to 8 is carried out by its opcode. -/
theorem execSillRecoveryFrame_of_transport {r : Bytes} {op : Nat} (hd : (s.upTo t).dev = .sill) (hl : (s.upTo t).listens = true)
    (hc : 0 < ((s.upTo t).port .service).credits) (hw : transport (0xA5#8 :: r) false none = .inr (op, p)) :
    exec (.sillRecoveryFrame t r) s =
      .next (((s.upTo t).countPacket.takeCredit .service).sillCommand op (getN (0xA5#8 :: r) 4 2) p) := by
  have hk : ((s.upTo t).countPacket.port .service).credits ≠ 0 := Nat.ne_of_gt hc
  change execSillRecoveryFrame t r s = _
  simp only [execSillRecoveryFrame, hd, hl, hk, hw, ne_eq, not_true_eq_false, Bool.not_true, Bool.false_eq_true, or_self, if_false]

/-- An offer that its recovery frame brings whole opens a session (R539, R546). -/
theorem State.sillCommand_offer (hd : s.dev = .sill) (hp : p.length = 516) (h0 : getN p 0 4 = 0) (hh : hdrOk (p.drop 4) = true)
    (hs : s.upd.session = 0) (ht : 4 ≤ s.bootRec.trial) (hf : s.power.powerFail = false) :
    (s.countPacket.takeCredit .service).sillCommand 0x0902 q p = (((((s.charged .service).modUpd fun x => { x with
      session := 1, holder := 4, kind := getN p 8 1, header := p.drop 4, body := [], erased := 0, lastAt := s.stamp, late := false
      baudNext := none, offerAt := none }).modUpd fun x => { x with slots := x.emptied }).queueReply .service
        { seq := q, sill := true }).lastUpd 0) := by
  have hu : (s.charged .service).updOk 0x0902 4 = true := State.updOk_offer (by simpa using hs) (by simpa using ht) (by simpa using hf)
  have hr := (opUpdate_offer (q := q) (s := s.charged .service) 4).trans (opUpdateOffer_sill (by simpa using hd) h0 hh)
  rw [State.charged_stamp] at hr
  exact State.sillCommand_answered (Nat.le_refl _) (by decide) rfl hu (by simp [lenOk, hp]) hr

/-! ### The internal port (R446, R447) -/

/-- A doorbell whose slot holds a packet of R93 brings NOP (R113, R447). -/
theorem execCmdDoorbell_nop (hq : q < 65536) (hp : p.length ≤ 4096) {v : BitVec 32} {j : Nat} (hs : (s.upTo t).takes .app 0x0100 p)
    (hj : j ≤ 8) (hv : bitsN v.toNat 3 0 = j) (hn : bitsN v.toNat 20 8 = 12 + p.length)
    (hw : vget (s.upTo t).app.slots j [] = packetBytes 0x0100 q p) :
    exec (.cmdDoorbell t v) s = .next (((s.upTo t).charged .app).answered .app q p) := by
  have hf : fit (12 + p.length) (packetBytes 0x0100 q p) = packetBytes 0x0100 q p := by
    simpa using fit_length (packetBytes 0x0100 q p)
  have hh : (packetBytes 0x0100 q p).head? = some 0xB5#8 := rfl
  have hg : ¬(8 < j ∨ 12 + p.length = 0 ∨ (!(s.upTo t).listens) = true) := by simp [hs.1]; omega
  change execCmdDoorbell t v s = _
  simp only [execCmdDoorbell, State.doorbell, hv, hn, hw, hf, hh, hg, if_false, if_true, State.packetIn_nop _ _ hq hp hs]

/-- REPLY_DONE of the slot with the oldest reply delivers it, and the next slot follows (R447). -/
theorem execReplyDone_of_head {v : BitVec 32} {r : Reply} {l : List Reply} (hl : (s.upTo t).listens = true)
    (h : ((s.upTo t).port .app).replies = r :: l) (hv : bitsN v.toNat 3 0 = (s.upTo t).app.replySlot) (hn : r.nc = false)
    (hd : (s.upTo t).power.resetDue = []) : exec (.replyDone t v) s = .next (((s.upTo t).modApp fun x => { x with
      replySlot := (x.replySlot + 1) % 9, replyMem := vmod x.replyMem x.replySlot fun _ => r.bytes }).modPort .app
        fun x => { x with replies := l, delivered := some r, credits := min 8 (x.credits + 1) }) := by
  change execReplyDone t v s = _
  simp only [execReplyDone, State.replyDone, hl, h, hv, if_true]
  exact congrArg _ (State.deliver_of_head h hn hd)

/-! ### Register writes (R16, R440, R446) -/

/-- A 32-bit write of the doorbell register is the doorbell command. -/
theorem execRegisterWrite_doorbell {d : Bytes} {v : BitVec 32} (hu : (s.upTo t).up = true) (hd : d.length = 4) (hv : natOf d = v.toNat) :
    exec (.registerWrite t 0x02024000 d) s = exec (.cmdDoorbell t v) s := by
  have hm : (s.upTo t).mapped 0x02024000 4 = true := by simp [State.mapped]
  change execRegisterWrite t 0x02024000 d s = execCmdDoorbell t v s
  simp only [execRegisterWrite, execCmdDoorbell, hu, hd, hm, hv, Bool.not_true, Bool.false_eq_true, and_self, if_false, if_true]

/-- A byte written into the application's memory is stored there. -/
theorem execRegisterWrite_byte {a : Nat} {b : Byte} (hu : (s.upTo t).up = true) (ha : (s.upTo t).inAppMap a 1 = true) :
    exec (.registerWrite t a [b]) s = .next ((s.upTo t).storePa a [b]) := by
  have hm : (s.upTo t).mapped a 1 = true := by simp [State.mapped, ha]
  change execRegisterWrite t a [b] s = _
  simp [execRegisterWrite, hu, hm, State.pokes, State.poke, ha]

/-- A write outside the application's map is a fault of the program that runs and nothing else (R24). -/
theorem execRegisterWrite_unmapped {a : Nat} {d : Bytes} (hu : (s.upTo t).up = true) (hm : (s.upTo t).mapped a d.length = false) :
    exec (.registerWrite t a d) s = .next (if (s.upTo t).app.state = 2 then (s.upTo t).appFault 2 a else s.upTo t) := by
  change execRegisterWrite t a d s = _
  simp only [execRegisterWrite, hu, hm, Bool.not_true, Bool.not_false, Bool.false_eq_true, if_false, if_true]

/-- A byte stored at an address is read there, and every other address reads what it did. -/
theorem State.read_storePa (a x : Nat) (b : Byte) (h : Memory.wf s.mem = true) :
    Memory.read (s.storePa a [b]).mem x = if x = a then b else Memory.read s.mem x := Memory.read_write h a b x

end Sys2Proof.Machine

namespace Sys2Proof.Proofs
open Sys2Proof.Machine

/-- Settles O38: a packet laid out by R93 is read back whole by its transport, and each port's row is its own lemma. -/
theorem packetsFromEveryPort : Obligations.PacketsFromEveryPort := by
  unfold Obligations.PacketsFromEveryPort
  refine ⟨?packets, ?service, ?internal⟩
  case packets =>
    intro t b q p s u h w hq hp
    have hw : 0xB5#8 :: w = packetBytes 0x0100 q p := rfl
    have hn : w.length + 1 = 12 + p.length := by rw [← length_packetBytes (op := 0x0100) (q := q), ← hw, List.length_cons]
    refine ⟨fun hs => execServicePortPacket_nop hq hp hw hs, fun hs hb hr => execPacketWindow_nop hq hp hw hs hb hr, ?_⟩
    intro v j hs hj hv hc hx
    exact execCmdDoorbell_nop hq hp hs hj hv (hc.trans hn) (hx.trans hw)
  case service =>
    intro t b s u
    refine ⟨fun hl hc hb hy => execServicePacketGap_short hl hc hb hy, fun hl => ?_, fun hl => ?_,
      fun r l hl hr hn hd hb => execServiceReplySent_of_head hl hr hn hd hb, ?_⟩
    · rw [execServiceByteOutsidePacket_eq, if_pos hl]
    · rw [execServiceByteOutsidePacket_eq, if_neg (Bool.eq_false_iff.1 hl)]
    · intro op seq p hd hl hc hw hq
      have he := execSillRecoveryFrame_of_transport hd hl hc hw
      refine ⟨fun ho => ?_, fun ho hp h0 hh hs ht hf => ?_⟩
      · rw [he, State.sillCommand_outside ho, ← hq]; rfl
      · subst ho hq
        rw [he, State.sillCommand_offer hd hp h0 hh hs ht hf]; rfl
  case internal =>
    intro t v a b d s u
    refine ⟨fun r l hl hr hv hn hd => execReplyDone_of_head hl hr hv hn hd, fun hu hd hv => execRegisterWrite_doorbell hu hd hv,
      fun hu ha => execRegisterWrite_byte hu ha, fun hu hm hx => ?_, fun hu hm hx => ?_, fun hm => ⟨?_, fun x hx => ?_⟩⟩
    · rw [execRegisterWrite_unmapped hu hm, if_pos hx]
    · rw [execRegisterWrite_unmapped hu hm, if_neg hx]
    · rw [State.read_storePa a a b hm, if_pos rfl]
    · rw [State.read_storePa a x b hm, if_neg hx]

end Sys2Proof.Proofs
end

section
/-! SUPPORT. The frame of the shared operations. `State.withRecords s r` and `State.withArray s r`: the state `s` with every part that a record (R119,
R464), or a settling of the array (R26), may change taken from `r`. An operation that changes no other part leaves them as they were for every `r`,
and such equations compose. -/
namespace Sys2Proof.Machine

/-- The state with the parts that an event's record changes taken from another (R119, R464). -/
def State.withRecords (s r : State) : State := { s with ports := r.ports, counters := r.counters, recorder := r.recorder }

/-- The state with the parts that a settling of the array changes taken from another (R26). -/
def State.withArray (s r : State) : State :=
  { s.withRecords r with gates := r.gates, stk := r.stk, safety := r.safety, obs := r.obs, faults := r.faults, fresh := r.fresh }

variable {s t r : State}

theorem State.withRecords_self : s.withRecords s = s := rfl

/-- What leaves all but the records alone leaves all but the array's parts alone. -/
theorem State.withArray_of_withRecords (h : t.withRecords r = s.withRecords r) : t.withArray r = s.withArray r := by
  rw [State.withArray, h]; rfl

theorem State.ite_withRecords (p : Prop) [Decidable p] : (if p then s else t).withRecords r = if p then s.withRecords r else t.withRecords r :=
  apply_ite (fun v => State.withRecords v r) p s t

theorem State.ite_withArray (p : Prop) [Decidable p] : (if p then s else t).withArray r = if p then s.withArray r else t.withArray r :=
  apply_ite (fun v => State.withArray v r) p s t

/-- A chain of changes, each of which leaves `g` as it was, leaves it as it was. -/
theorem foldl_kept {α β : Type} {g : State → β} {f : State → α → State} (hf : ∀ s x, g (f s x) = g s) (l : List α) (s : State) :
    g (l.foldl f s) = g s := by
  induction l generalizing s with
  | nil => rfl
  | cons x l ih => exact (ih (f s x)).trans (hf s x)

/-! ### Records and the recorder (R119, R464) -/

theorem State.modPort_withRecords (c f) : (s.modPort c f).withRecords r = s.withRecords r := rfl
theorem State.modCounters_withRecords (f) : (s.modCounters f).withRecords r = s.withRecords r := rfl
theorem State.modRecorder_withRecords (f) : (s.modRecorder f).withRecords r = s.withRecords r := rfl

theorem State.storeFor_withRecords (c e) : (s.storeFor c e).withRecords r = s.withRecords r := by
  simp only [State.storeFor, State.ite_withRecords, State.modCounters_withRecords, State.modPort_withRecords, ite_self]

theorem State.storeAll_withRecords (e) : (s.storeAll e).withRecords r = s.withRecords r := by
  simp only [State.storeAll, State.storeFor_withRecords]

theorem State.recState_withRecords (n c) : (s.recState n c).withRecords r = s.withRecords r := by
  simp only [State.recState, State.storeAll_withRecords, State.modRecorder_withRecords]

theorem State.recTrigger_withRecords (c) : (s.recTrigger c).withRecords r = s.withRecords r := by
  simp only [State.recTrigger, State.modRecorder_withRecords, State.recState_withRecords]

theorem State.recEvent_withRecords (code cls) : (s.recEvent code cls).withRecords r = s.withRecords r := by
  simp only [State.recEvent, State.ite_withRecords, State.recTrigger_withRecords, State.recState_withRecords, ite_self]

theorem State.post_withRecords (code cls lv o b) : (s.post code cls lv o b).withRecords r = s.withRecords r := by
  simp only [State.post, State.recEvent_withRecords, State.storeAll_withRecords]

theorem State.info_withRecords (code lv o b) : (s.info code lv o b).withRecords r = s.withRecords r := s.post_withRecords code 0 lv o b

/-! ### Occurrences (R427 to R435) -/

theorem State.post_withArray (code cls lv o b) : (s.post code cls lv o b).withArray r = s.withArray r :=
  State.withArray_of_withRecords (s.post_withRecords code cls lv o b)

theorem State.info_withArray (code lv o b) : (s.info code lv o b).withArray r = s.withArray r := s.post_withArray code 0 lv o b

theorem State.modFaults_withArray (f) : (s.modFaults f).withArray r = s.withArray r := rfl
theorem State.setFaultObj_withArray (o) : (s.setFaultObj o).withArray r = s.withArray r := rfl
theorem State.bumpOcc_withArray (c) : (s.bumpOcc c).withArray r = s.withArray r := rfl

theorem State.stageRoom_withArray (e f) : (s.stageRoom e f).withArray r = s.withArray r := by
  unfold State.stageRoom; split <;> rfl

theorem State.lapse_withArray (b c) : (s.lapse b c).withArray r = s.withArray r := by
  simp only [State.lapse, State.ite_withArray, State.stageRoom_withArray, State.post_withArray, State.setFaultObj_withArray,
    State.bumpOcc_withArray, State.modFaults_withArray, ite_self]

theorem State.stage_withArray (e l) : (s.stage e l).withArray r = s.withArray r := by
  simp only [State.stage, State.ite_withArray, State.stageRoom_withArray, State.lapse_withArray, ite_self]

theorem State.faultLasting_withArray (k c l o) : (s.faultLasting k c l o).withArray r = s.withArray r := by
  simp only [State.faultLasting, State.ite_withArray, State.stage_withArray, State.post_withArray, State.setFaultObj_withArray, ite_self]

theorem State.hold_withArray (k c) : (s.hold k c).withArray r = s.withArray r := by
  simp only [State.hold, State.ite_withArray, State.setFaultObj_withArray, ite_self]

theorem State.occur_withArray (c l o b p) : (s.occur c l o b p).st.withArray r = s.withArray r := by
  simp only [State.occur, apply_ite Occ.st, State.ite_withArray, State.post_withArray, State.stage_withArray, State.faultLasting_withArray,
    State.hold_withArray, State.setFaultObj_withArray, State.bumpOcc_withArray, ite_self]

/-! ### The array settles (R26) -/

theorem State.modStack_withArray (k f) : (s.modStack k f).withArray r = s.withArray r := rfl
theorem State.modObs_withArray (m f) : (s.modObs m f).withArray r = s.withArray r := rfl
theorem State.modBrake_withArray (n f) : (s.modBrake n f).withArray r = s.withArray r := rfl
theorem State.setBrake_withArray (n) : (s.setBrake n).withArray r = s.withArray r := rfl
theorem State.openBrake_withArray (n) : (s.openBrake n).withArray r = s.withArray r := rfl
theorem State.kpLines_withArray (k) : (s.kpLines k).withArray r = s.withArray r := rfl
theorem State.driveGates_withArray : s.driveGates.withArray r = s.withArray r := by
  simp only [State.driveGates, State.withArray, State.withRecords]

theorem State.unswitch_withArray (k) : (s.unswitch k).withArray r = s.withArray r := by
  simp only [State.unswitch, State.ite_withArray, State.modStack_withArray, ite_self]

theorem State.settleGates_withArray : s.settleGates.withArray r = s.withArray r := by
  rw [State.settleGates, State.driveGates_withArray]
  exact foldl_kept (g := fun v => v.withArray r) (fun v k => by rw [State.unswitch_withArray, State.kpLines_withArray]) _ _

theorem State.settleBrake_withArray (n) : (s.settleBrake n).withArray r = s.withArray r := by
  simp only [State.settleBrake, State.ite_withArray, State.setBrake_withArray, State.modBrake_withArray, State.openBrake_withArray, ite_self]

theorem State.setObs_withArray (m n st) : (s.setObs m n st).withArray r = s.withArray r := by
  simp only [State.setObs, State.ite_withArray, State.info_withArray, State.modObs_withArray, ite_self]

theorem State.obsSettle_withArray (m) : (s.obsSettle m).withArray r = s.withArray r := by
  simp only [State.obsSettle, State.ite_withArray, State.setObs_withArray, State.modObs_withArray, State.occur_withArray, ite_self]

theorem State.settle_withArray : s.settle.withArray r = s.withArray r := by
  have h := foldl_kept (g := fun v => v.withArray r) (fun v m => v.obsSettle_withArray m) [0, 1, 2, 3] s.settleGates.settleBrakes
  refine h.trans ?_
  simp only [State.settleBrakes, State.settleBrake_withArray, State.settleGates_withArray]

theorem State.withArray_eq_self (h : t.withArray s = s.withArray s) :
    { t with
      gates := s.gates, stk := s.stk, safety := s.safety, obs := s.obs, faults := s.faults, ports := s.ports, counters := s.counters
      recorder := s.recorder, fresh := s.fresh } = s := h

/-! ### Packets, answers and records at the ports -/

theorem State.port_queueReply_of_ne {c d : Source} (h : d ≠ c) (x) : (s.queueReply c x).port d = s.port d := by
  rw [State.queueReply, State.port_modPort, if_neg h]

/-- What a port holds of its credits and its replies, which a record leaves alone. -/
def Port.owing (p : Port) : Nat × List Reply := (p.credits, p.replies)

theorem State.ite_owing (p : Prop) [Decidable p] (d) : ((if p then s else t).port d).owing = if p then (s.port d).owing else (t.port d).owing :=
  apply_ite (fun v : State => (v.port d).owing) p s t

theorem Port.store_owing (p : Port) (e) : (p.store e).owing = p.owing := by unfold Port.store; split <;> rfl

theorem State.storeFor_owing (c d e) : ((s.storeFor c e).port d).owing = (s.port d).owing := by
  have h : (s.storeFor c e).ports = (s.modPort c (·.store e)).ports := by
    simp only [State.storeFor, apply_ite State.ports, State.modCounters_ports, ite_self]
  rw [State.port, h, ← State.port, State.port_modPort, apply_ite Port.owing, Port.store_owing, ite_self]

theorem State.storeAll_owing (d e) : ((s.storeAll e).port d).owing = (s.port d).owing := by
  simp only [State.storeAll, State.storeFor_owing]

theorem State.modRecorder_port (f d) : (s.modRecorder f).port d = s.port d := by rw [State.port, State.modRecorder_ports, State.port]

theorem State.recState_owing (d n c) : ((s.recState n c).port d).owing = (s.port d).owing := by
  simp only [State.recState, State.storeAll_owing, State.modRecorder_port]

theorem State.recTrigger_owing (d c) : ((s.recTrigger c).port d).owing = (s.port d).owing := by
  simp only [State.recTrigger, State.modRecorder_port, State.recState_owing]

theorem State.recEvent_owing (d code cls) : ((s.recEvent code cls).port d).owing = (s.port d).owing := by
  simp only [State.recEvent, State.ite_owing, State.recTrigger_owing, State.recState_owing, ite_self]

/-- A record in every source's queue changes no source's credits and replies. -/
theorem State.post_owing (d code cls lv o b) : ((s.post code cls lv o b).port d).owing = (s.port d).owing := by
  simp only [State.post, State.recEvent_owing, State.storeAll_owing]

end Sys2Proof.Machine

namespace Sys2Proof.Proofs
open Sys2Proof.Machine

/-- Settles O56: each operation is an equation between states with the parts it may change taken from the state before. -/
theorem sharedOperationsFrame : Obligations.SharedOperationsFrame := by
  unfold Obligations.SharedOperationsFrame
  intro c d q st code lv o b s
  have ho : ((s.info code lv o b).port d).owing = (s.port d).owing := s.post_owing d code 0 lv o b
  refine ⟨?charged, ?answered, ?reject, fun h => ⟨?_, ?_, ?_⟩, ?info, congrArg Prod.fst ho, congrArg Prod.snd ho, ?settle⟩
  case charged =>
    have h := s.charged_eq c
    generalize s.charged c = v at h ⊢
    rw [h]
  case answered => simp only [State.answered, State.queueReply, State.modPort]
  case reject => simp only [State.reject, State.countReject, State.modCounters, State.queueReply, State.modPort]
  case info => exact (s.info_withRecords code lv o b).trans State.withRecords_self
  case settle => exact State.withArray_eq_self s.settle_withArray
  · rw [s.charged_port c d, if_neg h]
  · exact s.port_queueReply_of_ne h _
  · exact s.port_queueReply_of_ne h _

end Sys2Proof.Proofs
end

section
/-! SUPPORT. What a reset leaves (R73, R76), also one of the Kingpost's (R74), and the Kingpost's watchdog (R373). -/
namespace Sys2Proof.Machine

variable {s : State} {t : Tick}

@[simp] theorem State.upTo_dev (s : State) (t : Tick) : (s.upTo t).dev = s.dev := by unfold State.upTo; split <;> rfl

@[simp] theorem State.upTo_power (s : State) (t : Tick) : (s.upTo t).power = s.power := by unfold State.upTo; split <;> rfl

/-- A device that runs its firmware is not OFF. -/
theorem State.dev_ne_off_of_wdRuns (h : s.wdRuns = true) : s.dev ≠ .off := by
  intro hd; simp [State.wdRuns, State.awake, hd] at h

/-! ### Entering RESET (R73, R76) -/

theorem State.enterReset_dev (b) (h : s.dev ≠ .off) : (s.enterReset b).dev = .inReset := by
  rw [State.enterReset, if_neg h, State.modPower_dev]
  split
  · assumption
  · rfl

/-- The causes of a reset are added to those of a RESET that holds already (R76). -/
theorem State.enterReset_nextCause (b) (h : s.dev ≠ .off) :
    (s.enterReset b).power.nextCause = (if s.dev = .inReset then s.power.nextCause else 0) ||| b := by
  rw [State.enterReset, if_neg h, State.modPower_power]
  split <;> rfl

theorem State.enterReset_getLsbD {b : BitVec 32} {i : Nat} (h : s.dev ≠ .off) (hb : b.getLsbD i = true) :
    (s.enterReset b).power.nextCause.getLsbD i = true := by
  rw [State.enterReset_nextCause b h, BitVec.getLsbD_or, hb, Bool.or_true]

/-- A reset of a device that runs begins without the hold of the Kingpost and with its own causes only. -/
theorem State.enterReset_running (b) (h : s.dev ≠ .off) (hr : s.dev ≠ .inReset) :
    (s.enterReset b).dev = .inReset ∧ (s.enterReset b).power.nextCause = b ∧ (s.enterReset b).power.kpHold = none := by
  refine ⟨State.enterReset_dev b h, by simp [State.enterReset_nextCause b h, hr], ?_⟩
  rw [State.enterReset, if_neg h, if_neg hr]
  rfl

/-! ### The Kingpost's reset (R74) -/

variable {b : BitVec 32} {hold : KpHold} {cause : Nat}

theorem State.kpReset_dev (h : s.dev ≠ .off) : (s.kpReset b hold cause).dev = .inReset := by
  rw [State.kpReset, if_neg h]; exact State.enterReset_dev b h

theorem State.kpReset_nextCause (h : s.dev ≠ .off) :
    (s.kpReset b hold cause).power.nextCause = (s.enterReset b).power.nextCause := by
  rw [State.kpReset, if_neg h]; rfl

theorem State.kpReset_kpHold (h : s.dev ≠ .off) : (s.kpReset b hold cause).power.kpHold = some hold := by
  rw [State.kpReset, if_neg h]; rfl

theorem State.kpReset_safety (h : s.dev ≠ .off) : (s.kpReset b hold cause).safety.kpState = 3 ∧ (s.kpReset b hold cause).safety.cause = cause := by
  rw [State.kpReset, if_neg h]; exact ⟨rfl, rfl⟩

/-- A reset of the Kingpost's is RESET with its cause bit, held by it in its safe state. -/
theorem State.kpReset_holds {i : Nat} (h : s.dev ≠ .off) (hb : b.getLsbD i = true) :
    (s.kpReset b hold cause).dev = .inReset ∧ (s.kpReset b hold cause).power.nextCause.getLsbD i = true ∧
      (s.kpReset b hold cause).power.kpHold = some hold ∧ (s.kpReset b hold cause).safety.kpState = 3 ∧
      (s.kpReset b hold cause).safety.cause = cause :=
  ⟨State.kpReset_dev h, by rw [State.kpReset_nextCause h]; exact State.enterReset_getLsbD h hb, State.kpReset_kpHold h, State.kpReset_safety h⟩

/-! ### Rails and clocks (R31, R69) -/

/-- A rail outside its window resets a device that runs, VKP with KPRAIL, and holds it in the Kingpost's safe state for VCORE and VIO33. -/
theorem execRailFault_resets (r : Rail) (h : s.dev ≠ .off) (hr : s.dev ≠ .inReset) (hw : ¬(s.dev = .watch ∧ railOffInWatch r = true)) :
    ∃ v, exec (.railFault t r) s = .next v ∧
      v.dev = .inReset ∧ v.power.nextCause.getLsbD 3 = true ∧ (v.power.nextCause.getLsbD 4 = true ↔ r = .vkp) ∧
      (v.power.kpHold = some .rail ↔ r = .vcore ∨ r = .vio33) ∧ (r = .vcore ∨ r = .vio33 → v.safety.kpState = 3 ∧ v.safety.cause = 5) := by
  have hu : (s.upTo t).dev ≠ .off := by rwa [State.upTo_dev]
  have hur : (s.upTo t).dev ≠ .inReset := by rwa [State.upTo_dev]
  have hc : ¬((s.upTo t).dev = .off ∨ ((s.upTo t).dev = .watch ∧ railOffInWatch r = true)) := by rw [State.upTo_dev]; tauto
  refine ⟨_, rfl, ?_⟩
  rw [if_neg hc]
  obtain ⟨hd, hn, hk⟩ := State.enterReset_running 8#32 hu hur
  cases r
  case vkp =>
    obtain ⟨hd, hn, hk⟩ := State.enterReset_running 24#32 hu hur
    simp [hd, hn, hk]
  case vcore | vio33 => simp [State.kpReset_dev hu, State.kpReset_nextCause hu, hn, State.kpReset_kpHold hu, State.kpReset_safety hu]
  all_goals simp [hd, hn, hk]

theorem execClockFault_eq (h : s.dev ≠ .off) (hw : s.dev ≠ .watch) : exec (.clockFault t) s = .next ((s.upTo t).kpReset 32 .clock 4) := by
  change execClockFault t s = _
  simp [execClockFault, h, hw]

theorem execKpResetHoldEnd_eq (ok : Bool) (h : s.dev = .inReset) (hk : s.power.kpHold ≠ none) : exec (.kpResetHoldEnd t ok) s =
    .next (({ s.upTo t with stk := Vector.replicate 4 {} }.modPower fun p => { p with kpHold := none }).selfTest ok) := by
  change execKpResetHoldEnd t ok s = _
  simp [execKpResetHoldEnd, h, Option.isSome_iff_ne_none.2 hk]

/-! ### The watchdog (R373) -/

variable {kt : Nat} {w : BitVec 16}

/-- The word in its window services the watchdog, and the next challenge is drawn. -/
theorem execWatchdogService_serves (hr : ((s.upTo t).upKt kt).wdRuns = true) (hw : w = ~~~((s.upTo t).upKt kt).safety.challenge)
    (ht : kt ≤ ((s.upTo t).upKt kt).safety.wdLast + ((s.upTo t).upKt kt).wdT)
    (hs : ((s.upTo t).upKt kt).safety.wdServed = false ∨ ((s.upTo t).upKt kt).wdT ≤ 8 * (kt - ((s.upTo t).upKt kt).safety.wdLast)) :
    exec (.watchdogService ⟨t, kt⟩ w) s = .next ({ (s.upTo t).upKt kt with fresh := ((s.upTo t).upKt kt).fresh + 1 }.modSafety fun x =>
      { x with challenge := BitVec.ofNat 16 (Config.freeValue ((s.upTo t).upKt kt).fresh), wdLast := kt, wdServed := true }) := by
  change execWatchdogService ⟨t, kt⟩ w s = _
  dsimp only [execWatchdogService]
  generalize (s.upTo t).upKt kt = u at *
  rw [hr, if_neg (by decide), if_pos ⟨hw, ht, hs⟩]
  rfl

/-- Any other word is an expiry. -/
theorem execWatchdogService_expires (hr : ((s.upTo t).upKt kt).wdRuns = true)
    (hw : w ≠ ~~~((s.upTo t).upKt kt).safety.challenge ∨ ((s.upTo t).upKt kt).safety.wdLast + ((s.upTo t).upKt kt).wdT < kt ∨
      (((s.upTo t).upKt kt).safety.wdServed = true ∧ 8 * (kt - ((s.upTo t).upKt kt).safety.wdLast) < ((s.upTo t).upKt kt).wdT)) :
    exec (.watchdogService ⟨t, kt⟩ w) s = .next ((s.upTo t).upKt kt).wdExpire := by
  change execWatchdogService ⟨t, kt⟩ w s = _
  dsimp only [execWatchdogService]
  generalize (s.upTo t).upKt kt = u at *
  rw [hr, if_neg (by decide), if_neg]
  rintro ⟨h1, h2, h3⟩
  rcases hw with hw | hw | ⟨hw, hx⟩
  · exact hw h1
  · omega
  · simp only [hw, Bool.true_eq_false, false_or] at h3
    omega

theorem execWatchdogExpiry_expires (hr : ((s.upTo t).upKt kt).wdRuns = true)
    (ht : ((s.upTo t).upKt kt).safety.wdLast + ((s.upTo t).upKt kt).wdT < kt) :
    exec (.watchdogExpiry ⟨t, kt⟩) s = .next ((s.upTo t).upKt kt).wdExpire := by
  change execWatchdogExpiry ⟨t, kt⟩ s = _
  simp [execWatchdogExpiry, hr, ht]

end Sys2Proof.Machine

namespace Sys2Proof.Proofs
open Sys2Proof.Machine

/-- Settles O6: every one of the resets is `State.enterReset` or `State.kpReset`, of which one lemma says what it leaves. -/
theorem faultResetsAndWatchdog : Obligations.FaultResetsAndWatchdog := by
  unfold Obligations.FaultResetsAndWatchdog
  refine ⟨fun t r ok s => ⟨execRailFault_resets r, fun h hw => ?clock, fun h hk => ?holdEnd⟩, ?watchdog⟩
  case clock => exact ⟨_, execClockFault_eq h hw, State.kpReset_holds (by rwa [State.upTo_dev]) (by decide)⟩
  case holdEnd => exact ⟨_, execKpResetHoldEnd_eq ok h hk, rfl, rfl, rfl⟩
  case watchdog =>
    intro t kt w s u
    refine ⟨execWatchdogService_serves, fun hr hw => ⟨_, execWatchdogService_expires hr hw, ?_⟩,
      fun hr ht => ⟨_, execWatchdogExpiry_expires hr ht, ?_⟩⟩
    all_goals exact State.kpReset_holds (State.dev_ne_off_of_wdRuns hr) (by decide)

end Sys2Proof.Proofs
end

section
/-! SUPPORT. The entry into WATCH and the wake (R81 to R85). -/
namespace Sys2Proof.Machine

variable {s : State} {t : Tick}

theorem State.power_of_withRecords {v r : State} (h : v.withRecords r = s.withRecords r) : v.power = s.power :=
  (congrArg State.power h :)

/-- An event's record leaves the supplies and clocks alone. -/
theorem State.info_power (code lv o b) : (s.info code lv o b).power = s.power :=
  State.power_of_withRecords (s.info_withRecords (r := s) code lv o b)

/-! ### The flush of the fault history (R82, R433) -/

/-- An append to the history leaves the wake and SREF alone. -/
theorem State.appendStaged_kept : s.appendStaged.watch = s.watch ∧ s.appendStaged.sref = s.sref := by
  unfold State.appendStaged
  split
  · simp only [State.modFaults_watch, State.modFaults_sref, State.appendHist, State.sysPost, State.modCh, State.modDma_watch, State.modDma_sref,
      State.draw, and_self]
  · trivial

theorem State.flushHist_watch : s.flushHist.watch = s.watch := foldl_kept (fun v _ => v.appendStaged_kept.1) _ s

theorem State.flushHist_sref : s.flushHist.sref = s.sref := foldl_kept (fun v _ => v.appendStaged_kept.2) _ s

theorem State.sysXfer_watch (a b n) : (s.sysXfer a b n).watch = s.watch := by unfold State.sysXfer; split <;> rfl

theorem State.sysXfer_sref (a b n) : (s.sysXfer a b n).sref = s.sref := by unfold State.sysXfer; split <;> rfl

/-! ### The wake (R83, R84) -/

theorem State.clockRuns_of_watch (h : s.dev = .watch) : s.clockRuns = false := by simp [State.clockRuns, h]

/-- Device time stands in WATCH (R80). -/
theorem State.upTo_of_watch (h : s.dev = .watch) (t : Tick) : s.upTo t = s := by simp [State.upTo, State.clockRuns_of_watch h]

theorem State.wakePort_power (n) : (s.wakePort n).power = s.power := by
  simp only [State.wakePort, State.fbUnref, State.setFb, apply_ite State.power, State.info_power, State.modFb_power, ite_self]

theorem State.wakePorts_power (l : List Nat) : (l.foldl (fun v n => v.wakePort n) s).power = s.power :=
  foldl_kept (fun v n => v.wakePort_power n) l s

theorem State.wakeEnabled_upTo (w) : (s.upTo t).wakeEnabled w = s.wakeEnabled w := by unfold State.upTo; split <;> rfl

theorem State.cu_modWatch (f i o n) : (s.modWatch f).cu i o n = s.cu i o n := rfl

variable {w : WakeSource}

/-- The first wake source that is enabled begins the wake in WATCH (R83). -/
theorem State.wake_of_watch (hd : s.dev = .watch) (hk : s.watch.waking = none) (he : s.wakeEnabled w = true) :
    s.wake w = (s.modWatch fun x => { x with waking := some w }).wakeStep1 := by
  simp [State.wake, hd, hk, he]

theorem State.wake_of_disabled (he : s.wakeEnabled w = false) : s.wake w = s := by simp [State.wake, he]

theorem execWakeEvent_eq : exec (.wakeEvent t w) s = .next ((s.upTo t).wake w) := rfl

/-- With SREF in its voltage mode, a sample in WATCH that has moved by more than the window wakes. -/
theorem execWatchSrefSample_of_voltage {mv : Int} {n : Nat} (hd : s.dev = .watch) (hm : s.cu 0x14 40 1 = 1) :
    exec (.watchSrefSample t mv n) s = .next (
      if 50 * s.cu 1 5 1 < (mv - s.watch.srefEntry).natAbs then (s.modWatch fun x => { x with srefMv := mv }).wake .sref
      else s.modWatch fun x => { x with srefMv := mv }) := by
  change execWatchSrefSample t mv n s = _
  simp only [execWatchSrefSample, State.upTo_of_watch hd, hd, hm, State.cu_modWatch, State.modWatch_watch, ne_eq, not_true_eq_false, if_false,
    true_or, if_true, decide_eq_true_eq]

/-- A wake that does not complete is a reset (R84). -/
theorem execWakeTimeout_eq (hd : s.dev = .watch) (hk : s.watch.waking.isSome = true) : exec (.wakeTimeout t) s = .next (s.enterReset 512) := by
  change execWakeTimeout t s = _
  simp only [execWakeTimeout, State.upTo_of_watch hd, hd, hk, and_self, if_true]

/-- The entry ends in WATCH where no wake event was kept during it (R82). -/
theorem execWatchEntryComplete_eq (he : (s.upTo t).watch.entry.isSome = true) (hw : (s.upTo t).watch.waking = none) (hu : (s.upTo t).up = true) :
    exec (.watchEntryComplete t) s = .next (
      let u := s.upTo t
      let v := ((u.flushHist.sysXfer 8 9 u.recorder.staged).modRecorder fun r => { r with staged := 0 }).modPins fun x =>
        { x with dsck := false, fbSup := Vector.replicate 6 false, alStb := Vector.replicate 2 true, miso := [], svtx := [] }
      let v := ((v.modPair fun x => { x with out := [] }).modCol fun x => { x with out := [] }).modWatch fun x =>
        { x with entry := none, srefEntry := u.sref.mv, srefMv := u.sref.mv }
      { v with dev := .watch }) := by
  have hn : (s.upTo t).watch.entry.isNone = false := by simpa using he
  change execWatchEntryComplete t s = _
  generalize hv : s.upTo t = u at *
  simp only [execWatchEntryComplete, hv, hn, hu, State.modWatch_watch, State.modCol_watch, State.modPair_watch, State.modPins_watch,
    State.modRecorder_watch, State.sysXfer_watch, State.flushHist_watch, hw, State.modCol_sref, State.modPair_sref, State.modPins_sref,
    State.modRecorder_sref, State.sysXfer_sref, State.flushHist_sref, Option.isSome_none, Bool.not_true, Bool.false_eq_true, or_self, if_false]

end Sys2Proof.Machine

namespace Sys2Proof.Proofs
open Sys2Proof.Machine

/-- Settles O9: in WATCH device time stands, the flush of the entry leaves the wake and SREF alone, and the resuming ports leave the
oscillator alone, which WAKE names last. -/
theorem watchEntersAndWakes : Obligations.WatchEntersAndWakes := by
  unfold Obligations.WatchEntersAndWakes
  refine ⟨?sleep, ?wake⟩
  case sleep =>
    intro t w mv n s u
    refine ⟨fun he _ hw hu => execWatchEntryComplete_eq he hw hu, fun hd hk he => ?enabled, fun he => ?disabled, ⟨rfl, rfl⟩,
      fun hd hm hn => ?still, fun hd hm he hk hn => ?moved, fun hd hk => ?timeout⟩
    case enabled => rw [execWakeEvent_eq, State.upTo_of_watch hd, State.wake_of_watch hd hk he]
    case disabled => rw [execWakeEvent_eq, State.wake_of_disabled ((State.wakeEnabled_upTo w).trans he)]
    case still => rw [execWatchSrefSample_of_voltage hd hm, if_neg (Nat.not_lt.2 hn)]
    case moved =>
      have hs : s.wakeEnabled .sref = true := by simp [State.wakeEnabled, he, hm]
      rw [execWatchSrefSample_of_voltage hd hm, if_pos hn]
      exact congrArg Host.Outcome.next (State.wake_of_watch (s := s.modWatch fun x => { x with srefMv := mv }) hd hk hs)
    case timeout =>
      have ho : s.dev ≠ .off := by simp [hd]
      exact ⟨_, execWakeTimeout_eq hd hk, State.enterReset_dev 512 ho, State.enterReset_getLsbD ho (by decide)⟩
  case wake =>
    intro t n w s hd hw
    change execWakeComplete t n s = _
    simp only [execWakeComplete, hw, hd, ne_eq, not_true_eq_false, if_false, wakeTime, State.wakePorts_power,
      foldl_kept (g := State.power) (fun v k => State.modStack_power v k _), State.modThermal_power, State.modSref_power, State.modPair_power,
      State.modPins_power, State.modSafety_power, State.modPower_power, State.modWatch_power]
    rfl

end Sys2Proof.Proofs
end

section
/-! SUPPORT. The fault history appended (R433) and read (R437), and GET_FAULTS (R439). -/
namespace Sys2Proof.Machine

variable {s : State} {t : Tick} {c : Source} {q : Nat} {p : Bytes}

/-! ### The parts a charged packet leaves alone (R98) -/

@[simp] theorem State.charged_faults (c : Source) : (s.charged c).faults = s.faults := by rw [s.charged_eq c]
@[simp] theorem State.charged_histRegion (c : Source) : (s.charged c).histRegion = s.histRegion := by rw [s.charged_eq c]; rfl
@[simp] theorem State.charged_histFormat (c : Source) : (s.charged c).histFormat = s.histFormat := by rw [s.charged_eq c]; rfl
@[simp] theorem State.charged_heldFaults (c : Source) : (s.charged c).heldFaults = s.heldFaults := by rw [s.charged_eq c]; rfl

/-! ### The history (R433, R437) -/

theorem State.appendStaged_of_idle {e : EventRec} {f n : Nat} {r : List (EventRec × Nat)} (hs : s.faults.staging = (e, f) :: r)
    (hn : s.sysIdle 14 15 = some n) :
    s.appendStaged = ((s.sysPost n 32).appendHist e (f + 4 * b2n (!s.linkHalted))).modFaults fun x => { x with staging := r } := by
  simp only [State.appendStaged, hs, hn]

theorem State.appendStaged_of_busy (hn : s.sysIdle 14 15 = none) : s.appendStaged = s := by
  unfold State.appendStaged; rw [hn]; cases s.faults.staging <;> rfl

theorem execFaultHistoryAppend_eq : exec (.faultHistoryAppend t) s = .next (if (s.upTo t).up then (s.upTo t).appendStaged else s.upTo t) := rfl

/-- A region with room keeps its records, and the new one follows them. -/
theorem State.appendHist_hist (e : EventRec) (f : Nat) (hl : (vget s.faults.hist s.histRegion []).length < 65535) (hr : s.histRegion < 2) :
    vget (s.appendHist e f).faults.hist s.histRegion [] = vget s.faults.hist s.histRegion [] ++
      [{ recNo := vget s.faults.histNext s.histRegion 0, format := s.histFormat, flags := f, event := e }] := by
  simp only [State.appendHist, State.modFaults_faults, vget_vmod_self _ hr, hl, if_true]

theorem opReadFaultHistory_of_empty (hp : getN p 0 4 = 0xFFFFFFFF) (hl : vget s.faults.hist s.histRegion [] = []) :
    opReadFaultHistory p s = .ok s (le 4 (vget s.faults.histNext s.histRegion 0) ++ le 2 0 ++ le 1 s.histFormat ++ zeros 1) := by
  simp [opReadFaultHistory, hp, hl]

theorem opReadFaultHistory_of_cons {r : HistRec} {l : List HistRec} (hp : getN p 0 4 = 0xFFFFFFFF)
    (hl : vget s.faults.hist s.histRegion [] = r :: l) (hn : (r :: l).length ≤ 127) :
    opReadFaultHistory p s = .ok s (le 4 r.recNo ++ le 2 (r :: l).length ++ le 1 ((r :: l).getLast (by simp)).format ++ zeros 1 ++
      (r :: l).flatMap HistRec.bytes) := by
  simp only [opReadFaultHistory, hp, hl, if_true, List.take_of_length_le hn, List.getLast?_eq_some_getLast (List.cons_ne_nil r l)]

/-! ### GET_FAULTS (R439) -/

theorem opGetFaults_of_none (h : s.heldFaults = []) : opGetFaults s = .ok s (le 1 s.faults.lapsed.toNat ++ le 1 0 ++ le 2 0 ++
    (((List.range 14).map fun i => le 4 (vget s.faults.occ (i + 1) 0)).flatten) ++ zeros 8) := by
  simp [opGetFaults, h, b2n]

end Sys2Proof.Machine

namespace Sys2Proof.Proofs
open Sys2Proof.Machine

/-- Settles O18: the append is `State.appendStaged` over an idle channel, and each query answers its opcode's reply on the charged state. -/
theorem faultHistoryKeptAndRead : Obligations.FaultHistoryKeptAndRead := by
  unfold Obligations.FaultHistoryKeptAndRead
  intro t c q p s u
  refine ⟨fun e f r n hu hs hn => ?append, fun hn => ?busy, fun e f hl hr => State.appendHist_hist e f hl hr, fun hs hp hl => ?empty,
    fun r l hs hp hl hn => ?records, fun hs hh => ?faults⟩
  case append => rw [execFaultHistoryAppend_eq, if_pos hu, State.appendStaged_of_idle hs hn]
  case busy => rw [execFaultHistoryAppend_eq, State.appendStaged_of_busy hn, ite_self]
  case empty =>
    refine runOp_of_ok (h := opReadFaultHistory p) hs ?_ (Nat.le_refl _)
    rw [opReadFaultHistory_of_empty hp (by simpa using hl), State.charged_faults, State.charged_histRegion, State.charged_histFormat]
  case records =>
    exact runOp_of_ok (h := opReadFaultHistory p) hs (opReadFaultHistory_of_cons hp (by simpa using hl) hn) (Nat.le_refl _)
  case faults =>
    refine runOp_of_ok (h := opGetFaults) hs ?_ (Nat.le_refl _)
    rw [opGetFaults_of_none (by simpa using hh), State.charged_faults]

end Sys2Proof.Proofs
end

section
/-! SUPPORT. The loss of a pair's heartbeat, its arbitration (R480, R481) and PAIR_STATUS (R493). -/
namespace Sys2Proof.Machine

variable {s : State} {t : Tick}

/-- A deadline is declared missed 1 µs after it (R40, R42). -/
theorem due_iff (d now : Nat) : due d now = true ↔ d + 100 ≤ now := decide_eq_true_iff

@[simp] theorem State.charged_pair (c : Source) : (s.charged c).pair = s.pair := by rw [s.charged_eq c]
@[simp] theorem State.charged_pairCfg (c : Source) : (s.charged c).pairCfg = s.pairCfg := by rw [s.charged_eq c]; rfl

/-- Without a heartbeat for 66 µs the arbitration begins with the ROLL frame (R480). -/
theorem execHeartbeatLoss_begins {a : Tick} {d : Bytes} (hb : (s.upTo t).pair.lastHb = some (a, d)) (ho : (s.upTo t).pairOn = true)
    (hs : (s.upTo t).pair.state = 2) (hl : (s.upTo t).pair.hbLate = true ∨ a + 6700 ≤ t) : exec (.heartbeatLoss t) s =
      .next ((((s.upTo t).setPair 3).modPair fun x => { x with hbLate := false, rollAt := (s.upTo t).time + 224, query := none }).clo
        [(s.upTo t).rollOf]) := by
  have hc : ((s.upTo t).pairOn && (s.upTo t).pair.state == 2 && ((s.upTo t).pair.hbLate || due (a + 6600) t)) = true := by
    simpa [ho, hs, due_iff] using hl
  change execHeartbeatLoss t s = _
  simp only [execHeartbeatLoss, hb, hc, if_true]

section
variable (ho : (s.upTo t).pairOn = true) (hs : (s.upTo t).pair.state = 3) (hq : (s.upTo t).pair.query = none)
include ho hs hq

/-- In the arbitration the outcome of a ROLL frame is judged. -/
theorem execArbitrationOutcome_open :
    (!((s.upTo t).pairOn && (s.upTo t).pair.state == 3 && (s.upTo t).pair.query.isNone)) = false := by simp [ho, hs, hq]

/-- The partner's mark on the ROLL frame returns the device to the other role (R481). -/
theorem execArbitrationOutcome_seen (hr : (s.upTo t).stamp ≤ (s.upTo t).pair.rollAt + 1000) :
    exec (.arbitrationOutcome t .partnerSeen) s = .next (((s.upTo t).setPair 5).pairEvent 0x8812 (le 1 0)) := by
  change execArbitrationOutcome t .partnerSeen s = _
  simp only [execArbitrationOutcome, execArbitrationOutcome_open ho hs hq, Nat.not_lt.2 hr, Bool.false_eq_true, if_false]

/-- A ROLL frame without the partner's mark is a takeover (R481). -/
theorem execArbitrationOutcome_unseen (hr : (s.upTo t).stamp ≤ (s.upTo t).pair.rollAt + 1000) :
    exec (.arbitrationOutcome t .partnerUnseen) s = .next ((s.upTo t).takeover 0) := by
  change execArbitrationOutcome t .partnerUnseen s = _
  simp only [execArbitrationOutcome, execArbitrationOutcome_open ho hs hq, Nat.not_lt.2 hr, Bool.false_eq_true, if_false]

/-- A ROLL frame that does not return, with no Alcia port to ask over, is decided without an answer (R481). -/
theorem execArbitrationOutcome_timeout (hr : (s.upTo t).pair.rollAt + 1100 ≤ t) (h0 : ((s.upTo t).alPort 0).state = 0)
    (h1 : ((s.upTo t).alPort 1).state = 0) : exec (.arbitrationOutcome t .timeout) s = .next ((s.upTo t).queryOutcome none) := by
  have hd : due ((s.upTo t).pair.rollAt + 1000) t = true := (due_iff _ _).2 hr
  have hp : ([0, 1].filter fun p => ((s.upTo t).alPort p).state != 0) = [] := by simp [h0, h1]
  change execArbitrationOutcome t .timeout s = _
  simp only [execArbitrationOutcome, execArbitrationOutcome_open ho hs hq, hd, hp, Bool.not_true, Bool.false_eq_true, if_false, if_true]

end

/-- A query that stays without an answer is decided without one (R481). -/
theorem execPairQueryTimeout_eq {a : Tick} (hq : (s.upTo t).pair.query = some a) (ho : (s.upTo t).pairOn = true) (hs : (s.upTo t).pair.state = 3)
    (hd : a + msTicks (getN (s.upTo t).pairCfg 2 1) + 100 ≤ t) : exec (.pairQueryTimeout t) s = .next ((s.upTo t).queryOutcome none) := by
  have hc : ((s.upTo t).pairOn && (s.upTo t).pair.state == 3 && due (a + msTicks (getN (s.upTo t).pairCfg 2 1)) t) = true := by
    simp [ho, hs, (due_iff _ _).2 hd]
  change execPairQueryTimeout t s = _
  simp only [execPairQueryTimeout, hq, hc, if_true]

/-- The lower address takes over where no answer decides (R481). -/
theorem State.queryOutcome_of_lower (h : s.ownAddr < s.partnerAddr) : s.queryOutcome none = s.takeover 2 := if_pos h

/-- PAIR_STATUS changes nothing and answers the state and the role first (R493). -/
theorem opPairStatus_eq : ∃ d : Bytes, opPairStatus s = .ok s d ∧ d.take 2 = le 1 s.pair.state ++ le 1 (getN s.pairCfg 0 1) :=
  ⟨_, rfl, by simp [le]⟩

end Sys2Proof.Machine

namespace Sys2Proof.Proofs
open Sys2Proof.Machine

/-- Settles O31: the rows of the arbitration one by one; an outstanding query counts as one without an answer. -/
theorem successionArbitrated : Obligations.SuccessionArbitrated := by
  unfold Obligations.SuccessionArbitrated
  intro t c q p s u
  refine ⟨fun a d => execHeartbeatLoss_begins, execArbitrationOutcome_seen, execArbitrationOutcome_unseen, execArbitrationOutcome_timeout,
    fun a hq ho hs hd hl => ?query, fun hs => ?status⟩
  case query => rw [execPairQueryTimeout_eq hq ho hs hd, State.queryOutcome_of_lower hl]
  case status =>
    obtain ⟨d, hd, ht⟩ := opPairStatus_eq (s := u.charged c)
    rw [State.charged_pair, State.charged_pairCfg] at ht
    exact ⟨d, runOp_of_ok (h := opPairStatus) hs hd (Nat.le_refl _), ht⟩

end Sys2Proof.Proofs
end

section
/-! SUPPORT. Network time (R515, R516), the network map (R521, R522) and the ends of transfers and bindings (R508, R509). -/
namespace Sys2Proof.Machine

/-- Only what a change does to the element it meets counts. -/
theorem vmod_congr {α : Type} {n i : Nat} {v : Vector α n} {f g : α → α} (d : α) (h : f (vget v i d) = g (vget v i d)) : vmod v i f = vmod v i g := by
  unfold vmod
  split
  case isTrue hi => rw [show v[i] = vget v i d by simp [vget, hi], h]
  case isFalse => rfl

theorem State.modAl_congr {s : State} {p : Nat} {f g : AlPort → AlPort} (h : f (s.alPort p) = g (s.alPort p)) : s.modAl p f = s.modAl p g := by
  rw [State.modAl, State.modAlcia, vmod_congr _ h]; rfl

/-! Each row is stated of the state `u` at its stamp. -/

variable {s u : State} {t : Tick} (hu : s.upTo t = u)
include hu

/-! ### Network time (R515, R516) -/

section
variable {p : Fin 2}

/-- The sync sender of a port sends SYNC every SYNC_P (R516). -/
theorem execSyncSend_sends {n : Nat} (hn : u.ownPrio p = some n) (ho : u.alOn = true) (hx : (u.alPort p).sending = true)
    (hs : (u.alPort p).state = 1) (ha : ∀ a, (u.alPort p).syncSentAt = some a → a + u.syncP ≤ u.time) : exec (.syncSend t p) s =
      .next ((u.modAl p fun x => { x with syncSeq := (x.syncSeq + 1) % 256, syncAt := none, syncSentAt := some u.time }).alSys p 0 0x001
        (le 1 (u.alPort p).syncSeq ++ le 1 n ++ le 1 (u.ownHops p) ++ zeros 5)) := by
  have hc : (u.alOn && (u.alPort p).sending && (u.alPort p).state == 1 &&
      (u.alPort p).syncSentAt.all fun a => decide (a + u.syncP ≤ u.time)) = true := by
    simpa [ho, hx, hs, Option.all_eq_true] using ha
  change execSyncSend t p s = _
  simp only [execSyncSend, hu, hn, hc, if_true]

/-- FOLLOW_UP carries the network time of its SYNC's stamp (R516). -/
theorem execFollowUpSend_sends {n : Nat} {a : Tick} (ha : (u.alPort p).syncAt = some (n, a)) (ho : u.alOn = true) (hx : (u.alPort p).sending = true)
    (hs : (u.alPort p).state = 1) : exec (.followUpSend t p) s =
      .next ((u.modAl p fun x => { x with syncAt := none }).alSys p 0 0x002 (le 1 n ++ zeros 7 ++ le 8 (u.netTime a))) := by
  have hc : (u.alOn && (u.alPort p).sending && (u.alPort p).state == 1) = true := by simp [ho, hx, hs]
  change execFollowUpSend t p s = _
  simp only [execFollowUpSend, hu, ha, hc, if_true]

/-- Five periods without a FOLLOW_UP make the network time invalid (R516). -/
theorem execSyncTimeout_invalid (ho : u.alOn = true) (hx : (u.alPort p).sending = false) (hs : (u.alPort p).state ≠ 0)
    (hd : (u.alPort p).followLate = true ∨ (u.alPort p).followAt + 5 * u.syncP + 100 ≤ t) :
    exec (.syncTimeout t p) s = .next ((u.modAl p fun x => { x with followLate := false }).timeInvalid p) := by
  have hc : (u.alOn && !(u.alPort p).sending && (u.alPort p).state != 0 &&
      ((u.alPort p).followLate || due ((u.alPort p).followAt + 5 * u.syncP) t)) = true := by
    simpa [ho, hx, hs, due_iff] using hd
  change execSyncTimeout t p s = _
  simp only [execSyncTimeout, hu, hc, if_true]

/-- The sync sender itself waits for no FOLLOW_UP. -/
theorem execSyncTimeout_of_sending (hx : (u.alPort p).sending = true) : exec (.syncTimeout t p) s = .next u := by
  change execSyncTimeout t p s = _
  simp only [execSyncTimeout, hu, hx, Bool.not_true, Bool.and_false, Bool.false_and, Bool.false_eq_true, if_false]

/-- A candidate that heard no better SYNC for three periods becomes the sender (R515). -/
theorem execSyncCandidateStart_sends {n : Nat} (hn : u.ownPrio p = some n) (ho : u.alOn = true) (hs : (u.alPort p).state = 1)
    (hx : (u.alPort p).sending = false) (hd : (u.alPort p).heardLate = true ∨ (u.alPort p).heardAt + 3 * u.syncP + 100 ≤ t) :
    exec (.syncCandidateStart t p) s = .next ((u.modAl p fun x =>
      { x with sending := true, heardLate := false, sender := some (n, u.alAddr), syncAt := none, syncSentAt := none }).netTimeEvent p 3 0) := by
  have hc : (u.alOn && (u.alPort p).state == 1 && !(u.alPort p).sending &&
      ((u.alPort p).heardLate || due ((u.alPort p).heardAt + 3 * u.syncP) t)) = true := by
    simpa [ho, hx, hs, due_iff] using hd
  change execSyncCandidateStart t p s = _
  simp only [execSyncCandidateStart, hu, hn, hc, if_true]

end

/-! ### The network map (R521, R522) -/

/-- A node announces itself in its slot after a roll call (R521). -/
theorem execAnnounceSend_inSlot {p : Nat} {b : Tick} (hp : u.rolePort false = some p) (ho : u.alOn = true) (hs : (u.alPort p).state = 1)
    (hb : (u.alPort p).annBase = some b) (hn : (u.alPort p).annDone = false) (ht : b + u.alAddr % 64 * u.tSlot p ≤ u.time) :
    exec (.announceSend t) s = .next ((u.modAl p fun x => { x with annDone := true, annAt := some u.time }).alSys p 2 0x003
      (le 2 u.alAddr ++ le 1 (b2n u.isBridge + 2 * b2n (u.pair.state != 0) + 4 * b2n (decide (2 ≤ u.col.state)) + 8 * b2n (u.nodeB 2 1 != 0)) ++
        le 1 u.dev.code ++ u.versions.take 4)) := by
  have hc : (u.alOn && (u.alPort p).state == 1 && (!(u.alPort p).annDone && decide (b + u.alAddr % 64 * u.tSlot p ≤ u.time))) = true := by
    simp [ho, hs, hn, ht]
  have hm : (u.modAl p fun x => { x with annDone := x.annBase.isSome, annAt := some u.time }) =
      u.modAl p fun x => { x with annDone := true, annAt := some u.time } := State.modAl_congr (by rw [hb]; rfl)
  change execAnnounceSend t s = _
  simp only [execAnnounceSend, hu, hp, hb, hc, hm, if_true]

/-- A bridge whose first announcement is out announces its segment without a roll call up to 2 s after its ports became active (R521). -/
theorem execBridgeAnnounceSend_early {p : Nat} (hp : u.rolePort false = some p) (ho : u.alOn = true) (hb : u.isBridge = true)
    (hs : (u.alPort p).state = 1) (hd : u.bridgeDue p ≤ u.time) (hn : (u.alPort p).brgCount ≠ 0)
    (ht : u.time ≤ max (u.alPort p).activeAt (u.alPort (1 - p)).activeAt + msTicks 2000) : exec (.bridgeAnnounceSend t) s = .next (
      let v := (u.modAlcia fun a => { a with brgFirst := some (a.brgFirst.getD u.time) }).modAl p fun x =>
        { x with brgCount := x.brgCount + 1, brgAt := some u.time }
      v.alSys p 1 0x004 (le 1 v.alSeg ++ le 1 (2 * b2n (match v.rolePort true with | some q => (v.alPort q).state == 1 | none => false)) ++
        le 2 v.netNodes ++ zeros 4)) := by
  have hc : (u.alOn && u.isBridge && (u.alPort p).state == 1 && decide (u.bridgeDue p ≤ u.time)) = true := by simp [ho, hb, hs, hd]
  have hr : ((u.alPort p).brgCount == 0 || decide (max (u.alPort p).activeAt (u.alPort (1 - p)).activeAt + msTicks 2000 < u.time)) = false := by
    simpa [hn] using ht
  change execBridgeAnnounceSend t s = _
  simp only [execBridgeAnnounceSend, hu, hp, hc, hr, if_true, Bool.false_eq_true, if_false, Bool.not_false, Bool.and_true,
    show b2n false = 0 from rfl, Nat.zero_add]
  rfl

/-- A bridge sends the summary of its segment on the backbone (R522). -/
theorem execRouteSummarySend_sends {p : Nat} (hp : u.rolePort true = some p) (ho : u.alOn = true) (hb : u.isBridge = true)
    (hs : (u.alPort p).state = 1) (hd : u.summaryDue p = true) : exec (.routeSummarySend t) s =
      .next ((u.modAlcia fun a => { a with netMap := vmod a.netMap u.alSeg fun _ => a.segMap, sumAt := some u.time, sumMap := a.segMap }).alSys p 2 0x005
        (le 1 u.alSeg ++ zeros 3 ++ le 8 u.alcia.segMap.toNat)) := by
  have hc : (u.alOn && u.isBridge && (u.alPort p).state == 1 && u.summaryDue p) = true := by simp [ho, hb, hs, hd]
  change execRouteSummarySend t s = _
  simp only [execRouteSummarySend, hu, hp, hc, if_true]
  rfl

/-- A segment without a summary for 3 s is dropped (R522). -/
theorem execSegmentTimeout_drops {g : Fin 64} {a : Tick} (ha : u.alcia.segSeen[g] = some a) (ho : u.alOn = true)
    (hd : u.alcia.segLate[g] = true ∨ a + 300000100 ≤ t) : exec (.segmentTimeout t g) s = .next (u.modAlcia fun a =>
      { a with segLate := a.segLate &&& ~~~(1#64 <<< g.val), netMap := vmod a.netMap g fun _ => 0, segSeen := vmod a.segSeen g fun _ => none }) := by
  have hc : (u.alOn && (u.alcia.segLate[g] || due (a + msTicks 3000) t)) = true := by
    simpa [ho, due_iff, msTicks, Nat.add_assoc] using hd
  change execSegmentTimeout t g s = _
  simp only [execSegmentTimeout, hu, ha, hc, if_true]

/-! ### Transfers and bindings (R508, R509) -/

/-- A transfer that is not complete 10 ms after its first frame is discarded (R508). -/
theorem execCmdTransferTimeout_discards {n : Nat} {x : Transfer} (hx : (u.alcia.xfers.find? (·.node == n)) = some x) (ho : u.alOn = true)
    (hd : x.first + 1000100 ≤ t) : exec (.cmdTransferTimeout t n) s =
      .next ((u.modAlcia fun a => { a with xfers := a.xfers.filter (·.node != n) }).alIgnore x.port) := by
  have hc : (u.alOn && due (x.first + msTicks 10) t) = true := by simpa [ho, due_iff, msTicks, Nat.add_assoc] using hd
  change execCmdTransferTimeout t n s = _
  simp only [execCmdTransferTimeout, hu, hx, hc, if_true]

/-- A binding ends after its timeout where its node owns nothing (R509). -/
theorem execBindTimeout_unbinds {a b : Nat} {d : Tick} (hb : u.alcia.bound = some (a, b, d)) (ho : u.alOn = true) (hw : u.owner ≠ some .alcia)
    (hd : u.alcia.bindLate = true ∨ d + msTicks (u.nodeB 8 2) + 100 ≤ t) : exec (.bindTimeout t) s = .next u.unbind := by
  have hc : (u.alOn && u.owner != some .alcia && (u.alcia.bindLate || due (d + msTicks (u.nodeB 8 2)) t)) = true := by
    simpa [ho, hw, due_iff] using hd
  change execBindTimeout t s = _
  simp only [execBindTimeout, hu, hb, hc, if_true]

end Sys2Proof.Machine

namespace Sys2Proof.Proofs
open Sys2Proof.Machine

/-- Settles O36: each row by its own lemma at the state of its stamp. -/
theorem networkTimeMapAndTransfers : Obligations.NetworkTimeMapAndTransfers := by
  unfold Obligations.NetworkTimeMapAndTransfers
  refine ⟨?time, ?map⟩
  case time =>
    intro t p s u x
    exact ⟨fun n => execSyncSend_sends rfl, fun n a => execFollowUpSend_sends rfl, execSyncTimeout_invalid rfl, execSyncTimeout_of_sending rfl,
      fun n => execSyncCandidateStart_sends rfl, fun hv => by simp only [State.timeInvalid, hv, if_true]⟩
  case map =>
    intro t g n s u
    refine ⟨fun p b => execAnnounceSend_inSlot rfl, fun p => execRouteSummarySend_sends rfl, fun p => execBridgeAnnounceSend_early rfl,
      fun a => execSegmentTimeout_drops rfl, fun x => execCmdTransferTimeout_discards rfl, fun a b d hb ho hw hd => ?bind⟩
    case bind => rw [execBindTimeout_unbinds rfl hb ho hw hd, State.unbind, hb]

end Sys2Proof.Proofs
end

section
/-! SUPPORT. The faults of the gate-drive array (R150, R155 to R161, R374), each row stated of the state `u` at its stamp. -/
namespace Sys2Proof.Machine

theorem State.modGate_enabled (s : State) (n f k) : (s.modGate n f).enabled k = s.enabled k := rfl

variable {s u : State} {t : Tick} (hu : s.upTo t = u) {ch : Fin 28}
include hu

/-- A short circuit of a switch that is on, past its blanking, turns it off softly and locks out (R157 to R159). -/
theorem execShortCircuit_locksOut {ns : Nat} (ho : (u.gate ch).out = .on)
    (hb : 10 * u.cu (0x20 + chStack ch) (if isBk ch then 13 else 11) 1 ≤ ns) : exec (.shortCircuit t ch ns) s = .next (
      let v := ((u.modGate ch fun g => g.drive .softOff u.time).lockOut ch).settle
      v.raise 0x8301 0 ch (le 1 (v.stack (chStack ch)).band ++ le 1 0 ++ le 2 (satN 2 ns))) := by
  change execShortCircuit t ch ns s = _
  simp only [execShortCircuit, hu, ho, hb, and_self, if_true]

/-- Within the blanking nothing is judged (R157). -/
theorem execShortCircuit_blanked {ns : Nat} (hb : ns < 10 * u.cu (0x20 + chStack ch) (if isBk ch then 13 else 11) 1) :
    exec (.shortCircuit t ch ns) s = .next u := by
  change execShortCircuit t ch ns s = _
  simp only [execShortCircuit, hu, Nat.not_le.2 hb, and_false, if_false]

/-- A booster in mode 2 whose monitor is judged by then locks out (R150, R160). -/
theorem execBoosterFault_eq {x : BoosterExpect} : exec (.boosterFault t ch x) s = .next (
    if (u.gate ch).mode = 2 ∧ u.boosterDue ch x t = true then
      ((u.modGate ch fun g => if g.out = .on then g.drive .softOff u.time else g).lockOut ch).settle.raise 0x8304 0 ch
        (le 1 (match x with | .on => 0 | .off => 1 | .softOff => 2))
    else u) := by
  subst hu; rfl

/-- An undervoltage of VPOS locks the leg of an enabled stack out in RUN (R160, R161). -/
theorem execGateSupplyUv_run (hv : (u.gate ch).uvPos = false) (he : u.enabled (chStack ch) = true) (hr : u.dev = .run) :
    exec (.gateSupplyUv t ch .vpos) s =
      .next (((u.modGate ch fun g => { g with uvPos := true }).lockOut ch).settle.raise 0x8303 0 ch (le 1 0)) := by
  have hn : (GateRail.vpos == GateRail.vneg) = false := rfl
  change execGateSupplyUv t ch .vpos s = _
  simp only [execGateSupplyUv, hu, hv, hn, State.modGate_enabled, he, State.modGate_dev, hr, Bool.false_and, Bool.or_self, Bool.false_eq_true,
    Bool.not_true, if_false, true_or, if_true]

/-- On a stack that is not enabled it only leaves the channel undriven (R60, R161). -/
theorem execGateSupplyUv_notEnabled (hv : (u.gate ch).uvPos = false) (he : u.enabled (chStack ch) = false) :
    exec (.gateSupplyUv t ch .vpos) s = .next (u.modGate ch fun g => { g with uvPos := true }).settle := by
  have hn : (GateRail.vpos == GateRail.vneg) = false := rfl
  change execGateSupplyUv t ch .vpos s = _
  simp only [execGateSupplyUv, hu, hv, hn, State.modGate_enabled, he, Bool.false_and, Bool.or_self, Bool.false_eq_true, Bool.not_false,
    if_false, if_true]

/-- The undervoltage ends with its supply, in mode 0 where that had been lost (R60, R161). -/
theorem execGateSupplyUvEnd_vpos (lost : Bool) : exec (.gateSupplyUvEnd t ch ⟨.vpos, lost⟩) s =
    .next (u.modGate ch fun g => { g with uvPos := false, mode := if lost then 0 else g.mode }).settle := by
  subst hu; cases lost <;> rfl

theorem execGateSupplyUvEnd_vneg (lost : Bool) : exec (.gateSupplyUvEnd t ch ⟨.vneg, lost⟩) s =
    .next (u.modGate ch fun g => { g with uvNeg := false, mode := if lost then 0 else g.mode }).settle := by
  subst hu; cases lost <;> rfl

end Sys2Proof.Machine

namespace Sys2Proof.Proofs
open Sys2Proof.Machine

/-- Settles O41: each fault by its own lemma at the state of its stamp. -/
theorem gateFaultsLockOut : Obligations.GateFaultsLockOut := by
  unfold Obligations.GateFaultsLockOut
  intro t kt ch leg ns lost s u k
  refine ⟨execShortCircuit_locksOut rfl, execShortCircuit_blanked rfl, fun x hm hd => ?fault, fun x hx => ?noFault, execGateSupplyUv_run rfl,
    execGateSupplyUv_notEnabled rfl, execGateSupplyUvEnd_vpos rfl lost, execGateSupplyUvEnd_vneg rfl lost, ?shootThrough⟩
  case fault => exact (execBoosterFault_eq rfl).trans (congrArg Host.Outcome.next (if_pos ⟨hm, hd⟩))
  case noFault =>
    have hn : ¬((u.gate ch).mode = 2 ∧ u.boosterDue ch x t = true) := fun ⟨hm, hd⟩ => hx.elim (· hm) (by simp [hd])
    rw [execBoosterFault_eq rfl, if_neg hn]
  case shootThrough =>
    intro c u he hw hl
    have hc : (u.enabled (c / 6) && (u.stack (c / 6)).switching) = true := by rw [he, hw]; rfl
    exact congrArg Host.Outcome.next (if_pos hc)

end Sys2Proof.Proofs
end

section
/-! SUPPORT. The carrier zero (R206, R478) and the cycle of a field engine (R218), each stated of the state `u` at its stamp. -/
namespace Sys2Proof.Machine

variable {s u : State} {t : Tick} (hu : s.upTo t = u) {k : Fin 4}
include hu

/-- The carrier zero of an enabled stack, in the tick of its carrier (R206, R478). -/
theorem execCarrierZero_runs (hc : u.sealedCfg.isSome = true) (he : u.enabled k = true) (ha : u.awake = true) (hz : u.zeroAt k t = true) :
    exec (.carrierZero t k) s = .next (
      let v := (u.carrierZero k).handOver k
      if k.val = v.timeBase ∧ v.pairOn = true ∧ v.pair.state ≠ 0 then (v.modPair fun p => { p with out := [] }).sendMirror else v) := by
  have hg : (!(u.sealedCfg.isSome && u.enabled k && u.awake && u.zeroAt k t)) = false := by simp [hc, he, ha, hz]
  change execCarrierZero t k s = _
  simp only [execCarrierZero, hu, hg, Bool.false_eq_true, if_false]

/-- A stack that is not enabled, and a tick at which the carrier is elsewhere, do nothing. -/
theorem execCarrierZero_idle (h : u.enabled k = false ∨ u.zeroAt k t = false) : exec (.carrierZero t k) s = .next u := by
  have hg : (!(u.sealedCfg.isSome && u.enabled k && u.awake && u.zeroAt k t)) = true := by rcases h with h | h <;> simp [h]
  change execCarrierZero t k s = _
  simp only [execCarrierZero, hu, hg, if_true]

/-- The cycle of a field engine with a new sample set (R27, R28, R205, R218). -/
theorem execFieldEngineCycle_runs (hc : u.sealedCfg.isSome = true) (he : u.enabled k = true) (ha : u.awake = true)
    (hh : vget u.integ.halted (2 + k) false = false) (hf : (u.stack k).sense.fresh = true) : exec (.fieldEngineCycle t k) s = .next (
      let v := ((((u.recCycle k (u.stack k).sense.tc).feOverrun k).cmpActivate k).beginCycle k).takeLead k
      let v := ((v.overCurrent k).dcCheck k).settle
      let c := v.cycIn k
      (v.fluxRange k (park c.iu c.iv c.iw c.th).1 (park c.iu c.iv c.iw c.th).2).fieldStep k c) := by
  have hg : (!(u.sealedCfg.isSome && u.enabled k && u.awake && (u.stack k).sense.fresh) || vget u.integ.halted (2 + k) false) = false := by
    simp [hc, he, ha, hh, hf]
  change execFieldEngineCycle t k s = _
  simp only [execFieldEngineCycle, hu, hg, Bool.false_eq_true, if_false]

/-- An engine that is halted and one without a new sample set do nothing. -/
theorem execFieldEngineCycle_idle (h : vget u.integ.halted (2 + k) false = true ∨ (u.stack k).sense.fresh = false) :
    exec (.fieldEngineCycle t k) s = .next u := by
  have hg : (!(u.sealedCfg.isSome && u.enabled k && u.awake && (u.stack k).sense.fresh) || vget u.integ.halted (2 + k) false) = true := by
    rcases h with h | h <;> simp [h]
  change execFieldEngineCycle t k s = _
  simp only [execFieldEngineCycle, hu, hg, if_true]

end Sys2Proof.Machine

namespace Sys2Proof.Proofs
open Sys2Proof.Machine

/-- Settles O44: the condition of each of the two rows holds, or one of its parts fails. -/
theorem fieldEngineRuns : Obligations.FieldEngineRuns := by
  unfold Obligations.FieldEngineRuns
  intro t k s u
  exact ⟨execCarrierZero_runs rfl, execCarrierZero_idle rfl, execFieldEngineCycle_runs rfl, execFieldEngineCycle_idle rfl⟩

end Sys2Proof.Proofs
end

section
/-! SUPPORT. The resets by RESET_N (R72, R75) and by command (R102), and the end of RESET (R70, R536). -/
namespace Sys2Proof.Machine

variable {s u : State} {t : Tick}

@[simp] theorem State.upTo_pending (s : State) (t : Tick) : (s.upTo t).pending = s.pending := by unfold State.upTo; split <;> rfl

/-- Device time stands in RESET (R80). -/
theorem State.upTo_of_inReset (h : s.dev = .inReset) (t : Tick) : s.upTo t = s := by simp [State.upTo, State.clockRuns, h]

/-- A reset leaves the commands that wait. -/
theorem State.enterReset_pending (s : State) (b) : (s.enterReset b).pending = s.pending := by
  unfold State.enterReset
  split
  · rfl
  · split <;> rfl

/-- A reset leaves RESET_N as it stands at its pin. -/
theorem State.enterReset_rstPin (s : State) (b) : (s.enterReset b).power.rstPin = s.power.rstPin := by
  unfold State.enterReset
  split
  · rfl
  · split <;> rfl

/-! ### RESET_N (R72, R75, R76) -/

theorem execResetNLow_ignored {ns : Nat} (h : ns < 500) : exec (.resetNLow t ns) s = .next (s.upTo t) := by
  change execResetNLow t ns s = _
  rw [execResetNLow, if_pos h]

theorem execResetNLow_resets {ns : Nat} (h : 2000 ≤ ns) :
    exec (.resetNLow t ns) s = .next (((s.upTo t).modPower fun p => { p with rstPin := true }).enterReset 2) := by
  change execResetNLow t ns s = _
  simp only [execResetNLow, show ¬ns < 500 by omega, Nat.not_lt.2 h, if_false, if_true]

/-- RSTLOW is the time RESET_N was low in milliseconds, saturated (R75, R76). -/
theorem execResetNRelease_pin {ms : Nat} (hu : s.upTo t = u) (hr : u.power.rstPin = true) (hp : u.power.nextCause.getLsbD 1 = true) :
    exec (.resetNRelease t ms) s = .next (u.modPower fun p =>
      { p with rstPin := false, nextCause := BitVec.ofNat 32 (p.nextCause.toNat % 65536 + 65536 * min ms 65535) }) := by
  change execResetNRelease t ms s = _
  simp only [execResetNRelease, State.modPower, hu, hr, hp, if_true]
  rfl

/-! ### The reset of RESET_DEVICE (R102) -/

/-- The tick at which an accepted RESET_DEVICE resets: 10 µs after the delivery of its reply, or 10 ms after it was queued. -/
def resetDueAt (x : Source × Tick × Option Tick) : Tick := match x.2.2 with
  | some d => d + usTicks 10
  | none => x.2.1 + msTicks 10

theorem execCommandResetDue_of_due {x : Source × Tick × Option Tick} (hx : x ∈ s.power.resetDue) (ht : resetDueAt x ≤ t) :
    exec (.commandResetDue t) s = .next ((s.upTo t).enterReset 128) := by
  refine congrArg Host.Outcome.next (if_pos ?_)
  rw [State.upTo_power, List.any_eq_true]
  refine ⟨x, hx, ?_⟩
  obtain ⟨c, q, _ | d⟩ := x <;> exact decide_eq_true ht

/-- Each accepted RESET_DEVICE whose tick has come resets a device that is not OFF, with bit CMD. -/
theorem execCommandResetDue_resets {x : Source × Tick × Option Tick} (hd : s.dev ≠ .off) (hx : x ∈ s.power.resetDue) (ht : resetDueAt x ≤ t) :
    ∃ v, exec (.commandResetDue t) s = .next v ∧ v.dev = .inReset ∧ v.power.nextCause.getLsbD 7 = true := by
  have hd : (s.upTo t).dev ≠ .off := by rwa [State.upTo_dev]
  exact ⟨_, execCommandResetDue_of_due hx ht, State.enterReset_dev 128 hd, State.enterReset_getLsbD hd (by decide)⟩

/-! ### The end of RESET (R70, R536) -/

/-- With no hold left and RESET_N high RESET ends, with the pins free from then on (assumption 110). -/
theorem execResetExit_leaves (mem : MemFound) (hd : s.dev = .inReset) (hr : s.power.rstPin = false) (hv : s.power.vinHold = false)
    (ho : s.power.ovrHold = false) (hk : s.power.kpHold = none) :
    exec (.resetExit ⟨t, mem⟩) s = .next ((({ s with time := 0, stamp := 0, pins := {} }.modPower fun p =>
      { p with cause := p.nextCause, nextCause := 0, dramBusy := true }).bootSelect).memCheck mem) := by
  change execResetExit ⟨t, mem⟩ s = _
  have hc : s.dev = .inReset ∧ !s.power.rstPin ∧ !s.power.vinHold ∧ !s.power.ovrHold ∧ s.power.kpHold.isNone := by
    simp [hd, hr, hv, ho, hk]
  simp only [execResetExit, State.upTo_of_inReset hd]
  exact congrArg Host.Outcome.next (if_pos hc)

end Sys2Proof.Machine

namespace Sys2Proof.Proofs
open Sys2Proof.Machine

/-- Settles O5: every beginning is `State.enterReset` with its cause bit, and in RESET, where device time stands, the end of the last hold
leaves it. -/
theorem resetsBeginAndEnd : Obligations.ResetsBeginAndEnd := by
  unfold Obligations.ResetsBeginAndEnd
  refine ⟨?pin, ?command⟩
  case pin =>
    intro t ns ms s u
    refine ⟨execResetNLow_ignored, fun hn hd => ⟨_, execResetNLow_resets hn, ?_⟩, execResetNRelease_pin rfl⟩
    have hd : (u.modPower fun p => { p with rstPin := true }).dev ≠ .off := by simpa [u] using hd
    refine ⟨State.enterReset_dev 2 hd, State.enterReset_rstPin .., State.enterReset_getLsbD hd (by decide), ?_⟩
    rw [State.enterReset_pending, State.modPower_pending, State.upTo_pending]
  case command =>
    intro t c q d s u
    have hp : u.power = s.power := s.upTo_power t
    refine ⟨fun hd hx ht => ?delivered, fun hd hx ht => ?queued, execResetExit_leaves⟩
    case delivered => exact execCommandResetDue_resets (x := (c, q, some d)) hd (hp ▸ hx) ht
    case queued => exact execCommandResetDue_resets (x := (c, q, none)) hd (hp ▸ hx) ht

end Sys2Proof.Proofs
end

section
/-! SUPPORT. The crystal (R71) and the end of BOOT (R123, R124). -/
namespace Sys2Proof.Machine

variable {s u : State} {t : Tick}

/-- A device that runs its firmware is not OFF. -/
theorem State.dev_ne_off_of_awake (h : s.awake = true) : s.dev ≠ .off := by
  intro hd; simp [State.awake, hd] at h

@[simp] theorem State.upTo_safety (s : State) (t : Tick) : (s.upTo t).safety = s.safety := by unfold State.upTo; split <;> rfl

@[simp] theorem State.upTo_upd (s : State) (t : Tick) : (s.upTo t).upd = s.upd := by unfold State.upTo; split <;> rfl

@[simp] theorem State.upTo_faults (s : State) (t : Tick) : (s.upTo t).faults = s.faults := by unfold State.upTo; split <;> rfl

/-! ### The crystal (R71) -/

theorem execXtal32Qualified_qualifies (hu : s.upTo t = u) (hd : u.dev ≠ .off) :
    exec (.xtal32Qualified t) s = .next (u.modPower fun p => { p with xtalOk := true }) := by
  subst hu; exact congrArg Host.Outcome.next (if_neg hd)

/-- An event of the always-on domain other than POWER_FAIL is raised at once where the firmware runs. -/
theorem State.aonRaise_of_awake {code : Nat} (data : Bytes) (ha : s.awake = true) (hc : code ≠ 0x8121) :
    s.aonRaise code data = s.raise code 2 0 data := by
  simp [State.aonRaise, State.aonEvent, ha, hc]

/-- Whether the domain had run on the crystal that failed. -/
def xtalRan : XtalFailure → Bool
  | .notQualified => false
  | .stopped => true

/-- A crystal that stops, or that is not qualified, is raised once the domain runs on the oscillator. -/
theorem execXtal32Fail_raises {x : XtalFailure} (hu : s.upTo t = u) (ha : u.awake = true) (hx : u.power.xtalOk = xtalRan x) :
    exec (.xtal32Fail t x) s = .next ((u.modPower fun p => { p with xtalOk := false }).raise 0x8123 2 0 (le 1 (b2n (xtalRan x)))) := by
  have hc : ¬(u.dev = .off ∨ u.power.xtalOk ≠ xtalRan x) := by simp [State.dev_ne_off_of_awake ha, hx]
  have hr := State.aonRaise_of_awake (s := u.modPower fun p => { p with xtalOk := false }) (code := 0x8123) (le 1 (b2n (xtalRan x))) ha (by decide)
  change execXtal32Fail t x s = _
  rw [← hr]
  simp only [execXtal32Fail, hu]
  cases x <;> exact congrArg Host.Outcome.next (if_neg hc)

/-! ### What the records of BOOT leave alone (R123, R436, R545) -/

/-- The parts that the records at the end of BOOT leave alone, of those its end depends on. -/
def State.bootView (s : State) :=
  (s.time, s.pending, s.safety, s.upd.fallback, s.upd.loaded, s.power.late, s.faults.objs)

theorem State.appendHist_bootView (e f) : (s.appendHist e f).bootView = s.bootView := rfl

theorem State.sysXfer_bootView (a b n) : (s.sysXfer a b n).bootView = s.bootView := by unfold State.sysXfer; split <;> rfl

theorem State.histSwitch_bootView : s.histSwitch.bootView = s.bootView := by
  simp only [State.histSwitch, apply_ite State.bootView]
  exact ite_self _

theorem State.bootMarker_bootView : s.bootMarker.bootView = s.bootView := by
  rw [State.bootMarker, State.appendHist_bootView, State.sysXfer_bootView]

theorem State.bootRecord_bootView : s.bootRecord.bootView = s.bootView := by unfold State.bootRecord; split <;> rfl

/-- The records at the end of BOOT: the history region of a trial, the boot marker and the record of a BOOT that stopped. -/
def State.bootRecords (s : State) : State := s.histSwitch.bootMarker.bootRecord

theorem State.bootRecords_bootView : s.bootRecords.bootView = s.bootView := by
  rw [State.bootRecords, State.bootRecord_bootView, State.bootMarker_bootView, State.histSwitch_bootView]

/-! ### The end of BOOT (R123, R124) -/

/-- Where the always-on domain found nothing meanwhile, nothing is reported. -/
theorem State.aonReport_of_none (h : s.power.late = []) : s.aonReport = s.modPower fun p => { p with late := [] } := by
  rw [State.aonReport, h]; rfl

/-- Without a fault held, nothing leads to FAULT. -/
theorem State.faultIfBlocked_of_none (h : s.faults.objs = []) : s.faultIfBlocked = s := by
  simp [State.faultIfBlocked, State.blocking, State.fatal, h]

/-- The device in UNCONFIGURED after its BOOT, before anything is reported. -/
def State.booted (s : State) : State :=
  let v := { s with dev := .unconfigured }.modApp fun a => { a with state := if s.upd.loaded.getLsbD 3 then 1 else 0 }
  v.modSafety fun x => { x with wdLast := v.kpNow }

@[simp] theorem State.booted_dev : s.booted.dev = .unconfigured := rfl
@[simp] theorem State.booted_pending : s.booted.pending = s.pending := rfl
@[simp] theorem State.booted_power : s.booted.power = s.power := rfl
@[simp] theorem State.booted_faults : s.booted.faults = s.faults := rfl
@[simp] theorem State.booted_upd : s.booted.upd = s.upd := rfl
@[simp] theorem State.booted_kpState : s.booted.safety.kpState = s.safety.kpState := rfl
@[simp] theorem State.booted_wdLast : s.booted.safety.wdLast = s.kpNow := rfl
@[simp] theorem State.booted_appState : s.booted.app.state = if s.upd.loaded.getLsbD 3 then 1 else 0 := rfl

/-- What the end of BOOT reports, and FAULT where a fault is held. -/
def State.bootReport (s : State) : State :=
  let v := s.upd.fallback.foldl (fun (s : State) f => s.raise 0x8904 2 0 (le 1 f.1 ++ le 1 f.2.1 ++ le 1 f.2.2)) s
  let v := (v.modUpd fun u => { u with fallback := [] }).aonReport
  (if v.safety.kpState = 3 then v.raise 0x850A 2 0 (le 1 v.safety.cause) else v).faultIfBlocked

theorem State.bootReport_of_none (hk : s.safety.kpState ≠ 3) (hf : s.upd.fallback = []) (hl : s.power.late = []) (ho : s.faults.objs = []) :
    s.bootReport = (s.modUpd fun x => { x with fallback := [] }).modPower fun p => { p with late := [] } := by
  simp only [State.bootReport, hf, List.foldl_nil]
  rw [State.aonReport_of_none (by simpa using hl), if_neg (by simpa using hk), State.faultIfBlocked_of_none (by simpa using ho)]

theorem execBootComplete_eq : exec (.bootComplete t) s = .next (
    if (s.upTo t).dev = .boot ∧ (s.upTo t).power.memFail.isNone then (s.upTo t).bootRecords.booted.bootReport else s.upTo t) := by
  change execBootComplete t s = _
  simp only [execBootComplete, State.bootRecords]
  -- spares the defeq check from unfolding the records themselves
  generalize (s.upTo t).histSwitch.bootMarker.bootRecord = w
  rfl

/-- With nothing to report, BOOT ends in UNCONFIGURED. -/
theorem execBootComplete_unconfigured (hd : s.dev = .boot) (hm : s.power.memFail = none) (hk : s.safety.kpState ≠ 3) (hf : s.upd.fallback = [])
    (hl : s.power.late = []) (ho : s.faults.objs = []) : ∃ v, exec (.bootComplete t) s = .next v ∧ v.dev = .unconfigured ∧
      v.safety.wdLast = (s.upTo t).kpNow ∧ v.app.state = (if s.upd.loaded.getLsbD 3 then 1 else 0) ∧ v.pending = s.pending := by
  have hc : (s.upTo t).dev = .boot ∧ (s.upTo t).power.memFail.isNone = true := by simp [hd, hm]
  have he := execBootComplete_eq (s := s) (t := t)
  rw [if_pos hc] at he
  have hv := (s.upTo t).bootRecords_bootView
  simp only [State.bootView, Prod.mk.injEq] at hv
  generalize (s.upTo t).bootRecords = w at he hv
  obtain ⟨ht, hp, hs, hf', hi, hl', ho'⟩ := hv
  have hr : w.booted.bootReport = _ := State.bootReport_of_none (by simpa [hs] using hk) (by simpa [hf'] using hf) (by simpa [hl'] using hl)
    (by simpa [ho'] using ho)
  refine ⟨_, he.trans (congrArg Host.Outcome.next hr), ?_, ?_, ?_, ?_⟩
  · simp only [State.modPower_dev, State.modUpd_dev, State.booted_dev]
  · simp only [State.modPower_safety, State.modUpd_safety, State.booted_wdLast, State.kpNow, ht, hs]
  · simp only [State.modPower_app, State.modUpd_app, State.booted_appState, hi, State.upTo_upd]
  · simp only [State.modPower_pending, State.modUpd_pending, State.booted_pending, hp, State.upTo_pending]

/-- A BOOT whose memory does not respond does not end (R51). -/
theorem execBootComplete_stays (hm : s.power.memFail.isSome = true) : exec (.bootComplete t) s = .next (s.upTo t) := by
  have hc : ¬((s.upTo t).dev = .boot ∧ (s.upTo t).power.memFail.isNone = true) := by simp [Option.isSome_iff_ne_none.1 hm]
  rw [execBootComplete_eq, if_neg hc]

/-- The end of the clearing lets DRAM be used (R124). -/
theorem execDramClearComplete_clears (hu : s.upTo t = u) (ha : u.awake = true) (hb : u.dev ≠ .boot) :
    exec (.dramClearComplete t) s = .next (u.modPower fun p => { p with dramBusy := false }) := by
  have hc : (u.awake && u.dev != .boot) = true := by simp [ha, hb]
  change execDramClearComplete t s = _
  simp only [execDramClearComplete, hu, hc, if_true]

end Sys2Proof.Machine

namespace Sys2Proof.Proofs
open Sys2Proof.Machine

/-- Settles O7: the crystal's rows by their conditions, and the end of BOOT by what its records leave alone. -/
theorem bootReachesUnconfigured : Obligations.BootReachesUnconfigured := by
  unfold Obligations.BootReachesUnconfigured
  refine ⟨?crystal, ?boot⟩
  case crystal =>
    intro t s u
    exact ⟨execXtal32Qualified_qualifies rfl, execXtal32Fail_raises (x := .stopped) rfl, execXtal32Fail_raises (x := .notQualified) rfl, rfl⟩
  case boot =>
    intro t s u
    exact ⟨execBootComplete_unconfigured, fun _ => execBootComplete_stays, execDramClearComplete_clears rfl⟩

end Sys2Proof.Proofs
end

section
/-! SUPPORT. The dead time of a leg (R154, R155) and the transitions of a gate channel (R144 to R147, R158, R203). -/
namespace Sys2Proof.Machine

/-! ### The dead time (R154, R155) -/

section
variable {g : GateCh} {s : State} {ch now a : Nat}

theorem GateCh.at_due (h : g.onAt = some a) (ha : a ≤ now) : (g.at now).out = .on := by
  simp [GateCh.at, h, ha, GateCh.turnOn]

theorem GateCh.at_waits (h : g.onAt = some a) (ha : now < a) : g.at now = g := by
  simp [GateCh.at, h, Nat.not_le.2 ha]

/-- An on command on a channel that is off waits until it is free. -/
theorem GateCh.drive_on_of_off {free band : Nat} (ho : g.out = .off) (hn : g.onAt = none) :
    g.drive .on now free band = { g with onAt := some (max now free), band := band }.at now := by
  simp [GateCh.drive, ho, hn]

/-- An on command that has reached its channel by a tick does not reach it again. -/
theorem GateCh.at_at (g : GateCh) (now : Tick) : (g.at now).at now = g.at now := by
  obtain h | ⟨a, h⟩ := Option.eq_none_or_eq_some g.onAt
  · simp [GateCh.at, h]
  · by_cases ha : a ≤ now <;> simp [GateCh.at, h, ha, GateCh.turnOn]

theorem State.gate_driveGates (hc : ch < 28) : s.driveGates.gate ch = (s.driven ch).at s.time := by
  simp [State.gate, State.driveGates, vget, hc]

/-- A phase channel is free its dead time after its partner's last off command. -/
theorem State.freeAt_of_offCmd (hc : ch < 24) (ha : s.offCmd (partner ch) = some a) : s.freeAt ch = a + s.deadTicks ch := by
  simp [State.freeAt, isBk, Nat.not_le.2 hc, ha]

/-- A phase channel that is called on from off waits for its partner's dead time. -/
theorem State.gate_driveGates_of_on (hc : ch < 24) (ht : s.gateTarget ch = .on) (ho : (s.gate ch).out = .off) (hn : (s.gate ch).onAt = none)
    (ha : s.offCmd (partner ch) = some a) : s.driveGates.gate ch =
      { s.gate ch with onAt := some (max s.time (a + s.deadTicks ch)), band := (s.stack (chStack ch)).band }.at s.time := by
  rw [State.gate_driveGates (by omega), State.driven, ht, GateCh.drive_on_of_off ho hn, State.freeAt_of_offCmd hc ha, GateCh.at_at]

/-- Within the dead time the channel stays off with its on command waiting. -/
theorem State.driveGates_waits (hc : ch < 24) (ht : s.gateTarget ch = .on) (ho : (s.gate ch).out = .off) (hn : (s.gate ch).onAt = none)
    (ha : s.offCmd (partner ch) = some a) (hd : s.time < a + s.deadTicks ch) :
    (s.driveGates.gate ch).out = .off ∧ (s.driveGates.gate ch).onAt = some (a + s.deadTicks ch) := by
  rw [State.gate_driveGates_of_on hc ht ho hn ha, Nat.max_eq_right hd.le, GateCh.at_waits rfl hd]
  exact ⟨ho, rfl⟩

/-- After the dead time the on command reaches the channel at once. -/
theorem State.driveGates_on (hc : ch < 24) (ht : s.gateTarget ch = .on) (ho : (s.gate ch).out = .off) (hn : (s.gate ch).onAt = none)
    (ha : s.offCmd (partner ch) = some a) (hd : a + s.deadTicks ch ≤ s.time) : (s.driveGates.gate ch).out = .on := by
  rw [State.gate_driveGates_of_on hc ht ho hn ha, Nat.max_eq_left hd]
  exact GateCh.at_due rfl le_rfl

end

/-! ### A channel without a command (R60, R145) -/

section
variable (g : GateCh) (now : Tick)

theorem GateCh.noCommand_noCmd : (g.noCommand now).noCmd = true := by unfold GateCh.noCommand; split <;> rfl

theorem GateCh.noCommand_of_off (h : g.out = .off) : (g.noCommand now).out = .off ∧ (g.noCommand now).clamp = (g.mode != 2) := by
  simp [GateCh.noCommand, h]

theorem GateCh.noCommand_of_on (h : g.out = .on) : (g.noCommand now).out = .off ∧ (g.noCommand now).clamp = (g.mode != 2) := by
  simp [GateCh.noCommand, GateCh.drive, h]

/-- Without a command no channel is on. -/
theorem GateCh.noCommand_out_ne_on : (g.noCommand now).out ≠ .on := by
  cases h : g.out
  case on => simp [(g.noCommand_of_on now h).1]
  all_goals simp [GateCh.noCommand, h]

end

/-! ### The transitions, each row stated of the state `u` at its stamp -/

variable {s u : State} {t : Tick} (hu : s.upTo t = u) {ch : Fin 28}
include hu

/-- A crossing that the carrier can make gives its phase the requests of its side (R203, R205). -/
theorem execPwmEdge_requests {k : Fin 4} {e : PwmEdgeInput} (hs : u.sealedCfg.isSome = true) (he : u.enabled k = true)
    (hr : u.clockRuns = true) (hx : u.crosses k t e = true) : exec (.pwmEdge t k e) s =
      .next (((u.feOverrun k).cmpActivate k).pwmRequest k e.phase e.counter e.rising).settle := by
  have hc : (u.sealedCfg.isSome && u.enabled k && u.clockRuns && u.crosses k t e) = true := by simp [hs, he, hr, hx]
  change execPwmEdge t k e s = _
  simp only [execPwmEdge, hu, hc, if_true]

theorem execNoCommandTimeout_eq : exec (.noCommandTimeout t ch) s = .next (u.modGate ch fun g => g.noCommand u.time).settle := by
  subst hu; rfl

/-- T_PL_MAX ends a plateau (R144). -/
theorem execPlateauTimeout_on (ht : (u.gate ch).t0 + u.cu (0x20 + chStack ch) 16 1 ≤ t) (hp : (u.gate ch).phase = .onPlateau) :
    exec (.plateauTimeout t ch) s = .next (u.modGate ch fun g => { g with phase := .onTail }) := by
  change execPlateauTimeout t ch s = _
  simp only [execPlateauTimeout, hu, ht, hp, if_true]

theorem execPlateauTimeout_off (ht : (u.gate ch).t0 + u.cu (0x20 + chStack ch) 16 1 ≤ t) (hp : (u.gate ch).phase = .offPlateau) :
    exec (.plateauTimeout t ch) s = .next (u.modGate ch fun g => { g with phase := .offTail }) := by
  change execPlateauTimeout t ch s = _
  simp only [execPlateauTimeout, hu, ht, hp, if_true]

/-- Outside mode 1 a measured turn-on begins its tail without adapting (R146, R147). -/
theorem execTransitionMeasured_on {ns : Nat} (hp : (u.gate ch).phase = .onPlateau) (hm : (u.gate ch).mode ≠ 1) (h0 : (u.gate ch).t0 ≤ t)
    (ht : t < (u.gate ch).t0 + u.cu (0x20 + chStack ch) 16 1) :
    exec (.transitionMeasured t ch .on ns) s = .next (u.modGate ch fun g => { g with phase := .onTail, measOn := ns }) := by
  have hn : (SwitchEdge.on == SwitchEdge.on) = true := rfl
  have ht' : t < (u.gate ch).t0 + getN (u.cfg (0x20 + chStack ch)) 16 1 := ht
  change execTransitionMeasured t ch .on ns s = _
  simp only [execTransitionMeasured, hu, hn, hp, h0, ht', hm, ne_eq, not_false_eq_true, and_self, if_true]

theorem execTransitionMeasured_off {ns : Nat} (hp : (u.gate ch).phase = .offPlateau) (hm : (u.gate ch).mode ≠ 1) (h0 : (u.gate ch).t0 ≤ t)
    (ht : t < (u.gate ch).t0 + u.cu (0x20 + chStack ch) 16 1) :
    exec (.transitionMeasured t ch .off ns) s = .next (u.modGate ch fun g => { g with phase := .offTail, measOff := ns }) := by
  have hn : (SwitchEdge.off == SwitchEdge.on) = false := rfl
  have ht' : t < (u.gate ch).t0 + getN (u.cfg (0x20 + chStack ch)) 16 1 := ht
  change execTransitionMeasured t ch .off ns s = _
  simp only [execTransitionMeasured, hu, hn, hp, h0, ht', hm, ne_eq, not_false_eq_true, and_self, Bool.false_eq_true, if_true, if_false]

theorem execHoldSwitchEngage_eq : exec (.holdSwitchEngage t ch) s =
    .next (u.modGate ch fun g => if g.out = .on ∧ g.mode ≠ 2 then { g with hold := true, phase := .rest } else g) := by
  subst hu; rfl

/-- The Miller clamp engages on a channel that is off, and ends a soft turn-off (R144, R158). -/
theorem execMillerClampEngage_engages (hm : (u.gate ch).mode ≠ 2) (ho : (u.gate ch).out = .off ∨ (u.gate ch).out = .softOff) :
    exec (.millerClampEngage t ch) s = .next (u.modGate ch fun g => { g with out := .off, clamp := true, phase := .rest }).settle := by
  subst hu; exact congrArg Host.Outcome.next (if_pos ⟨hm, ho⟩)

/-- Mode 2 has no clamp (R145). -/
theorem execMillerClampEngage_mode2 (hm : (u.gate ch).mode = 2) : exec (.millerClampEngage t ch) s = .next u := by
  subst hu; exact congrArg Host.Outcome.next (if_neg fun ⟨hn, _⟩ => hn hm)

/-- BOOST_SOFT after it began, the soft turn-off of a booster ends (R158). -/
theorem execBoostSoftEnd_ends (hm : (u.gate ch).mode = 2) (ho : (u.gate ch).out = .softOff)
    (ht : (u.gate ch).softT0 + 10 * u.cu (0x20 + chStack ch) 26 1 ≤ t) :
    exec (.boostSoftEnd t ch) s = .next (u.modGate ch fun g => { g with out := .off, phase := .rest, ghAt := u.time }).settle := by
  subst hu; exact congrArg Host.Outcome.next (if_pos ⟨hm, ho, .inl ht⟩)

end Sys2Proof.Machine

namespace Sys2Proof.Proofs
open Sys2Proof.Machine

/-- Settles O40: a channel called on waits for its partner's dead time, and each row of a transition by its own lemma at the state of its
stamp. -/
theorem gateTransitionsProceed : Obligations.GateTransitionsProceed := by
  unfold Obligations.GateTransitionsProceed
  refine ⟨fun s ch a => ⟨Nat.le_max_left .., State.driveGates_waits ch.isLt, State.driveGates_on ch.isLt, GateCh.at_due⟩, ?transitions⟩
  intro t k e ch ns s u g v on
  exact ⟨execPwmEdge_requests rfl, execNoCommandTimeout_eq rfl,
    ⟨g.noCommand_noCmd u.time, g.noCommand_out_ne_on u.time, fun h => h.elim (g.noCommand_of_on u.time) (g.noCommand_of_off u.time)⟩,
    execPlateauTimeout_on rfl, execPlateauTimeout_off rfl, execTransitionMeasured_on rfl, execTransitionMeasured_off rfl,
    execHoldSwitchEngage_eq rfl, execMillerClampEngage_engages rfl, execMillerClampEngage_mode2 rfl, execBoostSoftEnd_ends rfl⟩

end Sys2Proof.Proofs
end

section
/-! SUPPORT. The supply (R65, R66), what a reset leaves (R77) and the end of its holds (R70, R74). -/
namespace Sys2Proof.Machine

variable {s r u : State} {t : Tick} {vin : Nat}

/-! ### The holds end (R65, R70, R372) -/

/-- Device time stands in OFF (R80). -/
theorem State.upTo_of_off (h : s.dev = .off) (t : Tick) : s.upTo t = s := by simp [State.upTo, State.clockRuns, h]

/-- VIN_ON out of OFF begins RESET with POR, and with PIN while RESET_N is held low. -/
theorem execVinOn_of_off (ok : Bool) (h : s.dev = .off) : exec (.vinOn t ok) s = .next (({ s with dev := .inReset }.modPower fun p =>
    { p with nextCause := if p.rstPin then 3 else 1, vinHold := false, ovrHold := false }).selfTest ok) := by
  change execVinOn t ok s = _
  simp only [execVinOn, State.upTo_of_off h, h]

theorem execVinOn_of_hold (ok : Bool) (h : s.dev = .inReset) (hv : s.power.vinHold = true) :
    exec (.vinOn t ok) s = .next ((s.modPower fun p => { p with vinHold := false }).selfTest ok) := by
  change execVinOn t ok s = _
  simp only [execVinOn, State.upTo_of_inReset h, h, hv, if_true]

theorem execVinOvrRelease_of_hold (ok : Bool) (h : s.dev = .inReset) (ho : s.power.ovrHold = true) :
    exec (.vinOvrRelease ⟨t, ok⟩) s = .next ((s.modPower fun p => { p with ovrHold := false }).selfTest ok) := by
  change execVinOvrRelease ⟨t, ok⟩ s = _
  simp only [execVinOvrRelease, State.upTo_of_inReset h, h, ho, and_self, if_true]

theorem execVinOvrRelease_of_running (ok : Bool) (h : s.dev ≠ .inReset) :
    exec (.vinOvrRelease ⟨t, ok⟩) s = .next ((s.upTo t).modPower fun p => { p with ovrHold := false }) := by
  have hd : ¬((s.upTo t).dev = .inReset ∧ (s.upTo t).power.ovrHold = true) := fun hd => h (s.upTo_dev t ▸ hd.1)
  exact congrArg Host.Outcome.next (if_neg hd)

/-! ### What a reset leaves (R77) -/

/-- What R77 says of the state `r` that a reset of `s` leaves: what is gone, what starts afresh and what is kept. -/
def State.Left (s r : State) : Prop :=
  r.blocks = [] ∧ r.sealedCfg = none ∧ r.owner = none ∧ r.safety.debug = false ∧ r.faults.objs = [] ∧ r.mem = [] ∧
    (∀ c, (r.port c).credits = 8) ∧ r.faults.hist = s.faults.hist ∧ r.upd.counter = s.upd.counter ∧ r.upd.recs = s.upd.recs ∧
    (s.upd.session ≠ 2 → r.upd.slots = s.upd.slots) ∧ r.safety.log = s.safety.log ∧ r.safety.stored = s.safety.stored ∧
    r.pending = s.pending

theorem State.port_cleared (d : DevState) (c : Source) : (s.cleared d).port c = State.reset.port c := rfl

theorem State.cleared_left (d : DevState) : s.Left (s.cleared d) := by
  refine ⟨rfl, rfl, rfl, rfl, rfl, rfl, fun c => ?credits, rfl, rfl, rfl, fun h => if_neg h, rfl, rfl, rfl⟩
  rw [State.port_cleared]
  cases c <;> rfl

/-- A reset of a device that runs leaves what R77 says, whatever hold it begins. -/
theorem State.enterReset_left (b : BitVec 32) (f : Power → Power) (h : s.dev ≠ .off) (hr : s.dev ≠ .inReset) :
    s.Left ((s.enterReset b).modPower f) := by
  rw [State.enterReset, if_neg h, if_neg hr]
  exact s.cleared_left .inReset

/-- What a reset leaves does not depend on the moment it begins at. -/
theorem State.left_upTo : (s.upTo t).Left r ↔ s.Left r := by
  simp only [State.Left, State.upTo_faults, State.upTo_upd, State.upTo_safety, State.upTo_pending]

section
variable (h : s.dev ≠ .off)
include h

theorem State.upTo_dev_ne_off : (s.upTo t).dev ≠ .off := by rwa [State.upTo_dev]

theorem execVinReset_resets : exec (.vinReset t) s = .next (((s.upTo t).enterReset 4).modPower fun p => { p with vinHold := true }) :=
  congrArg Host.Outcome.next (if_neg (State.upTo_dev_ne_off h))

theorem execVinOvr_resets : exec (.vinOvr t) s = .next (((s.upTo t).enterReset 256).modPower fun p => { p with ovrHold := true }) :=
  congrArg Host.Outcome.next (if_neg (State.upTo_dev_ne_off h))

/-- Below its least supply the always-on domain stops: OFF (R65). -/
theorem execAonMin_off : exec (.aonMin t) s = .next ((((s.upTo t).cleared .off).modPower fun p =>
    { p with xtalOk := false, vinHold := false, ovrHold := false }).modSafety fun x => { x with failures := 0, lockedTo := none }) :=
  congrArg Host.Outcome.next (if_neg (State.upTo_dev_ne_off h))

/-- VIN_RESET, VIN_OVR and AON_MIN on a device that runs: RESET with PFAIL or VINOV and its hold, or OFF, each with what R77 leaves. -/
theorem execSupplyLost_resets (hr : s.dev ≠ .inReset) :
    ∃ v w x, exec (.vinReset t) s = .next v ∧ exec (.vinOvr t) s = .next w ∧ exec (.aonMin t) s = .next x ∧
      v.dev = .inReset ∧ v.power.vinHold = true ∧ v.power.nextCause = 4#32 ∧
      w.dev = .inReset ∧ w.power.ovrHold = true ∧ w.power.nextCause = 256#32 ∧ x.dev = .off ∧ ∀ r ∈ [v, w, x], s.Left r := by
  have ho : (s.upTo t).dev ≠ .off := State.upTo_dev_ne_off h
  have hi : (s.upTo t).dev ≠ .inReset := by rwa [State.upTo_dev]
  obtain ⟨hd, hn, _⟩ := State.enterReset_running 4#32 ho hi
  obtain ⟨hd', hn', _⟩ := State.enterReset_running 256#32 ho hi
  refine ⟨_, _, _, execVinReset_resets h, execVinOvr_resets h, execAonMin_off h, hd, rfl, hn, hd', rfl, hn', rfl, ?left⟩
  simp only [List.mem_cons, List.not_mem_nil, or_false, forall_eq_or_imp, forall_eq]
  exact ⟨State.left_upTo.1 (State.enterReset_left _ _ ho hi), State.left_upTo.1 (State.enterReset_left _ _ ho hi),
    State.left_upTo.1 ((s.upTo t).cleared_left .off)⟩

end

/-! ### The supply of a device that runs (R65, R66, R438) -/

theorem execVinLow_raises (hu : s.upTo t = u) (ha : u.awake = true) : exec (.vinLow t vin) s =
    .next ((u.modPower fun p => { p with vin := vin, vinHigh := false }).raise 0x8120 2 0 (le 2 vin)) := by
  subst hu
  exact congrArg Host.Outcome.next ((if_neg (State.dev_ne_off_of_awake ha)).trans (State.aonRaise_of_awake _ ha (by decide)))

theorem execVinHigh_raises (hu : s.upTo t = u) (ha : u.awake = true) : exec (.vinHigh t vin) s =
    .next ((u.modPower fun p => { p with vin := vin, vinHigh := true }).raise 0x8122 2 0 (le 2 vin)) := by
  subst hu
  exact congrArg Host.Outcome.next ((if_neg (State.dev_ne_off_of_awake ha)).trans (State.aonRaise_of_awake _ ha (by decide)))

theorem execVinHighLasting_lapses (hu : s.upTo t = u) (ha : u.awake = true) (hv : u.power.vinHigh = true) :
    exec (.vinHighLasting t) s = .next (u.lapseFault 0x3F 0x8122) := by
  subst hu
  exact congrArg Host.Outcome.next (if_pos (Bool.and_eq_true_iff.2 ⟨ha, hv⟩))

theorem State.stopEvent_withArray (k kind cause) : (s.stopEvent k kind cause).withArray r = s.withArray r := s.info_withArray ..

/-- A stop reaction changes what records and a settling of the array change, and nothing else. -/
theorem State.stopReact_withArray (k kind cause) : (s.stopReact k kind cause).withArray r = s.withArray r := by
  simp only [State.stopReact, State.ite_withArray, State.settle_withArray, State.stopEvent_withArray, State.modStack_withArray, ite_self]

theorem State.stopAll_withArray (ks kind cause) : (s.stopAll ks kind cause).withArray r = s.withArray r :=
  foldl_kept (g := fun v => v.withArray r) (fun v k => v.stopReact_withArray k kind cause) ks s

/-- Stop reactions leave the device state to what follows them. -/
theorem State.stopAll_dev (ks kind cause) : (s.stopAll ks kind cause).dev = s.dev :=
  (congrArg State.dev (s.stopAll_withArray (r := s) ks kind cause) :)

/-- POWER_FAIL is carried out at once where the firmware runs beyond BOOT (R66; assumption 108). -/
theorem State.aonRaise_powerFail (d : Bytes) (ha : s.awake = true) (hb : s.dev ≠ .boot) : s.aonRaise 0x8121 d = s.powerDown d := by
  simp [State.aonRaise, State.aonEvent, ha, hb]

/-- The record of POWER_FAIL names the state that the stop reactions found the device in. -/
theorem State.powerDown_eq (d : Bytes) : s.powerDown d = (((s.modPower fun p => { p with powerFail := true }).stopAll
    (s.enStacks.filter fun k => (s.stack k).switching) .select 0x8121).raise 0x8121 2 0 (d ++ le 1 s.dev.code)).flushHist := by
  simp only [State.powerDown, State.stopAll_dev, State.modPower_dev]

theorem execPowerFail_stops (hu : s.upTo t = u) (ha : u.awake = true) (hb : u.dev ≠ .boot) : exec (.powerFail t vin) s =
    .next (((((u.modPower fun p => { p with vin := vin, powerFail := true, vinHigh := false }).stopAll
      (u.enStacks.filter fun k => (u.stack k).switching) .select 0x8121).raise 0x8121 2 0 (le 2 vin ++ le 1 u.dev.code))).flushHist) := by
  subst hu
  refine congrArg Host.Outcome.next ((if_neg (State.dev_ne_off_of_awake ha)).trans ?_)
  exact (State.aonRaise_powerFail (s := (s.upTo t).modPower _) _ ha hb).trans (State.powerDown_eq _)

end Sys2Proof.Machine

namespace Sys2Proof.Proofs
open Sys2Proof.Machine

/-- Settles O4: the resets leave what `State.cleared` leaves, and the stop reactions of POWER_FAIL leave the device state that its record
names. -/
theorem supplySupervised : Obligations.SupplySupervised := by
  unfold Obligations.SupplySupervised
  refine ⟨fun t ok s => ⟨execVinOn_of_off ok, execVinOn_of_hold ok, execVinOvrRelease_of_hold ok, execVinOvrRelease_of_running ok⟩,
    fun t s => execSupplyLost_resets, ?running⟩
  intro t vin s u
  exact ⟨execVinLow_raises rfl, execVinHigh_raises rfl, execVinHighLasting_lapses rfl, execPowerFail_stops rfl⟩

end Sys2Proof.Proofs
end

section
/-! SUPPORT. The first step of the entry into WATCH (R82): each of its operations leaves device time and the credits of every source but Alcia's,
whose binding ends, as they were. -/
namespace Sys2Proof.Machine

variable {s : State} {t : Tick} {c : Source} {q : Nat} {p : Bytes}

/-- Device time and the credits of a source. -/
def State.timeCredits (s : State) (c : Source) : Tick × Nat := (s.time, (s.port c).credits)

section
variable {v : State} (h : v.timeCredits c = s.timeCredits c)
include h

theorem State.time_of_timeCredits : v.time = s.time := congrArg Prod.fst h

theorem State.credits_of_timeCredits : (v.port c).credits = (s.port c).credits := congrArg Prod.snd h

end

theorem State.ite_timeCredits {v : State} (p : Prop) [Decidable p] :
    (if p then s else v).timeCredits c = if p then s.timeCredits c else v.timeCredits c := apply_ite (fun v => State.timeCredits v c) p s v

/-- What changes only records and nothing of a port's credits and replies leaves both. -/
theorem State.timeCredits_of_withRecords {v : State} (h : v.withRecords s = s.withRecords s) (ho : (v.port c).owing = (s.port c).owing) :
    v.timeCredits c = s.timeCredits c :=
  Prod.ext (congrArg State.time h :) (congrArg Prod.fst ho)

theorem State.recState_timeCredits (n k) : (s.recState n k).timeCredits c = s.timeCredits c :=
  State.timeCredits_of_withRecords (s.recState_withRecords n k) (s.recState_owing c n k)

theorem State.post_timeCredits (code cls lv o b) : (s.post code cls lv o b).timeCredits c = s.timeCredits c :=
  State.timeCredits_of_withRecords (s.post_withRecords code cls lv o b) (s.post_owing c code cls lv o b)

theorem State.storeFor_timeCredits (d e) : (s.storeFor d e).timeCredits c = s.timeCredits c :=
  State.timeCredits_of_withRecords (s.storeFor_withRecords d e) (s.storeFor_owing d c e)

theorem State.recEvent_timeCredits (code cls) : (s.recEvent code cls).timeCredits c = s.timeCredits c :=
  State.timeCredits_of_withRecords (s.recEvent_withRecords code cls) (s.recEvent_owing c code cls)

theorem State.modAl_timeCredits (p f) : (s.modAl p f).timeCredits c = s.timeCredits c := rfl

/-- A change of a port that leaves its credits leaves every source's. -/
theorem State.modPort_timeCredits {d : Source} {f : Port → Port} (h : d = c → ∀ p, (f p).credits = p.credits) :
    (s.modPort d f).timeCredits c = s.timeCredits c := by
  refine Prod.ext rfl ?_
  rw [State.timeCredits, State.port_modPort]
  split
  · exact h (Eq.symm ‹_›) _
  · rfl

/-! ### Events without a reaction (R429, R430) -/

theorem State.faults_of_withRecords {v r : State} (h : v.withRecords r = s.withRecords r) : v.faults = s.faults := (congrArg State.faults h :)

/-- An event of class 0 is its record and nothing else. -/
theorem State.raise_of_class_zero {code : Nat} {b : Bytes} (h : evClass code s.dev b = 0) (lv o) :
    s.raise code lv o b = s.info code lv o b := by
  have hl : (s.info code lv o b).faults = s.faults := State.faults_of_withRecords (s.info_withRecords (r := s) code lv o b)
  have ho : s.occur code lv o b = ⟨true, false, s.info code lv o b⟩ := by
    rw [State.occur]; dsimp only; rw [if_pos h, State.info]
  simp only [State.raise, State.raiseV, ho, h, State.react, hl, Bool.not_true, Bool.false_eq_true, if_false, if_true]

/-! ### The operations of the entry (R82) -/

theorem State.dropOwner_timeCredits (d) : (s.dropOwner d).timeCredits c = s.timeCredits c := by
  unfold State.dropOwner State.endSession
  split
  · split <;> rfl
  · rfl

theorem State.cyclicOff_timeCredits (d) : (s.cyclicOff d).timeCredits c = s.timeCredits c := by
  unfold State.cyclicOff
  split
  · rfl
  · exact State.modPort_timeCredits fun _ _ => rfl

theorem State.txDone_timeCredits (p f n w) : (s.txDone p f n w).timeCredits c = s.timeCredits c := by
  unfold State.txDone
  split
  · rfl
  · rw [State.recEvent_timeCredits, State.storeFor_timeCredits, State.ite_timeCredits, State.modAl_timeCredits, ite_self]

theorem State.returnUsers_timeCredits (p n) : (s.returnUsers p n).timeCredits c = s.timeCredits c :=
  foldl_kept (g := fun v => v.timeCredits c) (fun v f => v.txDone_timeCredits p f n _) _ _

theorem State.netEvent_timeCredits {code p : Nat} {d : Bytes} (h : evClass code s.dev d = 0) :
    (s.netEvent code p d).timeCredits c = s.timeCredits c := by
  rw [State.netEvent, State.raise_of_class_zero h, State.info, State.post_timeCredits]

/-- The end of a binding gives back the credits of Alcia only (R509). -/
theorem State.unbind_timeCredits (h : c ≠ .alcia) : s.unbind.timeCredits c = s.timeCredits c := by
  unfold State.unbind
  split
  · rfl
  · rw [State.netEvent_timeCredits rfl, foldl_kept (g := fun v => v.timeCredits c) fun v q => v.modAl_timeCredits q _]
    exact State.modPort_timeCredits fun hd => absurd hd.symm h

theorem State.timeInvalid_timeCredits (p) : (s.timeInvalid p).timeCredits c = s.timeCredits c := by
  have hf : ∀ v : State, ([0, 1].foldl (fun s q => if (s.ownPrio q).isNone then s.modAl q fun x => { x with sending := false } else s)
      v).timeCredits c = v.timeCredits c := foldl_kept (g := fun v => v.timeCredits c)
    (fun v q => by rw [State.ite_timeCredits, State.modAl_timeCredits, ite_self]) _
  rw [State.timeInvalid, State.ite_timeCredits, State.netTimeEvent, State.netEvent_timeCredits rfl, hf, ite_self]
  rfl

/-- The state without an owner, whose safety session has ended with its ownership (R104, R397). -/
def State.unowned (s : State) : State := s.owner.elim s s.dropOwner

/-- What the first step of the entry does once nobody owns motion. -/
def State.watchLeave (s : State) : State :=
  let v := (((([Source.host, .app, .alcia, .service].foldl State.cyclicOff s).returnUsers 0 3).returnUsers 1 3).unbind)
  let v := v.timeInvalid ((v.rolePort false).getD 0)
  let v := if v.pair.state = 0 then v else v.modPair fun x => { x with leaving := true, query := none }
  if v.recorder.state = 1 ∨ v.recorder.state = 2 then v.recState 3 4 else v

theorem State.watchStep1_eq : s.watchStep1 = s.unowned.watchLeave := by
  cases h : s.owner <;> simp only [State.watchStep1, State.watchLeave, State.unowned, h, Option.elim]

theorem State.unowned_timeCredits : s.unowned.timeCredits c = s.timeCredits c := by
  unfold State.unowned
  cases s.owner with
  | none => rfl
  | some o => exact State.dropOwner_timeCredits o

/-- The first step leaves device time and the credits of every source but Alcia's. -/
theorem State.watchLeave_timeCredits (h : c ≠ .alcia) : s.watchLeave.timeCredits c = s.timeCredits c := by
  have hp : ∀ (v : State) f, (if v.pair.state = 0 then v else v.modPair f).timeCredits c = v.timeCredits c := fun v f => by
    rw [State.ite_timeCredits]; exact ite_self _
  rw [State.watchLeave, State.ite_timeCredits, State.recState_timeCredits, ite_self, hp, State.timeInvalid_timeCredits,
    State.unbind_timeCredits h, State.returnUsers_timeCredits, State.returnUsers_timeCredits,
    foldl_kept (g := fun v => v.timeCredits c) fun v d => v.cyclicOff_timeCredits d]

/-! ### ENTER_WATCH (R81) -/

/-- Charging a packet changes nothing that R81 asks. -/
@[simp] theorem State.charged_mayWatch (c : Source) : (s.charged c).mayWatch = s.mayWatch := by rw [s.charged_eq c]; rfl

theorem State.port_modWatch (f d) : (s.modWatch f).port d = s.port d := rfl

theorem opEnterWatch_accepts (h : s.mayWatch = true) :
    opEnterWatch s = .ok (s.watchStep1.modWatch fun w => { w with entry := some s.time, waking := none }) := if_pos h

theorem opEnterWatch_refuses (h : s.mayWatch = false) : opEnterWatch s = .no s eState := if_neg (by simp [h])

/-- ENTER_WATCH where R81 accepts it begins the entry, at the device time the command came at. -/
theorem execEnterWatch_accepts {v : State} (hv : v = ((s.upTo t).charged c).unowned.watchLeave) (hs : (s.upTo t).takes c 0x0107 p)
    (hm : (s.upTo t).mayWatch = true) (hc : c ≠ .alcia) :
    exec (.enterWatch t c q p) s = .next ((v.modWatch fun w => { w with entry := some v.time, waking := none }).answered c q) := by
  have hm' : ((s.upTo t).charged c).mayWatch = true := (State.charged_mayWatch c).trans hm
  have hk : v.timeCredits c = ((s.upTo t).charged c).timeCredits c := by
    rw [hv, State.watchLeave_timeCredits hc, State.unowned_timeCredits]
  rw [State.time_of_timeCredits hk]
  refine runOp_of_ok (h := opEnterWatch) hs ?_ ?_
  · rw [opEnterWatch_accepts hm', State.watchStep1_eq, hv]
  · rw [State.port_modWatch]
    exact Nat.le_of_eq (State.credits_of_timeCredits hk)

theorem execEnterWatch_refuses (hs : (s.upTo t).takes c 0x0107 p) (hm : (s.upTo t).mayWatch = false) :
    exec (.enterWatch t c q p) s = .next (((s.upTo t).charged c).reject c q eState) := by
  have hm' : ((s.upTo t).charged c).mayWatch = false := (State.charged_mayWatch c).trans hm
  exact runOp_of_no (h := opEnterWatch) hs (opEnterWatch_refuses hm') (by decide)

end Sys2Proof.Machine

namespace Sys2Proof.Proofs
open Sys2Proof.Machine

/-- Settles O8: the first step leaves the credits of the command's source, so that its reply is owed, and device time, which the entry notes. -/
theorem watchEntryBegins : Obligations.WatchEntryBegins := by
  unfold Obligations.WatchEntryBegins
  intro t c q p s u w owned left invalid leaving v
  have ho : owned = w.unowned := by
    simp only [owned, State.unowned]
    cases w.owner <;> rfl
  have hv : v = w.unowned.watchLeave := by simp only [v, leaving, invalid, left, ho, State.watchLeave]
  clear_value v
  exact ⟨execEnterWatch_accepts hv, execEnterWatch_refuses⟩

end Sys2Proof.Proofs
end

section
/-! SUPPORT. The end of an update session: activation (R541), confirmation (R542, R534), UPDATE_STATUS (R547), the timeouts (R540, R544) and the
erasure of a slot (R539, R548). -/
namespace Sys2Proof.Machine

variable {s : State} {t : Tick} {c : Source} {op q : Nat} {p : Bytes}

/-! ### Packets of an update session (R538) -/

@[simp] theorem State.charged_kind (c : Source) : (s.charged c).upd.kind = s.upd.kind := by rw [s.charged_eq c]
@[simp] theorem State.charged_holder (c : Source) : (s.charged c).upd.holder = s.upd.holder := by rw [s.charged_eq c]
@[simp] theorem State.charged_header (c : Source) : (s.charged c).upd.header = s.upd.header := by rw [s.charged_eq c]
@[simp] theorem State.charged_mayActivateImage (c : Source) : (s.charged c).mayActivateImage = s.mayActivateImage := by rw [s.charged_eq c]; rfl
@[simp] theorem State.charged_judgedSet (c : Source) : (s.charged c).judgedSet = s.judgedSet := by rw [s.charged_eq c]; rfl
@[simp] theorem State.charged_compatible (c : Source) : (s.charged c).compatible = s.compatible := by rw [s.charged_eq c]; rfl

/-- A packet of this device's own session, other than its offer, is carried out by its opcode, and LAST is OK where the opcode accepts it. -/
theorem State.submitUpd_of_ok {v : State} {d : Bytes} (hs : s.takes c op p) (hr : s.upd.session ≠ 3) (ho : op ≠ 0x0902)
    (hv : opUpdate op 4 q p (s.charged c) = .ok v d) : s.submitUpd c op q p = (v.answered c q d).lastUpd 0 := by
  obtain ⟨hl, hc, hn⟩ := hs
  have hk : (s.countPacket.port c).credits ≠ 0 := Nat.ne_of_gt hc
  have hf : ¬(c = .service ∧ (s.countPacket.takeCredit c).upd.session = 3 ∧ 0x0903 ≤ op) := fun h => hr h.2.1
  have hw : (s.countPacket.takeCredit c).noteRecv c = s.charged c := rfl
  simp only [State.submitUpd, hl, hk, State.carryUpd, if_neg hf, hw, ho, s.charged_admit c, hn, hv, Rep.ok, Bool.not_true, Bool.false_eq_true,
    false_and, if_false, if_true]
  rfl

/-! ### UPDATE_ACTIVATE (R541) -/

theorem opUpdate_activate (holder : Nat) : opUpdate 0x0905 holder q p s = opUpdateActivate s := rfl

/-- Outside SILL the service port's activation writes a record with the other slot on trial, and its reply brings the reset. -/
theorem opUpdateActivate_service (hm : s.mayActivateImage = true) (hc : s.compatible s.judgedSet s.upd.kind s.upd.header = true)
    (hd : s.dev ≠ .sill) (hh : s.upd.holder = 4) : opUpdateActivate s = .ok (
      let v := (s.writeRec fun r => { r with slots := r.slots ^^^ (1#4 <<< s.upd.kind), trial := s.upd.kind, tries := 3 }).updEvent 0x8902
        (le 1 s.upd.kind ++ le 1 (1 - s.bootRec.bit s.upd.kind) ++ zeros 2 ++ hdrVersion s.upd.header)
      (v.modPower fun x => { x with resetDue := x.resetDue ++ [(.service, v.time, none)] }).closeSession true) := by
  have hd' : (s.dev == .sill) = false := beq_eq_false_iff_ne.2 hd
  simp [opUpdateActivate, hm, hc, hd', hh]

theorem execUpdateActivate_service (hs : (s.upTo t).takes .service 0x0905 p) (hr : (s.upTo t).upd.session ≠ 3) (hd : (s.upTo t).dev ≠ .sill)
    (hm : (s.upTo t).mayActivateImage = true)
    (hc : (s.upTo t).compatible (s.upTo t).judgedSet (s.upTo t).upd.kind (s.upTo t).upd.header = true) (hh : (s.upTo t).upd.holder = 4) :
    exec (.updateActivate t .service q p) s = .next (
      let u := s.upTo t
      let v := ((u.charged .service).writeRec fun r => { r with slots := r.slots ^^^ (1#4 <<< u.upd.kind), trial := u.upd.kind, tries := 3 }).updEvent
        0x8902 (le 1 u.upd.kind ++ le 1 (1 - u.bootRec.bit u.upd.kind) ++ zeros 2 ++ hdrVersion u.upd.header)
      (((v.modPower fun x => { x with resetDue := x.resetDue ++ [(.service, v.time, none)] }).closeSession true).answered .service q).lastUpd 0) := by
  have ha := opUpdateActivate_service (s := (s.upTo t).charged .service) (by simpa using hm) (by simpa using hc) (by simpa using hd)
    (by simpa using hh)
  simp only [State.charged_kind, State.charged_header, State.charged_bootRec] at ha
  exact congrArg Host.Outcome.next (State.submitUpd_of_ok hs hr (by decide) ha)

/-! ### UPDATE_CONFIRM and UPDATE_STATUS (R534, R542, R547) -/

/-- The fuses never fall (R534). -/
theorem State.counter_le_blowFuses : s.upd.counter ≤ s.blowFuses.upd.counter := Nat.le_max_left ..

/-- The kind on trial is confirmed: the record first, then the fuses (assumption 99). -/
theorem opUpdateConfirm_confirms (hk : getN p 0 1 < 4) (h0 : getN p 1 3 = 0) (ht : s.bootRec.trial = getN p 0 1) :
    opUpdateConfirm p s = .ok (
      let v := (s.writeRec fun r => { r with trial := 255, hist := if r.hist.getLsbD 0 then 3 else 0 }).blowFuses
      (v.modUpd fun x => { x with trialBoot := false }).updEvent 0x8903 (le 1 (getN p 0 1) ++ le 1 0 ++ le 2 v.upd.counter)) := by
  have hc : ¬(s.bootRec.trial ≠ getN p 0 1 ∨ 4 ≤ getN p 0 1) := by omega
  simp only [opUpdateConfirm, h0, hc, ne_eq, not_true_eq_false, if_false]

/-- An update event leaves every source's credits. -/
theorem State.updEvent_credits (code d) : ((s.updEvent code d).port c).credits = (s.port c).credits :=
  (State.updEvent_held (s := s) (P := fun v => ∀ c, (v.port c).credits = (s.port c).credits) ⟨Prim.credits, fun _ => rfl⟩).holds c

theorem State.port_modUpd (f d) : (s.modUpd f).port d = s.port d := rfl

theorem execUpdateConfirm_confirms (hs : (s.upTo t).takes c 0x0901 p) (hk : getN p 0 1 < 4) (h0 : getN p 1 3 = 0)
    (ht : (s.upTo t).bootRec.trial = getN p 0 1) : exec (.updateConfirm t c q p) s = .next (
      let v := (((s.upTo t).charged c).writeRec fun r => { r with trial := 255, hist := if r.hist.getLsbD 0 then 3 else 0 }).blowFuses
      ((v.modUpd fun x => { x with trialBoot := false }).updEvent 0x8903 (le 1 (getN p 0 1) ++ le 1 0 ++ le 2 v.upd.counter)).answered c q) := by
  refine runOp_of_ok (h := opUpdateConfirm p) hs (opUpdateConfirm_confirms hk h0 (by simpa using ht)) ?_
  simp only [State.updEvent_credits, State.port_modUpd, State.blowFuses, State.writeRec, Nat.le_refl]

/-- UPDATE_STATUS changes nothing and answers session, holder and kind first. -/
theorem opUpdateStatus_eq : ∃ d : Bytes, opUpdateStatus s = .ok s d ∧
    d.take 3 = le 1 s.upd.session ++ le 1 s.upd.holder ++ le 1 s.upd.kind :=
  ⟨_, rfl, by simp [le]⟩

theorem execUpdateStatus_answers (hs : (s.upTo t).takes c 0x0900 p) : ∃ d : Bytes,
    exec (.updateStatus t c q p) s = .next (((s.upTo t).charged c).answered c q d) ∧
      d.take 3 = le 1 (s.upTo t).upd.session ++ le 1 (s.upTo t).upd.holder ++ le 1 (s.upTo t).upd.kind := by
  obtain ⟨d, hd, h3⟩ := opUpdateStatus_eq (s := (s.upTo t).charged c)
  rw [State.charged_session, State.charged_holder, State.charged_kind] at h3
  exact ⟨d, runOp_of_ok (h := opUpdateStatus) hs hd (Nat.le_refl _), h3⟩

/-! ### Timeouts (R540, R544), each row stated of the state `u` at its stamp -/

variable {u : State}

theorem execUpdateSessionTimeout_closes (hu : s.upTo t = u) (hs : u.upd.session = 1 ∨ u.upd.session = 2)
    (hl : u.upd.late = true ∨ u.upd.lastAt + 1000000100 ≤ t) :
    exec (.updateSessionTimeout t) s = .next ((u.sessionEvent 3).closeSession false) := by
  subst hu
  exact congrArg Host.Outcome.next (if_pos ⟨hs, hl.imp_right (due_iff _ t).2⟩)

theorem execRelayTimeout_loses (hu : s.upTo t = u) (hs : u.upd.session = 3) (hl : u.upd.late = true ∨ u.upd.lastAt + 1000000100 ≤ t) :
    exec (.relayTimeout t) s = .next (u.loseRelay 1) := by
  subst hu
  exact congrArg Host.Outcome.next (if_pos ⟨hs, hl.imp_right (due_iff _ t).2⟩)

/-- A session that closes is over, its slot empty unless its image was activated (R539, R540). -/
theorem State.closeSession_upd : (s.closeSession false).upd.session = 0 ∧ (s.closeSession false).upd.slots = s.upd.emptied ∧
    (s.closeSession true).upd.slots = s.upd.slots := ⟨rfl, rfl, rfl⟩

/-! ### The erasure of a slot (R66, R539, R548) -/

theorem execSlotEraseSector_erases (hu : s.upTo t = u) (hs : u.upd.session = 1) (hf : u.power.powerFail = false)
    (he : u.upd.erased < slotSize u.upd.kind / 65536) :
    exec (.slotEraseSector t) s = .next (u.modUpd fun x => { x with erased := x.erased + 1 }) := by
  subst hu
  exact congrArg Host.Outcome.next (if_pos ⟨hs, by rw [hf]; rfl, he⟩)

theorem execSlotEraseSector_stays (hu : s.upTo t = u) (h : u.upd.session ≠ 1 ∨ u.power.powerFail = true) :
    exec (.slotEraseSector t) s = .next u := by
  subst hu
  exact congrArg Host.Outcome.next (if_neg fun ⟨hs, hf, _⟩ => h.elim (· hs) fun hp => absurd hf (by rw [hp]; decide))

end Sys2Proof.Machine

namespace Sys2Proof.Proofs
open Sys2Proof.Machine

/-- Settles O33: each packet is carried out by its opcode on the charged state, and each row of a deadline by its condition. -/
theorem updateActivationAndTimeouts : Obligations.UpdateActivationAndTimeouts := by
  unfold Obligations.UpdateActivationAndTimeouts
  refine ⟨?packets, ?rows⟩
  case packets =>
    intro t q p s
    exact ⟨execUpdateActivate_service, fun b => execUpdateConfirm_confirms, fun v => v.counter_le_blowFuses, fun b => execUpdateStatus_answers⟩
  case rows =>
    intro t s
    exact ⟨execUpdateSessionTimeout_closes rfl, execRelayTimeout_loses rfl, execSlotEraseSector_erases rfl, execSlotEraseSector_stays rfl,
      fun v => v.closeSession_upd⟩

end Sys2Proof.Proofs
end

section
/-! SUPPORT. The Kingpost's readback (R372), the safety inputs with their test pulses (R376 to R380) and the comparison of the channels (R390), each
row stated of the state `u` at its stamps. -/
namespace Sys2Proof.Machine

variable {s u : State} {t : Tick} {kt : Nat} (hu : (s.upTo t).upKt kt = u)
include hu

/-- A readback mismatch is the safe state of a Kingpost that is supplied and does not stand in another's reset (R74, R372). -/
theorem execReadbackMismatch_safe (hd : u.dev ≠ .off) (hr : u.dev ≠ .inReset ∨ u.power.kpHold.isSome = true) :
    exec (.readbackMismatch t kt) s = .next (u.kpSafe 8) := by
  subst hu
  refine congrArg Host.Outcome.next (if_neg ?_)
  rintro (h | ⟨h, hk⟩)
  · exact hd h
  · exact hr.elim (· h) fun hs => by rw [Option.isNone_iff_eq_none.1 hk] at hs; cases hs

/-! ### A contact changes (R377, R379, R380) -/

section
variable {ch : Channel} {n : Fin 8} {x : Contact} {lv : Bool} {since : Nat}

/-- A contact that shows no new level, or whose level does not qualify yet, changes nothing. -/
theorem execSafetyInputChange_stays (h : ((u.pairSt ch n).contact x).closed = lv ∨
    (getN (u.pairRec n) 0 1 ≠ 0 ∧ u.chNow ch kt < u.qualifyAt ch n x lv since kt)) :
    exec (.safetyInputChange t kt ch n x ⟨lv, since⟩) s = .next u := by
  subst hu
  exact congrArg Host.Outcome.next (if_pos (.inr (.inr h)))

variable (hd : u.dev ≠ .off) (hr : u.dev ≠ .inReset) (hl : ((u.pairSt ch n).contact x).closed ≠ lv)
include hd hr hl

/-- A contact of an unused pair only changes its level. -/
theorem execSafetyInputChange_unused (hk : getN (u.pairRec n) 0 1 = 0) : exec (.safetyInputChange t kt ch n x ⟨lv, since⟩) s =
    .next (u.modPairSt ch n fun p => p.setContact x fun y => { y with closed := lv, at_ := u.chNow ch kt }) := by
  subst hu
  exact congrArg Host.Outcome.next ((if_neg (by tauto)).trans (if_pos hk))

/-- A level of a used pair that qualifies is judged by its channel, and a contact that opens starts the pair's function. -/
theorem execSafetyInputChange_judged (hk : getN (u.pairRec n) 0 1 ≠ 0) (hq : u.qualifyAt ch n x lv since kt ≤ u.chNow ch kt) :
    exec (.safetyInputChange t kt ch n x ⟨lv, since⟩) s = .next (
      let v := u.modPairSt ch n fun p => p.change x lv (u.chNow ch kt) (chMs ch (getN (u.pairRec n) 4 2))
      if lv then v else v.pairStart ch n) := by
  subst hu
  have hq := Nat.not_lt.2 hq
  exact congrArg Host.Outcome.next ((if_neg (by tauto)).trans (if_neg hk))

end

/-- Two contacts that disagree for too long latch their pair in demand (R379). -/
theorem execSiDiscrepancy_latches {ch : Channel} {n : Fin 8} {y : Bool} {r : Tick} (hm : (u.pairSt ch n).mate = some (.b, y, r))
    (hk : u.pairKind n ≠ 0) (hd : u.chDue ch (r + chMs ch (getN (u.pairRec n) 4 2)) kt = true) : exec (.siDiscrepancy t kt ch n) s =
    .next (((u.modPairSt ch n fun p => { p with mate := none, latched := true, discr := true, demand := true, bothLow := false }).raise 0x8502 2 0
      (le 1 n ++ le 1 1 ++ zeros 2 ++ le 1 (chCode ch))).pairStart ch n) := by
  change execSiDiscrepancy t kt ch n s = _
  simp only [execSiDiscrepancy, hu, hm]
  exact congrArg Host.Outcome.next (if_pos ⟨hk, hd⟩)

/-! ### The off window of a test pulse (R376, R378) -/

/-- The window that ends in its Kingpost tick is judged on every pair of KIND 1, in both channels from one set of levels (assumptions 17 and 42). -/
theorem execTestPulseWindow_judged {tp : Fin 4} {hi : BitVec 16} (hd : u.dev ≠ .off) (hr : u.dev ≠ .inReset)
    (hk : kt % 800000 = 200000 * tp.val + 20000) :
    exec (.testPulseWindow ⟨t, kt⟩ tp hi) s = .next ((List.range 8).foldl (fun (s : State) n =>
      if s.pairKind n ≠ 1 then s else
        let one := fun (s : State) (c : Contact) (src bit : Nat) => if src % 4 = tp.val then
          (s.testContact .drivePair n c tp (hi.getLsbD bit)).testContact .kingpost n c tp (hi.getLsbD bit) else s
        one (one s .a n (2 * n)) .b (n + 2) (2 * n + 1)) (u.modPins fun p => { p with tpAt := vmod p.tpAt tp fun _ => some u.time })) := by
  subst hu
  exact congrArg Host.Outcome.next (if_neg (by tauto))

theorem execTestPulseWindow_elsewhere {tp : Fin 4} {hi : BitVec 16} (hk : kt % 800000 ≠ 200000 * tp.val + 20000) :
    exec (.testPulseWindow ⟨t, kt⟩ tp hi) s = .next u := by
  subst hu
  exact congrArg Host.Outcome.next (if_pos (.inr (.inr hk)))

/-! ### The channels compared (R390) -/

/-- Speeds of the two channels that have differed for XC_T latch the discrepancy, and every stack loses its torque. -/
theorem execSafetyChannelDiscrepancy_speed {a : Tick} (hb : u.archB = true) (hx : u.safety.xcSince = some a)
    (ha : a + msTicks u.xcMs ≤ u.time) : exec (.safetyChannelDiscrepancy t kt .speed) s =
    .next (((u.modSafety fun x => { x with discr := true }).raise 0x8509 2 0 (le 1 0 ++ zeros 3 ++ le 4 (toUfix 32 0 u.xcDiff))).stoAll) := by
  have hh : (u.archB && u.safety.xcSince.any fun a => decide (a + msTicks u.xcMs ≤ u.time)) = true := by
    rw [hb, hx, Option.any_some, Bool.true_and, decide_eq_true ha]
  subst hu
  exact congrArg Host.Outcome.next (if_pos hh)

/-- A drive pair that sends no speed does the same. -/
theorem execSafetyChannelDiscrepancy_noSpeed (hb : u.archB = true) (hd : u.safety.dpSpeedAt + 2 * u.outerTicks + msTicks 1 + 100 ≤ u.time) :
    exec (.safetyChannelDiscrepancy t kt .noSpeed) s =
    .next (((u.modSafety fun x => { x with discr := true }).raise 0x8509 2 0 (le 1 1 ++ zeros 3 ++ le 4 0)).stoAll) := by
  subst hu
  exact congrArg Host.Outcome.next (if_pos (Bool.and_eq_true_iff.2 ⟨hb, (due_iff ..).2 hd⟩))

/-- In architecture A there is no second channel to differ. -/
theorem execSafetyChannelDiscrepancy_archA {kind : DiscrepancyKind} (hb : u.archB = false) :
    exec (.safetyChannelDiscrepancy t kt kind) s = .next u := by
  subst hu
  exact congrArg Host.Outcome.next (if_neg (by simp [hb]))

end Sys2Proof.Machine

namespace Sys2Proof.Proofs
open Sys2Proof.Machine

/-- Settles O48: each row by its own lemma at the state of its stamps. -/
theorem safetyInputsJudged : Obligations.SafetyInputsJudged := by
  unfold Obligations.SafetyInputsJudged
  intro t kt ch n x lv since tp hi s u
  exact ⟨execReadbackMismatch_safe rfl, execSafetyInputChange_unused rfl, execSafetyInputChange_judged rfl, execSafetyInputChange_stays rfl,
    fun y r => execSiDiscrepancy_latches rfl, execTestPulseWindow_judged rfl, execTestPulseWindow_elsewhere rfl,
    fun a => execSafetyChannelDiscrepancy_speed rfl, execSafetyChannelDiscrepancy_noSpeed rfl, fun kind => execSafetyChannelDiscrepancy_archA rfl⟩

end Sys2Proof.Proofs
end

section
/-! SUPPORT. What every command keeps. A command that is not `outward` keeps every property of `Prim`; any other keeps the invariant with the queue
(`Bal`) while no packet is in flight. Both are one case per command, closed by the lemma about that command's meaning. -/
namespace Sys2Proof.Machine

variable {P : State → Prop} {q : List Instr} {s : State}

/-! ### The rows whose lemmas in Laws/ speak of `Bal` only -/

theorem State.Held.ite {t : State} {p : Prop} [Decidable p] (hs : s.Held P) (ht : t.Held P) : (if p then s else t).Held P := by
  split
  · exact hs
  · exact ht

/-- HALL_CHANGE counts a neighbouring sector, and reports any other change and a code of no sector (R238). -/
theorem execHallChange_keeps (h : s.Held P) {t : Tick} {n : Fin 6} {e : HallEdge} : OutHeld P (execHallChange t n e s) := by
  unfold execHallChange
  refine OutHeld.next ?_
  have hu : (s.upTo t).Held P := State.upTo_held h
  generalize s.upTo t = u at hu ⊢
  refine State.Held.ite hu ?_
  split
  case h_1 => exact State.raise_held (State.modFb_held hu)
  case h_2 =>
    have hv : ∀ v : State, v.Held P → ((if (v.fbPort n).state = 1 then v.setFb n 2 8 else v).fbAlign n e.t5).Held P := fun v hv =>
      State.fbAlign_held (State.Held.ite (State.setFb_held hv) hv)
    refine hv _ ?_
    split
    case h_1 => exact State.modFb_held hu
    case h_2 =>
      exact State.Held.ite (State.fbCount_held (State.modFb_held (State.modFb_held hu)))
        (State.Held.ite (State.fbCount_held (State.modFb_held (State.modFb_held hu)))
          (State.Held.ite (State.modFb_held hu) (State.raise_held (State.modFb_held hu))))

/-- DECIMATED_SAMPLE delivers, checks and begins the cycle (R175 to R183). -/
theorem execDecimatedSample_keeps (h : s.Held P) {t : Tick} {k : Fin 4} {m : MainSample} : OutHeld P (execDecimatedSample t k m s) := by
  unfold execDecimatedSample
  refine OutHeld.next ?_
  have hu : (s.upTo t).Held P := State.upTo_held h
  generalize s.upTo t = u at hu ⊢
  refine State.Held.ite hu ?_
  split
  · exact State.cycleBegin_held (State.fbLatchAll_held (State.sumCheck_held (State.overRange_held (State.unstick_held
      (State.calSample_held (State.modSense_held hu))))))
  · exact hu

/-- A frame in error changes the port's counts and buffers (R517). -/
theorem State.txError_keeps (h : s.Held P) {p : Nat} {sof : Tick} {n : Nat} {ack : Bool} : (s.txError p sof n ack).Held P :=
  State.Held.ite (State.modAl_held (State.modHead_held h)) (State.modAl_held h)

/-- ALCIA_TX_ERROR ends no binding, so that it restores no credit (R496, R517 to R520). -/
theorem execAlciaTxError_keeps (h : s.Held P) {t : Tick} {p : Fin 2} {e : TxErrorAt} : OutHeld P (execAlciaTxError t p e s) := by
  unfold execAlciaTxError
  refine OutHeld.next ?_
  have hu : (s.upTo t).alPump.Held P := State.alPump_held (State.upTo_held h)
  generalize (s.upTo t).alPump = u at hu ⊢
  have hb : ∀ w : State, w.Held P → (if 255 < (w.alPort p).tec ∧ (w.alPort p).state ≠ 0 then w.busOff p else w).Held P := fun w hw =>
    State.Held.ite (State.busOff_held hw) hw
  have hv : (u.modAl p fun x => { x with errors := (x.errors + 1) % 4294967296 }).Held P := State.modAl_held hu
  refine State.Held.ite hu (hb _ ?_)
  split
  case h_1 => exact State.modAl_held hv
  case h_2 => exact State.Held.ite hv (State.Held.ite (State.alone_held (State.txError_keeps hv)) (State.txError_keeps hv))
  case h_3 => exact State.Held.ite hv (State.txError_keeps hv)
  case h_4 =>
    split
    · exact hv
    · have hx := State.txError_keeps hv (p := p) (sof := e.sof) (n := 8) (ack := false)
      exact State.Held.ite (State.claimFailed_held hx) (State.Held.ite hx
        (State.Held.ite (State.duplicate_held (State.modAlcia_held hx)) (State.modAlcia_held hx)))

/-! ### One case per command -/

/-- A command that is not outward keeps every property of `Prim`. -/
theorem exec_keeps {i : Instr} (ho : outward i = false) (h : s.Held P) : OutHeld P (exec i s) := by
  cases i with
  | repeatWindow => exact execRepeatWindow_held h
  | discardedWindow => exact execDiscardedWindow_held h
  | cyclic => exact execCyclic_held h
  | cyclicLatch => exact execCyclicLatch_held h
  | watchEntryComplete => exact execWatchEntryComplete_held h
  | suspendComplete => exact execSuspendComplete_held h
  | slotEraseSector => exact execSlotEraseSector_held h
  | dmaCmdStart => exact execDmaCmdStart_held h
  | dmaCmdAbort => exact execDmaCmdAbort_held h
  | dtuInval => exact execDtuInval_held h
  | dtuInvalComplete => exact execDtuInvalComplete_held h
  | dmaDescriptorFetch => exact execDmaDescriptorFetch_held h
  | faultRecordPost => exact execFaultRecordPost_held h
  | driveMessageInterrupt => exact execDriveMessageInterrupt_held h
  | throttlePeriod => exact execThrottlePeriod_held h
  | recorderFlush => exact execRecorderFlush_held h
  | vinOn => exact execVinOn_held h
  | vinLow => exact execVinLow_held h
  | powerFail => exact execPowerFail_held h
  | vinHigh => exact execVinHigh_held h
  | vinHighLasting => exact execVinHighLasting_held h
  | vinOvrRelease => exact execVinOvrRelease_held h
  | resetExit => exact execResetExit_held h
  | xtal32Qualified => exact execXtal32Qualified_held h
  | xtal32Fail => exact execXtal32Fail_held h
  | xtal32Retry => exact execXtal32Retry_held h
  | resetNRelease => exact execResetNRelease_held h
  | kpResetHoldEnd => exact execKpResetHoldEnd_held h
  | bootComplete => exact execBootComplete_held h
  | dramClearComplete => exact execDramClearComplete_held h
  | wakeEvent => exact execWakeEvent_held h
  | watchSrefSample => exact execWatchSrefSample_held h
  | wakeComplete => exact execWakeComplete_held h
  | ownTimeoutExpiry => exact execOwnTimeoutExpiry_held h
  | carrierZero => exact execCarrierZero_held h
  | decimatedSample => exact execDecimatedSample_keeps h
  | dsStuck => exact execDsStuck_held h
  | fieldEngineCycle => exact execFieldEngineCycle_held h
  | chopperOpen => exact execChopperOpen_held h
  | chopperShort => exact execChopperShort_held h
  | dcUndervoltage => exact execDcUndervoltage_held h
  | dcUndervoltageClear => exact execDcUndervoltageClear_held h
  | ov3Trip => exact execOv3Trip_held h
  | reconstructionSample => exact execReconstructionSample_held h
  | calPeriodEnd => exact execCalPeriodEnd_held h
  | sarSlot => exact execSarSlot_held h
  | outerLoopCycle => exact execOuterLoopCycle_held h
  | stopChange => exact execStopChange_held h
  | stopStandstill => exact execStopStandstill_held h
  | stopTimeout => exact execStopTimeout_held h
  | srefTestCurrent => exact execSrefTestCurrent_held h
  | srefWireBreak => exact execSrefWireBreak_held h
  | srefWireBreakEnd => exact execSrefWireBreakEnd_held h
  | shortCircuit => exact execShortCircuit_held h
  | gateSupplyUv => exact execGateSupplyUv_held h
  | noCommandTimeout => exact execNoCommandTimeout_held h
  | boosterFault => exact execBoosterFault_held h
  | plateauTimeout => exact execPlateauTimeout_held h
  | transitionMeasured => exact execTransitionMeasured_held h
  | millerClampEngage => exact execMillerClampEngage_held h
  | shootThroughAttempt => exact execShootThroughAttempt_held h
  | thermalEvaluation => exact execThermalEvaluation_held h
  | feedbackEdge => exact execFeedbackEdge_held h
  | hallChange => exact execHallChange_keeps h
  | toothEdge => exact execToothEdge_held h
  | serialFrame => exact execSerialFrame_held h
  | indexLatch => exact execIndexLatch_held h
  | fbSignalLoss => exact execFbSignalLoss_held h
  | fbSupply => exact execFbSupply_held h
  | encPupEnd => exact execEncPupEnd_held h
  | probeEnd => exact execProbeEnd_held h
  | startEvaluation => exact execStartEvaluation_held h
  | handoverTimeout => exact execHandoverTimeout_held h
  | catchAttempt => exact execCatchAttempt_held h
  | obsLossLasting => exact execObsLossLasting_held h
  | snapSbcRequest => exact execSnapSbcRequest_held h
  | axisCycle => exact execAxisCycle_held h
  | holdCurrentTimeout => exact execHoldCurrentTimeout_held h
  | stepperChopTrip => exact execStepperChopTrip_held h
  | stepperToffEnd => exact execStepperToffEnd_held h
  | refreshSequence => exact execRefreshSequence_held h
  | prechargeDone => exact execPrechargeDone_held h
  | bootstrapUv => exact execBootstrapUv_held h
  | auxBusOv => exact execAuxBusOv_held h
  | auxShootThroughAttempt => exact execAuxShootThroughAttempt_held h
  | axOvercurrent => exact execAxOvercurrent_held h
  | switchChange => exact execSwitchChange_held h
  | sharingCycle => exact execSharingCycle_held h
  | shareFrame => exact execShareFrame_held h
  | replyFrame => exact execReplyFrame_held h
  | replyDeadline => exact execReplyDeadline_held h
  | rollSend => exact execRollSend_held h
  | rollFrame => exact execRollFrame_held h
  | formationTimeout => exact execFormationTimeout_held h
  | colDetached => exact execColDetached_held h
  | heartbeatSend => exact execHeartbeatSend_held h
  | heartbeat => exact execHeartbeat_held h
  | mirrorFrame => exact execMirrorFrame_held h
  | pairCheckSend => exact execPairCheckSend_held h
  | mirrorAck => exact execMirrorAck_held h
  | bridleLinkUp => exact execBridleLinkUp_held h
  | heartbeatLoss => exact execHeartbeatLoss_held h
  | arbitrationOutcome => exact execArbitrationOutcome_held h
  | pairQueryTimeout => exact execPairQueryTimeout_held h
  | alciaTxError => exact execAlciaTxError_keeps h
  | busOffRecovery => exact execBusOffRecovery_held h
  | probeSend => exact execProbeSend_held h
  | addrClaimSend => exact execAddrClaimSend_held h
  | addrClaimDecision => exact execAddrClaimDecision_held h
  | syncSend => exact execSyncSend_held h
  | followUpSend => exact execFollowUpSend_held h
  | syncTimeout => exact execSyncTimeout_held h
  | syncCandidateStart => exact execSyncCandidateStart_held h
  | bridgeAnnounceSend => exact execBridgeAnnounceSend_held h
  | announceSend => exact execAnnounceSend_held h
  | routeSummarySend => exact execRouteSummarySend_held h
  | segmentTimeout => exact execSegmentTimeout_held h
  | cmdTransferTimeout => exact execCmdTransferTimeout_held h
  | testPulseWindow => exact execTestPulseWindow_held h
  | safetyInputChange => exact execSafetyInputChange_held h
  | siDiscrepancy => exact execSiDiscrepancy_held h
  | ss1EnvelopeCheck => exact execSs1EnvelopeCheck_held h
  | ss1End => exact execSs1End_held h
  | brakeSetTimeEnd => exact execBrakeSetTimeEnd_held h
  | ss1Timeout => exact execSs1Timeout_held h
  | brakeReleaseRequest => exact execBrakeReleaseRequest_held h
  | brakeReleaseComplete => exact execBrakeReleaseComplete_held h
  | brakeTestPulse => exact execBrakeTestPulse_held h
  | brakeOvercurrent => exact execBrakeOvercurrent_held h
  | kpPositionEdge => exact execKpPositionEdge_held h
  | kpSpeedTimeout => exact execKpSpeedTimeout_held h
  | safetyChannelDiscrepancy => exact execSafetyChannelDiscrepancy_held h
  | kpPositionFault => exact execKpPositionFault_held h
  | safeAckPress => exact execSafeAckPress_held h
  | safeAckRelease => exact execSafeAckRelease_held h
  | safeAckStuck => exact execSafeAckStuck_held h
  | commissioningGrantExpiry => exact execCommissioningGrantExpiry_held h
  | readbackMismatch => exact execReadbackMismatch_held h
  | loginLockoutEnd => exact execLoginLockoutEnd_held h
  | lockstepMismatch => exact execLockstepMismatch_held h
  | debugAttached => exact execDebugAttached_held h
  | scrubBurst t m b l w => exact execScrubBurst_held (w := w) h
  | alertN => exact execAlertN_held h
  | faultHistoryAppend => exact execFaultHistoryAppend_held h
  | pwmEdge => exact execPwmEdge_held h
  | holdSwitchEngage => exact execHoldSwitchEngage_held h
  | boostSoftEnd => exact execBoostSoftEnd_held h
  | gateSupplyUvEnd => exact execGateSupplyUvEnd_held h
  | fbSignalLossEnd => exact execFbSignalLossEnd_held h
  | vbrkLow => exact execVbrkLow_held h
  | brakeCoilCurrentLow => exact execBrakeCoilCurrentLow_held h
  | srefEdge => exact execSrefEdge_held h
  | axisPwmPeriod => exact execAxisPwmPeriod_held h
  | serviceByteOutsidePacket => exact execServiceByteOutsidePacket_held h
  | _ => exact nomatch ho

/-- Every command keeps the invariant and the queue while no packet is in flight. -/
theorem exec_bal {i : Instr} (h : s.Held (Bal q none)) : OutHeld (Bal q none) (exec i s) := by
  cases i with
  | packetWindow => exact execPacketWindow_held h
  | pollWindow => exact execPollWindow_held h
  | servicePortPacket => exact execServicePortPacket_held h
  | servicePacketGap => exact execServicePacketGap_held h
  | sillRecoveryFrame => exact execSillRecoveryFrame_held h
  | cmdDoorbell => exact execCmdDoorbell_held h
  | replyDone => exact execReplyDone_held h
  | nop => exact execNop_held h
  | identify => exact execIdentify_held h
  | resetDevice => exact execResetDevice_held h
  | takeOwnership => exact execTakeOwnership_held h
  | releaseOwnership => exact execReleaseOwnership_held h
  | readEvents => exact execReadEvents_held h
  | ackEvents => exact execAckEvents_held h
  | enterWatch => exact execEnterWatch_held h
  | setCyclic => exact execSetCyclic_held h
  | getTime => exact execGetTime_held h
  | writeBlock => exact execWriteBlock_held h
  | readBlock => exact execReadBlock_held h
  | check => exact execCheck_held h
  | sealConfig => exact execSealConfig_held h
  | unsealConfig => exact execUnsealConfig_held h
  | getFingerprint => exact execGetFingerprint_held h
  | enable => exact execEnable_held h
  | disable => exact execDisable_held h
  | setMode => exact execSetMode_held h
  | setTorque => exact execSetTorque_held h
  | setSpeed => exact execSetSpeed_held h
  | setPosition => exact execSetPosition_held h
  | setLimits => exact execSetLimits_held h
  | clearFault => exact execClearFault_held h
  | calibrationStop => exact execCalibrationStop_held h
  | calibrationStart => exact execCalibrationStart_held h
  | calibrationRestore => exact execCalibrationRestore_held h
  | getState => exact execGetState_held h
  | getMeasurements => exact execGetMeasurements_held h
  | getFaults => exact execGetFaults_held h
  | readFaultHistory => exact execReadFaultHistory_held h
  | getCounters => exact execGetCounters_held h
  | getTemperatures => exact execGetTemperatures_held h
  | safetyLogin => exact execSafetyLogin_held h
  | safetyLogout => exact execSafetyLogout_held h
  | writeSafetyBlock => exact execWriteSafetyBlock_held h
  | readSafetyLog => exact execReadSafetyLog_held h
  | ackSafetyLog => exact execAckSafetyLog_held h
  | getSafetyStatus => exact execGetSafetyStatus_held h
  | requestSafetyFunction => exact execRequestSafetyFunction_held h
  | changePassword => exact execChangePassword_held h
  | axisMove => exact execAxisMove_held h
  | axisStop => exact execAxisStop_held h
  | axisHome => exact execAxisHome_held h
  | gearEngage => exact execGearEngage_held h
  | gearDisengage => exact execGearDisengage_held h
  | gearSetRatioNow => exact execGearSetRatioNow_held h
  | gearEvent => exact execGearEvent_held h
  | axisStatus => exact execAxisStatus_held h
  | recorderSetup => exact execRecorderSetup_held h
  | recorderArm => exact execRecorderArm_held h
  | recorderRead => exact execRecorderRead_held h
  | recorderTrigger => exact execRecorderTrigger_held h
  | appStart => exact execAppStart_held h
  | appStop => exact execAppStop_held h
  | appSuspend => exact execAppSuspend_held h
  | appMessage => exact execAppMessage_held h
  | colonnadeJoin => exact execColonnadeJoin_held h
  | colonnadeLeave => exact execColonnadeLeave_held h
  | colonnadeStatus => exact execColonnadeStatus_held h
  | pairStatus => exact execPairStatus_held h
  | networkStatus => exact execNetworkStatus_held h
  | alciaSend => exact execAlciaSend_held h
  | updateStatus => exact execUpdateStatus_held h
  | updateConfirm => exact execUpdateConfirm_held h
  | updateOffer => exact execUpdateOffer_held h
  | updateData => exact execUpdateData_held h
  | updateVerify => exact execUpdateVerify_held h
  | updateActivate => exact execUpdateActivate_held h
  | updateAbort => exact execUpdateAbort_held h
  | updateSessionTimeout => exact execUpdateSessionTimeout_held h
  | relayTimeout => exact execRelayTimeout_held h
  | registerWrite => exact execRegisterWrite_held h
  | dmaCmdResume => exact execDmaCmdResume_held h
  | dmaSlotGrant => exact execDmaSlotGrant_held h
  | dmaBeat => exact execDmaBeat_held h
  | appWatchdogExpiry => exact execAppWatchdogExpiry_held h
  | programFault => exact execProgramFault_held h
  | programExit => exact execProgramExit_held h
  | vinReset => exact execVinReset_held h
  | aonMin => exact execAonMin_held h
  | vinOvr => exact execVinOvr_held h
  | railFault => exact execRailFault_held h
  | resetNLow => exact execResetNLow_held h
  | clockFault => exact execClockFault_held h
  | pllLockLoss => exact execPllLockLoss_held h
  | wakeTimeout => exact execWakeTimeout_held h
  | watchdogService => exact execWatchdogService_held h
  | watchdogExpiry => exact execWatchdogExpiry_held h
  | bulkFrame => exact execBulkFrame_held h
  | bridleLinkDown => exact execBridleLinkDown_held h
  | alciaFrameRx => exact execAlciaFrameRx_held h
  | alciaFrameTxDone => exact execAlciaFrameTxDone_held h
  | bindTimeout => exact execBindTimeout_held h
  | commandResetDue => exact execCommandResetDue_held h
  | serviceReplySent => exact execServiceReplySent_held h
  | _ => exact exec_keeps rfl h

/-- What a command that answers a next state keeps, holds of that state. -/
theorem OutHeld.holds {o : Host.Outcome State Fault Refusal} {t : State} (h : OutHeld P o) (ho : o = .next t) : t.Held P := by
  subst ho
  exact h

/-! ### Memory, blocks, credits and owed replies as a property -/

/-- The state has the memory, the blocks and every source's credits and owed replies of `r`. -/
def State.Keeps (r s : State) : Prop :=
  s.mem = r.mem ∧ s.blocks = r.blocks ∧ ∀ c, (s.port c).credits = (r.port c).credits ∧ (s.port c).owed = (r.port c).owed

theorem Prim.keeps (r : State) : Prim r.Keeps where
  eq := fun {s t} ⟨hm, hb, hc⟩ _ hp _ _ hb' _ hm' =>
    ⟨hm'.trans hm, hb'.trans hb, fun c => by rw [show t.port c = s.port c by rw [State.port, hp, State.port]]; exact hc c⟩
  port := fun {s c f} ⟨hm, hb, hc⟩ hf _ => ⟨hm, hb, fun d => by
    rw [State.port_modPort, ← (hc d).1, ← (hc d).2]
    split
    · exact hf _
    · exact ⟨rfl, rfl⟩⟩
  counters := fun h _ => h
  faults := fun h _ => h

theorem State.Keeps.held (s : State) : s.Held s.Keeps := ⟨Prim.keeps s, rfl, rfl, fun _ => ⟨rfl, rfl⟩⟩

end Sys2Proof.Machine

namespace Sys2Proof.Proofs
open Sys2Proof.Machine

/-- Settles O57: to have the memory, blocks, credits and owed replies of the state before is a property of `Prim`. -/
theorem otherCommandsKeepMemoryBlocksAndCredits : Obligations.OtherCommandsKeepMemoryBlocksAndCredits := by
  unfold Obligations.OtherCommandsKeepMemoryBlocksAndCredits
  intro i s t ho he
  exact ((exec_keeps ho (State.Keeps.held s)).holds he).holds

/-- Settles O59: a step carries out the front command on a state that meets the invariant as well, and every command keeps it. -/
theorem invKeptByEveryStep : Obligations.InvKeptByEveryStep := by
  unfold Obligations.InvKeptByEveryStep
  intro s t h he
  unfold step at he
  split at he
  case h_1 =>
    cases he
    exact h
  case h_2 i rest _ =>
    have hq : ({ s with pending := rest } : State).Inv := ⟨h.credits, h.queues, h.counters, h.blocks, h.sorted, h.staging, h.memory⟩
    exact ((exec_bal hq.held).holds he).inv

end Sys2Proof.Proofs
end

section
/-! SUPPORT. The session queries (R113, R115, R116), the event queue (R120), and the opcodes that need no ownership (R106). -/
namespace Sys2Proof.Machine

variable {s : State} {t : Tick} {c : Source} {q : Nat} {p : Bytes}

/-! ### What charging a packet leaves of what the queries read -/

/-- Charging a packet counts it, and no other counter (R113). -/
theorem State.charged_counters (c : Source) : (s.charged c).counters = { s.counters with packets := satN 4 (s.counters.packets + 1) } := by
  unfold State.charged State.noteRecv
  dsimp only
  split <;> rfl

@[simp] theorem State.charged_safety (c : Source) : (s.charged c).safety = s.safety := by rw [s.charged_eq c]

theorem State.charged_events (c : Source) : ((s.charged c).port c).events = (s.port c).events := by rw [State.charged_port, if_pos rfl]

theorem State.charged_lost (c : Source) : ((s.charged c).port c).lost = (s.port c).lost := by rw [State.charged_port, if_pos rfl]

/-- GET_TIME reads nothing that charging its packet changes (R33). -/
theorem opGetTime_charged : opGetTime (s.charged c) = .ok (s.charged c)
    (le 8 s.time ++ le 8 (s.netTime s.time) ++ le 1 (b2n s.alcia.valid) ++ zeros 7) := by
  have h := s.charged_eq c
  generalize s.charged c = v at h ⊢
  rw [h]
  rfl

/-- GET_STATE reads nothing that charging its packet changes (R116). -/
theorem opGetState_charged : opGetState c (s.charged c) = .ok (s.charged c)
    (le 1 s.dev.code ++ le 1 s.ownerId ++ le 2 s.stat ++ le 1 (b2n s.safety.debug) ++ le 1 (b2n s.sealedCfg.isSome) ++
      le 2 (s.port c).events.length ++ le 8 s.time) := by
  rw [opGetState, State.charged_events]
  have h := s.charged_eq c
  generalize s.charged c = v at h ⊢
  rw [h]
  rfl

/-- GET_COUNTERS counts its own packet (R113). -/
theorem opGetCounters_charged : opGetCounters (s.charged c) = .ok (s.charged c)
    (le 4 (satN 4 (s.counters.packets + 1)) ++ le 4 s.counters.rejections ++ le 4 s.counters.overCredit ++ le 4 s.counters.hostSync ++
      le 4 s.counters.missed ++ le 4 s.counters.superseded ++ le 4 s.counters.overflow ++ zeros 20) := by
  simp only [opGetCounters, State.charged_counters]

/-! ### IDENTIFY (R115) -/

/-- IDENTIFY gives the name first, the state and the debug flag from byte 9 on, and the reset cause with the serial number from byte 12 on. -/
theorem opIdentify_eq : ∃ d : Bytes, opIdentify s = .ok s d ∧ d.take 8 = [0x4C, 0x54, 0x42, 0x2D, 0x34, 0x38, 0x32, 0x30] ∧
    (d.drop 9).take 2 = le 1 s.dev.code ++ le 1 (b2n s.safety.debug) ∧
    (d.drop 12).take 12 = le 4 s.power.cause.toNat ++ Config.serial.toList := by
  refine ⟨_, rfl, ?name, ?state, ?serial⟩
  case name => rfl
  case state => rfl
  case serial => simp [le]

/-! ### The event queue (R120) -/

/-- READ_EVENTS of 1 to 170 records answers the oldest ones and removes none. -/
theorem opReadEvents_shows (h1 : 1 ≤ getN p 0 2) (h2 : getN p 0 2 ≤ 170) :
    opReadEvents c p s = .ok s ((((s.port c).events.take (getN p 0 2)).map EventRec.bytes).flatten) := if_neg (by omega)

/-- What is left behind the first record with an ESEQ. -/
theorem dropThrough_append {n : Nat} {pre post : List EventRec} {e : EventRec} (he : e.eseq = n) (hp : ∀ x ∈ pre, x.eseq ≠ n) :
    dropThrough n (pre ++ e :: post) = post := by
  induction pre with
  | nil => exact if_pos he
  | cons x pre ih =>
    rw [List.cons_append, dropThrough, if_neg (hp x List.mem_cons_self)]
    exact ih fun y hy => hp y (List.mem_cons_of_mem x hy)

theorem State.modPort_congr {f g : Port → Port} (h : f (s.port c) = g (s.port c)) : s.modPort c f = s.modPort c g := by
  unfold State.modPort
  rw [vmod_congr {} h]

/-- ACK_EVENTS removes the records up to the one it names, where the queue has lost none, and answers how many remain. -/
theorem opAckEvents_removes {pre post : List EventRec} {e : EventRec} (hq : (s.port c).events = pre ++ e :: post) (he : e.eseq = getN p 0 2)
    (hp : ∀ x ∈ pre, x.eseq ≠ getN p 0 2) (hl : (s.port c).lost = 0) :
    opAckEvents c p s = .ok (s.modPort c fun x => { x with events := post }) (le 2 post.length) := by
  have hm : s.modPort c (fun x => { x with events := dropThrough (getN p 0 2) x.events }) = s.modPort c fun x => { x with events := post } :=
    State.modPort_congr (by rw [hq, dropThrough_append he hp])
  have ha : (s.port c).events.any (·.eseq == getN p 0 2) = true := by simp [hq, he]
  have hk : ∀ f : Port → Port, (s.modPort c f).port c = f (s.port c) := fun f => by rw [State.port_modPort, if_pos rfl]
  simp only [opAckEvents, ha, hm, hk, hl, if_true]

/-! ### The rows -/

theorem execNop_answers (hs : (s.upTo t).takes c 0x0100 p) : exec (.nop t c q p) s = .next (((s.upTo t).charged c).answered c q p) :=
  runOp_of_ok (h := opNop p) hs rfl (Nat.le_refl _)

theorem execIdentify_answers (hs : (s.upTo t).takes c 0x0101 p) : ∃ d : Bytes,
    exec (.identify t c q p) s = .next (((s.upTo t).charged c).answered c q d) ∧
    d.take 8 = [0x4C, 0x54, 0x42, 0x2D, 0x34, 0x38, 0x32, 0x30] ∧
    (d.drop 9).take 2 = le 1 (s.upTo t).dev.code ++ le 1 (b2n (s.upTo t).safety.debug) ∧
    (d.drop 12).take 12 = le 4 (s.upTo t).power.cause.toNat ++ Config.serial.toList := by
  obtain ⟨d, hd, hname, hstate, hserial⟩ := opIdentify_eq (s := (s.upTo t).charged c)
  rw [State.charged_dev, State.charged_safety] at hstate
  rw [State.charged_power] at hserial
  exact ⟨d, runOp_of_ok (h := opIdentify) hs hd (Nat.le_refl _), hname, hstate, hserial⟩

theorem execReadEvents_shows (hs : (s.upTo t).takes c 0x0105 p) (h1 : 1 ≤ getN p 0 2) (h2 : getN p 0 2 ≤ 170) :
    exec (.readEvents t c q p) s = .next (((s.upTo t).charged c).answered c q
      (((((s.upTo t).port c).events.take (getN p 0 2)).map EventRec.bytes).flatten)) := by
  rw [← State.charged_events]
  exact runOp_of_ok (h := opReadEvents c p) hs (opReadEvents_shows h1 h2) (Nat.le_refl _)

theorem execAckEvents_removes {pre post : List EventRec} {e : EventRec} (hs : (s.upTo t).takes c 0x0106 p)
    (hq : ((s.upTo t).port c).events = pre ++ e :: post) (he : e.eseq = getN p 0 2) (hp : ∀ x ∈ pre, x.eseq ≠ getN p 0 2)
    (hl : ((s.upTo t).port c).lost = 0) : exec (.ackEvents t c q p) s =
      .next ((((s.upTo t).charged c).modPort c fun x => { x with events := post }).answered c q (le 2 post.length)) := by
  rw [← State.charged_events] at hq
  rw [← State.charged_lost] at hl
  refine runOp_of_ok (h := opAckEvents c p) hs (opAckEvents_removes hq he hp hl) ?_
  rw [State.port_modPort, if_pos rfl]

/-! ### The opcodes of R106 -/

/-- DISABLE, AXIS_STOP and REQUEST_SAFETY_FUNCTION need no ownership (R113). -/
theorem opInfo_own_of_stop {op : Nat} {i : OpInfo} (ho : op = 0x0301 ∨ op = 0x0601 ∨ op = 0x0506) (hi : opInfo op = some i) :
    i.own = false := by
  obtain rfl | rfl | rfl := ho <;> cases hi <;> rfl

/-- The host, Alcia and the program may send each of them (R103). -/
theorem sourceOk_of_stop {op : Nat} (ho : op = 0x0301 ∨ op = 0x0601 ∨ op = 0x0506) (hc : c = .host ∨ c = .alcia ∨ c = .app) :
    sourceOk op c = true := by
  obtain rfl | rfl | rfl := ho <;> obtain rfl | rfl | rfl := hc <;> rfl

/-- None of them is ever busy (R101, R124, R397). -/
theorem State.busyFor_of_stop {op : Nat} (ho : op = 0x0301 ∨ op = 0x0601 ∨ op = 0x0506) : s.busyFor op c p = none := by
  obtain rfl | rfl | rfl := ho <;> simp [State.busyFor, State.updBusy]

/-- No check of R97 asks for the owner where the opcode needs none. -/
theorem State.objection_of_unowned {op : Nat} {i : OpInfo} (hi : opInfo op = some i) (hn : i.own = false) (hc : sourceOk op c = true)
    (hs : s.stateOk op i.states = true) (hb : s.busyFor op c p = none) (hl : lenOk op p = true) : s.objection op c p = none := by
  simp [State.objection, hi, hn, hc, hs, hb, hl]

end Sys2Proof.Machine

namespace Sys2Proof.Proofs
open Sys2Proof.Machine

/-- Settles O52: of the checks 8 to 13 only that of ownership looks at the owner, and the three opcodes skip it. -/
theorem stopsNeedNoOwnership : Obligations.StopsNeedNoOwnership := by
  unfold Obligations.StopsNeedNoOwnership
  intro op i c p s ho hi hc hl hk hs hp
  have hn : i.own = false := opInfo_own_of_stop ho hi
  refine ⟨hn, fun o => ⟨hl, hk, ?_⟩⟩
  exact State.objection_of_unowned hi hn (sourceOk_of_stop ho hc) hs (State.busyFor_of_stop ho) hp

/-- Settles O2: each query answers what its opcode gives on the charged state, which differs in nothing the answer reads but the packet counted. -/
theorem queriesAndEventQueue : Obligations.QueriesAndEventQueue := by
  unfold Obligations.QueriesAndEventQueue
  refine ⟨fun t c q p s => ⟨execNop_answers, execIdentify_answers, fun hs => ?_, fun hs => ?_, fun hs => ?_⟩,
    fun t c q p s => ⟨execReadEvents_shows, fun pre post e => execAckEvents_removes⟩⟩
  · exact runOp_of_ok (h := opGetTime) hs opGetTime_charged (Nat.le_refl _)
  · exact runOp_of_ok (h := opGetState c) hs opGetState_charged (Nat.le_refl _)
  · exact runOp_of_ok (h := opGetCounters) hs opGetCounters_charged (Nat.le_refl _)

end Sys2Proof.Proofs
end

section
/-! SUPPORT. APP_CONTROL (R443): the program's state and stop cause in the reply, and the credits that a stop leaves to every other source (R98). -/
namespace Sys2Proof.Machine

variable {s : State} {t : Tick} {c : Source} {q : Nat}

@[simp] theorem State.charged_app (c : Source) : (s.charged c).app = s.app := by rw [s.charged_eq c]
@[simp] theorem State.charged_sealedCfg (c : Source) : (s.charged c).sealedCfg = s.sealedCfg := by rw [s.charged_eq c]
@[simp] theorem State.charged_cu (c : Source) (id off n : Nat) : (s.charged c).cu id off n = s.cu id off n := by rw [s.charged_eq c]; rfl

/-! ### The program's state -/

theorem State.app_of_withRecords {v r : State} (h : v.withRecords r = s.withRecords r) : v.app = s.app := (congrArg State.app h :)

theorem State.info_app (code lv o b) : (s.info code lv o b).app = s.app := State.app_of_withRecords (s.info_withRecords (r := s) code lv o b)

/-- A change of the program's state sets it and, at a stop, the stop cause. -/
theorem State.setApp_app (n k : Nat) : (s.setApp n k).app = { s.app with state := n, stopCause := if n = 4 then k else s.app.stopCause } :=
  State.info_app ..

theorem State.startApp_app : (s.startApp 0).app.state = 2 ∧ (s.startApp 0).app.stopCause = s.app.stopCause := by
  simp [State.startApp, State.setApp_app]

theorem State.endApp_app (n : Nat) : (s.endApp n).app.state = 4 ∧ (s.endApp n).app.stopCause = n := by
  simp [State.endApp, State.setApp_app]

theorem State.startApp_credits : ((s.startApp 0).port c).credits = (s.port c).credits :=
  (State.startApp_held ⟨Prim.credits (k := fun c => (s.port c).credits), fun _ => rfl⟩).holds c

/-- The end of the program gives back the credits of its own port only (R443). -/
theorem State.endApp_credits (n : Nat) (hc : c ≠ .app) : ((s.endApp n).port c).credits = (s.port c).credits := by
  have hl : ((s.haltDma.loseOwner .app).port c).credits = (s.port c).credits :=
    (State.loseOwner_held (State.haltDma_held ⟨Prim.credits (k := fun c => (s.port c).credits), fun _ => rfl⟩)).holds c
  have hs : ∀ v : State, ((v.setApp 4 n).port c).credits = (v.port c).credits := fun v =>
    (State.setApp_held ⟨Prim.credits (k := fun c => (v.port c).credits), fun _ => rfl⟩).holds c
  have hp : ∀ (v : State) (f : AppSt → AppSt), (v.modApp f).port c = v.port c := fun _ _ => rfl
  rw [State.endApp, hs, hp, State.port_modPort, if_neg hc, hl]

/-! ### The actions of APP_CONTROL -/

theorem opAppControl_start (hs : s.sealedCfg.isSome = true) (hu : (s.cu 0x0001 12 1).testBit 0 = true)
    (ha : s.app.state = 1 ∨ s.app.state = 3 ∨ s.app.state = 4) (hb : s.power.pllBLost = false) (hd : s.power.ddrLost = false) :
    opAppControl [1, 0, 0, 0] s = .ok (s.startApp 0) (le 1 2 ++ le 1 s.app.stopCause ++ zeros 2) := by
  have hr : (s.startApp 0).appReply = .ok (s.startApp 0) (le 1 2 ++ le 1 s.app.stopCause ++ zeros 2) := by
    rw [State.appReply, State.startApp_app.1, State.startApp_app.2]
  refine Eq.trans (if_pos ?_) hr
  simpa [hs, hu, hb, hd, or_assoc] using ha

theorem opAppControl_suspend (ha : s.app.state = 2) : opAppControl [2, 0, 0, 0] s =
    .ok (s.modApp fun x => { x with suspendReq := true }) (le 1 2 ++ le 1 s.app.stopCause ++ zeros 2) := by
  have hr : opAppControl [2, 0, 0, 0] s = (if s.app.state = 2 then s.modApp fun x => { x with suspendReq := true } else s).appReply := rfl
  rw [hr, if_pos ha, State.appReply, State.modApp_app, ha]

theorem opAppControl_stop (ha : s.app.state = 2 ∨ s.app.state = 3) :
    opAppControl [0, 0, 0, 0] s = .ok (s.endApp 0) (le 1 4 ++ le 1 0 ++ zeros 2) := by
  have hr : opAppControl [0, 0, 0, 0] s = (if s.appLive then s.endApp 0 else s).appReply := rfl
  rw [hr, if_pos (by simpa [State.appLive] using ha), State.appReply, (s.endApp_app 0).1, (s.endApp_app 0).2]

theorem opAppControl_stop_idle (h2 : s.app.state ≠ 2) (h3 : s.app.state ≠ 3) :
    opAppControl [0, 0, 0, 0] s = .ok s (le 1 s.app.state ++ le 1 s.app.stopCause ++ zeros 2) := by
  have hr : opAppControl [0, 0, 0, 0] s = (if s.appLive then s.endApp 0 else s).appReply := rfl
  rw [hr, if_neg (by simp [State.appLive, h2, h3]), State.appReply]

/-! ### The rows, each stated of the state `u` at its stamp -/

variable {u : State} (hu : s.upTo t = u)
include hu

theorem execAppStart_starts (hs : u.takes c 0x0704 [1, 0, 0, 0]) (hk : u.sealedCfg.isSome = true) (ht : (u.cu 0x0001 12 1).testBit 0 = true)
    (ha : u.app.state = 1 ∨ u.app.state = 3 ∨ u.app.state = 4) (hb : u.power.pllBLost = false) (hd : u.power.ddrLost = false) :
    exec (.appStart t c q [1, 0, 0, 0]) s =
      .next (((u.charged c).startApp 0).answered c q (le 1 2 ++ le 1 u.app.stopCause ++ zeros 2)) := by
  subst hu
  rw [← State.charged_app c]
  refine runOp_of_ok (h := opAppControl [1, 0, 0, 0]) hs (opAppControl_start ?_ ?_ ?_ ?_ ?_) (Nat.le_of_eq State.startApp_credits)
  · rwa [State.charged_sealedCfg]
  · rwa [State.charged_cu]
  · rwa [State.charged_app]
  · rwa [State.charged_power]
  · rwa [State.charged_power]

theorem execAppSuspend_suspends (hs : u.takes c 0x0704 [2, 0, 0, 0]) (ha : u.app.state = 2) : exec (.appSuspend t c q [2, 0, 0, 0]) s =
    .next (((u.charged c).modApp fun x => { x with suspendReq := true }).answered c q (le 1 2 ++ le 1 u.app.stopCause ++ zeros 2)) := by
  subst hu
  rw [← State.charged_app c] at ha ⊢
  exact runOp_of_ok (h := opAppControl [2, 0, 0, 0]) hs (opAppControl_suspend ha) (Nat.le_refl _)

theorem execAppStop_ends (hs : u.takes c 0x0704 [0, 0, 0, 0]) (ha : u.app.state = 2 ∨ u.app.state = 3) (hc : c ≠ .app) :
    exec (.appStop t c q [0, 0, 0, 0]) s = .next (((u.charged c).endApp 0).answered c q (le 1 4 ++ le 1 0 ++ zeros 2)) := by
  subst hu
  rw [← State.charged_app c] at ha
  exact runOp_of_ok (h := opAppControl [0, 0, 0, 0]) hs (opAppControl_stop ha) (Nat.le_of_eq (State.endApp_credits 0 hc))

theorem execAppStop_idle (hs : u.takes c 0x0704 [0, 0, 0, 0]) (h2 : u.app.state ≠ 2) (h3 : u.app.state ≠ 3) :
    exec (.appStop t c q [0, 0, 0, 0]) s = .next ((u.charged c).answered c q (le 1 u.app.state ++ le 1 u.app.stopCause ++ zeros 2)) := by
  subst hu
  rw [← State.charged_app c] at h2 h3 ⊢
  exact runOp_of_ok (h := opAppControl [0, 0, 0, 0]) hs (opAppControl_stop_idle h2 h3) (Nat.le_refl _)

theorem execSuspendComplete_suspends (hp : u.up = true) (ha : u.app.state = 2) (hr : u.app.suspendReq = true) (hi : u.appDmaIdle = true) :
    exec (.suspendComplete t) s = .next ((u.modApp fun x => { x with suspendReq := false }).setApp 3 0) := by
  subst hu
  exact congrArg Host.Outcome.next (if_pos (by simp [hp, ha, hr, hi]))

end Sys2Proof.Machine

namespace Sys2Proof.Proofs
open Sys2Proof.Machine

/-- Settles O20: each action is carried out on the charged state, and a stop leaves the credits of a source that is not the program, so that its
reply is owed. -/
theorem programControlled : Obligations.ProgramControlled := by
  unfold Obligations.ProgramControlled
  intro t c q s u
  exact ⟨execAppStart_starts rfl, execAppSuspend_suspends rfl, execAppStop_ends rfl, execAppStop_idle rfl, execSuspendComplete_suspends rfl⟩

end Sys2Proof.Proofs
end

section
/-! SUPPORT. The configuration's blocks (R127 to R131), CHECK and GET_FINGERPRINT (R133, R136), and the packets that a sealed configuration turns away
(R97, R129). -/
namespace Sys2Proof.Machine

variable {s : State} {t : Tick} {c : Source} {q : Nat} {p : Bytes}

/-! ### What charging a packet leaves of the configuration -/

@[simp] theorem State.charged_blocks (c : Source) : (s.charged c).blocks = s.blocks := by rw [s.charged_eq c]
@[simp] theorem State.charged_block (c : Source) (id : Nat) : (s.charged c).block id = s.block id := by
  rw [State.block, State.charged_blocks, State.block]
@[simp] theorem State.charged_blockOr (c : Source) (id : Nat) : (s.charged c).blockOr id = s.blockOr id := by
  rw [State.blockOr, State.charged_block, State.blockOr]

/-! ### Blocks (R128, R130, R131) -/

/-- The first pair of a list is found under its key, and every other key looks further. -/
theorem lookup_cons_eq_ite (x i : Nat) (d : Bytes) (l : List (Nat × Bytes)) :
    ((i, d) :: l).lookup x = if x = i then some d else l.lookup x := by
  rw [List.lookup_cons]
  by_cases hx : x = i
  · rw [if_pos hx, beq_iff_eq.2 hx]
  · rw [if_neg hx, beq_false_of_ne hx]

/-- A block inserted is found under its ID, and every other ID finds what it did. -/
theorem lookup_blockInsert (id x : Nat) (d : Bytes) (l : List (Nat × Bytes)) :
    (blockInsert id d l).lookup x = if x = id then some d else l.lookup x := by
  induction l with
  | nil => exact lookup_cons_eq_ite x id d []
  | cons b l ih =>
    obtain ⟨i, e⟩ := b
    unfold blockInsert
    split
    case isTrue => exact lookup_cons_eq_ite x id d _
    case isFalse =>
      split
      case isTrue hi =>
        simp only [lookup_cons_eq_ite, hi]
        split <;> rfl
      case isFalse hi =>
        simp only [lookup_cons_eq_ite, ih]
        by_cases hx : x = id
        · simp only [hx, hi, if_true, if_false]
        · simp only [hx, if_false]

/-- A block that passes its checks and concerns no Alcia port is written and restarts nothing. -/
theorem opWriteBlock_writes (hb : blockFails (ordinaryLayout (getN p 0 2)) p = none) (hi : getN p 0 2 ∉ [0x0001, 0x0090, 0x0091, 0x0092]) :
    opWriteBlock p s = .ok (s.putBlock p) := by
  obtain ⟨h1, h2, h3, h4⟩ : getN p 0 2 ≠ 0x0001 ∧ getN p 0 2 ≠ 0x0090 ∧ getN p 0 2 ≠ 0x0091 ∧ getN p 0 2 ≠ 0x0092 := by simpa using hi
  simp only [opWriteBlock, hb, h1, h2, h3, h4, or_self, if_false]

theorem opWriteBlock_fails {l : Nat × Nat} (hb : blockFails (ordinaryLayout (getN p 0 2)) p = some l) :
    opWriteBlock p s = .no s eRange (le 2 l.1 ++ le 2 l.2) := by
  simp only [opWriteBlock, hb]

theorem opReadBlock_reads (hk : (blockLayout (getN p 0 2)).isSome = true) (hr : getN p 2 2 ≤ 1) :
    opReadBlock p s = .ok s (le 2 (getN p 0 2) ++ le 2 (b2n (s.block (getN p 0 2)).isSome) ++ s.blockOr (getN p 0 2)) :=
  if_neg (by simp [Option.isSome_iff_ne_none.1 hk, hr])

/-! ### CHECK and GET_FINGERPRINT (R133, R136) -/

theorem opCheck_passes (h : s.firstFail false = none) : opCheck s = .ok s (zeros 8) := by simp only [opCheck, h]

theorem opCheck_fails {f : Nat × Nat × Nat} (h : s.firstFail false = some f) : opCheck s = .ok s (failData f) := by simp only [opCheck, h]

theorem opGetFingerprint_sealed {g : Sealed} (h : s.sealedCfg = some g) : opGetFingerprint s = .ok s g.fingerprint := by
  simp only [opGetFingerprint, h]

/-! ### The rows -/

theorem execWriteBlock_writes (hs : (s.upTo t).takes c 0x0200 p) (hb : blockFails (ordinaryLayout (getN p 0 2)) p = none)
    (hi : getN p 0 2 ∉ [0x0001, 0x0090, 0x0091, 0x0092]) : exec (.writeBlock t c q p) s =
      .next (({ (s.upTo t).charged c with blocks := blockInsert (getN p 0 2) (p.drop 4) (s.upTo t).blocks }).answered c q) := by
  rw [← State.charged_blocks c]
  exact runOp_of_ok (h := opWriteBlock p) hs (opWriteBlock_writes hb hi) (Nat.le_refl _)

theorem execWriteBlock_fails {l : Nat × Nat} (hs : (s.upTo t).takes c 0x0200 p) (hb : blockFails (ordinaryLayout (getN p 0 2)) p = some l) :
    exec (.writeBlock t c q p) s = .next (((s.upTo t).charged c).reject c q eRange (le 2 l.1 ++ le 2 l.2)) :=
  runOp_of_no (h := opWriteBlock p) hs (opWriteBlock_fails hb) (by decide)

theorem execReadBlock_reads (hs : (s.upTo t).takes c 0x0201 p) (hk : (blockLayout (getN p 0 2)).isSome = true) (hr : getN p 2 2 ≤ 1) :
    exec (.readBlock t c q p) s = .next (((s.upTo t).charged c).answered c q
      (le 2 (getN p 0 2) ++ le 2 (b2n ((s.upTo t).block (getN p 0 2)).isSome) ++ (s.upTo t).blockOr (getN p 0 2))) := by
  rw [← State.charged_block c, ← State.charged_blockOr c]
  exact runOp_of_ok (h := opReadBlock p) hs (opReadBlock_reads hk hr) (Nat.le_refl _)

theorem execCheck_passes (hs : (s.upTo t).takes c 0x0202 p) (hf : (s.upTo t).firstFail false = none) :
    exec (.check t c q p) s = .next (((s.upTo t).charged c).answered c q (zeros 8)) := by
  rw [← State.charged_firstFail _ c] at hf
  exact runOp_of_ok (h := opCheck) hs (opCheck_passes hf) (Nat.le_refl _)

theorem execCheck_fails {f : Nat × Nat × Nat} (hs : (s.upTo t).takes c 0x0202 p) (hf : (s.upTo t).firstFail false = some f) :
    exec (.check t c q p) s = .next (((s.upTo t).charged c).answered c q (failData f)) := by
  rw [← State.charged_firstFail _ c] at hf
  exact runOp_of_ok (h := opCheck) hs (opCheck_fails hf) (Nat.le_refl _)

theorem execGetFingerprint_answers {g : Sealed} (hs : (s.upTo t).takes c 0x0205 p) (hg : (s.upTo t).sealedCfg = some g) :
    exec (.getFingerprint t c q p) s = .next (((s.upTo t).charged c).answered c q g.fingerprint) := by
  rw [← State.charged_sealedCfg c] at hg
  exact runOp_of_ok (h := opGetFingerprint) hs (opGetFingerprint_sealed hg) (Nat.le_refl _)

/-! ### A packet that a check of R97 turns away -/

/-- A packet of a known opcode that a check turns away is answered with its status and data, whatever the opcode would do. -/
theorem runOp_of_objection {op e : Nat} {d : Bytes} {h : State → Rep} (hl : (s.upTo t).listens = true)
    (hk : 0 < ((s.upTo t).port c).credits) (hi : (opInfo op).isSome) (ho : (s.upTo t).objection op c p = some (e, d)) :
    runOp t c op q p h s = .next (((s.upTo t).charged c).reject c q e d) := by
  have hn : ((s.upTo t).countPacket.port c).credits ≠ 0 := Nat.ne_of_gt hk
  have hc : (((s.upTo t).countPacket.takeCredit c).noteRecv c).objection op c p = some (e, d) := (State.charged_admit _ c c op p).trans ho
  simp only [runOp, State.submit, State.carryOut, hl, hn, hi, hc, Bool.not_true, Bool.false_eq_true, if_false, if_true]
  rfl

/-- Each opcode of R129 is one of R113 and of no update session. -/
theorem opInfo_of_sealedOp {op : Nat} (ho : sealedOp op = true) : (opInfo op).isSome ∧ op < 0x0902 := by
  obtain rfl | rfl | rfl | rfl : op = 0x0200 ∨ op = 0x0202 ∨ op = 0x0203 ∨ op = 0x0502 := by simpa [sealedOp, or_assoc] using ho
  all_goals exact ⟨rfl, by decide⟩

/-- Every source but the service port passes check 9 with an opcode of no update session (R103). -/
theorem sourceOk_of_not_service {op : Nat} (hc : c ≠ .service) (ho : op < 0x0902) : sourceOk op c = true := by
  cases c with
  | service => exact absurd rfl hc
  | host | alcia | app => simp [sourceOk, Nat.not_le.2 ho]

/-- While a configuration is sealed, each opcode of R129 from a source that passes check 9 fails check 10 with E_SEALED. -/
theorem State.objection_of_sealed {op : Nat} (ho : sealedOp op = true) (hc : c ≠ .service) (hk : s.sealedCfg.isSome = true) :
    s.objection op c p = some (eSealed, []) := by
  obtain ⟨hi, hu⟩ := opInfo_of_sealedOp ho
  obtain ⟨i, hi⟩ := Option.isSome_iff_exists.1 hi
  have hn : s.stateOk op i.states = false := by simp [State.stateOk, ho, hk]
  simp [State.objection, hi, hn, ho, hk, sourceOk_of_not_service hc hu]

theorem runOp_of_sealed {op : Nat} {h : State → Rep} (ho : sealedOp op = true) (hl : (s.upTo t).listens = true)
    (hk : 0 < ((s.upTo t).port c).credits) (hc : c ≠ .service) (hg : (s.upTo t).sealedCfg.isSome = true) :
    runOp t c op q p h s = .next (((s.upTo t).charged c).reject c q eSealed) :=
  runOp_of_objection hl hk (opInfo_of_sealedOp ho).1 (State.objection_of_sealed ho hc hg)

end Sys2Proof.Machine

namespace Sys2Proof.Proofs
open Sys2Proof.Machine

/-- Settles O10: each opcode is carried out on the charged state, which holds the blocks of the state before, and an insertion is found under its ID
whatever the order of the list. -/
theorem configurationWrittenAndRead : Obligations.ConfigurationWrittenAndRead := by
  unfold Obligations.ConfigurationWrittenAndRead
  exact ⟨fun t c q p s => ⟨execWriteBlock_writes, fun l => execWriteBlock_fails, fun id x d l _ => lookup_blockInsert id x d l⟩,
    fun t c q p s => ⟨execReadBlock_reads, execCheck_passes, fun f => execCheck_fails, fun g => execGetFingerprint_answers⟩⟩

/-- Settles O51: the four opcodes are those of `sealedOp`, and what a check turns away is answered before the opcode is carried out. -/
theorem sealedConfigurationRefusesWriting : Obligations.SealedConfigurationRefusesWriting := by
  unfold Obligations.SealedConfigurationRefusesWriting
  intro t c q p s u hl hk hc hg
  exact ⟨runOp_of_sealed rfl hl hk hc hg, runOp_of_sealed rfl hl hk hc hg, runOp_of_sealed rfl hl hk hc hg, runOp_of_sealed rfl hl hk hc hg⟩

end Sys2Proof.Proofs
end

section
/-! SUPPORT. SEAL and UNSEAL (R133, R134, R139, R405), ENABLE (R138) and CLEAR_FAULT (R432): each leaves the credits of the packet's source, so that its
reply is owed. -/
namespace Sys2Proof.Machine

variable {s v : State} {t : Tick} {c : Source} {q : Nat} {p : Bytes}

/-! ### What charging a packet leaves of what the lifecycle asks -/

@[simp] theorem State.charged_cfgPrint (c : Source) : (s.charged c).cfgPrint = s.cfgPrint := by rw [s.charged_eq c]; rfl
@[simp] theorem State.charged_kpRefuses (c : Source) : (s.charged c).kpRefuses = s.kpRefuses := by
  rw [State.kpRefuses, State.charged_blocks, State.kpRefuses]
@[simp] theorem State.charged_mayUnseal (c : Source) (b : Bool) : (s.charged c).mayUnseal b = s.mayUnseal b := by rw [s.charged_eq c]; rfl
@[simp] theorem State.charged_mayEnable (c : Source) : (s.charged c).mayEnable = s.mayEnable := by rw [s.charged_eq c]; rfl
@[simp] theorem State.charged_enMask (c : Source) : (s.charged c).enMask = s.enMask := by rw [s.charged_eq c]; rfl
@[simp] theorem State.charged_enStacks (c : Source) : (s.charged c).enStacks = s.enStacks := by rw [s.charged_eq c]; rfl

/-! ### What the operations keep (R98, R128) -/

/-- An operation that keeps what `State.Keeps` says leaves every source's credits. -/
theorem State.Held.credits_le (h : v.Held s.Keeps) (c : Source) : (v.port c).credits ≤ (s.port c).credits :=
  Nat.le_of_eq (h.holds.2.2 c).1

theorem State.Held.keptBlocks (h : v.Held s.Keeps) : v.blocks = s.blocks := h.holds.2.1

theorem State.doSeal_blocks (c : Source) : (s.doSeal c).blocks = s.blocks := (State.doSeal_held (State.Keeps.held s)).keptBlocks

theorem State.doUnseal_blocks : s.doUnseal.blocks = s.blocks := (State.doUnseal_held (State.Keeps.held s)).keptBlocks

/-! ### SEAL (R133, R134, R405) -/

theorem opSeal_seals (hf : s.firstFail true = none) (hk : s.kpRefuses = none) : opSeal c s = .ok (s.doSeal c) s.cfgPrint := by
  simp only [opSeal, hf, hk]

theorem opSeal_fails {f : Nat × Nat × Nat} (hf : s.firstFail true = some f) : opSeal c s = .no s f.2.2 (failData f) := by
  simp only [opSeal, hf, Rep.no]

theorem opSeal_refused {i : Nat} (hf : s.firstFail true = none) (hk : s.kpRefuses = some i) :
    opSeal c s = .no s eRange (failData (i, whole, eRange)) := by
  simp only [opSeal, hf, hk]

theorem execSealConfig_seals (hs : (s.upTo t).takes c 0x0203 p) (hf : (s.upTo t).firstFail true = none) (hk : (s.upTo t).kpRefuses = none) :
    exec (.sealConfig t c q p) s = .next ((((s.upTo t).charged c).doSeal c).answered c q (s.upTo t).cfgPrint) := by
  rw [← State.charged_firstFail _ c] at hf
  rw [← State.charged_kpRefuses c] at hk
  rw [← State.charged_cfgPrint c]
  exact runOp_of_ok (h := opSeal c) hs (opSeal_seals hf hk) ((State.doSeal_held (State.Keeps.held _)).credits_le c)

theorem execSealConfig_fails {f : Nat × Nat × Nat} (hs : (s.upTo t).takes c 0x0203 p) (hf : (s.upTo t).firstFail true = some f)
    (hn : f.2.2 ≠ 0) : exec (.sealConfig t c q p) s = .next (((s.upTo t).charged c).reject c q f.2.2 (failData f)) := by
  rw [← State.charged_firstFail _ c] at hf
  exact runOp_of_no (h := opSeal c) hs (opSeal_fails hf) hn

theorem execSealConfig_refused {i : Nat} (hs : (s.upTo t).takes c 0x0203 p) (hf : (s.upTo t).firstFail true = none)
    (hk : (s.upTo t).kpRefuses = some i) : exec (.sealConfig t c q p) s =
      .next (((s.upTo t).charged c).reject c q eRange (failData (i, whole, eRange))) := by
  rw [← State.charged_firstFail _ c] at hf
  rw [← State.charged_kpRefuses c] at hk
  exact runOp_of_no (h := opSeal c) hs (opSeal_refused hf hk) (by decide)

/-! ### UNSEAL (R139) -/

/-- Outside FAULT an UNSEAL asks for no VIN level. -/
theorem opUnseal_unseals (hd : s.dev ≠ .fault) (hm : s.mayUnseal true = true) : opUnseal s = .ok s.doUnseal := by
  simp only [opUnseal, hd, hm, if_false, if_true]

theorem execUnsealConfig_unseals (hs : (s.upTo t).takes c 0x0204 p) (hd : (s.upTo t).dev ≠ .fault) (hm : (s.upTo t).mayUnseal true = true) :
    exec (.unsealConfig t c q p) s = .next (((s.upTo t).charged c).doUnseal.answered c q) := by
  rw [← State.charged_dev c] at hd
  rw [← State.charged_mayUnseal c] at hm
  exact runOp_of_ok (h := opUnseal) hs (opUnseal_unseals hd hm) ((State.doUnseal_held (State.Keeps.held _)).credits_le c)

/-! ### ENABLE (R138) -/

theorem execEnable_enables (hs : (s.upTo t).takes c 0x0300 p) (hm : (s.upTo t).mayEnable = true) :
    exec (.enable t c q p) s = .next (((s.upTo t).charged c).doEnable.answered c q) := by
  rw [← State.charged_mayEnable c] at hm
  exact runOp_of_ok (h := opEnable) hs (if_pos hm) ((State.doEnable_held (State.Keeps.held _)).credits_le c)

theorem execEnable_refuses (hs : (s.upTo t).takes c 0x0300 p) (hm : (s.upTo t).mayEnable = false) :
    exec (.enable t c q p) s = .next (((s.upTo t).charged c).reject c q eState) := by
  rw [← State.charged_mayEnable c] at hm
  exact runOp_of_no (h := opEnable) hs (if_neg (by simp [hm])) (by decide)

/-! ### CLEAR_FAULT (R432) -/

theorem opClearFault_clears (h : ∀ x ∈ s.heldFaults, x.1.cls ≠ 14) : opClearFault s =
    .ok s.clearFaults (match s.clearFaults.heldFaults.head? with | some x => faultData x.1 | none => zeros 4) := by
  have hn : (s.heldFaults.find? fun x => x.1.cls == 14) = none := by simpa using h
  simp only [opClearFault, hn] <;> rfl

theorem opClearFault_kept {x : FaultKey × Nat} (h : (s.heldFaults.find? fun x => x.1.cls == 14) = some x) :
    opClearFault s = .no s eState (faultData x.1) := by
  simp only [opClearFault, h]

theorem execClearFault_clears (hs : (s.upTo t).takes c 0x0307 p) (h : ∀ x ∈ (s.upTo t).heldFaults, x.1.cls ≠ 14) :
    exec (.clearFault t c q p) s = .next (((s.upTo t).charged c).clearFaults.answered c q
      (match ((s.upTo t).charged c).clearFaults.heldFaults.head? with | some x => faultData x.1 | none => zeros 4)) := by
  rw [← State.charged_heldFaults c] at h
  exact runOp_of_ok (h := opClearFault) hs (opClearFault_clears h) ((State.clearFaults_held (State.Keeps.held _)).credits_le c)

theorem execClearFault_kept {x : FaultKey × Nat} (hs : (s.upTo t).takes c 0x0307 p)
    (h : ((s.upTo t).heldFaults.find? fun x => x.1.cls == 14) = some x) :
    exec (.clearFault t c q p) s = .next (((s.upTo t).charged c).reject c q eState (faultData x.1)) := by
  rw [← State.charged_heldFaults c] at h
  exact runOp_of_no (h := opClearFault) hs (opClearFault_kept h) (by decide)

end Sys2Proof.Machine

namespace Sys2Proof.Proofs
open Sys2Proof.Machine

/-- Settles O11: each command is carried out on the charged state, in which the enabled stacks are those of the state before, and keeps every
source's credits; SEAL and UNSEAL keep the blocks as well. -/
theorem sealEnableAndClear : Obligations.SealEnableAndClear := by
  unfold Obligations.SealEnableAndClear
  refine ⟨fun t c q p s => ⟨?seals, fun f => execSealConfig_fails, fun i => execSealConfig_refused, ?unseals⟩,
    fun t c q p s => ⟨?enables, execEnable_refuses, execClearFault_clears, fun h => execClearFault_kept⟩⟩
  case seals =>
    intro hs hf hk
    exact ⟨execSealConfig_seals hs hf hk, (State.doSeal_blocks c).trans (State.charged_blocks c)⟩
  case unseals =>
    intro hs hd hm
    have hn : (s.upTo t).dev ≠ .fault := by rw [hd]; decide
    exact ⟨execUnsealConfig_unseals hs hn hm, State.doUnseal_blocks.trans (State.charged_blocks c)⟩
  case enables =>
    intro hs hm
    rw [execEnable_enables hs hm]
    dsimp only
    rw [← State.charged_enStacks c, ← State.charged_enMask c]
    rfl

end Sys2Proof.Proofs
end

section
/-! SUPPORT. The axes (R193, R195, R345 to R350, R362, R363) and their half-bridges (R167 to R170, R349), each row stated of the state `u` at its
stamp. -/
namespace Sys2Proof.Machine

/-! ### What an axis reads -/

/-- Only what a change does to the axis it meets counts. -/
theorem State.modAxis_congr {s : State} {n : Nat} {f g : Axis → Axis} (h : f (s.axis n) = g (s.axis n)) : s.modAxis n f = s.modAxis n g := by
  rw [State.modAxis, State.modAux, vmod_congr _ h]; rfl

/-- The offset slew of a period touches an axis in its shunts' calibration alone (R190, R193). -/
theorem State.axis_axSlew (s : State) (n : Fin 4) : ∃ l c, (s.axSlew n).axis n = { s.axis n with lastCal := l, cal := c } :=
  ⟨_, _, (s.axis_modAxis n.isLt n _).trans (if_pos rfl)⟩

variable {s u : State} {t : Tick} (hu : s.upTo t = u)
include hu

/-! ### The axis cycle (R195, R345, R349) -/

/-- The cycle that is asked for runs the axes in order, then asks for the shunts of the steppers and for the bus voltage. -/
theorem execAxisCycle_runs {y : Tick} (hw : u.awake = true) (hc : u.sealedCfg.isSome = true) (hh : vget u.integ.halted 0 false = false)
    (hy : u.aux.cycleAt = some y) (ht : y ≤ t) : exec (.axisCycle t) s = .next (
      let v := [0, 1, 2, 3].foldl (fun (v : State) i => v.axCycle i) (u.modAux fun a => { a with cycleAt := none })
      let v := [0, 1, 2, 3].foldl (fun (v : State) i => if v.axEn i && v.axType i == 0 then v.superviseShunts i else v) v
      if [1, 2, 3, 0].any (fun i => v.axEn i && v.axType i != 0) && v.sarB.pending.all (·.input != 32) then
        v.sarRequest .b { cls := 3, input := 32, at_ := v.time } else v) := by
  subst hu
  exact congrArg Host.Outcome.next (if_neg (by simp [hw, hc, hy, ht, hh]))

/-- Without a sealed configuration, or without a cycle that is asked for, nothing runs. -/
theorem execAxisCycle_idle (h : u.sealedCfg = none ∨ u.aux.cycleAt = none) : exec (.axisCycle t) s = .next u := by
  subst hu
  exact congrArg Host.Outcome.next (if_pos (by rcases h with h | h <;> simp [h]))

/-! ### Steppers (R347, R348) -/

section
variable {n : Fin 4} {b : Fin 2} (he : u.axEn n = true) (hy : u.axType n = 0)
include he hy

theorem execHoldCurrentTimeout_holds (hv : (u.axis n).speed = 0) (ht : (u.axis n).lastChg + msTicks (getN (u.axCfg n) 18 2) + 100 ≤ t) :
    exec (.holdCurrentTimeout t n) s = .next (((u.modAxis n fun a => { a with hold := true }).axSetPoints n).axOut n) := by
  subst hu
  exact congrArg Host.Outcome.next (if_pos (by simp [he, hy, hv, (due_iff ..).2 ht]))

theorem execStepperChopTrip_endsOnPhase (ho : (vget (u.axis n).bridges b {}).onPhase = true)
    (hb : (vget (u.axis n).bridges b {}).blankAt + 10 * getN (u.axCfg n) 22 1 ≤ t) : exec (.stepperChopTrip t n b) s =
      .next ((u.modAxis n fun a => { a with bridges := vmod a.bridges b fun x => { x with onPhase := false, offAt := u.time } }).axOut n) := by
  subst hu
  exact congrArg Host.Outcome.next (if_pos (by simp [he, hy, ho, hb]))

theorem execStepperToffEnd_startsOnPhase (hs : (u.axis n).state = 1) (hp : (u.axis n).precharge = false)
    (ho : (vget (u.axis n).bridges b {}).onPhase = false) (hf : (vget (u.axis n).bridges b {}).offAt + 50 * getN (u.axCfg n) 20 1 ≤ t)
    (hm : 100000 ≤ (t - (vget (u.axis n).bridges b {}).onAt) * getN (u.axCfg n) 23 1) : exec (.stepperToffEnd t n b) s =
      .next ((u.modAxis n fun a => { a with
        bridges := vmod a.bridges b fun x =>
          if absR x.set * 100 < getN (u.axCfg n) 12 2 then { x with offAt := u.time }
          else { x with onPhase := true, onAt := u.time, blankAt := u.time } }).axOut n) := by
  subst hu
  exact congrArg Host.Outcome.next (if_pos (by simp [he, hy, hs, hp, ho, hf, hm]))

end

/-! ### The PWM period of an axis (R193, R350) -/

section
variable {n : Fin 4} (he : u.axEn n = true) (hw : u.awake = true) (hh : vget u.integ.halted 0 false = false) (hz : u.axPeriodAt n t = true)
include he hw hh hz

/-- A period that begins slews the offsets, then measures an axis at rest or runs the loop of one that is driven. -/
theorem execAxisPwmPeriod_begins : exec (.axisPwmPeriod t n) s = .next (
    let v := u.axSlew n
    let a := v.axis n
    let tp := u.ctrlCycle / max 1 (getN (u.axCfg n) 6 1)
    if a.state = 0 ∨ a.state = 6 then if v.axQuiet n ∧ a.measure = 0 ∧ !a.precharge then v.measureShunts n else v
    else if v.axType n = 0 ∨ a.precharge then v
    else ((v.axOut n).axLoop n tp).axConvert n (v.axPlan n tp) ((byDuty a.duties)[1]?.getD 0)) := by
  subst hu
  exact congrArg Host.Outcome.next (if_neg (by simp [he, hw, hh, hz]))

theorem execAxisPwmPeriod_atRest (hs : (u.axis n).state = 0 ∨ (u.axis n).state = 6) (hp : (u.axis n).precharge = false)
    (hq : (u.axSlew n).axQuiet n = true) (hm : (u.axis n).measure = 0) :
    exec (.axisPwmPeriod t n) s = .next ((u.axSlew n).measureShunts n) := by
  obtain ⟨l, c, ha⟩ := u.axis_axSlew n
  rw [execAxisPwmPeriod_begins hu he hw hh hz]
  simp only [ha, hs, hp, hq, hm, Bool.not_false, and_self, if_true]

theorem execAxisPwmPeriod_driven (h0 : (u.axis n).state ≠ 0) (h6 : (u.axis n).state ≠ 6) (hp : (u.axis n).precharge = false)
    (hy : u.axType n ≠ 0) : exec (.axisPwmPeriod t n) s = .next (
      let v := u.axSlew n
      let tp := u.ctrlCycle / max 1 (getN (u.axCfg n) 6 1)
      ((v.axOut n).axLoop n tp).axConvert n (v.axPlan n tp) ((byDuty (u.axis n).duties)[1]?.getD 0)) := by
  obtain ⟨l, c, ha⟩ := u.axis_axSlew n
  have hy' : (u.axSlew n).axType n ≠ 0 := hy
  rw [execAxisPwmPeriod_begins hu he hw hh hz]
  simp only [ha, h0, h6, hp, hy', Bool.false_eq_true, or_self, if_false]

end

/-! ### Switches (R362, R363) -/

section
variable {n : Fin 4} {i : AxisSwitch} {lv : Bool} {since : Tick}

/-- A level that has not stayed for the interval yet changes nothing. -/
theorem execSwitchChange_early (h : t < since + 10000 * getN (u.axCfg n) 80 1) : exec (.switchChange t n i lv true since) s = .next u := by
  subst hu
  exact congrArg Host.Outcome.next ((congrArg (ite _ _) (if_pos h)).trans (ite_self _))

variable (he : u.axEn n = true) (hw : u.awake = true)
include he hw

/-- A level that stays is kept with the count at the first sample of its interval, outside a homing. -/
theorem execSwitchChange_kept (hs : (u.axis n).state ≠ 4) (h : since + 10000 * getN (u.axCfg n) 80 1 ≤ t) :
    exec (.switchChange t n i lv true since) s = .next (
      (u.modAxis n fun a => { a with sw := vmod a.sw (swIx i) fun w => { w with
        active := lv, latched := a.rawAt since, stamp := u.time } }).axOut n) := by
  have hg : (!(u.axEn n && u.awake)) = false := by simp [he, hw]
  rw [State.modAxis_congr (g := fun a => { a with sw := vmod a.sw (swIx i) fun w => { w with
    active := lv, latched := (u.axis n).rawAt since, stamp := u.time } }) rfl]
  change execSwitchChange t n i lv true since s = _
  simp only [execSwitchChange, hu, hg, Nat.not_lt.2 h, State.axis_modAxis _ n.isLt, hs, Bool.not_true, Bool.false_eq_true, if_false, if_true]

/-- A level that does not stay is a chatter event, of which a switch that is faulty already only keeps the time. -/
theorem execSwitchChange_chatter (hf : (vget (u.axis n).sw (swIx i) {}).faulty = true) : exec (.switchChange t n i lv false since) s =
      .next (u.modAxis n fun a => { a with sw := vmod a.sw (swIx i) fun w => { w with
        chatter := u.time :: (vget (u.axis n).sw (swIx i) {}).chatter.filter fun y => decide (u.time - y ≤ msTicks (getN (u.axCfg n) 82 2))
        faulty := true } }) := by
  have hg : (!(u.axEn n && u.awake)) = false := by simp [he, hw]
  change execSwitchChange t n i lv false since s = _
  simp only [execSwitchChange, hu, hg, hf, Bool.not_true, Bool.and_false, Bool.or_false, Bool.not_false, Bool.false_eq_true, if_false, if_true]
  refine congrArg Host.Outcome.next (State.modAxis_congr (congrArg (fun w => { u.axis n with sw := w }) (vmod_congr {} ?_)))
  rw [hf]

end

/-! ### Bootstrap refresh (R167, R168) -/

section
variable {h : Fin 16}

/-- A refresh of a half-bridge of a PWM axis: the high side off, the low side on for REFRESH_W, the high side back on. -/
theorem execRefreshSequence_pwm (hi : (u.hbNow h).hi = true) (hy : u.axType (h.val / 4) ≠ 0) : exec (.refreshSequence t h) s = .next (
    let m := h.val / 4
    let w := u.refreshW m
    let dt := u.dtAux m
    let a := min u.time ((u.hbNow h).lastLo + 4000 - (2 * dt + w))
    (u.modHb h fun y => { y.set w (max a y.lastLo) false false with
      plan := [(a + dt, false, true), (a + dt + w, false, false), (a + 2 * dt + w, true, false)] }).modAxis m fun a => { a with held := true }) := by
  subst hu
  exact congrArg Host.Outcome.next ((if_pos hi).trans (if_neg hy))

theorem execRefreshSequence_notHigh (hi : (u.hbNow h).hi = false) : exec (.refreshSequence t h) s = .next u := by
  subst hu
  exact congrArg Host.Outcome.next (if_neg (by simp [hi]))

end

/-! ### Precharge, bootstrap undervoltage and shoot-through (R167, R169) -/

section
variable {n : Fin 4} {v : Nat}

theorem execPrechargeDone_ends (hp : (u.axis n).precharge = true) (hb : ∀ i < 4, (vget u.aux.hb (4 * n + i) {}).boot = false) :
    exec (.prechargeDone t n v) s = .next (
      let w := u.modAxis n fun a => { a with precharge := false, next := none }
      (match (u.axis n).next with | some st => w.setAx n st | none => w).axOut n) := by
  have hf : ((List.range 4).find? fun i => (vget u.aux.hb (4 * n + i) {}).boot) = none := by simpa using hb
  change execPrechargeDone t n v s = _
  simp only [execPrechargeDone, hu, hp, hf, Bool.not_true, Bool.false_eq_true, if_false] <;> rfl

theorem execPrechargeDone_notPrecharging (hp : (u.axis n).precharge = false) : exec (.prechargeDone t n v) s = .next u := by
  subst hu
  exact congrArg Host.Outcome.next (if_pos (by simp [hp]))

end

section
variable {h : Fin 16} (he : u.axEn (h.val / 4) = true)
include he

/-- An undervoltage in a precharge begins another one, with its event. -/
theorem execBootstrapUv_precharges (hl : h.val % 4 < usedHb (u.axType (h.val / 4))) (hp : (u.axis (h.val / 4)).precharge = true) :
    exec (.bootstrapUv t h) s = .next (
      let m := h.val / 4
      let w := (((u.modAux fun x => { x with hb := vmod x.hb h fun y => { y with boot := true } }).modHb h fun y =>
        y.command (u.refreshW m) (u.dtAux m) u.time false false).modAxis m fun a => { a with precharge := true }).raise 0x8602 2 0 (le 1 h ++ le 1 m)
      (if (w.axis m).state = 6 then w.modAxis m fun a => { a with precharge := false, next := none } else w).axOut m) := by
  subst hu
  exact congrArg Host.Outcome.next (if_pos (by simp [he, hl, hp]))

/-- An attempt to turn on both switches is held off and counted, here and in the Kingpost. -/
theorem execAuxShootThroughAttempt_counted (hs : (u.axis (h.val / 4)).state ≠ 0) : exec (.auxShootThroughAttempt t h) s = .next (
    let m := h.val / 4
    let w := (u.modAux fun x => { x with
      stCount := satN 4 (x.stCount + 1), hb := vmod x.hb h fun y => y.command (u.refreshW m) (u.dtAux m) u.time false false }).modSafety fun x =>
        { x with stCount := satN 4 (x.stCount + 1) }
    let w := w.raise 0x8601 2 0 (le 1 h ++ zeros 3 ++ le 4 w.aux.stCount)
    if (w.axis m).state = 6 then w.axOut m else w) := by
  subst hu
  exact congrArg Host.Outcome.next (if_pos (by simp [he, hs]))

end

/-! ### Bus overvoltage and overcurrent (R170, R349) -/

theorem execAuxBusOv_off {v : Nat} (hw : u.awake = true) (hv : u.cu 0x24 32 2 < v) :
    exec (.auxBusOv t v) s = .next ((u.modAux fun x => { x with busOv := true }).raise 0x8603 2 0 (le 2 v)).axOutAll := by
  subst hu
  exact congrArg Host.Outcome.next (if_pos (by simp [hw, hv]))

theorem execAxOvercurrent_off {sh : Fin 8} (he : u.axEn (sh.val / 2) = true) (h0 : (u.axis (sh.val / 2)).state ≠ 0)
    (h6 : (u.axis (sh.val / 2)).state ≠ 6) : exec (.axOvercurrent t sh) s =
      .next ((u.raise 0x860A 2 0 (le 1 (sh.val / 2) ++ le 1 sh)).axOut (sh.val / 2)) := by
  subst hu
  exact congrArg Host.Outcome.next (if_pos (by simp [he, h0, h6]))

end Sys2Proof.Machine

namespace Sys2Proof.Proofs
open Sys2Proof.Machine

/-- Settles O47: each row by its own lemma at the state of its stamp. -/
theorem auxiliaryAxesFollow : Obligations.AuxiliaryAxesFollow := by
  unfold Obligations.AuxiliaryAxesFollow
  refine ⟨?axes, ?halfBridges⟩
  case axes =>
    intro t n b i lv since s u a br
    exact ⟨fun y => execAxisCycle_runs rfl, execAxisCycle_idle rfl, execHoldCurrentTimeout_holds rfl, execStepperChopTrip_endsOnPhase rfl,
      execStepperToffEnd_startsOnPhase rfl, execAxisPwmPeriod_atRest rfl, execAxisPwmPeriod_driven rfl, execSwitchChange_kept rfl,
      execSwitchChange_early rfl, execSwitchChange_chatter rfl⟩
  case halfBridges =>
    intro t h n sh v s u m
    exact ⟨execRefreshSequence_pwm rfl, execRefreshSequence_notHigh rfl, execPrechargeDone_ends rfl, execPrechargeDone_notPrecharging rfl,
      execBootstrapUv_precharges rfl, execAuxBusOv_off rfl, execAuxShootThroughAttempt_counted rfl, execAxOvercurrent_off rfl⟩

end Sys2Proof.Proofs
end

section
/-! SUPPORT. The decimators' samples (R175 to R177), the stuck inputs (R179) and the reconstruction samples (R178, R180, R187), each row stated of the
state `u` at its stamp. -/
namespace Sys2Proof.Machine

variable {s u : State} {t : Tick} (hu : s.upTo t = u) {k : Fin 4}
include hu

/-! ### Main samples (R175 to R177, R219, R231) -/

/-- The result of a sample centre gives the values of its stack; its checks, the ports' latches and the outer-loop cycle follow. -/
theorem execDecimatedSample_delivers {m : MainSample} {tc e : Tick} (hc : u.sealedCfg.isSome = true) (he : u.enabled k = true) (ha : u.awake = true)
    (hz : u.centreOf k t = some tc) (hw : winCentre (u.cu (0x30 + k) 8 2) t = some e) : exec (.decimatedSample t k m) s = .next (
      let v := u.modSense k fun y => y.deliver (u.senseCfg k) tc t m
      ((((v.calSample k e tc m).unstick k e m).overRange k m).sumCheck k |>.fbLatchAll k t tc).cycleBegin k tc t) := by
  have hg : (!(u.sealedCfg.isSome && u.enabled k && u.awake)) = false := by simp [hc, he, ha]
  have hw' : winCentre (getN (u.senseCfg k) 8 2) t = some e := hw
  change execDecimatedSample t k m s = _
  simp only [execDecimatedSample, hu, hg, hz, hw', Bool.false_eq_true, if_false]

/-- Without a sealed configuration, and at a tick that delivers no sample centre, nothing is taken. -/
theorem execDecimatedSample_idle {m : MainSample} (h : u.sealedCfg = none ∨ u.centreOf k t = none) :
    exec (.decimatedSample t k m) s = .next u := by
  change execDecimatedSample t k m s = _
  rcases h with h | h
  · simp only [execDecimatedSample, hu, h, Option.isSome_none, Bool.false_and, Bool.not_false, if_true]
  · simp only [execDecimatedSample, hu, h, ite_self]

/-! ### Stuck inputs (R179) -/

/-- Only the general input of a stack, slot 5, has no check of its own behind the event. -/
theorem execDsStuck_general {i : Fin 24} {b : Bool} {j : Nat} (hi : dsSlot i = (j, 5)) (hc : u.sealedCfg.isSome = true) (he : u.enabled j = true)
    (ha : u.awake = true) (hm : (u.cu (0x30 + j) 0 1).testBit 5 = true) : exec (.dsStuck t i b) s =
      .next ((u.modSense j fun y => { y with stuck := vmod y.stuck 5 fun _ => some (t, b) }).occur 0x8313 1 j (le 1 i ++ le 1 (b2n b))).st := by
  have hm' : (getN (u.senseCfg j) 0 1).testBit 5 = true := hm
  have hg : (!(u.sealedCfg.isSome && u.enabled j && u.awake && (getN (u.senseCfg j) 0 1).testBit 5)) = false := by simp [hc, he, ha, hm']
  change execDsStuck t i b s = _
  simp only [execDsStuck, hu, hi, hg, Bool.false_eq_true, if_false, if_true]

theorem execDsStuck_unsealed {i : Fin 24} {b : Bool} (hc : u.sealedCfg = none) : exec (.dsStuck t i b) s = .next u := by
  subst hu
  exact congrArg Host.Outcome.next (if_pos (by simp [hc]))

/-! ### Reconstruction samples (R178, R180, R183, R187) -/

section
variable {m : RecSample}

/-- A vector shorter than the least usable time, and a stack that does not switch, give nothing. -/
theorem execReconstructionSample_unused (h : m.lasts < minVector (u.cfg (0x30 + k)) ∨ (u.stack k).switching = false) :
    exec (.reconstructionSample t k m) s = .next u := by
  have hc : u.senseCfg k = u.cfg (0x30 + k) := rfl
  subst hu
  exact congrArg Host.Outcome.next (if_pos (by rcases h with h | h <;> simp [hc, h]))

variable (hc : u.sealedCfg.isSome = true) (he : u.enabled k = true) (ha : u.awake = true) (hs : (u.stack k).switching = true)
  (hd : (u.stack k).sense.dcFailed = false) (hl : minVector (u.senseCfg k) ≤ m.lasts) (hw : (recWindow (u.senseCfg k) m.start).2 = t)
include hc he ha hs hd hl hw

/-- A window that lies in a usable vector is judged by the phase that its vector exposes. -/
theorem execReconstructionSample_usable : exec (.reconstructionSample t k m) s = .next (match vecPhase m.vec with
    | none =>
      if (getN (u.senseCfg k) 72 1).testBit 0 && !u.obsBusy (machineOf u.arrange k) then
        u.modCal k 3 fun c => if c.ofsRun then { c with sums := c.sums.add 0 (sinc3 (getN (u.senseCfg k) 10 2) m.idc : Rat) 1 } else c
      else u
    | some (x, sg) => if (u.halfSet k m.start).gives then u.recValue k (recWindow (u.senseCfg k) m.start).1 m.start x sg m else u) := by
  have hn : ¬ m.lasts < minVector (u.senseCfg k) := Nat.not_lt.2 hl
  subst hu
  exact congrArg Host.Outcome.next (if_neg (by simp [hc, he, ha, hs, hd, hn, hw]))

/-- A zero vector feeds the offset of the DC-link input where its calibration runs. -/
theorem execReconstructionSample_zeroVector (hv : vecPhase m.vec = none) (hen : (getN (u.senseCfg k) 72 1).testBit 0 = true)
    (ho : u.obsBusy (machineOf u.arrange k) = false) : exec (.reconstructionSample t k m) s = .next (
      u.modCal k 3 fun c => if c.ofsRun then { c with sums := c.sums.add 0 (sinc3 (getN (u.senseCfg k) 10 2) m.idc : Rat) 1 } else c) := by
  simp only [execReconstructionSample_usable hu hc he ha hs hd hl hw, hv, hen, ho, Bool.not_false, Bool.and_self, if_true]

/-- An active vector gives the current of the phase it exposes in a half-period that reconstructs, and nothing in another one. -/
theorem execReconstructionSample_activeVector {x : Fin 3} {sg : Int} (hv : vecPhase m.vec = some (x, sg)) :
    exec (.reconstructionSample t k m) s = .next (
      if (u.halfSet k m.start).gives then u.recValue k (recWindow (u.senseCfg k) m.start).1 m.start x sg m else u) := by
  simp only [execReconstructionSample_usable hu hc he ha hs hd hl hw, hv]

end

end Sys2Proof.Machine

namespace Sys2Proof.Proofs
open Sys2Proof.Machine

/-- Settles O24: each row by its own lemma at the state of its stamp; the values it writes out are those of `Sense.deliver`. -/
theorem samplesTaken : Obligations.SamplesTaken := by
  unfold Obligations.SamplesTaken
  refine ⟨?samples, ?reconstruction⟩
  case samples =>
    intro t k m i b s u
    exact ⟨fun h => execDecimatedSample_idle rfl (.inl h), fun tc e => execDecimatedSample_delivers rfl,
      fun h => execDecimatedSample_idle rfl (.inr h), fun j => execDsStuck_general rfl, execDsStuck_unsealed rfl⟩
  case reconstruction =>
    intro t k m s u
    refine ⟨fun h => execReconstructionSample_unused rfl (.inl h), fun h => execReconstructionSample_unused rfl (.inr h), ?_⟩
    intro d hc he ha hs hd hl hw
    refine ⟨execReconstructionSample_zeroVector rfl hc he ha hs hd hl hw, fun x sg hv hg => ?gives, fun x sg hv hg => ?givesNot⟩
    case gives => rw [execReconstructionSample_activeVector rfl hc he ha hs hd hl hw hv, if_pos hg]; rfl
    case givesNot => rw [execReconstructionSample_activeVector rfl hc he ha hs hd hl hw hv, if_neg (ne_true_of_eq_false hg)]

end Sys2Proof.Proofs
end

section
/-! SUPPORT. CALIBRATION of a stack (R188, R198), and the readings of GET_MEASUREMENTS (R228) and GET_TEMPERATURES (R560). -/
namespace Sys2Proof.Machine

variable {s u : State} {t : Tick} {c : Source} {q : Nat} {p : Bytes} {k : Fin 4}

/-! ### What charging a packet leaves of what these opcodes read -/

@[simp] theorem State.charged_inPulseOff (c : Source) (k : Nat) : (s.charged c).inPulseOff k = s.inPulseOff k := by rw [s.charged_eq c]; rfl
@[simp] theorem State.charged_enabled (c : Source) (k : Nat) : (s.charged c).enabled k = s.enabled k := by rw [s.charged_eq c]; rfl
@[simp] theorem State.charged_measRecord (c : Source) (k : Nat) : (s.charged c).measRecord k = s.measRecord k := by rw [s.charged_eq c]; rfl
@[simp] theorem State.charged_thermal (c : Source) : (s.charged c).thermal = s.thermal := by rw [s.charged_eq c]

/-! ### CALIBRATION of a stack (R198) -/

/-- Every calibrated input of a stack changed by its slot. -/
def State.modInputs (s : State) (k : Nat) (f : Fin 4 → CalInput → CalInput) : State :=
  s.modSense k fun y => { y with cal := Vector.ofFn fun i : Fin 4 => f i y.cal[i] }

@[simp] theorem State.modInputs_port (s : State) (k : Nat) (f) (c : Source) : (s.modInputs k f).port c = s.port c := rfl

/-- What an action does to the input of a slot: to its offset where `ko` says so, to its gain where `kg` does, the DC-link input having no gain; `en` is
CAL_EN. -/
def CalInput.calibrate (en act : Nat) (ko kg : Bool) (i : Fin 4) (c : CalInput) : CalInput :=
  let kg := kg && i.val != 3
  match act with
  | 0 => { c with sums := {}, rest := {}, ofsTgt := if ko then c.ofs else c.ofsTgt, gainTgt := if kg then c.gain else c.gainTgt,
                  ofsRun := c.ofsRun && !ko, gainRun := c.gainRun && !kg }
  | 1 => { c with sums := {}, rest := {}, gainRun := c.gainRun || (kg && en.testBit 2),
                  ofsRun := c.ofsRun || (ko && (en.testBit 3 || en.testBit (if i.val = 3 then 0 else 1))) }
  | _ => { c with restore := c.restore ||| (b2n ko + 2 * b2n kg) }

/-- The fields of a payload that names stack `k`. -/
theorem getN_calPayload (k : Fin 4) (a b : Byte) : getN (le 1 k ++ [a, b, 0]) 0 1 = k.val ∧ getN (le 1 k ++ [a, b, 0]) 1 1 = a.toNat ∧
    getN (le 1 k ++ [a, b, 0]) 2 1 = b.toNat ∧ getN (le 1 k ++ [a, b, 0]) 3 1 = 0 :=
  ⟨getN_le (a := []) rfl (by omega), rfl, rfl, rfl⟩

/-- CALIBRATION acts on every input of the stack it names; a restore asks for pulse-off. -/
theorem opCalibration_stack {a b : Byte} {ko kg : Bool} (ha : a.toNat ≤ 2) (hb : b.toNat ≤ 3) (ho : b.toNat.testBit 0 = ko)
    (hg : b.toNat.testBit 1 = kg) : opCalibration (le 1 k ++ [a, b, 0]) s =
    if a.toNat = 2 ∧ (!s.inPulseOff k) = true then .no s eState
    else .ok (s.modInputs k (CalInput.calibrate (getN (s.senseCfg k) 72 1) a.toNat ko kg)) := by
  subst ho hg
  obtain ⟨h0, h1, h2, h3⟩ := getN_calPayload k a b
  have hx : ¬ 16 ≤ k.val := by omega
  have hn : k.val % 16 = k.val := by omega
  simp only [opCalibration, h0, h1, h2, h3, hx, hn, k.isLt, Nat.not_lt.2 ha, Nat.not_lt.2 hb, decide_false, decide_true, bne_self_eq_false,
    Bool.true_or, Bool.not_true, Bool.or_self, Bool.not_false, Bool.and_true, Bool.false_or, Bool.false_eq_true, if_false]
  rfl

theorem opCalibration_stop : opCalibration (le 1 k ++ [0, 3, 0]) s = .ok (s.modInputs k fun i y => { y with
    sums := {}, rest := {}, ofsTgt := y.ofs, gainTgt := if i = 3 then y.gainTgt else y.gain, ofsRun := false
    gainRun := y.gainRun && i == 3 }) := by
  rw [opCalibration_stack (ko := true) (kg := true) (by decide) (by decide) rfl rfl, if_neg (by simp)]
  refine congrArg (fun f => Rep.ok (s.modInputs k f)) (funext₂ fun i y => ?_)
  fin_cases i <;> simp [CalInput.calibrate]

theorem opCalibration_restore (hp : s.inPulseOff k = true) : opCalibration (le 1 k ++ [2, 3, 0]) s =
    .ok (s.modInputs k fun i y => { y with restore := y.restore ||| (if i = 3 then 1 else 3) }) := by
  rw [opCalibration_stack (ko := true) (kg := true) (by decide) (by decide) rfl rfl, if_neg (by simp [hp])]
  refine congrArg (fun f => Rep.ok (s.modInputs k f)) (funext₂ fun i y => ?_)
  fin_cases i <;> rfl

theorem opCalibration_restore_refused (hp : s.inPulseOff k = false) : opCalibration (le 1 k ++ [2, 3, 0]) s = .no s eState := by
  rw [opCalibration_stack (ko := true) (kg := true) (by decide) (by decide) rfl rfl, if_pos (by simp [hp])]

theorem opCalibration_start (he : (s.cu (0x30 + k) 72 1).testBit 2 = true) : opCalibration (le 1 k ++ [1, 2, 0]) s =
    .ok (s.modInputs k fun i y => { y with sums := {}, rest := {}, gainRun := y.gainRun || i != 3 }) := by
  have he' : (getN (s.senseCfg k) 72 1).testBit 2 = true := he
  rw [opCalibration_stack (ko := false) (kg := true) (by decide) (by decide) rfl rfl, if_neg (by simp)]
  refine congrArg (fun f => Rep.ok (s.modInputs k f)) (funext₂ fun i y => ?_)
  fin_cases i <;> simp [CalInput.calibrate, he']

/-! ### GET_TEMPERATURES (R560) -/

@[simp] theorem length_leI (n : Nat) (v : Int) : (leI n v).length = n := length_le n _

/-- GET_TEMPERATURES gives the die readings first, and the throttle level in byte 30. -/
theorem opGetTemperatures_eq : ∃ d : Bytes, opGetTemperatures s = .ok s d ∧ d.length = 32 ∧
    d.take 12 = ((List.range 6).flatMap fun i => leI 2 (vget s.thermal.die i {}).value) ∧ (d.drop 30).take 1 = le 1 s.thermal.level := by
  refine ⟨_, rfl, ?length, ?die, ?level⟩
  case length => simp
  case die => simp
  case level => simp [List.drop_append, List.drop_eq_nil_of_le]

/-! ### The rows, each stated of the state `u` at its stamp -/

/-- A payload that holds the row's action in its byte 1 is carried out as it is. -/
theorem execCalibrationStop_eq : exec (.calibrationStop t c q (le 1 k ++ [0, 3, 0])) s =
    runOp t c 0x0308 q (le 1 k ++ [0, 3, 0]) (opCalibration (le 1 k ++ [0, 3, 0])) s := rfl
theorem execCalibrationRestore_eq : exec (.calibrationRestore t c q (le 1 k ++ [2, 3, 0])) s =
    runOp t c 0x0308 q (le 1 k ++ [2, 3, 0]) (opCalibration (le 1 k ++ [2, 3, 0])) s := rfl
theorem execCalibrationStart_eq : exec (.calibrationStart t c q (le 1 k ++ [1, 2, 0])) s =
    runOp t c 0x0308 q (le 1 k ++ [1, 2, 0]) (opCalibration (le 1 k ++ [1, 2, 0])) s := rfl

variable (hu : s.upTo t = u)
include hu

theorem execCalibrationStop_keeps (hs : u.takes c 0x0308 (le 1 k ++ [0, 3, 0])) : exec (.calibrationStop t c q (le 1 k ++ [0, 3, 0])) s =
    .next (((u.charged c).modInputs k fun i y => { y with
      sums := {}, rest := {}, ofsTgt := y.ofs, gainTgt := if i = 3 then y.gainTgt else y.gain, ofsRun := false
      gainRun := y.gainRun && i == 3 }).answered c q) := by
  subst hu
  rw [execCalibrationStop_eq]
  exact runOp_of_ok hs opCalibration_stop (by rw [State.modInputs_port])

theorem execCalibrationRestore_asks (hs : u.takes c 0x0308 (le 1 k ++ [2, 3, 0])) (hp : u.inPulseOff k = true) :
    exec (.calibrationRestore t c q (le 1 k ++ [2, 3, 0])) s =
    .next (((u.charged c).modInputs k fun i y => { y with restore := y.restore ||| (if i = 3 then 1 else 3) }).answered c q) := by
  subst hu
  rw [← State.charged_inPulseOff c] at hp
  rw [execCalibrationRestore_eq]
  exact runOp_of_ok hs (opCalibration_restore hp) (by rw [State.modInputs_port])

theorem execCalibrationRestore_refused (hs : u.takes c 0x0308 (le 1 k ++ [2, 3, 0])) (hp : u.inPulseOff k = false) :
    exec (.calibrationRestore t c q (le 1 k ++ [2, 3, 0])) s = .next ((u.charged c).reject c q eState) := by
  subst hu
  rw [← State.charged_inPulseOff c] at hp
  rw [execCalibrationRestore_eq]
  exact runOp_of_no hs (opCalibration_restore_refused hp) (by decide)

theorem execCalibrationStart_runs (hs : u.takes c 0x0308 (le 1 k ++ [1, 2, 0])) (he : (u.cu (0x30 + k) 72 1).testBit 2 = true) :
    exec (.calibrationStart t c q (le 1 k ++ [1, 2, 0])) s =
    .next (((u.charged c).modInputs k fun i y => { y with sums := {}, rest := {}, gainRun := y.gainRun || i != 3 }).answered c q) := by
  subst hu
  rw [← State.charged_cu c] at he
  rw [execCalibrationStart_eq]
  exact runOp_of_ok hs (opCalibration_start he) (by rw [State.modInputs_port])

theorem execGetMeasurements_answers (hs : u.takes c 0x0401 p) (hk : getN p 0 1 < 4) (he : u.enabled (getN p 0 1) = true) :
    exec (.getMeasurements t c q p) s = .next ((u.charged c).answered c q (u.measRecord (getN p 0 1))) := by
  subst hu
  rw [← State.charged_enabled c] at he
  rw [← State.charged_measRecord c]
  exact runOp_of_ok (h := opGetMeasurements p) hs (if_pos ⟨hk, he⟩) (Nat.le_refl _)

theorem execGetMeasurements_refused (hs : u.takes c 0x0401 p) (he : u.enabled (getN p 0 1) = false) :
    exec (.getMeasurements t c q p) s = .next ((u.charged c).reject c q eRange) := by
  subst hu
  rw [← State.charged_enabled c] at he
  exact runOp_of_no (h := opGetMeasurements p) hs (if_neg fun h => ne_true_of_eq_false he h.2) (by decide)

theorem execGetTemperatures_answers (hs : u.takes c 0x0405 p) : ∃ d : Bytes,
    exec (.getTemperatures t c q p) s = .next ((u.charged c).answered c q d) ∧ d.length = 32 ∧
    d.take 12 = ((List.range 6).flatMap fun i => leI 2 (vget u.thermal.die i {}).value) ∧ (d.drop 30).take 1 = le 1 u.thermal.level := by
  subst hu
  obtain ⟨d, hd, hlength, hdie, hlevel⟩ := opGetTemperatures_eq (s := (s.upTo t).charged c)
  rw [State.charged_thermal] at hdie hlevel
  exact ⟨d, runOp_of_ok (h := opGetTemperatures) hs hd (Nat.le_refl _), hlength, hdie, hlevel⟩

end Sys2Proof.Machine

namespace Sys2Proof.Proofs
open Sys2Proof.Machine

/-- Settles O25: CALIBRATION acts on each input of its stack by slot, and the readings are taken of the charged state, which holds those of the state
before. -/
theorem calibrationAndMeasurements : Obligations.CalibrationAndMeasurements := by
  unfold Obligations.CalibrationAndMeasurements
  exact ⟨fun t c q k s => ⟨execCalibrationStop_keeps rfl, execCalibrationRestore_asks rfl, execCalibrationRestore_refused rfl,
      execCalibrationStart_runs rfl⟩,
    fun t c q p s => ⟨execGetMeasurements_answers rfl, execGetMeasurements_refused rfl, execGetTemperatures_answers rfl⟩⟩

end Sys2Proof.Proofs
end

section
/-! SUPPORT. The thermal evaluation (R550), the end of a calibration period (R188, R193) and the SAR slots (R194, R195), each row stated of the state `u`
at its stamp. -/
namespace Sys2Proof.Machine

variable {s u : State} {t : Tick} {x : ThermalInput} {k : Fin 4} {v : Int}

/-! ### The next request of converter B (R195) -/

/-- A request that is not of a sin/cos pair keeps no quadrant. -/
theorem State.sarStart_next {r : SarReq} (hn : nextReq u.time u.sarB.pending = some r) (hi : 6 ≤ r.input) :
    u.sarStart .b = { u with sarB := { u.sarB with slot := some r, pending := u.sarB.pending.erase r } } := by
  simp only [State.sarStart, hn, Nat.not_lt.2 hi, if_false]
  rfl

theorem State.sarStart_idle (hn : nextReq u.time u.sarB.pending = none) : u.sarStart .b = { u with sarB := { u.sarB with slot := none } } := by
  simp only [State.sarStart, hn]
  rfl

variable (hu : s.upTo t = u)
include hu

/-! ### The thermal evaluation (R550) -/

/-- An evaluation takes the readings, lets every enabled stack follow, then judges the die temperature with the stacks that it has tripped. -/
theorem execThermalEvaluation_runs (hp : u.up = true) (hm : u.stamp % 100000 = 0) (hh : vget u.integ.halted 0 false = false) :
    exec (.thermalEvaluation t x) s = .next (
      let w := u.readTemps x
      let r := w.enStacks.foldl (fun (a : List Nat × State) k => let y := ((a.2.bandCycle k).derateCycle k).tripCycle k
        (if y.1 then a.1 ++ [k] else a.1, y.2)) ([], w)
      (r.2.critCycle r.1).throttleCycle) := by
  subst hu
  exact congrArg Host.Outcome.next (if_neg (by simp [hp, hm, hh]))

theorem execThermalEvaluation_elsewhere (hm : u.stamp % 100000 ≠ 0) : exec (.thermalEvaluation t x) s = .next u := by
  subst hu
  exact congrArg Host.Outcome.next (if_pos (by simp [hm]))

/-! ### The end of a calibration period (R188, R193) -/

section
variable (hc : u.sealedCfg.isSome = true) (hw : u.awake = true)
include hc hw

/-- The DC-link input is evaluated before the phases. -/
theorem execCalPeriodEnd_stack (he : u.enabled k = true) (ht : (u.stack k).sense.calFrom + calTicks (u.senseCfg k) ≤ t) :
    exec (.calPeriodEnd t (.stack k)) s =
      .next (((((u.calInput k 3).calInput k 0).calInput k 1).calInput k 2).modSense k fun y => { y with calFrom := t }) := by
  subst hu
  exact congrArg Host.Outcome.next ((if_neg (by simp [hc, hw])).trans (if_pos ⟨he, ht⟩))

theorem execCalPeriodEnd_axis (he : u.axEn k = true) (ht : (u.axis k).calFrom + calTicks (u.senseCfg 0) ≤ t) :
    exec (.calPeriodEnd t (.axis k)) s = .next ((u.auxCal k).modAxis k fun a => { a with calFrom := t }) := by
  subst hu
  exact congrArg Host.Outcome.next ((if_neg (by simp [hc, hw])).trans (if_pos ⟨he, ht⟩))

end

/-! ### The SAR slots (R194, R195) -/

theorem execSarSlot_idle (hw : u.awake = true) (hn : u.sarA.slot = none) :
    exec (.sarSlot t .a v) s = .next ((u.sarPeriodic .a).sarStart .a) := by
  change execSarSlot t .a v s = _
  simp only [execSarSlot, hu, hw, hn, Bool.not_true, Bool.false_eq_true, if_false]

theorem execSarSlot_delivers {r : SarReq} (hw : u.awake = true) (hn : u.sarB.slot = some r) :
    exec (.sarSlot t .b v) s = .next (((u.sarResult .b r (u.time - 25) v).sarPeriodic .b).sarStart .b) := by
  change execSarSlot t .b v s = _
  simp only [execSarSlot, hu, hw, hn, Bool.not_true, Bool.false_eq_true, if_false]

end Sys2Proof.Machine

namespace Sys2Proof.Proofs
open Sys2Proof.Machine

/-- Settles O26: each row by its own lemma at the state of its stamp. -/
theorem periodicEvaluations : Obligations.PeriodicEvaluations := by
  unfold Obligations.PeriodicEvaluations
  intro t x k v s u
  exact ⟨execThermalEvaluation_runs rfl, execThermalEvaluation_elsewhere rfl, execCalPeriodEnd_stack rfl, execCalPeriodEnd_axis rfl,
    execSarSlot_idle rfl, fun r => execSarSlot_delivers rfl, fun r => State.sarStart_next, State.sarStart_idle⟩

end Sys2Proof.Proofs
end

section
/-! SUPPORT. The packets of the motion channel (R220 to R222): what each opcode does with legal fields, and its row stated of the state `u`
at its stamp. -/
namespace Sys2Proof.Machine

variable {s u : State} {t : Tick} {c : Source} {q : Nat} {p : Bytes}

/-! ### What a charged packet leaves of the motion channel -/

@[simp] theorem State.charged_onPath (c : Source) (mode : Nat) : (s.charged c).onPath mode = s.onPath mode := by rw [s.charged_eq c]; rfl

@[simp] theorem State.charged_cyclic (c d : Source) : ((s.charged c).port d).cyclic = (s.port d).cyclic := by
  rw [State.charged_port]
  split <;> rfl

/-! ### The opcodes -/

/-- SET_MODE waits for the next outer-loop cycle where the path may be selected: the cyclic one while its exchange is enabled, SREF in the mode it is
configured for. -/
theorem opSetMode_legal (hm : getN p 0 1 ≤ 2) (hr : getN p 2 2 = 0)
    (hp : getN p 1 1 = 0 ∨ (getN p 1 1 = 1 ∧ (s.port c).cyclic.enabled = true) ∨
      (getN p 1 1 = 2 ∧ s.cu 0x0014 40 1 ≠ 0 ∧ getN p 0 1 = s.cu 0x0014 41 1)) :
    opSetMode c p s = .ok (s.modMotion fun m => { m with modeNext := some (getN p 0 1, getN p 1 1) }) := by
  have hrange : ¬(2 < getN p 0 1 ∨ 2 < getN p 1 1 ∨ getN p 2 2 ≠ 0) := by omega
  have hcyclic : ¬(getN p 1 1 = 1 ∧ (!(s.port c).cyclic.enabled) = true) := by
    rintro ⟨h1, hoff⟩
    obtain hp | ⟨-, hon⟩ | ⟨hp, -, -⟩ := hp
    · omega
    · simp [hon] at hoff
    · omega
  have hsref : ¬(getN p 1 1 = 2 ∧ (s.cu 0x0014 40 1 = 0 ∨ getN p 0 1 ≠ s.cu 0x0014 41 1)) := by omega
  exact (if_neg hrange).trans ((if_neg hcyclic).trans (if_neg hsref))

theorem opSetTorque_onPath (h : s.onPath 0 = true) : opSetTorque p s = .ok (s.modMotion fun m => { m with tqSet := getI p 0 4 }) :=
  if_neg (by simp [h])

theorem opSetTorque_offPath (h : s.onPath 0 = false) : opSetTorque p s = .no s eState := if_pos (by simp [h])

theorem opSetSpeed_onPath (h : s.onPath 1 = true) (ha : 0 ≤ getI p 4 4) :
    opSetSpeed p s = .ok (s.modMotion fun m => { m with spdSet := getI p 0 4, accSet := getI p 4 4 }) :=
  (if_neg (by simp [h])).trans (if_neg ha.not_gt)

theorem opSetPosition_onPath (h : s.onPath 2 = true) (hl : 0 ≤ getI p 8 4) (hr : getN p 12 4 = 0) :
    opSetPosition p s = .ok (s.modMotion fun m => { m with posSet := some (getI p 0 8), spdLimSet := getI p 8 4 }) :=
  (if_neg (by simp [h])).trans (if_neg (by omega))

theorem opSetLimits_legal (hp : 0 ≤ getI p 0 4) (hn : getI p 4 4 ≤ 0) (hs : 0 ≤ getI p 8 4) (hr : getN p 12 4 = 0) :
    opSetLimits p s = .ok (s.modMotion fun m => { m with limP := getI p 0 4, limN := getI p 4 4, limS := getI p 8 4 }) :=
  if_neg (by omega)

/-! ### The rows -/

variable (hu : s.upTo t = u)
include hu

theorem execSetMode_kept (hs : u.takes c 0x0302 p) (hm : getN p 0 1 ≤ 2) (hr : getN p 2 2 = 0)
    (hp : getN p 1 1 = 0 ∨ (getN p 1 1 = 1 ∧ (u.port c).cyclic.enabled = true) ∨
      (getN p 1 1 = 2 ∧ u.cu 0x0014 40 1 ≠ 0 ∧ getN p 0 1 = u.cu 0x0014 41 1)) : exec (.setMode t c q p) s =
    .next (((u.charged c).modMotion fun m => { m with modeNext := some (getN p 0 1, getN p 1 1) }).answered c q) := by
  subst hu
  simp only [← State.charged_cyclic c (s := s.upTo t), ← State.charged_cu (s := s.upTo t) c] at hp
  exact runOp_of_ok (h := opSetMode c p) hs (opSetMode_legal hm hr hp) (Nat.le_refl _)

theorem execSetTorque_kept (hs : u.takes c 0x0303 p) (h : u.onPath 0 = true) : exec (.setTorque t c q p) s =
    .next (((u.charged c).modMotion fun m => { m with tqSet := getI p 0 4 }).answered c q) := by
  subst hu
  rw [← State.charged_onPath c] at h
  exact runOp_of_ok (h := opSetTorque p) hs (opSetTorque_onPath h) (Nat.le_refl _)

theorem execSetTorque_refused (hs : u.takes c 0x0303 p) (h : u.onPath 0 = false) :
    exec (.setTorque t c q p) s = .next ((u.charged c).reject c q eState) := by
  subst hu
  rw [← State.charged_onPath c] at h
  exact runOp_of_no (h := opSetTorque p) hs (opSetTorque_offPath h) (by decide)

theorem execSetSpeed_kept (hs : u.takes c 0x0304 p) (h : u.onPath 1 = true) (ha : 0 ≤ getI p 4 4) : exec (.setSpeed t c q p) s =
    .next (((u.charged c).modMotion fun m => { m with spdSet := getI p 0 4, accSet := getI p 4 4 }).answered c q) := by
  subst hu
  rw [← State.charged_onPath c] at h
  exact runOp_of_ok (h := opSetSpeed p) hs (opSetSpeed_onPath h ha) (Nat.le_refl _)

theorem execSetPosition_kept (hs : u.takes c 0x0305 p) (h : u.onPath 2 = true) (hl : 0 ≤ getI p 8 4) (hr : getN p 12 4 = 0) :
    exec (.setPosition t c q p) s =
    .next (((u.charged c).modMotion fun m => { m with posSet := some (getI p 0 8), spdLimSet := getI p 8 4 }).answered c q) := by
  subst hu
  rw [← State.charged_onPath c] at h
  exact runOp_of_ok (h := opSetPosition p) hs (opSetPosition_onPath h hl hr) (Nat.le_refl _)

theorem execSetLimits_kept (ht : u.takes c 0x0306 p) (hp : 0 ≤ getI p 0 4) (hn : getI p 4 4 ≤ 0) (hs : 0 ≤ getI p 8 4)
    (hr : getN p 12 4 = 0) : exec (.setLimits t c q p) s =
    .next (((u.charged c).modMotion fun m => { m with limP := getI p 0 4, limN := getI p 4 4, limS := getI p 8 4 }).answered c q) := by
  subst hu
  exact runOp_of_ok (h := opSetLimits p) ht (opSetLimits_legal hp hn hs hr) (Nat.le_refl _)

end Sys2Proof.Machine

namespace Sys2Proof.Proofs
open Sys2Proof.Machine

/-- Settles O12: each opcode keeps its legal fields on the charged state, whose paths and cyclic exchange are those of the state before. -/
theorem motionSetpointsKept : Obligations.MotionSetpointsKept := by
  unfold Obligations.MotionSetpointsKept
  intro t c q p s u
  exact ⟨execSetMode_kept rfl, execSetTorque_kept rfl, execSetSpeed_kept rfl, execSetPosition_kept rfl, execSetLimits_kept rfl,
    execSetTorque_refused rfl⟩

end Sys2Proof.Proofs
end

section
/-! SUPPORT. DISABLE and the normal stop it begins (R334), and the outer-loop cycle (R219), each row stated of the state `u` at its stamp. -/
namespace Sys2Proof.Machine

variable {s u : State} {t : Tick} {took : Nat} {c : Source} {q : Nat} {p : Bytes}

/-! ### The stop of the whole drive (R334) -/

@[simp] theorem State.charged_motion (c : Source) : (s.charged c).motion = s.motion := by rw [s.charged_eq c]
@[simp] theorem State.charged_canRamp (c : Source) (k : Nat) : (s.charged c).canRamp k = s.canRamp k := by rw [s.charged_eq c]; rfl
@[simp] theorem State.modMotion_enStacks (f) : (s.modMotion f).enStacks = s.enStacks := rfl

theorem State.startStop_elsewhere {quick : Bool} {cause : Nat} (hr : s.dev ≠ .run) (hs : s.dev ≠ .shelter) : s.startStop quick cause = s :=
  if_pos ⟨hr, hs⟩

/-- A normal stop with every stack able to ramp, and none in force, is noted and nothing else: no stack takes a reaction of its own. -/
theorem State.startStop_ramps {cause : Nat} (hd : s.dev = .run ∨ s.dev = .shelter) (hn : s.motion.stop = none)
    (hk : ∀ k ∈ s.enStacks, s.canRamp k = true) :
    s.startStop false cause = s.modMotion fun m => { m with stop := some { quick := false } } := by
  have hmoves : ¬(s.dev ≠ .run ∧ s.dev ≠ .shelter) := fun h => hd.elim h.1 h.2
  simp only [State.startStop, hmoves, hn, if_false, Bool.false_eq_true, State.modMotion_enStacks]
  refine List.foldlRecOn s.enStacks _ (motive := (· = _)) rfl ?_
  rintro _ rfl k hmem
  exact if_pos (hk k hmem)

/-! ### DISABLE (R334) -/

theorem opDisable_legal (h : getN p 0 1 ≤ 1) : opDisable p s = .ok (s.startStop (getN p 0 1 == 1) 0) := if_neg (Nat.not_lt.2 h)

theorem opDisable_outOfRange (h : 1 < getN p 0 1) : opDisable p s = .no s eRange := if_pos h

section
variable (hu : s.upTo t = u) (hs : u.takes c 0x0301 p)
include hu hs

theorem execDisable_ready (hp : getN p 0 1 ≤ 1) (hd : u.dev = .ready) :
    exec (.disable t c q p) s = .next ((u.charged c).answered c q) := by
  subst hu
  have hstop : ∀ b, ((s.upTo t).charged c).startStop b 0 = (s.upTo t).charged c := fun b =>
    State.startStop_elsewhere (by rw [State.charged_dev, hd]; decide) (by rw [State.charged_dev, hd]; decide)
  exact runOp_of_ok (h := opDisable p) hs ((opDisable_legal hp).trans (by rw [hstop])) (Nat.le_refl _)

theorem execDisable_stops (hp : getN p 0 1 ≤ 1) (hk : ∀ k ∈ u.enStacks, u.canRamp k = true) (hn : u.motion.stop = none)
    (h0 : getN p 0 1 = 0) (hd : u.dev = .run ∨ u.dev = .shelter) : exec (.disable t c q p) s =
    .next (((u.charged c).modMotion fun m => { m with stop := some { quick := false } }).answered c q) := by
  subst hu
  have hstop := State.startStop_ramps (s := (s.upTo t).charged c) (cause := 0) (by simpa using hd) (by simpa using hn) (by simpa using hk)
  exact runOp_of_ok (h := opDisable p) hs ((opDisable_legal hp).trans (by rw [h0]; exact congrArg Rep.ok hstop)) (Nat.le_refl _)

theorem execDisable_refused (hp : 1 < getN p 0 1) : exec (.disable t c q p) s = .next ((u.charged c).reject c q eRange) := by
  subst hu
  exact runOp_of_no (h := opDisable p) hs (opDisable_outOfRange hp) (by decide)

end

/-! ### The outer-loop cycle (R219) -/

/-- The motion channel takes speed, position and stamp from the aperture of POS_PORT's latch record. -/
theorem State.readMotion_motion (s : State) : s.readMotion.motion =
    let l := s.motion.outerRec.getD s.posLatch
    let n := quot ((l.speed : Rat) / 4294967296) s.nRated
    { s.motion with
      n := n, nFilt := lag n s.motion.nFilt s.outerT ((getN s.motCfg 24 4 : Rat) / 1000000)
      pos := l.count + s.motion.posOfs, stamp := l.aperture, tqAct := toQ24 (quot s.achieved s.rEn) } := by
  unfold State.readMotion
  dsimp only
  split <;> rfl

/-- Nothing but the motion channel and the safety logic takes what a cycle reads. -/
theorem State.readMotion_frame (s : State) : s.readMotion = { s with motion := s.readMotion.motion, safety := s.readMotion.safety } := by
  unfold State.readMotion
  dsimp only
  split <;> rfl

section
variable (hu : s.upTo t = u)
include hu

/-- No cycle runs without a sealed configuration, nor at a moment that is not due. -/
theorem execOuterLoopCycle_idle (h : u.sealedCfg = none ∨ u.motion.outerAt ≠ some t) : exec (.outerLoopCycle ⟨t, took⟩) s = .next u := by
  subst hu
  have hguard : ((s.upTo t).sealedCfg.isSome && (s.upTo t).awake && (s.upTo t).motion.outerAt == some t) = false := by
    obtain hc | ha := h
    · simp [hc]
    · simp [ha]
  exact congrArg Host.Outcome.next (if_pos (by simp only [hguard, Bool.not_false, Bool.true_or]))

theorem execOuterLoopCycle_runs (hc : u.sealedCfg.isSome = true) (hw : u.awake = true) (ha : u.motion.outerAt = some t)
    (hh : vget u.integ.halted 0 false = false) : exec (.outerLoopCycle ⟨t, took⟩) s =
    .next (let v := ((u.recCycle 5 t).modMotion fun m => { m with outerAt := none }).outerOverrun took
      let v := v.readMotion.ss1Cycle.srefCycle.shelterLeave.ownReact.obsChecks.overSpeed.noSet
      (v.modeChange.stopCycle.snapCycle.shelterRef.pathChange.torqueCycle (t + took) u.torsFrozen).modAux fun a =>
        { a with cycleAt := some (t + took) }) := by
  subst hu
  exact congrArg Host.Outcome.next (if_neg (by simp [hc, hw, ha, hh]))

end

end Sys2Proof.Machine

namespace Sys2Proof.Proofs
open Sys2Proof.Machine

/-- Settles O13: DISABLE is the start of a stop, which only notes it where every stack can ramp, and a cycle reads into the motion channel and the
safety logic alone. -/
theorem outerLoopAndStops : Obligations.OuterLoopAndStops := by
  unfold Obligations.OuterLoopAndStops
  refine ⟨fun t c q p s => ⟨execDisable_ready rfl, execDisable_stops rfl, execDisable_refused rfl⟩,
    fun t took s => ⟨execOuterLoopCycle_idle rfl, execOuterLoopCycle_runs rfl, ?_⟩⟩
  have hmotion := (s.upTo t).readMotion_motion
  have hframe := (s.upTo t).readMotion_frame
  exact ⟨congrArg Motion.n hmotion, congrArg Motion.pos hmotion, congrArg Motion.stamp hmotion,
    by rw [hframe], by rw [hframe], by rw [hframe]⟩

end Sys2Proof.Proofs
end

section
/-! SUPPORT. The SREF input (R223, R224): what its bookkeeping leaves alone, and each row stated of the state `u` at its stamp. -/
namespace Sys2Proof.Machine

variable {s u : State} {t : Tick} {kind : WireBreakKind} {u0 u1 : Int}

/-! ### What is kept beside the input -/

theorem State.srefQuiet_eq : ∃ o, s.srefQuiet = s.modSref fun x => { x with quiet := o } := ⟨_, rfl⟩

theorem State.srefPeriod_eq : ∃ o, s.srefPeriod = s.modSref fun x => { x with badSince := o } := ⟨_, rfl⟩

/-- An input that has been quiet and still is has nothing new to note. -/
theorem State.srefQuiet_of_quiet {f : Tick} (hv : s.srefValid = true) (hz : s.srefC = 0) (hf : s.sref.quiet = some f) :
    s.srefQuiet = s := by
  have hq : s.sref = { s.sref with quiet := some f } := by rw [← hf]
  simp only [State.srefQuiet, State.modSref, hv, hz, hf, beq_self_eq_true, Bool.and_self, if_true, Option.getD_some]
  rw [← hq]

/-! ### A qualified edge (R223) -/

theorem State.modSref_congr {g h : Sref → Sref} (e : g s.sref = h s.sref) : s.modSref g = s.modSref h :=
  congrArg (fun x => { s with sref := x }) e

/-- A rising edge after a pulse completes a period with its high time. -/
theorem Sref.edge_rising {x : Sref} {now r f : Tick} (hr : x.lastRise = some r) (hf : x.lastFall = some f) (h : r ≤ f) :
    x.edge now true = { x with high := true, lastEdge := now, lastRise := some now, period := some (now - r, f - r) } := by
  simp only [Sref.edge, hr, hf, h, if_true]

theorem Sref.edge_falling {x : Sref} {now : Tick} :
    x.edge now false = { x with high := false, lastEdge := now, lastFall := some now } := rfl

/-! ### The rows -/

section
variable (hu : s.upTo t = u) (hc : u.sealedCfg.isSome = true) (hw : u.awake = true)
include hu hc hw

/-- In modes 3 and 4 a change of level is a qualified edge, with the quiet time looked at on both sides of it. -/
theorem execSrefEdge_edge {high : Bool} (hm : u.cu 0x0014 40 1 = 3 ∨ u.cu 0x0014 40 1 = 4) (hh : u.sref.high = !high) :
    exec (.srefEdge t high) s = .next ((u.srefQuiet.modSref fun x => x.edge u.time high).srefPeriod.srefQuiet) := by
  subst hu
  have hmode : (getN (s.upTo t).motCfg 40 1 == 3 || getN (s.upTo t).motCfg 40 1 == 4) = true := by
    rw [Bool.or_eq_true, beq_iff_eq, beq_iff_eq]
    exact hm
  exact congrArg Host.Outcome.next (if_neg (by simp [hc, hw, hmode, hh]))

theorem execSrefEdge_rising (r f : Tick) (hm : u.cu 0x0014 40 1 = 3 ∨ u.cu 0x0014 40 1 = 4) (hh : u.sref.high = false)
    (hr : u.sref.lastRise = some r) (hf : u.sref.lastFall = some f) (h : r ≤ f) : exec (.srefEdge t true) s =
    .next ((u.srefQuiet.modSref fun x => { x with
      high := true, lastEdge := u.time, lastRise := some u.time, period := some (u.time - r, f - r) }).srefPeriod.srefQuiet) := by
  rw [execSrefEdge_edge (high := true) hu hc hw hm hh]
  refine congrArg (fun v => Host.Outcome.next v.srefPeriod.srefQuiet) (State.modSref_congr ?_)
  exact Sref.edge_rising (x := u.srefQuiet.sref) hr hf h

theorem execSrefEdge_falling (hm : u.cu 0x0014 40 1 = 3 ∨ u.cu 0x0014 40 1 = 4) (hh : u.sref.high = true) :
    exec (.srefEdge t false) s = .next ((u.srefQuiet.modSref fun x =>
      { x with high := false, lastEdge := u.time, lastFall := some u.time }).srefPeriod.srefQuiet) := by
  simpa only [Sref.edge_falling] using execSrefEdge_edge (high := false) hu hc hw hm hh

theorem execSrefTestCurrent_counts (hm : u.cu 0x0014 40 1 = 2) : exec (.srefTestCurrent t u0 u1) s =
    .next ((u.modSref fun x => { x with holdTo := u.time + 200000, rises := if 1000 < u1 - u0 then x.rises + 1 else 0 }).srefQuiet) := by
  subst hu
  have hmode : (getN (s.upTo t).motCfg 40 1 == 2) = true := beq_iff_eq.2 hm
  exact congrArg Host.Outcome.next (if_pos (by simp [hc, hw, hmode]))

theorem execSrefWireBreak_raises (hb : u.sref.broken = false) (hk : u.wireBroken kind = true) : exec (.srefWireBreak t kind) s =
    .next (
      let w := (u.modSref fun x => { x with broken := true, filt := 0, cmd := 0 }).srefQuiet.raise 0x8323 2 0
        (le 1 (u.cu 0x0014 40 1) ++ le 1 (wireCode kind))
      if w.dev = .shelter then w.startStop false 0x8323 else w) := by
  subst hu
  exact congrArg Host.Outcome.next (if_pos (by simp [hc, hw, hb, hk]))

/-- A broken input that has been quiet for 100 ms is whole again. -/
theorem execSrefWireBreakEnd_restores (f : Tick) (hb : u.sref.broken = true) (hv : u.srefValid = true) (hz : u.srefC = 0)
    (hf : u.sref.quiet = some f) (ht : f + 10000000 ≤ u.time) :
    exec (.srefWireBreakEnd t) s = .next (u.modSref fun x => { x with broken := false, rises := 0 }) := by
  subst hu
  have hms : msTicks 100 = 10000000 := rfl
  have hlong : (s.upTo t).sref.quiet.any (fun b => decide (b + msTicks 100 ≤ (s.upTo t).time)) = true := by
    rw [hms, hf, Option.any_some, decide_eq_true ht]
  change execSrefWireBreakEnd t s = _
  rw [execSrefWireBreakEnd, State.srefQuiet_of_quiet hv hz hf]
  exact congrArg Host.Outcome.next (if_pos (by simp only [hb, hc, hw, hlong, Bool.and_self]))

end

end Sys2Proof.Machine

namespace Sys2Proof.Proofs
open Sys2Proof.Machine

/-- Settles O14: both edges are one qualified edge between two looks at the quiet time, and at the end of a wire break the input was quiet already. -/
theorem srefInputFollowed : Obligations.SrefInputFollowed := by
  unfold Obligations.SrefInputFollowed
  intro t u0 u1 kind s u
  exact ⟨fun r f hc hw => execSrefEdge_rising rfl hc hw r f, execSrefEdge_falling rfl, execSrefTestCurrent_counts rfl,
    State.srefQuiet_eq, State.srefPeriod_eq, execSrefWireBreak_raises rfl, fun f hc hw => execSrefWireBreakEnd_restores rfl hc hw f⟩

end Sys2Proof.Proofs
end

section
/-! SUPPORT. The edges that a feedback port counts (R233 to R235, R238, R239): what a change of a port leaves alone, and each row stated of the state `u` at
its stamp. -/
namespace Sys2Proof.Machine

variable {s u : State} {t : Tick} {n : Fin 6}

/-! ### A changed port -/

theorem State.modFb_congr {m : Nat} {f g : FbPort → FbPort} (h : f (s.fbPort m) = g (s.fbPort m)) : s.modFb m f = s.modFb m g := by
  rw [State.modFb, vmod_congr _ h]; rfl

theorem State.modFb_id (s : State) (m : Nat) : (s.modFb m fun p => p) = s := by
  have hv : vmod s.fb m (fun p => p) = s.fb := by
    unfold vmod
    split
    · exact Vector.set_getElem_self _
    · rfl
  rw [State.modFb, hv]

theorem State.modFb_modFb (s : State) (m : Nat) (f g : FbPort → FbPort) : (s.modFb m f).modFb m g = s.modFb m fun p => g (f p) := by
  have hv : vmod (vmod s.fb m f) m g = vmod s.fb m fun p => g (f p) := by
    by_cases hm : m < 6 <;> simp [vmod, hm]
  simp only [State.modFb, hv]

theorem State.fbPort_modFb_self (s : State) (n : Fin 6) (f : FbPort → FbPort) : (s.modFb n f).fbPort n = f (s.fbPort n) := by
  rw [State.fbPort_modFb s n.isLt, if_pos rfl]

theorem FbPort.levels_state (p : FbPort) (e : FbEdge) : (p.levels e).state = p.state := by cases e <;> rfl

theorem FbPort.levels_pup (p : FbPort) (e : FbEdge) : (p.levels e).pup = p.pup := by cases e <;> rfl

/-- Levels decide nothing about whether a port counts (R233). -/
theorem State.fbLive_levels (s : State) (n : Fin 6) (e : FbEdge) : (s.modFb n fun p => p.levels e).fbLive n = s.fbLive n := by
  simp only [State.fbLive, State.fbPort_modFb_self, FbPort.levels_state, FbPort.levels_pup]
  rfl

/-! ### FEEDBACK_EDGE (R234, R235) -/

section
variable {b : Bool} {x : Nat} (hu : s.upTo t = u)
include hu

/-- A port that does not count only takes up the levels. -/
theorem execFeedbackEdge_idle (e : FbEdge) (hl : u.fbLive n = false) : exec (.feedbackEdge t n e) s = .next (u.modFb n fun p => p.levels e) := by
  subst hu
  exact congrArg Host.Outcome.next (if_pos (by simp [State.fbLive_levels, hl]))

/-- A level of Z counts nothing, whether or not the port is live. -/
theorem execFeedbackEdge_levelZ : exec (.feedbackEdge t n (.levelZ b)) s = .next (u.modFb n fun p => { p with lvZ := b }) := by
  subst hu
  exact congrArg Host.Outcome.next (ite_self _)

variable (hl : u.fbLive n = true)
include hl

theorem execFeedbackEdge_rejected (hm : u.fbMode n = 1 ∨ u.fbMode n = 6) : exec (.feedbackEdge t n .rejected) s = .next (u.fbReject n) := by
  change execFeedbackEdge t n .rejected s = _
  simp [execFeedbackEdge, hu, FbPort.levels, State.modFb_id, hl, hm]

/-- Without an earlier change of quadrant no interval is too short (R235). -/
theorem execFeedbackEdge_quadrant (hm : u.fbMode n = 2) (he : (u.fbPort n).lastEdge = none) :
    exec (.feedbackEdge t n (.quadrant b x)) s = .next (u.modFb n fun p => { p with
      qc := p.qc + if b then 1 else -1, lastEdge := some { count := p.qc + if b then 1 else -1, t5 := x, up := b } }) := by
  change execFeedbackEdge t n (.quadrant b x) s = _
  simp only [execFeedbackEdge, hu, FbPort.levels, State.modFb_id, hl, hm, he, Bool.not_true, Bool.false_eq_true, ne_eq, not_true, if_false]
  exact congrArg Host.Outcome.next (State.modFb_congr rfl)

variable (hm : u.fbMode n = 1)
include hm

theorem execFeedbackEdge_edgeA (hb : b ≠ (u.fbPort n).lvA) : exec (.feedbackEdge t n (.edgeA b x)) s =
    .next ((u.modFb n fun p => { p with lvA := b }).fbCount n ((if b != (u.fbPort n).lvB then 1 else -1) * u.fbSign n) x (!u.fbBit n 3 || b)) := by
  subst hu
  exact congrArg Host.Outcome.next ((if_neg (by simp [State.fbLive_levels, hl])).trans (if_neg (by simp [hm, hb])))

theorem execFeedbackEdge_edgeB (hb : b ≠ (u.fbPort n).lvB) : exec (.feedbackEdge t n (.edgeB b x)) s =
    .next ((u.modFb n fun p => { p with lvB := b }).fbCount n ((if b == (u.fbPort n).lvA then 1 else -1) * u.fbSign n) x (!u.fbBit n 3)) := by
  subst hu
  exact congrArg Host.Outcome.next ((if_neg (by simp [State.fbLive_levels, hl])).trans (if_neg (by simp [hm, hb])))

/-- Edges of A and B in one capture are not counted; ABZ_QUAD_ERROR carries the errors so far. -/
theorem execFeedbackEdge_edgeBoth : exec (.feedbackEdge t n (.edgeBoth (!(u.fbPort n).lvA) (!(u.fbPort n).lvB) x)) s =
    .next ((u.modFb n fun p => { p with lvA := !p.lvA, lvB := !p.lvB, quadErrs := satN 4 (p.quadErrs + 1), quadBad := true }).raise 0x8331 2 0
      (le 1 n ++ zeros 3 ++ le 4 (satN 4 ((u.fbPort n).quadErrs + 1)))) := by
  subst hu
  refine congrArg Host.Outcome.next ((if_neg (by simp [State.fbLive_levels, hl])).trans ((if_neg (by simp [hm])).trans ?_))
  rw [State.modFb_modFb]
  exact congrArg (fun v => State.raise v _ _ _ _) (State.modFb_congr rfl)

end

/-! ### HALL_CHANGE (R238, R249) -/

section
variable {code : Fin 8} {x j k : Nat} (hu : s.upTo t = u) (hl : u.fbLive n = true) (hm : u.fbMode n = 5)
include hu hl hm

theorem execHallChange_invalid (hk : hallSector (u.fbBit n 0) code = none) : exec (.hallChange t n ⟨code, x⟩) s =
    .next ((u.modFb n fun p => { p with hallBad := true }).raise 0x833A 2 0 (le 1 n ++ le 1 code)) := by
  change execHallChange t n ⟨code, x⟩ s = _
  simp [execHallChange, hu, hl, hm, hk]

/-- The first valid code makes the port VALID and counts nothing. -/
theorem execHallChange_first (hk : hallSector (u.fbBit n 0) code = some k) (hh : (u.fbPort n).hall = none)
    (hs : (u.fbPort n).state = 1) : exec (.hallChange t n ⟨code, x⟩) s = .next (
      let v := (u.modFb n fun p => { p with hallBad := false, hall := some code.val }).setFb n 2 8
      v.fbAlign n x) := by
  change execHallChange t n ⟨code, x⟩ s = _
  simp [execHallChange, hu, hl, hm, hk, hh, State.fbPort_modFb_self, hs]

theorem execHallChange_forward (hk : hallSector (u.fbBit n 0) code = some k)
    (hj : (u.fbPort n).hall.bind (hallSector (u.fbBit n 0)) = some j) (hjk : k = (j + 1) % 6) : exec (.hallChange t n ⟨code, x⟩) s = .next (
      let v := ((u.modFb n fun p => { p with hallBad := false, hall := some code.val }).modFb n fun p =>
        { p with hallTurn := p.hallTurn + if k = 0 then 1 else 0 }).fbCount n 1 x true
      let v := if (v.fbPort n).state = 1 then v.setFb n 2 8 else v
      v.fbAlign n x) := by
  change execHallChange t n ⟨code, x⟩ s = _
  simp [execHallChange, hu, hl, hm, hk, hj, ← hjk]

end

/-! ### TOOTH_EDGE (R239) -/

section
variable {x : Nat} {e : SpdEdge} {r : Rat} (hu : s.upTo t = u) (hl : u.fbLive n = true) (hm : u.fbMode n = 6)
include hu hl hm

/-- The first tooth is a pitch. -/
theorem execToothEdge_first (he : (u.fbPort n).lastEdge = none) : exec (.toothEdge t n x) s =
    .next ((u.fbCount n ((if u.toothUp n then 1 else -1) * u.fbSign n) x true).modFb n fun q => { q with
      refNext := false, refDue := if (u.fbPort n).refNext then some q.count else none }) := by
  change execToothEdge t n x s = _
  simp [execToothEdge, hu, hl, hm, he]

/-- An interval between M + ½ and 1½ (M + 1) pitches is the gap: its missing teeth count as well, and the tooth is the reference mark. -/
theorem execToothEdge_gap (he : (u.fbPort n).lastEdge = some e) (hr : (u.fbPort n).tRef = some r) (h0 : 0 < r)
    (hmiss : 0 < getN (u.fbCfg n) 32 1) (hlo : ((getN (u.fbCfg n) 32 1 : Rat) + 1 / 2) * r ≤ (x - e.t5 : Nat))
    (hhi : (x - e.t5 : Nat) ≤ 3 / 2 * ((getN (u.fbCfg n) 32 1 : Rat) + 1) * r) : exec (.toothEdge t n x) s =
    .next (
      let m := getN (u.fbCfg n) 32 1
      let d : Int := (if u.toothUp n then 1 else -1) * u.fbSign n
      (u.fbCount n (d * (m + 1)) x true).modFb n fun q => { q with
        tRef := some (((x - e.t5 : Nat) : Rat) / ((m + 1 : Nat) : Rat)), gapHi := some (if d = 1 then q.count else q.count + (m + 1)), refNext := false,
        refDue := some q.count }) := by
  have hz : (getN (u.fbCfg n) 32 1 == 0) = false := beq_false_of_ne hmiss.ne'
  have hlo' := (le_div_iff₀ h0).2 hlo
  have hhi' := (div_le_iff₀ h0).2 hhi
  change execToothEdge t n x s = _
  simp only [execToothEdge, hu, hl, hm, he, hr, h0.ne', bne, hz, hlo', hhi', Option.map_some, ne_eq, not_true, or_self, Bool.not_true,
    Bool.not_false, Bool.false_eq_true, if_false, if_true, decide_true, Bool.and_self, Bool.false_and, Bool.true_or, Nat.cast_add, Nat.cast_one]

end

end Sys2Proof.Machine

namespace Sys2Proof.Proofs
open Sys2Proof.Machine

/-- Settles O42: each kind of edge by its own lemma at the state of its stamp; the interval of a gap, given in the statement as a product, is the model's
ratio of intervals. -/
theorem feedbackCounts : Obligations.FeedbackCounts := by
  unfold Obligations.FeedbackCounts
  intro t n x b code s u p
  exact ⟨execFeedbackEdge_edgeA rfl, execFeedbackEdge_edgeB rfl, execFeedbackEdge_edgeBoth rfl, execFeedbackEdge_quadrant rfl,
    execFeedbackEdge_levelZ rfl, execFeedbackEdge_rejected rfl, execFeedbackEdge_idle rfl, execHallChange_invalid rfl,
    fun k => execHallChange_first rfl, fun j k => execHallChange_forward rfl, execToothEdge_first rfl,
    fun e r hl hm he _ => execToothEdge_gap rfl hl hm he⟩

end Sys2Proof.Proofs
end

section
/-! SUPPORT. Serial frames (R237), the index (R240, R241) and the supervision of lines and supply (R233, R251), each row stated of the state `u` at its
stamp. -/
namespace Sys2Proof.Machine

variable {s u : State} {t : Tick} {n : Fin 6}

/-! ### SERIAL_FRAME in BiSS-C (R237, R249) -/

/-- The CRC of a BiSS-C frame is that of its bits, where the port is configured with one at all (R237). -/
def State.crcGood (s : State) (n x ex crc : Nat) (nE nW : Bool) : Prop :=
  getN (s.fbCfg n) 19 1 = 0 ∨ crc = crcOfBits (getN (s.fbCfg n) 19 1) (getN (s.fbCfg n) 20 2) (frameBits (s.fbCfg n) true x ex nE nW)

theorem State.crcGood_iff {x ex crc : Nat} {nE nW : Bool} : s.crcGood n x ex crc nE nW ↔ ¬(0 < getN (s.fbCfg n) 19 1 ∧
    crc ≠ crcOfBits (getN (s.fbCfg n) 19 1) (getN (s.fbCfg n) 20 2) (frameBits (s.fbCfg n) true x ex nE nW)) := by
  rw [State.crcGood, not_and_or, Nat.pos_iff_ne_zero, not_not, not_not]

section
variable {x ex crc : Nat} {nE nW : Bool} (hu : s.upTo t = u) (hl : u.fbLive n = true) (hm : u.fbMode n = 3)
include hu hl hm

theorem execSerialFrame_noStart : exec (.serialFrame t n .noStart) s =
    .next ((u.modFb n fun p => { p with serial := some false, serialGood := false }).raise 0x8338 2 0 (le 1 n ++ le 1 0)) := by
  change execSerialFrame t n .noStart s = _
  simp [execSerialFrame, hu, hl, hm]

theorem execSerialFrame_badCrc (hg : ¬u.crcGood n x ex crc nE nW) : exec (.serialFrame t n (.frame x ex crc nE nW)) s =
    .next ((u.modFb n fun p => { p with serial := some false, serialGood := false }).raise 0x8337 2 0 (le 1 n ++ le 1 0 ++ le 2 crc)) := by
  rw [State.crcGood_iff, not_not] at hg
  change execSerialFrame t n (.frame x ex crc nE nW) s = _
  simp [execSerialFrame, hu, hl, hm, hg]

/-- The CRC is judged before the error bit. -/
theorem execSerialFrame_errorBit (hg : u.crcGood n x ex crc nE nW) (he : nE = false) : exec (.serialFrame t n (.frame x ex crc nE nW)) s =
    .next ((u.modFb n fun p => { p with serial := some false, serialGood := false }).raise 0x8338 2 0 (le 1 n ++ le 1 1)) := by
  subst he
  rw [State.crcGood_iff] at hg
  change execSerialFrame t n (.frame x ex crc false nW) s = _
  simp only [execSerialFrame, hu, hl, hm, beq_self_eq_true, hg, ne_eq, not_true, false_and, and_self, or_self, Bool.not_true, Bool.not_false,
    Bool.false_eq_true, if_false, if_true]

/-- The first good frame sets COUNT whatever it was, and makes the port VALID. -/
theorem execSerialFrame_firstGood (hg : u.crcGood n x ex crc nE nW) (he : nE = true) (hw : nW = true) (hs : (u.fbPort n).serialSeen = false) :
    exec (.serialFrame t n (.frame x ex crc nE nW)) s = .next (
      let v := u.modFb n fun p => { p with
        serial := some true, serialSeen := true, serialAny := false, serialGood := true
        count := invWord (u.fbBit n 0) (getN (u.fbCfg n) 16 1 + getN (u.fbCfg n) 17 1) x }
      if (v.fbPort n).state = 1 then v.setFb n 2 8 else v) := by
  subst he hw
  rw [State.crcGood_iff] at hg
  change execSerialFrame t n (.frame x ex crc true true) s = _
  simp only [execSerialFrame, hu, hl, hm, beq_self_eq_true, hg, hs, ne_eq, not_true, false_and, and_false, or_self, Bool.not_true,
    Bool.false_eq_true, if_false]
  refine congrArg (fun v => Host.Outcome.next (if (State.fbPort v n).state = 1 then State.setFb v n 2 8 else v)) (State.modFb_congr ?_)
  simp [hs]

end

/-! ### INDEX_LATCH (R240, R241, R249) -/

section
variable {l : Int} (hu : s.upTo t = u) (hl : u.fbLive n = true) (hi : u.fbIdx n = true)
include hu hl hi

/-- Where the gate does not hold, nothing is latched (R240). -/
theorem execIndexLatch_gated (hx : u.idxValue n = none) : exec (.indexLatch t n) s = .next u := by
  change execIndexLatch t n s = _
  simp [execIndexLatch, hu, hl, hi, hx]

theorem execIndexLatch_first (hx : u.idxValue n = some l) (hf : (u.fbPort n).idxFirst = none) (hs : (u.fbPort n).state = 1) :
    exec (.indexLatch t n) s = .next (
      let step := sturn32 (turn32 (angleTurns l (u.fbCpr n) (u.fbPort n).count) + 4294967296 -
        turn32 (angleTurns (u.fbPort n).angBase (u.fbCpr n) (u.fbPort n).count))
      ((u.modFb n fun p => { p with refDue := none, lastIdx := l }).modFb n fun p =>
        { p with idxFirst := some l, angBase := l, provBase := false, prevDelta := 0 }).setFb n 2 0 step) := by
  change execIndexLatch t n s = _
  simp only [execIndexLatch, hu, hl, hi, hx, hf, hs, Bool.not_true, Bool.or_self, Bool.false_eq_true, if_false, if_true]

end

/-! ### Lines and supply (R233, R251) -/

section
variable {pr : FbPair} (hu : s.upTo t = u)
include hu

/-- An ABZ port that uses its index supervises every pair. -/
theorem execFbSignalLoss_abz (hl : u.fbLive n = true) (hm : u.fbMode n = 1) (hi : u.fbBit n 2 = true) : exec (.fbSignalLoss t n pr) s =
    .next ((u.modFb n fun p => { p with loss := vmod p.loss (pairIx pr) fun _ => true }).raise 0x8333 2 0 (le 1 n ++ le 1 (pairIx pr))) := by
  subst hu
  refine congrArg Host.Outcome.next (if_pos ?_)
  cases pr <;> simp [hl, hm, hi]

theorem execFbSignalLossEnd_eq : exec (.fbSignalLossEnd t n pr) s =
    .next (u.modFb n fun p => { p with loss := vmod p.loss (pairIx pr) fun _ => false }) := by
  subst hu; rfl

theorem execFbSupply_currentLimit (hw : u.awake = true) (hp : vget u.pins.fbSup n false = true) (hm : u.fbMode n ≠ 0) :
    exec (.fbSupply t n .currentLimit) s = .next (u.raise 0x833F 2 0 (le 1 n ++ le 1 1)) := by
  subst hu
  exact congrArg Host.Outcome.next (if_pos (by simp [hw, hp, hm]))

theorem execEncPupEnd_eq : exec (.encPupEnd t n) s = .next (u.modFb n fun p => { p with pup := false }) := by
  subst hu; rfl

end

end Sys2Proof.Machine

namespace Sys2Proof.Proofs
open Sys2Proof.Machine

/-- Settles O43: the verdicts on a serial frame in the order in which they are judged, then the index, the lines and the supply, each by its own lemma at
the state of its stamp. -/
theorem feedbackFramesAndLines : Obligations.FeedbackFramesAndLines := by
  unfold Obligations.FeedbackFramesAndLines
  intro t n x ex crc nE nW pr s u p d good
  exact ⟨execSerialFrame_noStart rfl, execSerialFrame_badCrc rfl, execSerialFrame_errorBit rfl, execSerialFrame_firstGood rfl,
    fun l => execIndexLatch_first rfl, execIndexLatch_gated rfl, execFbSignalLoss_abz rfl, execFbSignalLossEnd_eq rfl,
    execFbSupply_currentLimit rfl, execEncPupEnd_eq rfl⟩

end Sys2Proof.Proofs
end

section
/-! SUPPORT. The rows of a machine's observer (R260 to R263, R267, R271, R272) and the snap detector's request for the brakes (R291), each stated of the
state `u` at its stamp, the observer `o` and the parameters `d` of the machine. -/
namespace Sys2Proof.Machine

variable {s u : State} {t : Tick} {m : Fin 4} {o : Observer} {d : Bytes}

/-! ### PROBE_END (R260) -/

/-- A back-EMF below EMF_MIN in all of the last CATCH_OK is standstill, at which a machine with START enabled begins the injection. -/
theorem execProbeEnd_standstill (hu : s.upTo t = u) (ho : u.observer m = o) (hd : u.slMachine m = d) (hs : o.state = 1) (ha : o.along = false)
    (ht : o.since + slCatchT d ≤ t) (hw : (o.eHist.filter fun p => decide (t ≤ p.1 + slCatchOk d)) ≠ [])
    (hlow : ∀ p ∈ o.eHist.filter fun p => decide (t ≤ p.1 + slCatchOk d), p.2 < (getN d 42 2 : Rat) / 10)
    (hen : (getN d 0 1).testBit 1 = true) : exec (.probeEnd t m) s = .next (u.startBegin m) := by
  subst hu ho hd
  have hall := List.all_eq_true.2 fun p hp => decide_eq_true (hlow p hp)
  exact congrArg Host.Outcome.next ((if_pos ⟨hs, by rw [ha]; rfl, ht⟩).trans ((if_pos ⟨hw, hall⟩).trans (if_pos hen)))

theorem execProbeEnd_idle (hu : s.upTo t = u) (hs : (u.observer m).state ≠ 1) : exec (.probeEnd t m) s = .next u := by
  subst hu
  exact congrArg Host.Outcome.next (if_neg fun h => hs h.1)

/-! ### START_EVALUATION (R262, R263) -/

/-- The cosine part of the second harmonic of the rises over the `n` directions of the ladder (R262). -/
def ladderCos (n : Nat) (rises : List Rat) : Rat := (rises.zipIdx.map fun x => x.1 * Config.cosTurn (2 * (x.2 : Rat) / n)).sum

/-- The sine part of the second harmonic of the rises over the `n` directions of the ladder (R262). -/
def ladderSin (n : Nat) (rises : List Rat) : Rat := (rises.zipIdx.map fun x => x.1 * Config.sinTurn (2 * (x.2 : Rat) / n)).sum

/-- The saliency of a ladder: twice the magnitude of its second harmonic over the sum of its rises (R262). -/
def saliency (n : Nat) (rises : List Rat) : Rat :=
  2 * Config.sqrt (ladderCos n rises * ladderCos n rises + ladderSin n rises * ladderSin n rises) / rises.sum

/-- The contrast of the rises in the two last directions against their mean (R263). -/
def polarity (p q : Rat) : Rat := absR (p - q) / ((p + q) / 2)

theorem quot_of_ne {a b : Rat} (h : b ≠ 0) : quot a b = a / b := if_neg h

theorem quot_eq_saliency {n : Nat} {rises : List Rat} (h : rises.sum ≠ 0) :
    quot (2 * Config.sqrt (ladderCos n rises * ladderCos n rises + ladderSin n rises * ladderSin n rises)) rises.sum = saliency n rises :=
  quot_of_ne h

theorem quot_eq_polarity {p q : Rat} (h : 0 < p + q) : quot (absR (p - q)) ((p + q) / 2) = polarity p q := quot_of_ne (half_pos h).ne'

/-- The rise in a direction of START, counted from 0. -/
def Observer.rise (o : Observer) (j : Nat) : Rat := o.rises[j]?.getD 0

/-- The cycles of a direction of START (R261). -/
def startLen (d : Bytes) : Nat := 2 * getN d 2 1 + getN d 3 1

/-- START has found the angle `th` in the lead set, with the contrast `pol` of its polarity: START_DONE, and the observer in LOWSPEED (R263). -/
def State.startDone (s : State) (m : Nat) (pol th : Rat) : State :=
  let o := s.observer m
  let v := s.info 0x8341 1 o.lead (le 1 (pct o.contrast) ++ le 1 (pct pol) ++ le 2 (satN 2 ((s.time - o.since) / 10000)) ++ le 4 (turn32 th))
  let v := v.modOs o.lead fun x => { x.turnTo th with omega := 0 }
  let v := (v.modObs m fun o => { o with thLs := th, wls := 0, wlsAt := none, okSince := none }).setObs m 3
  ((v.modFe o.lead fun f => { f with first := true }).obsCount m th).alignStart o.lead th

theorem execStartEvaluation_idle (hu : s.upTo t = u) (hs : (u.observer m).state ≠ 2) : exec (.startEvaluation t m) s = .next u := by
  subst hu
  exact congrArg Host.Outcome.next (if_pos hs)

section
variable (hu : s.upTo t = u) (ho : u.observer m = o) (hd : u.slMachine m = d) (hs : o.state = 2)
include hu ho hd hs

/-- After the ladder, a saliency that suffices gives the axis (R262). -/
theorem execStartEvaluation_axis (ha : o.axis = none) (hstep : o.step = getN d 1 1 * startLen d) (hlen : o.rises.length = getN d 1 1)
    (hsum : o.rises.sum ≠ 0) (hsal : (getN d 12 1 : Rat) ≤ saliency (getN d 1 1) o.rises * 100) :
    exec (.startEvaluation t m) s = .next (u.modObs m fun x => { x with
      axis := some (Config.atanTurn (ladderSin (getN d 1 1) o.rises) (ladderCos (getN d 1 1) o.rises) / 2)
      contrast := saliency (getN d 1 1) o.rises }) := by
  rw [← quot_eq_saliency hsum] at hsal ⊢
  subst hu ho hd
  exact congrArg Host.Outcome.next ((if_neg (not_not.2 hs)).trans ((if_pos ⟨ha, hstep, hlen⟩).trans (if_neg hsal.not_gt)))

/-- After the two last directions, their contrast decides between a failed start and LOWSPEED at the axis, turned to the direction of the larger rise
(R263). -/
theorem execStartEvaluation_polarity {ax : Rat} (hax : o.axis = some ax) (hstep : o.step = (getN d 1 1 + 2) * startLen d)
    (hlen : o.rises.length = getN d 1 1 + 2) (hpos : 0 < o.rise (getN d 1 1) + o.rise (getN d 1 1 + 1)) :
    exec (.startEvaluation t m) s = .next (
      let p := o.rise (getN d 1 1)
      let q := o.rise (getN d 1 1 + 1)
      if polarity p q * 100 < getN d 13 1 then u.startFailed m 1
      else u.startDone m (polarity p q) (fracTurn (ax + if q ≤ p then 0 else 1 / 2))) := by
  have hne : ¬o.axis = none := by rw [hax]; exact Option.some_ne_none ax
  have hget : o.axis.getD 0 = ax := by rw [hax]; rfl
  dsimp only
  rw [← quot_eq_polarity hpos, ← hget]
  subst hu ho hd
  exact congrArg Host.Outcome.next ((if_neg (not_not.2 hs)).trans
    ((if_neg fun h => hne h.1).trans (if_pos ⟨Option.isSome_of_eq_some hax, hstep, hlen⟩)))

end

/-! ### Handover, catch and loss (R267, R271, R272) -/

section
variable (hu : s.upTo t = u) (ho : u.observer m = o)
include hu ho

theorem execHandoverTimeout_lost {a : Tick} (hw : o.wlsAt = some a) (hs : o.state = 3) (hang : u.obsAngle m = true)
    (ht : a + msTicks 2000 + 100 ≤ t) : exec (.handoverTimeout t m) s = .next (u.obsLost m 0) := by
  change execHandoverTimeout t m s = _
  simp only [execHandoverTimeout, hu, ho, hw, hs, hang, (due_iff _ _).2 ht, and_self, if_true]

variable (hd : u.slMachine m = d) (hs : o.state = 5)
include hd hs

/-- The first attempt waits for zero-current control only, not for CATCH_GAP. -/
theorem execCatchAttempt_first (hasc : o.asc = false) (hz : u.zeroActs m = true) (hn : o.attempts = 0) (hmax : 0 < getN d 46 1)
    (ht : t ≤ o.lossAt + msTicks 2000) : exec (.catchAttempt t m) s = .next (((u.catchInit m).modObs m fun x =>
      { x with attempts := x.attempts + 1, tryAt := u.time, okSince := none }).setObs m 6) := by
  subst hu ho hd
  exact congrArg Host.Outcome.next (if_pos ⟨hs, by rw [hasc]; rfl, hz, by rwa [hn], ht, .inl hn⟩)

/-- With the attempts used up in LOST, the last one has given its CATCH_RESULT already. -/
theorem execObsLossLasting_usedUp (hn : getN d 46 1 ≤ o.attempts) : exec (.obsLossLasting t m) s =
    .next (((u.faultLasting ⟨9, 1, o.lead⟩ 0x8343 1 o.lead).hold ⟨9, 1, o.lead⟩ 0x8343).obsLasting m 0x8343) := by
  change execObsLossLasting t m s = _
  simp only [execObsLossLasting, hu, ho, hd, hs, hn, and_self, true_or, if_true, Nat.reduceEqDiff, if_false]

end

/-! ### SNAP_SBC_REQUEST (R291) -/

theorem execSnapSbcRequest_brakes (hu : s.upTo t = u) {a : Tick} (ha : u.torsion.snapSlow = some a) (hsnap : u.torsion.snap = true)
    (hact : getN u.torsCfg 1 1 = 2) (ht : a + msTicks 50 ≤ u.time) : exec (.snapSbcRequest t) s = .next (u.requestFn 3 u.enMask 9) := by
  change execSnapSbcRequest t s = _
  simp only [execSnapSbcRequest, hu, ha, hsnap, hact, ht, and_self, if_true]

end Sys2Proof.Machine

namespace Sys2Proof.Proofs
open Sys2Proof.Machine

/-- Settles O45: each row by its own lemma at the state of its stamp; both verdicts on the polarity are branches of one. -/
theorem observerEventsFollow : Obligations.ObserverEventsFollow := by
  unfold Obligations.ObserverEventsFollow
  intro t m s u o d
  refine ⟨fun a l hs ha ht hw hlow => ?standstill, execProbeEnd_idle rfl, ⟨execStartEvaluation_axis rfl rfl rfl, ?failed, ?done⟩,
    execStartEvaluation_idle rfl, fun a => execHandoverTimeout_lost rfl rfl, fun hs => execCatchAttempt_first rfl rfl rfl hs,
    fun hs => execObsLossLasting_usedUp rfl rfl rfl hs, fun a => execSnapSbcRequest_brakes rfl⟩
  case standstill => exact execProbeEnd_standstill rfl rfl rfl hs ha ht (hw ▸ List.cons_ne_nil a l) (hw ▸ hlow)
  case failed =>
    intro hs ha hstep hlen hpos hlow
    obtain ⟨ax, hax⟩ := Option.isSome_iff_exists.1 ha
    exact (execStartEvaluation_polarity rfl rfl rfl hs hax hstep hlen hpos).trans (congrArg Host.Outcome.next (if_pos hlow))
  case done =>
    intro ax hs hax hstep hlen hpos hhigh
    exact (execStartEvaluation_polarity rfl rfl rfl hs hax hstep hlen hpos).trans (congrArg Host.Outcome.next (if_neg hhigh.not_gt))

end Sys2Proof.Proofs
end

section
/-! SUPPORT. What is said of every command: it answers a next state, and it leaves the queue alone. -/
namespace Sys2Proof.Machine

variable {s : State}

/-! ### The reset state (R98, R113, R120) -/

/-- Every source starts with its eight credits, and nothing is held or owed. -/
theorem State.reset_port (c : Source) : State.reset.port c = {} := by cases c <;> rfl

theorem State.reset_inv : State.reset.Inv where
  credits c := by rw [State.creditsBalance, State.inUse, State.reset_port]; cases c <;> rfl
  queues c := by rw [State.reset_port, Port.queueOk]; decide
  counters := by rw [Counters.ok]; decide
  blocks := List.forall_mem_nil _
  sorted := List.Pairwise.nil
  staging := Nat.zero_le _
  memory := rfl

/-! ### The queue -/

/-- The queue is part of what every command keeps while no packet is in flight. -/
theorem exec_pending {i : Instr} {t : State} (h : s.Inv) (he : exec i s = .next t) : t.pending = s.pending :=
  ((exec_bal h.held).holds he).holds.pending

/-! ### A next state -/

/-- A choice between two next states is a next state. -/
theorem exists_next_ite {a b : Host.Outcome State Fault Refusal} (p : Prop) [Decidable p] (ha : ∃ t, a = .next t) (hb : ∃ t, b = .next t) :
    ∃ t, (if p then a else b) = .next t := by
  split
  · exact ha
  · exact hb

/-- Each command's meaning is a next state, whatever it tests: its conditions choose the state. -/
theorem exec_next (i : Instr) (s : State) : ∃ t, exec i s = .next t := by
  cases i with
  | resetNLow => exact exists_next_ite _ ⟨_, rfl⟩ ⟨_, rfl⟩
  | ownTimeoutExpiry => exact exists_next_ite _ ⟨_, rfl⟩ ⟨_, rfl⟩
  | _ => exact ⟨_, rfl⟩

end Sys2Proof.Machine

namespace Sys2Proof.Proofs
open Sys2Proof.Machine

/-- Settles O1: a step reads the front of the queue and nothing else. -/
theorem stepRunsTheQueue : Obligations.StepRunsTheQueue := by
  unfold Obligations.StepRunsTheQueue
  refine ⟨fun c s => rfl, fun s hs => ?_⟩
  rw [step, hs]

/-- Settles O54: no command's meaning faults or refuses. -/
theorem everyCommandAnswersNext : Obligations.EveryCommandAnswersNext := exec_next

/-- Settles O58: every part the invariant speaks of starts empty, and every source with eight credits. -/
theorem invAtReset : Obligations.InvAtReset := State.reset_inv

/-- Settles O55: a state that meets the invariant balances its credits, which with the queue every command keeps. -/
theorem queueKept : Obligations.QueueKept := fun _ _ _ => exec_pending

end Sys2Proof.Proofs
end

section
/-! SUPPORT. The colonnade: its packets (R303, R316, R320), the frames of its ring (R298, R302, R310, R313) and formation with its end (R304, R314, R315), each
row stated of the state `u` at its stamp. -/
namespace Sys2Proof.Machine

variable {s u : State} {t : Tick} {c : Source} {q : Nat} {p f : Bytes}

/-! ### What a charged packet leaves of the colonnade -/

@[simp] theorem State.charged_time (c : Source) : (s.charged c).time = s.time := by rw [s.charged_eq c]
@[simp] theorem State.charged_col (c : Source) : (s.charged c).col = s.col := by rw [s.charged_eq c]
@[simp] theorem State.charged_colN (c : Source) : (s.charged c).colN = s.colN := by rw [s.charged_eq c]; rfl
@[simp] theorem State.charged_bareShare (c : Source) (cyc : Nat) (fin : Bool) (drop : BitVec 8) :
    (s.charged c).bareShare cyc fin drop = s.bareShare cyc fin drop := by rw [s.charged_eq c]; rfl

/-! ### The opcodes -/

theorem opColonnadeJoin_forms (hk : s.sealedCfg.isSome = true) (hl : (s.cu 0x0001 11 1).testBit 0 = true) (hn : s.col.state = 0)
    (hlo : 100 ≤ getN p 0 2) (hhi : getN p 0 2 ≤ 10000) (hm : 2 ≤ getN p 2 1) (hN : getN p 2 1 ≤ s.colN) (hr : getN p 3 5 = 0) :
    opColonnadeJoin p s = .ok ((s.modCol fun x => { x with
      formAt := s.time, formT := getN p 0 2, minPres := getN p 2 1, seen := 0, elig := 0, forming0 := false, leaveDue := false, leader := 255
      members := Vector.replicate 8 {} }).setCol 1) :=
  (if_neg (by simp [hk, hl, hn])).trans (if_neg (by omega))

theorem opColonnadeJoin_elsewhere (hn : s.col.state ≠ 0) : opColonnadeJoin p s = .no s eState := if_pos (by simp [hn])

/-- A member leaves with its next share. -/
theorem opColonnadeLeave_member (h : s.col.state = 3) : opColonnadeLeave s = .ok (s.modCol fun x => { x with leaveDue := true }) := by
  simp only [opColonnadeLeave, h]

/-- Outside RUN the leader ends the colonnade with an END frame. -/
theorem opColonnadeLeave_leader (h : s.col.state = 2) (hd : s.dev ≠ .run) :
    opColonnadeLeave s = .ok ((s.clo [s.bareShare ((s.col.cycle + 1) % 65536) true s.col.drop]).setCol 0) := by
  simp only [opColonnadeLeave, h, hd, if_false]

theorem opColonnadeLeave_leaderInRun (h : s.col.state = 2) (hd : s.dev = .run) : opColonnadeLeave s = .no s eState := by
  simp only [opColonnadeLeave, h, hd, if_true]

theorem opColonnadeLeave_none (h : s.col.state = 0) : opColonnadeLeave s = .no s eState := by simp only [opColonnadeLeave, h]

theorem opColonnadeStatus_eq : ∃ d : Bytes, opColonnadeStatus s = .ok s d ∧
    d.take 4 = le 1 s.col.state ++ le 1 s.colMe ++ le 1 s.col.leader ++ le 1 s.col.present.toNat ∧ d.length = 64 := by
  refine ⟨_, rfl, ?_, ?_⟩
  · rfl
  · simp [zeros]

/-! ### The packets, at the state of their stamp -/

section
variable (hu : s.upTo t = u)
include hu

theorem execColonnadeJoin_forms (hs : u.takes c 0x0800 p) (hk : u.sealedCfg.isSome = true) (hl : (u.cu 0x0001 11 1).testBit 0 = true)
    (hn : u.col.state = 0) (hlo : 100 ≤ getN p 0 2) (hhi : getN p 0 2 ≤ 10000) (hm : 2 ≤ getN p 2 1) (hN : getN p 2 1 ≤ u.colN)
    (hr : getN p 3 5 = 0) : exec (.colonnadeJoin t c q p) s =
    .next ((((u.charged c).modCol fun x => { x with
      formAt := u.time, formT := getN p 0 2, minPres := getN p 2 1, seen := 0, elig := 0, forming0 := false, leaveDue := false, leader := 255
      members := Vector.replicate 8 {} }).setCol 1).answered c q) := by
  subst hu
  have hh := opColonnadeJoin_forms (s := (s.upTo t).charged c) (p := p) (by simpa using hk) (by simpa using hl) (by simpa using hn) hlo hhi hm
    (by simpa using hN) hr
  rw [State.charged_time] at hh
  exact runOp_of_ok (h := opColonnadeJoin p) hs hh ((State.setCol_held (State.modCol_held (State.Keeps.held _))).credits_le c)

theorem execColonnadeJoin_refused (hs : u.takes c 0x0800 p) (hn : u.col.state ≠ 0) :
    exec (.colonnadeJoin t c q p) s = .next ((u.charged c).reject c q eState) := by
  subst hu
  exact runOp_of_no (h := opColonnadeJoin p) hs (opColonnadeJoin_elsewhere (by simpa using hn)) (by decide)

theorem execColonnadeStatus_answers (hs : u.takes c 0x0802 p) : ∃ d : Bytes,
    exec (.colonnadeStatus t c q p) s = .next ((u.charged c).answered c q d) ∧
      d.take 4 = le 1 u.col.state ++ le 1 u.colMe ++ le 1 u.col.leader ++ le 1 u.col.present.toNat ∧ d.length = 64 := by
  subst hu
  obtain ⟨d, hh, hd, hl⟩ := opColonnadeStatus_eq (s := (s.upTo t).charged c)
  refine ⟨d, runOp_of_ok (h := opColonnadeStatus) hs hh (Nat.le_refl _), ?_, hl⟩
  rw [hd, (s.upTo t).charged_eq c]
  rfl

variable (hs : u.takes c 0x0801 p)
include hs

theorem execColonnadeLeave_member (h : u.col.state = 3) :
    exec (.colonnadeLeave t c q p) s = .next (((u.charged c).modCol fun x => { x with leaveDue := true }).answered c q) := by
  subst hu
  exact runOp_of_ok (h := opColonnadeLeave) hs (opColonnadeLeave_member (by simpa using h)) (Nat.le_refl _)

theorem execColonnadeLeave_leader (h : u.col.state = 2) (hd : u.dev ≠ .run) : exec (.colonnadeLeave t c q p) s =
    .next ((((u.charged c).clo [u.bareShare ((u.col.cycle + 1) % 65536) true u.col.drop]).setCol 0).answered c q) := by
  subst hu
  have hh := opColonnadeLeave_leader (s := (s.upTo t).charged c) (by simpa using h) (by simpa using hd)
  rw [State.charged_bareShare, State.charged_col] at hh
  exact runOp_of_ok (h := opColonnadeLeave) hs hh ((State.setCol_held (State.clo_held (State.Keeps.held _))).credits_le c)

theorem execColonnadeLeave_leaderInRun (h : u.col.state = 2) (hd : u.dev = .run) :
    exec (.colonnadeLeave t c q p) s = .next ((u.charged c).reject c q eState) := by
  subst hu
  exact runOp_of_no (h := opColonnadeLeave) hs (opColonnadeLeave_leaderInRun (by simpa using h) (by simpa using hd)) (by decide)

theorem execColonnadeLeave_none (h : u.col.state = 0) :
    exec (.colonnadeLeave t c q p) s = .next ((u.charged c).reject c q eState) := by
  subst hu
  exact runOp_of_no (h := opColonnadeLeave) hs (opColonnadeLeave_none (by simpa using h)) (by decide)

end

/-! ### The frames of the ring (R298, R301, R302) -/

theorem State.ringOn_of_colOn (h : u.colOn = true) : u.ringOn = true := by
  unfold State.colOn at h
  simp only [Bool.and_eq_true] at h
  exact h.1.1.1

/-- A REPLY frame with its length, its TYPE and its CRC (R301). -/
def replyOk (f : Bytes) : Prop := f.length = 15 ∧ getN f 1 1 = 0x52 ∧ f.drop 13 = (le 2 (crc16 ((f.drop 1).take 12)).toNat).reverse

theorem replyOk_check (h : replyOk f) :
    (!(f.length == 15 && getN f 1 1 == 0x52 && f.drop 13 == (le 2 (crc16 ((f.drop 1).take 12)).toNat).reverse)) = false := by
  obtain ⟨hl, ht, hc⟩ := h
  rw [hl, ht, hc]
  simp

@[simp] theorem State.clo_ringOn (l : List Bytes) : (s.clo l).ringOn = s.ringOn := rfl
@[simp] theorem State.clo_colOn (l : List Bytes) : (s.clo l).colOn = s.colOn := rfl
@[simp] theorem State.clo_colMe (l : List Bytes) : (s.clo l).colMe = s.colMe := rfl
@[simp] theorem State.clo_colN (l : List Bytes) : (s.clo l).colN = s.colN := rfl
@[simp] theorem State.clo_stamp (l : List Bytes) : (s.clo l).stamp = s.stamp := rfl
@[simp] theorem State.clo_col (l : List Bytes) : (s.clo l).col = { s.col with out := l } := rfl
@[simp] theorem State.clo_clo (l m : List Bytes) : (s.clo l).clo m = s.clo m := rfl

/-- A device that is not the candidate completes nothing. -/
theorem State.formCheck_of_not_candidate (hc : u.candidate = false) : u.formCheck = u := if_neg (by simp [hc])

section
variable (hu : s.upTo t = u)
include hu

/-- A device whose ring works but that takes part in no colonnade passes every frame on. -/
theorem execShareFrame_passes (hr : u.ringOn = true) (ho : u.colOn = false) : exec (.shareFrame t f) s = .next (u.clo [f]) := by
  change execShareFrame t f s = _
  simp [execShareFrame, hu, hr, ho]

theorem execReplyFrame_passes (hr : u.ringOn = true) (ho : u.colOn = false) : exec (.replyFrame t f) s = .next (u.clo [f]) := by
  change execReplyFrame t f s = _
  simp [execReplyFrame, hu, hr, ho]

theorem execRollFrame_passes (hr : u.ringOn = true) (ho : u.colOn = false) : exec (.rollFrame t f) s = .next (u.clo [f]) := by
  change execRollFrame t f s = _
  simp [execRollFrame, hu, hr, ho]

variable (ho : u.colOn = true)
include ho

/-- A SHARE frame that its consumer cannot read is counted and taken off the leader's ring (R298). -/
theorem execShareFrame_bad (hs : u.col.state = 2) (hf : frameOk 0x53 52 f = false) :
    exec (.shareFrame t f) s = .next (((u.clo []).ringError 0x53).clo []) := by
  change execShareFrame t f s = _
  simp [execShareFrame, hu, State.ringOn_of_colOn ho, ho, hs, hf]

/-- The leader's own frame measures the ring (R300). -/
theorem execShareFrame_own (hs : u.col.state = 2) (hf : frameOk 0x53 52 f = true) (hm : getN f 4 1 % 8 = u.colMe) :
    exec (.shareFrame t f) s = .next (u.clo []).ringMeasured := by
  change execShareFrame t f s = _
  simp [execShareFrame, hu, State.ringOn_of_colOn ho, ho, hs, hf, hm]

/-- A reply of another member with the present CYCLE and a stamp up to D_k goes into that member's record (R313). -/
theorem execReplyFrame_taken (hs : u.col.state = 2) (hf : replyOk f) (hc : getN f 3 2 = u.col.cycle) (hd : u.stamp ≤ u.col.sk + 800)
    (hn : getN f 2 1 % 8 < u.colN) (hm : getN f 2 1 % 8 ≠ u.colMe) : exec (.replyFrame t f) s = .next ((u.clo []).modCol fun c => { c with
      members := vmod c.members (getN f 2 1 % 8) fun m =>
      { m with
        avail := (getN f 2 1).testBit 3, limited := (getN f 2 1).testBit 4, leaving := (getN f 2 1).testBit 5, degr := (getN f 2 1).testBit 7
        tq := getI f 5 4, capP := getI f 9 2, capN := getI f 11 2, replied := true
        rejoin := if m.replied then m.rejoin else if (getN f 2 1).testBit 6 && !(getN f 2 1).testBit 3 then m.rejoin + 1 else 0 } }) := by
  have hok := replyOk_check hf
  change execReplyFrame t f s = _
  simp only [execReplyFrame, hu, hok, State.clo_ringOn, State.clo_colOn, State.clo_col, State.clo_stamp, State.clo_colN, State.clo_colMe,
    State.ringOn_of_colOn ho, ho, hs, hc, hd, hn, hm, beq_self_eq_true, Bool.and_self, Bool.not_true, Bool.false_eq_true, and_self, not_false_eq_true,
    ne_eq, if_false, if_true]

/-- A ROLL frame of another device is marked by one that takes part in the formation (R302). -/
theorem execRollFrame_marked (hs : u.col.state ≠ 0) (hf : frameOk 0x4C 56 f = true) (hm : getN f 2 1 ≠ u.colMe) :
    exec (.rollFrame t f) s = .next ((u.clo []).markRoll f) := by
  change execRollFrame t f s = _
  simp [execRollFrame, hu, State.ringOn_of_colOn ho, ho, hs, hf, hm]

/-! ### The leader's cycle (R310, R313) -/

/-- At a carrier zero of its time base, a sharing period after the last, a leader that has judged the last cycle sends its shares. -/
theorem execSharingCycle_sends {k : Sealed} (hs : u.col.state = 2) (hj : u.col.judged = true) (hk : u.sealedCfg = some k) (h0 : k.t0 ≤ u.time)
    (hz : (u.time - k.t0) % u.ctrlCycle = 0) (hp : u.col.sk = 0 ∨ u.col.sk + u.colPeriod ≤ u.time + 208) :
    exec (.sharingCycle t) s = .next (u.clo []).sendShare := by
  have hdue : (u.col.sk == 0 || decide (u.col.sk + u.colPeriod ≤ u.time + 208)) = true := by
    rwa [Bool.or_eq_true, beq_iff_eq, decide_eq_true_iff]
  change execSharingCycle t s = _
  simp [execSharingCycle, hu, ho, hs, hj, hk, h0, hz, hdue]

theorem execReplyDeadline_judges (hs : u.col.state = 2) (hj : u.col.judged = false) (hd : u.col.sk + 900 ≤ t) :
    exec (.replyDeadline t) s = .next u.judge := by
  have hdue : due (u.col.sk + 800) t = true := (due_iff _ _).2 hd
  change execReplyDeadline t s = _
  simp [execReplyDeadline, hu, ho, hs, hj, hdue]

/-! ### Formation and its end (R304, R314, R315) -/

theorem execRollSend_forming (hs : u.col.state = 1) (hr : u.col.rollAt ≤ t) :
    exec (.rollSend t) s = .next ((u.modCol fun x => { x with rollAt := u.time + 100000 }).clo [u.rollOf]) := by
  change execRollSend t s = _
  simp [execRollSend, hu, ho, hs, hr, State.modCol, msTicks]

theorem execRollSend_detached (hs : u.col.state = 4) (hr : u.col.rollAt ≤ t) :
    exec (.rollSend t) s = .next ((u.modCol fun x => { x with rollAt := u.time + 1000000 }).clo [u.rollOf]) := by
  change execRollSend t s = _
  simp [execRollSend, hu, ho, hs, hr, State.modCol, msTicks]

omit ho in
theorem execRollSend_elsewhere (h1 : u.col.state ≠ 1) (h4 : u.col.state ≠ 4) : exec (.rollSend t) s = .next u := by
  change execRollSend t s = _
  simp [execRollSend, hu, h1, h4]

theorem execFormationTimeout_fails (hs : u.col.state = 1) (h0 : u.col.forming0 = false) (hd : u.col.formAt + msTicks u.col.formT + 100 ≤ t)
    (hc : u.candidate = false) : exec (.formationTimeout t) s = .next ((u.raise 0x8806 3 u.colMe (le 1 2)).setCol 0) := by
  have hdue : due (u.col.formAt + msTicks u.col.formT) t = true := (due_iff _ _).2 hd
  change execFormationTimeout t s = _
  simp [execFormationTimeout, hu, ho, hs, h0, hdue, State.formCheck_of_not_candidate hc, State.formFail]

/-- Without a valid SHARE frame for MEMBER_MISS periods a member is detached (R314). -/
theorem execColDetached_detaches (hs : u.col.state = 3) (hq : u.pair.query = none)
    (hd : u.col.lastFrame + getN u.colCfg 10 1 * u.colPeriod + 300 ≤ t) : exec (.colDetached t) s = .next (u.detach 1) := by
  have hdue : due (u.col.lastFrame + getN u.colCfg 10 1 * u.colPeriod + 200) t = true := (due_iff _ _).2 hd
  change execColDetached t s = _
  simp [execColDetached, hu, ho, hs, hq, hdue]

end

end Sys2Proof.Machine

namespace Sys2Proof.Proofs
open Sys2Proof.Machine

/-- Settles O28: each opcode is carried out on the charged state, whose colonnade is that of the state before. -/
theorem colonnadeCommands : Obligations.ColonnadeCommands := by
  unfold Obligations.ColonnadeCommands
  intro t c q p s u
  exact ⟨execColonnadeJoin_forms rfl, execColonnadeJoin_refused rfl, execColonnadeLeave_member rfl, execColonnadeLeave_leader rfl,
    execColonnadeLeave_leaderInRun rfl, execColonnadeLeave_none rfl, execColonnadeStatus_answers rfl⟩

/-- Settles O29: each frame by what its consumer is and what its checks say, each timer by its deadline. -/
theorem colonnadeFramesAndFormation : Obligations.ColonnadeFramesAndFormation := by
  unfold Obligations.ColonnadeFramesAndFormation
  refine ⟨fun t f s => ?frames, fun t f s => ?formation⟩
  case frames =>
    exact ⟨fun hr ho => ⟨execShareFrame_passes rfl hr ho, execReplyFrame_passes rfl hr ho, execRollFrame_passes rfl hr ho⟩,
      execShareFrame_bad rfl, execShareFrame_own rfl, fun ho hs hl ht hc => execReplyFrame_taken rfl ho hs ⟨hl, ht, hc⟩,
      fun k ho hs hj => execSharingCycle_sends rfl ho hs hj⟩
  case formation =>
    exact ⟨execRollSend_forming rfl, execRollSend_detached rfl, fun _ => execRollSend_elsewhere rfl, execRollFrame_marked rfl,
      execReplyDeadline_judges rfl, execFormationTimeout_fails rfl, execColDetached_detaches rfl⟩

end Sys2Proof.Proofs
end

section
/-! SUPPORT. The DC link (R324, R325, R327, R328) and the moves and ends of stop reactions (R332, R334), each row stated of the state `u` at its stamp. -/
namespace Sys2Proof.Machine

variable {s u : State} {t : Tick} {k : Fin 4}

/-- A condition that began at `f` has lasted for `d` ticks. -/
theorem any_lasts {o : Option Tick} {f d d' now : Tick} (ho : o = some f) (hd : d' = d) (ht : f + d ≤ now) :
    (o.any fun u => decide (u + d' ≤ now)) = true := by
  rw [ho, hd, Option.any_some, decide_eq_true ht]

section
variable (hu : s.upTo t = u)
include hu

/-! ### The chopper (R327, R328) -/

/-- A chopper that is called for and whose switch does not conduct by its plateau time (or its mode's own) is open. -/
theorem execChopperOpen_opens (hr : u.stackRuns k = true) (hf : (getN (u.dcCfg k) 0 1).testBit 0 = true) (ho : (u.stack k).chop.isOpen = false)
    (hc : (u.stack k).chop.cmd = true) (hg : (u.gate (24 + k)).out = .on) (hm : getN (u.cfg (0x20 + k)) 0 1 / 4 % 4 ≠ 2)
    (ht : (u.gate (24 + k)).t0 + getN (u.cfg (0x20 + k)) 16 1 + 100 ≤ u.time) :
    exec (.chopperOpen t k .notConducting) s = .next (u.chopOpen k 0 0) := by
  subst hu
  have hsup : (!((s.upTo t).stackRuns k && (getN ((s.upTo t).dcCfg k) 0 1).testBit 0 && !((s.upTo t).stack k).chop.isOpen &&
      ((s.upTo t).stack k).chop.cmd)) = false := by simp [hr, hf, ho, hc]
  refine congrArg Host.Outcome.next ((if_neg (by rw [hsup]; decide)).trans (if_pos ⟨hg, ?_⟩))
  rwa [if_neg hm]

theorem execChopperOpen_off (hc : (u.stack k).chop.cmd = false) : exec (.chopperOpen t k .notConducting) s = .next u := by
  subst hu
  exact congrArg Host.Outcome.next (if_pos (by simp [hc]))

theorem execChopperShort_raises (hr : u.stackRuns k = true) (hf : (getN (u.dcCfg k) 0 1).testBit 0 = true) (hc : (u.stack k).chop.cmd = false)
    (ht : (u.stack k).chop.since + usTicks (getN (u.dcCfg k) 22 2) ≤ u.time) (hl : (u.stack k).sense.udcLost = false)
    (hv : (getN (u.dcCfg k) 16 2 : Rat) * 100 ≤ (u.stack k).sense.uDc) :
    exec (.chopperShort t k) s = .next (u.raise 0x8365 1 k (le 2 (u.stack k).udc01)) := by
  subst hu
  exact congrArg Host.Outcome.next (if_pos (by simp [hr, hf, hc, ht, hl, hv]))

/-! ### Undervoltage and OV3 (R324, R325) -/

theorem execDcUndervoltage_raises {f : Tick} (hr : u.stackRuns k = true) (hv : (u.stack k).chop.uv = false) (hb : (u.stack k).chop.below = some f)
    (ht : f + 1000000 ≤ u.time) : exec (.dcUndervoltage t k) s =
    .next ((u.modStack k fun x => { x with chop := { x.chop with uv := true } }).raise 0x8363 1 k (le 2 (u.stack k).udc01)) := by
  have hlong := any_lasts (d' := msTicks 10) hb rfl ht
  change execDcUndervoltage t k s = _
  simp only [execDcUndervoltage, hu, hr, hv, hlong, Bool.not_false, Bool.and_self, if_true]

theorem execDcUndervoltageClear_clears {f : Tick} (hr : u.stackRuns k = true) (hv : (u.stack k).chop.uv = true)
    (ha : (u.stack k).chop.above = some f) (ht : f + 10000000 ≤ u.time) : exec (.dcUndervoltageClear t k) s =
    .next (u.modStack k fun x => { x with chop := { x.chop with uv := false } }) := by
  have hlong := any_lasts (d' := msTicks 100) ha rfl ht
  change execDcUndervoltageClear t k s = _
  simp only [execDcUndervoltageClear, hu, hr, hv, hlong, Bool.and_self, if_true]

/-- The comparator latches the trip with the Kingpost's action; the drive pair reports it where it runs. -/
theorem execOv3Trip_latches (hw : u.awake = true) (hv : (u.stack k).ov3 = false) : exec (.ov3Trip t k) s =
    .next (let w := (u.modStack k fun x => { x with ov3 := true, ov3Act := u.ov3Action k }).settle
      if w.awake && w.dev != .boot then w.raise 0x8362 1 k (le 1 (b2n ((u.ov3Action k).getD true)) ++ zeros 3 ++ le 4 (w.kpNow % 4294967296)) else w) := by
  have hoff : u.dev ≠ .off := State.dev_ne_off_of_awake hw
  have hreset : u.dev ≠ .inReset := fun hd => by simp [State.awake, hd] at hw
  change execOv3Trip t k s = _
  simp only [execOv3Trip, hu, hoff, hreset, hv, false_and, false_or, Bool.false_eq_true, if_false]

theorem execOv3Trip_latched (hv : (u.stack k).ov3 = true) : exec (.ov3Trip t k) s = .next u := by
  subst hu
  exact congrArg Host.Outcome.next (if_pos (.inr (.inr hv)))

/-! ### SELECT and the end of a stop (R332, R334) -/

theorem execStopChange_releases {cause : StopChangeCause} (hr : u.stackRuns k = true) (hs : (u.stack k).stop.kind = .select)
    (hf : (u.stack k).fw = .asc) (hc : u.stopCond k cause = true) : exec (.stopChange t k cause) s =
    .next ((u.modStack k fun x => { x with fw := .pulseOff, watch := {} }).settle.info 0x8367 1 k (le 1 1 ++ le 1 0 ++ le 1 (stopChangeCode cause))) := by
  change execStopChange t k cause s = _
  simp [execStopChange, hu, hr, hs, hf, hc, b2n]

theorem execStopTimeout_ends {d : DriveStop} {b : Tick} (hs : u.motion.stop = some d) (hd : u.dev = .run ∨ u.dev = .shelter)
    (hn : d.brakeAt = none) (hb : d.began = some b) (ht : b + msTicks (u.cu 0x0068 24 4) + 100 ≤ t) : exec (.stopTimeout t) s =
    .next ((u.raise 0x8369 2 0 (zeros 4 ++ leI 4 u.speed24)).modMotion fun m => { m with stop := none }) := by
  have hdue : due (b + msTicks (u.cu 0x0068 24 4)) t = true := (due_iff _ _).2 ht
  change execStopTimeout t s = _
  simp [execStopTimeout, hu, hs, hd, hn, hb, hdue]

/-- At standstill, with no brake to set, nothing is waited for. -/
theorem execStopStandstill_done {d : DriveStop} {z : Tick} (hs : u.motion.stop = some d) (hz : d.slow = some z) (hn : d.brakeAt = none)
    (hd : u.dev = .run ∨ u.dev = .shelter) (ht : z + msTicks (u.cu 0x0068 32 2) ≤ u.time) (hb : u.brakesInUse = []) :
    exec (.stopStandstill t) s = .next ((u.modMotion fun m => { m with stop := some { d with brakeAt := some u.time } }).stopDone) := by
  change execStopStandstill t s = _
  simp [execStopStandstill, hu, hs, hz, hn, hd, ht, hb, State.setBrakes]

end

end Sys2Proof.Machine

namespace Sys2Proof.Proofs
open Sys2Proof.Machine

/-- Settles O27: each row by what its supervision asks, at the state of its stamp. -/
theorem dcLinkAndStopReactions : Obligations.DcLinkAndStopReactions := by
  unfold Obligations.DcLinkAndStopReactions
  refine ⟨fun t k s => ?link, fun t k cause s => ?stops⟩
  case link =>
    exact ⟨execChopperOpen_opens rfl, execChopperOpen_off rfl, execChopperShort_raises rfl, fun f => execDcUndervoltage_raises rfl,
      fun f => execDcUndervoltageClear_clears rfl⟩
  case stops =>
    exact ⟨fun hw _ => execOv3Trip_latches rfl hw, execOv3Trip_latched rfl, execStopChange_releases rfl,
      fun d b hs hd => execStopTimeout_ends rfl hs hd, fun d z hs hz => execStopStandstill_done rfl hs hz⟩

end Sys2Proof.Proofs
end

section
/-! SUPPORT. The packets of the axes (R354, R355, R357 to R360, R364, R368): what each opcode does with legal fields, and its row stated of the state `u`
at its stamp. -/
namespace Sys2Proof.Machine

variable {s u : State} {t : Tick} {c : Source} {q n : Nat} {p : Bytes}

/-! ### What a charged packet leaves of the axes -/

@[simp] theorem State.charged_axis (c : Source) (n : Nat) : (s.charged c).axis n = s.axis n := by rw [s.charged_eq c]; rfl
@[simp] theorem State.charged_axCfg (c : Source) (n : Nat) : (s.charged c).axCfg n = s.axCfg n := by rw [s.charged_eq c]; rfl
@[simp] theorem State.charged_axEn (c : Source) (n : Nat) : (s.charged c).axEn n = s.axEn n := by rw [s.charged_eq c]; rfl
@[simp] theorem State.charged_axBit (c : Source) (n b : Nat) : (s.charged c).axBit n b = s.axBit n b := by rw [s.charged_eq c]; rfl
@[simp] theorem State.charged_pairHolds (c : Source) (n : Nat) : (s.charged c).pairHolds n = s.pairHolds n := by rw [s.charged_eq c]; rfl
@[simp] theorem State.charged_limitIn (c : Source) (n : Nat) (dir : Int) : (s.charged c).limitIn n dir = s.limitIn n dir := by
  rw [s.charged_eq c]; rfl
@[simp] theorem State.charged_axisRecord (c : Source) (n : Nat) : (s.charged c).axisRecord n = s.axisRecord n := by rw [s.charged_eq c]; rfl

/-! ### AXIS_MOVE and AXIS_STOP (R354, R355) -/

/-- The limit of a profile: that of the packet, within the configured one. -/
def profileLimit (v m : Nat) : Nat := if v = 0 then m else min v m

/-- The fields of a move at a speed that is in range. -/
def moveSpeedOk (p : Bytes) : Prop := getN p 0 1 < 4 ∧ getN p 1 1 = 2 ∧ getN p 2 2 = 0 ∧ getN p 8 4 = 0

theorem moveSpeedOk_range (h : moveSpeedOk p) : ¬(3 < getN p 0 1 ∨ 3 < getN p 1 1 ∨ getN p 2 2 ≠ 0 ∨ (getN p 1 1 = 2 ∧ getN p 8 4 ≠ 0) ∨
    (getN p 1 1 = 3 ∧ getN p 4 8 ≠ 0)) := by
  obtain ⟨hn, hk, h2, h8⟩ := h
  omega

theorem opAxisMove_speed (hp : moveSpeedOk p) (he : s.axEn (getN p 0 1) = true) (hh : s.pairHolds (getN p 0 1) = false)
    (hs : (s.axis (getN p 0 1)).state = 0 ∨ (s.axis (getN p 0 1)).state = 1 ∨ (s.axis (getN p 0 1)).state = 2)
    (hl : s.limitIn (getN p 0 1) (getI p 4 4) = false) : opAxisMove p s = .ok ((s.modAxis (getN p 0 1) fun x => { x with
      kind := 2, target := getI p 4 4, vlim := profileLimit (getN p 12 4) (getN (s.axCfg (getN p 0 1)) 52 4)
      alim := profileLimit (getN p 16 4) (getN (s.axCfg (getN p 0 1)) 56 4), release := false }).axGo (getN p 0 1) 2) := by
  have hk := hp.2.1
  refine (if_neg (moveSpeedOk_range hp)).trans ((if_neg ?free).trans ?moved)
  case free => obtain h | h | h := hs <;> simp [he, hh, hk, hl, h]
  case moved => simp only [hk, Nat.reduceEqDiff, if_false, if_true, profileLimit]

theorem opAxisMove_fault (hp : moveSpeedOk p) (hs : (s.axis (getN p 0 1)).state = 6) : opAxisMove p s = .no s eState :=
  (if_neg (moveSpeedOk_range hp)).trans (if_pos (by simp [hs]))

/-- Each axis of the mask is stopped, and released where its release bit is set. -/
def State.stopMask (s : State) (b : Nat) : State :=
  [0, 1, 2, 3].foldl (fun (v : State) i => if b.testBit i then (v.stopAxis i (b.testBit (4 + i))).axOut i else v) s

theorem State.stopMask_held {P : State → Prop} (h : s.Held P) (b : Nat) : (s.stopMask b).Held P :=
  held_foldl h fun _ _ hv => State.Held.ite (State.axOut_held (State.stopAxis_held hv)) hv

/-! ### AXIS_HOME (R364) -/

theorem opAxisHome_present (hn : getN p 0 1 < 4) (hm : getN p 1 1 = 3) (h2 : getN p 2 2 = 0) (he : s.axEn (getN p 0 1) = true)
    (hh : s.pairHolds (getN p 0 1) = false) (hs : (s.axis (getN p 0 1)).state = 0 ∨ (s.axis (getN p 0 1)).state = 1) :
    opAxisHome p s = .ok (s.modAxis (getN p 0 1) fun x => { x with method := 3, hrev := false, release := false, hphase := 3 }) := by
  have hrange : ¬(3 < getN p 0 1 ∨ 3 < getN p 1 1 ∨ getN p 2 2 ≠ 0) := by omega
  refine (if_neg hrange).trans ((if_neg ?free).trans ?present)
  case free => obtain h | h := hs <;> simp [he, hh, hm, h]
  case present => simp [hm]

/-- Towards a limit that is active, without the search in the other direction, HOMED goes and nothing else (R360). -/
theorem opAxisHome_limit (hn : getN p 0 1 < 4) (hm : getN p 1 1 = 0) (h2 : getN p 2 2 = 0) (he : s.axEn (getN p 0 1) = true)
    (hh : s.pairHolds (getN p 0 1) = false) (hs : (s.axis (getN p 0 1)).state = 0 ∨ (s.axis (getN p 0 1)).state = 1)
    (hb : s.axBit (getN p 0 1) 5 = true) (hf : (vget (s.axis (getN p 0 1)).sw 0 {}).faulty = false)
    (hl : s.limitIn (getN p 0 1) (if s.axBit (getN p 0 1) 2 then -1 else 1) = true) (hr : s.axBit (getN p 0 1) 3 = false) :
    opAxisHome p s = .no (s.modAxis (getN p 0 1) fun x => { x with homed := false }) eHomeLimit := by
  have hrange : ¬(3 < getN p 0 1 ∨ 3 < getN p 1 1 ∨ getN p 2 2 ≠ 0) := by omega
  refine (if_neg hrange).trans ((if_neg ?free).trans (if_pos ⟨hm, hl, by rw [hr]; rfl⟩))
  obtain h | h := hs <;> simp [he, hh, hm, hb, hf, h]

/-! ### GEAR_SET (R357) -/

/-- The fields of GEAR_SET in range, on an enabled axis that the pair does not hold and whose master is a port. -/
structure GearOk (s : State) (p : Bytes) : Prop where
  axis  : getN p 0 1 < 4
  zero  : getN p 2 2 = 0
  ramp  : getN p 4 4 ≤ 2147483647
  lo    : -(2 ^ 47) ≤ getI p 8 8
  hi    : getI p 8 8 < 2 ^ 47
  en    : s.axEn (getN p 0 1) = true
  holds : s.pairHolds (getN p 0 1) = false
  port  : getN (s.axCfg (getN p 0 1)) 4 1 ≤ 5

theorem GearOk.charged (h : GearOk s p) : GearOk (s.charged c) p :=
  ⟨h.axis, h.zero, h.ramp, h.lo, h.hi, by simpa using h.en, by simpa using h.holds, by simpa using h.port⟩

theorem GearOk.range (h : GearOk s p) (ha : getN p 1 1 ≤ 2) : ¬(3 < getN p 0 1 ∨ 2 < getN p 1 1 ∨ getN p 2 2 ≠ 0 ∨ 2147483647 < getN p 4 4 ∨
    getI p 8 8 < -(2 ^ 47) ∨ 2 ^ 47 ≤ getI p 8 8) := by
  obtain ⟨hn, h2, h4, hlo, hhi, -, -, -⟩ := h
  omega

theorem GearOk.free (h : GearOk s p) :
    (!s.axEn (getN p 0 1) || s.pairHolds (getN p 0 1) || decide (5 < getN (s.axCfg (getN p 0 1)) 4 1)) = false := by
  simp [h.en, h.holds, h.port]

theorem opGearSet_engage (h : GearOk s p) (ha : getN p 1 1 = 1) (hs : (s.axis (getN p 0 1)).state = 0 ∨ (s.axis (getN p 0 1)).state = 1) :
    opGearSet p s = .ok ((s.modAxis (getN p 0 1) fun a => { a with
      ra := 0, rb := getI p 8 8, p0 := a.mLast, l := getN p 4 4, d := a.mDir, queue := [], imm := [], release := false }).axGo (getN p 0 1) 3) := by
  have hr := h.range (ha.trans_le (by decide))
  rw [opGearSet, if_neg hr, h.free, if_neg Bool.false_ne_true, ha]
  exact if_pos hs

theorem opGearSet_disengage (h : GearOk s p) (ha : getN p 1 1 = 0) (hs : (s.axis (getN p 0 1)).state = 3) :
    opGearSet p s = .ok (s.stopAxis (getN p 0 1) false) := by
  have hr := h.range (ha.trans_le (by decide))
  rw [opGearSet, if_neg hr, h.free, if_neg Bool.false_ne_true, ha]
  exact if_pos hs

theorem opGearSet_ratioNow (h : GearOk s p) (ha : getN p 1 1 = 2) (hs : (s.axis (getN p 0 1)).state = 3) :
    opGearSet p s = .ok (s.modAxis (getN p 0 1) fun a => a.fire a.mLast
      { point := (s.axis (getN p 0 1)).mLast, ratio := getI p 8 8, ramp := getN p 4 4, dir := (s.axis (getN p 0 1)).mDir }) := by
  have hr := h.range (Nat.le_of_eq ha)
  rw [opGearSet, if_neg hr, h.free, if_neg Bool.false_ne_true, ha]
  exact if_pos hs

/-! ### GEAR_EVENT (R358 to R360) -/

/-- The fields of a GEAR_EVENT without the flag in range, on an enabled axis that is GEARED with an empty queue. -/
structure GearEventOk (s : State) (p : Bytes) : Prop where
  axis  : getN p 0 1 < 4
  flag  : getN p 1 1 = 0
  zero  : getN p 2 2 = 0
  ramp  : getN p 4 4 ≤ 2147483647
  lo    : -(2 ^ 47) ≤ getI p 16 8
  hi    : getI p 16 8 < 2 ^ 47
  en    : s.axEn (getN p 0 1) = true
  state : (s.axis (getN p 0 1)).state = 3
  queue : (s.axis (getN p 0 1)).queue = []

theorem GearEventOk.charged (h : GearEventOk s p) : GearEventOk (s.charged c) p :=
  ⟨h.axis, h.flag, h.zero, h.ramp, h.lo, h.hi, by simpa using h.en, by simpa using h.state, by simpa using h.queue⟩

theorem GearEventOk.geared (h : GearEventOk s p) : (!s.axEn (getN p 0 1) || (s.axis (getN p 0 1)).state != 3) = false := by simp [h.en, h.state]

theorem GearEventOk.room (h : GearEventOk s p) : (decide (8 ≤ (s.axis (getN p 0 1)).queue.length) ||
    (s.axis (getN p 0 1)).queue.any (·.point == getI p 8 8)) = false := by simp [h.queue]

theorem GearEventOk.range (h : GearEventOk s p) : ¬(3 < getN p 0 1 ∨ 1 < getN p 1 1 ∨ getN p 2 2 ≠ 0 ∨ 2147483647 < getN p 4 4 ∨
    getI p 16 8 < -(2 ^ 47) ∨ 2 ^ 47 ≤ getI p 16 8) := by
  obtain ⟨hn, hf, h2, h4, hlo, hhi, -, -, -⟩ := h
  omega

/-- How far the point lies ahead of the master is minus how late it is. -/
theorem gearAhead_eq (d pt m : Int) : d * (pt - m) = -(d * (m - pt)) := by ring

/-- A point far enough ahead of the master is queued. -/
theorem opGearEvent_queued (h : GearEventOk s p) (hf : (getN (s.axCfg (getN p 0 1)) 84 4 : Int) ≤
      (s.axis (getN p 0 1)).mDir * (getI p 8 8 - (s.axis (getN p 0 1)).mLast)) : opGearEvent p s =
    .ok (s.modAxis (getN p 0 1) fun x => { x with
      queue := [{ point := getI p 8 8, ratio := getI p 16 8, ramp := getN p 4 4, dir := (s.axis (getN p 0 1)).mDir }] })
      (leI 8 (s.axis (getN p 0 1)).mLast) := by
  rw [gearAhead_eq] at hf
  refine (if_neg h.range).trans ((if_neg (Bool.eq_false_iff.1 h.geared)).trans ((if_neg (Bool.eq_false_iff.1 h.room)).trans ((if_pos hf).trans ?_)))
  rw [if_pos h.flag]
  refine congrArg (fun v => Rep.ok v (leI 8 (s.axis (getN p 0 1)).mLast)) (State.modAxis_congr ?_)
  rw [h.queue, List.nil_append]

/-- A point too close to the master is turned away and counted in BEHIND alone (R360). -/
theorem opGearEvent_behind (h : GearEventOk s p) (hf : (s.axis (getN p 0 1)).mDir * (getI p 8 8 - (s.axis (getN p 0 1)).mLast) <
      (getN (s.axCfg (getN p 0 1)) 84 4 : Int)) : opGearEvent p s =
    .no (s.modAxis (getN p 0 1) fun x => { x with behind := satN 2 (x.behind + 1) }) eBehind (leI 8 (s.axis (getN p 0 1)).mLast) := by
  rw [gearAhead_eq, ← not_le] at hf
  exact (if_neg h.range).trans ((if_neg (Bool.eq_false_iff.1 h.geared)).trans ((if_neg (Bool.eq_false_iff.1 h.room)).trans
    ((if_neg hf).trans (if_pos h.flag))))

/-! ### The rows, each stated of the state `u` at its stamp -/

section
variable (hu : s.upTo t = u) (hn : getN p 0 1 = n)
include hu hn

theorem execAxisMove_speed (ht : u.takes c 0x0600 p) (h4 : n < 4) (hk : getN p 1 1 = 2) (h2 : getN p 2 2 = 0) (h8 : getN p 8 4 = 0)
    (he : u.axEn n = true) (hh : u.pairHolds n = false) (hs : (u.axis n).state = 0 ∨ (u.axis n).state = 1 ∨ (u.axis n).state = 2)
    (hl : u.limitIn n (getI p 4 4) = false) : exec (.axisMove t c q p) s = .next ((((u.charged c).modAxis n fun x => { x with
      kind := 2, target := getI p 4 4, vlim := profileLimit (getN p 12 4) (getN (u.axCfg n) 52 4)
      alim := profileLimit (getN p 16 4) (getN (u.axCfg n) 56 4), release := false }).axGo n 2).answered c q) := by
  subst hu hn
  have hop := opAxisMove_speed (s := (s.upTo t).charged c) ⟨h4, hk, h2, h8⟩ (by simpa using he) (by simpa using hh) (by simpa using hs)
    (by simpa using hl)
  rw [State.charged_axCfg] at hop
  exact runOp_of_ok (h := opAxisMove p) ht hop ((State.axGo_held (State.modAxis_held (State.Keeps.held _))).credits_le c)

theorem execAxisMove_fault (ht : u.takes c 0x0600 p) (h4 : n < 4) (hk : getN p 1 1 = 2) (h2 : getN p 2 2 = 0) (h8 : getN p 8 4 = 0)
    (hs : (u.axis n).state = 6) : exec (.axisMove t c q p) s = .next ((u.charged c).reject c q eState) := by
  subst hu hn
  exact runOp_of_no (h := opAxisMove p) ht (opAxisMove_fault ⟨h4, hk, h2, h8⟩ (by simpa using hs)) (by decide)

theorem execAxisStop_stops (ht : u.takes c 0x0601 p) : exec (.axisStop t c q p) s = .next (((u.charged c).stopMask n).answered c q) := by
  subst hu hn
  exact runOp_of_ok (h := opAxisStop p) ht rfl ((State.stopMask_held (State.Keeps.held _) _).credits_le c)

section
variable (ht : u.takes c 0x0602 p) (h4 : n < 4) (h2 : getN p 2 2 = 0) (he : u.axEn n = true) (hh : u.pairHolds n = false)
  (hs : (u.axis n).state = 0 ∨ (u.axis n).state = 1)
include ht h4 h2 he hh hs

theorem execAxisHome_present (hm : getN p 1 1 = 3) : exec (.axisHome t c q p) s =
    .next (((u.charged c).modAxis n fun x => { x with method := 3, hrev := false, release := false, hphase := 3 }).answered c q) := by
  subst hu hn
  exact runOp_of_ok (h := opAxisHome p) ht (opAxisHome_present h4 hm h2 (by simpa using he) (by simpa using hh) (by simpa using hs)) (Nat.le_refl _)

theorem execAxisHome_limit (hm : getN p 1 1 = 0) (hb : u.axBit n 5 = true) (hf : (vget (u.axis n).sw 0 {}).faulty = false)
    (hl : u.limitIn n (if u.axBit n 2 then -1 else 1) = true) (hr : u.axBit n 3 = false) : exec (.axisHome t c q p) s =
    .next (((u.charged c).modAxis n fun x => { x with homed := false }).reject c q eHomeLimit) := by
  subst hu hn
  have hop := opAxisHome_limit (s := (s.upTo t).charged c) h4 hm h2 (by simpa using he) (by simpa using hh) (by simpa using hs) (by simpa using hb)
    (by simpa using hf) (by simpa using hl) (by simpa using hr)
  exact runOp_of_fail (h := opAxisHome p) ht hop (by decide) (Nat.le_refl _)

end

section
variable (ht : u.takes c 0x0604 p) (h : GearEventOk u p)
include ht h

theorem execGearEvent_queued (hf : (getN (u.axCfg n) 84 4 : Int) ≤ (u.axis n).mDir * (getI p 8 8 - (u.axis n).mLast)) :
    exec (.gearEvent t c q p) s = .next (((u.charged c).modAxis n fun x => { x with
      queue := [{ point := getI p 8 8, ratio := getI p 16 8, ramp := getN p 4 4, dir := (u.axis n).mDir }] }).answered c q
        (leI 8 (u.axis n).mLast)) := by
  subst hu hn
  have hop := opGearEvent_queued (h.charged (c := c)) (by simpa using hf)
  rw [State.charged_axis] at hop
  exact runOp_of_ok (h := opGearEvent p) ht hop (Nat.le_refl _)

theorem execGearEvent_behind (hf : (u.axis n).mDir * (getI p 8 8 - (u.axis n).mLast) < (getN (u.axCfg n) 84 4 : Int)) :
    exec (.gearEvent t c q p) s = .next (((u.charged c).modAxis n fun x => { x with behind := satN 2 (x.behind + 1) }).reject c q eBehind
      (leI 8 (u.axis n).mLast)) := by
  subst hu hn
  have hop := opGearEvent_behind (h.charged (c := c)) (by simpa using hf)
  rw [State.charged_axis] at hop
  exact runOp_of_fail (h := opGearEvent p) ht hop (by decide) (Nat.le_refl _)

end

theorem execAxisStatus_answers (ht : u.takes c 0x0605 p) (h4 : n < 4) :
    exec (.axisStatus t c q p) s = .next ((u.charged c).answered c q (u.axisRecord n)) := by
  subst hu hn
  rw [← State.charged_axisRecord c]
  exact runOp_of_ok (h := opAxisStatus p) ht (if_neg (by omega)) (Nat.le_refl _)

theorem execAxisStatus_refused (ht : u.takes c 0x0605 p) (h4 : 4 ≤ n) :
    exec (.axisStatus t c q p) s = .next ((u.charged c).reject c q eRange) := by
  subst hu hn
  exact runOp_of_no (h := opAxisStatus p) ht (if_pos (by omega)) (by decide)

end

section
variable {g : Bytes} {i : Nat} (hu : s.upTo t = u) (ht : u.takes c 0x0603 g) (h : GearOk u g) (hi : getN g 0 1 = i)
include hu ht h hi

theorem execGearEngage_engages (hg : withAction 1 1 p = g) (ha : getN g 1 1 = 1) (hs : (u.axis i).state = 0 ∨ (u.axis i).state = 1) :
    exec (.gearEngage t c q p) s = .next ((((u.charged c).modAxis i fun a => { a with
      ra := 0, rb := getI g 8 8, p0 := a.mLast, l := getN g 4 4, d := a.mDir, queue := [], imm := [], release := false }).axGo i 3).answered c q) := by
  subst hu hi hg
  exact runOp_of_ok (h := opGearSet _) ht (opGearSet_engage h.charged ha (by simpa using hs))
    ((State.axGo_held (State.modAxis_held (State.Keeps.held _))).credits_le c)

theorem execGearDisengage_stops (hg : withAction 1 0 p = g) (ha : getN g 1 1 = 0) (hs : (u.axis i).state = 3) :
    exec (.gearDisengage t c q p) s = .next (((u.charged c).stopAxis i false).answered c q) := by
  subst hu hi hg
  exact runOp_of_ok (h := opGearSet _) ht (opGearSet_disengage h.charged ha (by simpa using hs))
    ((State.stopAxis_held (State.Keeps.held _)).credits_le c)

theorem execGearSetRatioNow_fires (hg : withAction 1 2 p = g) (ha : getN g 1 1 = 2) (hs : (u.axis i).state = 3) :
    exec (.gearSetRatioNow t c q p) s = .next (((u.charged c).modAxis i fun a => a.fire a.mLast
      { point := (u.axis i).mLast, ratio := getI g 8 8, ramp := getN g 4 4, dir := (u.axis i).mDir }).answered c q) := by
  subst hu hi hg
  rw [← State.charged_axis c]
  exact runOp_of_ok (h := opGearSet _) ht (opGearSet_ratioNow h.charged ha (by simpa using hs)) (Nat.le_refl _)

end

end Sys2Proof.Machine

namespace Sys2Proof.Proofs
open Sys2Proof.Machine

/-- Settles O46: each opcode is carried out on the charged state, whose axes are those of the state before. -/
theorem axisCommandsAccepted : Obligations.AxisCommandsAccepted := by
  unfold Obligations.AxisCommandsAccepted
  intro t c q p s u n a lim
  refine ⟨execAxisMove_speed rfl rfl, execAxisMove_fault rfl rfl, execAxisStop_stops rfl rfl,
    fun ht h4 hm h2 he hh hs => execAxisHome_present rfl rfl ht h4 h2 he hh hs hm, ?engage, ?disengage, ?ratio, ?event,
    execAxisStatus_answers rfl rfl, execAxisStatus_refused rfl rfl⟩
  case engage =>
    intro g i ht ha hi h2 h4 hlo hhi he hh hp hs
    exact execGearEngage_engages rfl ht ⟨hi, h2, h4, hlo, hhi, he, hh, hp⟩ rfl rfl ha hs
  case disengage =>
    intro g i ht ha hi h2 h4 hlo hhi he hh hp hs
    exact execGearDisengage_stops rfl ht ⟨hi, h2, h4, hlo, hhi, he, hh, hp⟩ rfl rfl ha hs
  case ratio =>
    intro g i ht ha hi h2 h4 hlo hhi he hh hp hs
    exact execGearSetRatioNow_fires rfl ht ⟨hi, h2, h4, hlo, hhi, he, hh, hp⟩ rfl rfl ha hs
  case event =>
    intro ht hn h1 h2 h4 hlo hhi he hs hq hf
    exact execGearEvent_queued rfl rfl ht ⟨hn, h1, h2, h4, hlo, hhi, he, hs, hq⟩ hf

/-- Settles O53: both opcodes turn the packet away after a change of one field of the axis. -/
theorem behindAndHomeLimitEffects : Obligations.BehindAndHomeLimitEffects := by
  unfold Obligations.BehindAndHomeLimitEffects
  intro t c q p s u n a
  refine ⟨?behind, ?limit⟩
  case behind =>
    intro ht hn h1 h2 h4 hlo hhi he hs hq hf
    exact execGearEvent_behind rfl rfl ht ⟨hn, h1, h2, h4, hlo, hhi, he, hs, hq⟩ hf
  case limit =>
    intro ht hn hm h2 he hh hs hb hf hl hr
    exact execAxisHome_limit rfl rfl ht hn h2 he hh hs hm hb hf hl hr

end Sys2Proof.Proofs
end

section
/-! SUPPORT. The safety session, its blocks and its change log (R397 to R400, R407), the request of a safety function (R406) and the acknowledgement (R392,
R393), each row stated of the state `u` at its stamp. -/
namespace Sys2Proof.Machine

variable {s u : State} {t : Tick} {c : Source} {q kt : Nat} {p : Bytes}

/-! ### What a charged packet leaves of the safety logic -/

@[simp] theorem State.charged_lockedOut (c : Source) : (s.charged c).lockedOut = s.lockedOut := by rw [s.charged_eq c]; rfl
@[simp] theorem State.charged_pwOk (c : Source) (p : Bytes) : (s.charged c).pwOk p = s.pwOk p := by rw [s.charged_eq c]; rfl
@[simp] theorem State.charged_logRoom (c : Source) : (s.charged c).logRoom = s.logRoom := by rw [s.charged_eq c]; rfl
@[simp] theorem State.charged_archB (c : Source) : (s.charged c).archB = s.archB := by rw [s.charged_eq c]; rfl
@[simp] theorem State.charged_brakesOf (c : Source) (m : BitVec 4) : (s.charged c).brakesOf m = s.brakesOf m := by rw [s.charged_eq c]; rfl

/-! ### Login and logout (R397) -/

theorem State.modSafety_congr {f g : Safety → Safety} (h : f s.safety = g s.safety) : s.modSafety f = s.modSafety g :=
  congrArg (fun x => { s with safety := x }) h

theorem State.endSession_of_none (h : s.safety.session = none) : s.endSession c = s := if_neg (by rw [h]; exact (Option.some_ne_none c).symm)

theorem opSafetyLogin_opens (hl : s.lockedOut = false) (hp : s.pwOk p = true) : opSafetyLogin c p s = .ok ((s.modSafety fun x => { x with
    session := some c, pwLen := p.length, logins := satN 4 (x.logins + 1), failures := 0, lockedTo := none }).info 0x850D 2 0
      (le 1 0 ++ le 1 (sourceId c))) :=
  (if_neg (by simp [hl])).trans (if_pos hp)

/-- The fifth wrong password in a row locks every login for 60 s. -/
theorem opSafetyLogin_locks (hl : s.lockedOut = false) (hp : s.pwOk p = false) (hf : s.safety.failures = 4) (hn : s.safety.session = none) :
    opSafetyLogin c p s = .no ((s.modSafety fun x => { x with failures := 5, lockedTo := some (s.time + 6000000000) }).info 0x850D 2 0
      (le 1 1 ++ le 1 (sourceId c))) eAuth := by
  have hms : msTicks 60000 = 6000000000 := rfl
  rw [opSafetyLogin, hl, hp, if_neg Bool.false_ne_true, if_neg Bool.false_ne_true, hf, State.endSession_of_none hn, hms]
  rfl

theorem opSafetyLogin_locked (hl : s.lockedOut = true) :
    opSafetyLogin c p s = .no (s.info 0x850D 2 0 (le 1 2 ++ le 1 (sourceId c))) eAuth := if_pos hl

theorem opSafetyLogout_ends (h : s.safety.session = some c) :
    opSafetyLogout c s = .ok (s.modSafety fun x => { x with session := none, pwLen := 0 }) := congrArg Rep.ok (if_pos h)

/-! ### The password and the safety blocks (R127, R397 to R399) -/

theorem opChangePassword_changes (hs : s.safety.session = some c) (ho : s.pwOk (p.take s.safety.pwLen) = true)
    (hf : pwForm (p.drop s.safety.pwLen) = true) (hr : s.logRoom = true) : opChangePassword c p s =
    .ok (let v := s.logAppend c 2 ((s.safety.log.getLast?.map (·.arch)).getD 0) ((s.safety.log.getLast?.map (·.fp)).getD (zeros 32))
      v.modSafety fun x => { x with
        stored := some { salt := (Config.salt v.safety.pwWrites).toList
                         digest := (passwordDigest (Config.salt v.safety.pwWrites).toList (p.drop s.safety.pwLen)).toList }
        altSlot := !x.altSlot, pwWrites := x.pwWrites + 1 }) :=
  (if_neg (not_not.2 hs)).trans ((if_neg (by simp [ho])).trans ((if_neg (by simp [hf])).trans (if_neg (by simp [hr]))))

theorem opChangePassword_elsewhere (hs : s.safety.session ≠ some c) : opChangePassword c p s = .no s eAuth := if_pos hs

theorem opWriteSafetyBlock_writes (hs : s.safety.session = some c) (hb : blockFails (safetyLayout (getN p 0 2)) p = none) :
    opWriteSafetyBlock c p s = .ok { s with blocks := blockInsert (getN p 0 2) (p.drop 4) s.blocks } := by
  rw [opWriteSafetyBlock, if_neg (not_not.2 hs), hb]
  rfl

theorem opWriteSafetyBlock_elsewhere (hs : s.safety.session ≠ some c) : opWriteSafetyBlock c p s = .no s eAuth := if_pos hs

/-! ### The change log (R400) and the status (R407) -/

theorem opReadSafetyLog_oldest (hi : getN p 0 2 = 0xFFFF) : opReadSafetyLog p s = .ok s ((s.safety.log.take 64).flatMap LogEntry.bytes) := by
  simp only [opReadSafetyLog, hi, ne_eq, not_true_eq_false, false_and, if_false, if_true]

/-- The entries up to the first with an index are acknowledged, and those after it are as they were. -/
theorem ackThrough_append {i : Nat} {pre post : List LogEntry} {e : LogEntry} (he : e.index = i) (hp : ∀ x ∈ pre, x.index ≠ i) :
    ackThrough i (pre ++ e :: post) = (pre ++ [e]).map (fun y => { y with acked := true }) ++ post := by
  induction pre with
  | nil => rw [List.nil_append, ackThrough, if_pos he]; rfl
  | cons x pre ih =>
    rw [List.cons_append, ackThrough, if_neg (hp x List.mem_cons_self), ih fun y hy => hp y (List.mem_cons_of_mem x hy)]
    rfl

theorem opAckSafetyLog_marks {pre post : List LogEntry} {e : LogEntry} (hl : s.safety.log = pre ++ e :: post) (he : e.index = getN p 0 2)
    (hp : ∀ x ∈ pre, x.index ≠ getN p 0 2) : opAckSafetyLog p s =
    .ok (s.modSafety fun x => { x with log := (pre ++ [e]).map (fun y => { y with acked := true }) ++ post }) := by
  have hany : s.safety.log.any (·.index == getN p 0 2) = true := by simp [hl, he]
  refine (if_pos hany).trans (congrArg Rep.ok (State.modSafety_congr ?_))
  rw [hl, ackThrough_append he hp]

theorem opGetSafetyStatus_eq : ∃ d : Bytes, opGetSafetyStatus s = .ok s d ∧ d.take 2 = le 1 (b2n s.archB) ++ le 1 s.safety.kpState ∧
    (d.drop 16).take 1 = le 1 s.safety.cause := by
  refine ⟨_, rfl, ?state, ?cause⟩
  case state => simp [le]
  case cause => simp [le, leI]

/-! ### A function requested (R406) -/

/-- A request in range: a function for enabled stacks, SS1 for all of them, SBC for one that meets a brake. -/
structure RequestOk (s : State) (p : Bytes) : Prop where
  lo     : 1 ≤ getN p 0 1
  hi     : getN p 0 1 ≤ 3
  some   : 1 ≤ getN p 1 1
  mask   : getN p 1 1 ≤ 15
  zero   : getN p 2 2 = 0
  en     : BitVec.ofNat 4 (getN p 1 1) &&& ~~~s.enMask = 0
  ss1    : getN p 0 1 = 2 → BitVec.ofNat 4 (getN p 1 1) = s.enMask
  brakes : getN p 0 1 = 3 → s.brakesOf (BitVec.ofNat 4 (getN p 1 1)) ≠ []

theorem RequestOk.charged (h : RequestOk s p) : RequestOk (s.charged c) p :=
  ⟨h.lo, h.hi, h.some, h.mask, h.zero, by simpa using h.en, by simpa using h.ss1, by simpa using h.brakes⟩

theorem opRequestSafetyFunction_starts (h : RequestOk s p) :
    opRequestSafetyFunction p s = .ok (s.requestFn (getN p 0 1) (BitVec.ofNat 4 (getN p 1 1)) 8) := by
  refine if_neg ?_
  rintro (hx | hx | hx | hx | hx | hx | ⟨hx, hy⟩ | ⟨hx, hy⟩)
  · exact absurd h.lo (Nat.not_le.2 hx)
  · exact absurd h.hi (Nat.not_le.2 hx)
  · exact absurd h.some (by omega)
  · exact absurd h.mask (Nat.not_le.2 hx)
  · exact hx h.zero
  · exact hx h.en
  · exact hy (h.ss1 hx)
  · exact h.brakes hx hy

theorem opRequestSafetyFunction_notEnabled (h : BitVec.ofNat 4 (getN p 1 1) &&& ~~~s.enMask ≠ 0) : opRequestSafetyFunction p s = .no s eRange :=
  if_pos (.inr (.inr (.inr (.inr (.inr (.inl h))))))

/-! ### The packets, at the state of their stamp -/

section
variable (hu : s.upTo t = u)
include hu

section
variable (hs : u.takes c 0x0500 p)
include hs

theorem execSafetyLogin_opens (hl : u.lockedOut = false) (hp : u.pwOk p = true) : exec (.safetyLogin t c q p) s =
    .next ((((u.charged c).modSafety fun x => { x with
      session := some c, pwLen := p.length, logins := satN 4 (x.logins + 1), failures := 0, lockedTo := none }).info 0x850D 2 0
        (le 1 0 ++ le 1 (sourceId c))).answered c q) := by
  subst hu
  exact runOp_of_ok (h := opSafetyLogin c p) hs (opSafetyLogin_opens (by simpa using hl) (by simpa using hp))
    ((State.info_held (State.modSafety_held (State.Keeps.held _))).credits_le c)

theorem execSafetyLogin_locks (hl : u.lockedOut = false) (hp : u.pwOk p = false) (hf : u.safety.failures = 4) (hn : u.safety.session = none) :
    exec (.safetyLogin t c q p) s = .next ((((u.charged c).modSafety fun x =>
      { x with failures := 5, lockedTo := some (u.time + 6000000000) }).info 0x850D 2 0 (le 1 1 ++ le 1 (sourceId c))).reject c q eAuth) := by
  subst hu
  have hop := opSafetyLogin_locks (s := (s.upTo t).charged c) (c := c) (p := p) (by simpa using hl) (by simpa using hp) (by simpa using hf)
    (by simpa using hn)
  rw [State.charged_time] at hop
  exact runOp_of_fail (h := opSafetyLogin c p) hs hop (by decide) ((State.info_held (State.modSafety_held (State.Keeps.held _))).credits_le c)

theorem execSafetyLogin_locked (hl : u.lockedOut = true) : exec (.safetyLogin t c q p) s =
    .next (((u.charged c).info 0x850D 2 0 (le 1 2 ++ le 1 (sourceId c))).reject c q eAuth) := by
  subst hu
  exact runOp_of_fail (h := opSafetyLogin c p) hs (opSafetyLogin_locked (by simpa using hl)) (by decide)
    ((State.info_held (State.Keeps.held _)).credits_le c)

end

theorem execLoginLockoutEnd_ends {e : Tick} (he : u.safety.lockedTo = some e) (ht : e ≤ u.time) :
    exec (.loginLockoutEnd t) s = .next (u.modSafety fun x => { x with lockedTo := none }) := by
  change execLoginLockoutEnd t s = _
  simp only [execLoginLockoutEnd, hu, he, ht, if_true]

theorem execSafetyLogout_ends (hs : u.takes c 0x0501 p) (h : u.safety.session = some c) : exec (.safetyLogout t c q p) s =
    .next (((u.charged c).modSafety fun x => { x with session := none, pwLen := 0 }).answered c q) := by
  subst hu
  exact runOp_of_ok (h := opSafetyLogout c) hs (opSafetyLogout_ends (by simpa using h)) (Nat.le_refl _)

theorem execChangePassword_changes (hs : u.takes c 0x0507 p) (h : u.safety.session = some c) (ho : u.pwOk (p.take u.safety.pwLen) = true)
    (hf : pwForm (p.drop u.safety.pwLen) = true) (hr : u.logRoom = true) : exec (.changePassword t c q p) s =
    .next (let v := (u.charged c).logAppend c 2 ((u.safety.log.getLast?.map (·.arch)).getD 0) ((u.safety.log.getLast?.map (·.fp)).getD (zeros 32))
      (v.modSafety fun x => { x with
        stored := some { salt := (Config.salt v.safety.pwWrites).toList
                         digest := (passwordDigest (Config.salt v.safety.pwWrites).toList (p.drop u.safety.pwLen)).toList }
        altSlot := !x.altSlot, pwWrites := x.pwWrites + 1 }).answered c q) := by
  subst hu
  have hop := opChangePassword_changes (s := (s.upTo t).charged c) (c := c) (p := p) (by simpa using h) (by simpa using ho) (by simpa using hf)
    (by simpa using hr)
  rw [State.charged_safety] at hop
  exact runOp_of_ok (h := opChangePassword c p) hs hop ((State.modSafety_held (State.logAppend_held (State.Keeps.held _))).credits_le c)

theorem execChangePassword_elsewhere (hs : u.takes c 0x0507 p) (h : u.safety.session ≠ some c) :
    exec (.changePassword t c q p) s = .next ((u.charged c).reject c q eAuth) := by
  subst hu
  exact runOp_of_no (h := opChangePassword c p) hs (opChangePassword_elsewhere (by simpa using h)) (by decide)

theorem execWriteSafetyBlock_writes (hs : u.takes c 0x0502 p) (h : u.safety.session = some c)
    (hb : blockFails (safetyLayout (getN p 0 2)) p = none) : exec (.writeSafetyBlock t c q p) s =
    .next (({ u.charged c with blocks := blockInsert (getN p 0 2) (p.drop 4) u.blocks }).answered c q) := by
  subst hu
  rw [← State.charged_blocks c]
  exact runOp_of_ok (h := opWriteSafetyBlock c p) hs (opWriteSafetyBlock_writes (by simpa using h) hb) (Nat.le_refl _)

theorem execWriteSafetyBlock_elsewhere (hs : u.takes c 0x0502 p) (h : u.safety.session ≠ some c) :
    exec (.writeSafetyBlock t c q p) s = .next ((u.charged c).reject c q eAuth) := by
  subst hu
  exact runOp_of_no (h := opWriteSafetyBlock c p) hs (opWriteSafetyBlock_elsewhere (by simpa using h)) (by decide)

theorem execReadSafetyLog_oldest (hs : u.takes c 0x0503 p) (hi : getN p 0 2 = 0xFFFF) : exec (.readSafetyLog t c q p) s =
    .next ((u.charged c).answered c q ((u.safety.log.take 64).flatMap LogEntry.bytes)) := by
  subst hu
  rw [← State.charged_safety c]
  exact runOp_of_ok (h := opReadSafetyLog p) hs (opReadSafetyLog_oldest hi) (Nat.le_refl _)

theorem execAckSafetyLog_marks {pre post : List LogEntry} {e : LogEntry} (hs : u.takes c 0x0504 p) (hl : u.safety.log = pre ++ e :: post)
    (he : e.index = getN p 0 2) (hp : ∀ x ∈ pre, x.index ≠ getN p 0 2) : exec (.ackSafetyLog t c q p) s =
    .next (((u.charged c).modSafety fun x => { x with log := (pre ++ [e]).map (fun y => { y with acked := true }) ++ post }).answered c q) := by
  subst hu
  exact runOp_of_ok (h := opAckSafetyLog p) hs (opAckSafetyLog_marks (by simpa using hl) he hp) (Nat.le_refl _)

theorem execGetSafetyStatus_answers (hs : u.takes c 0x0505 p) : ∃ d : Bytes,
    exec (.getSafetyStatus t c q p) s = .next ((u.charged c).answered c q d) ∧
      d.take 2 = le 1 (b2n u.archB) ++ le 1 u.safety.kpState ∧ (d.drop 16).take 1 = le 1 u.safety.cause := by
  subst hu
  obtain ⟨d, hop, hd, hc⟩ := opGetSafetyStatus_eq (s := (s.upTo t).charged c)
  exact ⟨d, runOp_of_ok (h := opGetSafetyStatus) hs hop (Nat.le_refl _), by simpa using hd, by simpa using hc⟩

theorem execRequestSafetyFunction_starts (hs : u.takes c 0x0506 p) (h : RequestOk u p) : exec (.requestSafetyFunction t c q p) s =
    .next (((u.charged c).requestFn (getN p 0 1) (BitVec.ofNat 4 (getN p 1 1)) 8).answered c q) := by
  subst hu
  exact runOp_of_ok (h := opRequestSafetyFunction p) hs (opRequestSafetyFunction_starts h.charged)
    ((State.requestFn_held (State.Keeps.held _)).credits_le c)

theorem execRequestSafetyFunction_notEnabled (hs : u.takes c 0x0506 p) (h : BitVec.ofNat 4 (getN p 1 1) &&& ~~~u.enMask ≠ 0) :
    exec (.requestSafetyFunction t c q p) s = .next ((u.charged c).reject c q eRange) := by
  subst hu
  exact runOp_of_no (h := opRequestSafetyFunction p) hs (opRequestSafetyFunction_notEnabled (by simpa using h)) (by decide)

end

/-! ### The acknowledgement, at the state of its stamp and its Kingpost tick (R392, R393) -/

/-- The press is over. -/
def State.unpressed (s : State) : State := s.modSafety fun x => { x with pressAt := none, stuck := false }

section
variable (hu : (s.upTo t).upKt kt = u)
include hu

theorem execSafeAckPress_timed (ho : u.dev ≠ .off) (hr : u.dev ≠ .inReset) :
    exec (.safeAckPress t kt) s = .next (u.modSafety fun x => { x with pressAt := some kt }) := by
  subst hu
  exact congrArg Host.Outcome.next (if_neg (not_or.2 ⟨ho, hr⟩))

variable {a : Nat} (ha : u.safety.pressAt = some a)
include ha

theorem execSafeAckRelease_stuck (hs : u.safety.stuck = true) : exec (.safeAckRelease t kt) s = .next (u.unpressed.info 0x8506 2 0 (le 1 4)) := by
  change execSafeAckRelease t kt s = _
  simp only [execSafeAckRelease, hu, ha, hs, if_true]
  rfl

variable (hs : u.safety.stuck = false)
include hs

theorem execSafeAckStuck_notes (ht : a + msKt 10000 < kt) :
    exec (.safeAckStuck t kt) s = .next ((u.modSafety fun x => { x with stuck := true }).info 0x8506 2 0 (le 1 3)) := by
  change execSafeAckStuck t kt s = _
  simp only [execSafeAckStuck, hu, ha, hs, ht, Bool.not_false, and_self, if_true]

theorem execSafeAckRelease_long (ht : a + msKt 5000 < kt) : exec (.safeAckRelease t kt) s = .next (u.unpressed.info 0x8506 2 0 (le 1 2)) := by
  change execSafeAckRelease t kt s = _
  simp only [execSafeAckRelease, hu, ha, hs, ht, Bool.false_eq_true, if_false, if_true]
  rfl

variable (ht : kt ≤ a + msKt 5000)
include ht

theorem execSafeAckRelease_moving (hz : (u.zeroSpd : Rat) < absR u.safety.dpSpeed) :
    exec (.safeAckRelease t kt) s = .next (u.unpressed.info 0x8506 2 0 (le 1 1)) := by
  change execSafeAckRelease t kt s = _
  simp only [execSafeAckRelease, hu, ha, hs, Nat.not_lt.2 ht, hz, Bool.false_eq_true, true_or, if_false, if_true]
  rfl

/-- In architecture A no second channel is asked for its speed. -/
theorem execSafeAckRelease_acknowledges (hz : absR u.safety.dpSpeed ≤ (u.zeroSpd : Rat)) (hb : u.archB = false) :
    exec (.safeAckRelease t kt) s = .next ((u.unpressed.info 0x8506 2 0 (le 1 0)).acknowledge kt) := by
  change execSafeAckRelease t kt s = _
  simp only [execSafeAckRelease, hu, ha, hs, Nat.not_lt.2 ht, not_lt.2 hz, hb, Bool.false_eq_true, false_and, or_self, if_false]
  rfl

end

end Sys2Proof.Machine

namespace Sys2Proof.Proofs
open Sys2Proof.Machine

/-- Settles O15: each opcode is carried out on the charged state, whose session, password and log are those of the state before. -/
theorem safetySessionsAndBlocks : Obligations.SafetySessionsAndBlocks := by
  unfold Obligations.SafetySessionsAndBlocks
  refine ⟨fun t c q p s => ?sessions, fun t c q p s => ?blocks⟩
  case sessions =>
    exact ⟨execSafetyLogin_opens rfl, execSafetyLogin_locks rfl, execSafetyLogin_locked rfl, fun e => execLoginLockoutEnd_ends rfl,
      execSafetyLogout_ends rfl, execChangePassword_changes rfl, execChangePassword_elsewhere rfl⟩
  case blocks =>
    exact ⟨execWriteSafetyBlock_writes rfl, execWriteSafetyBlock_elsewhere rfl, execReadSafetyLog_oldest rfl,
      fun pre e post => execAckSafetyLog_marks rfl, execGetSafetyStatus_answers rfl⟩

/-- Settles O16: a request in range starts its function on the charged state, and the verdict on a press is one chain of tests. -/
theorem functionRequestedAndAcknowledged : Obligations.FunctionRequestedAndAcknowledged := by
  unfold Obligations.FunctionRequestedAndAcknowledged
  refine ⟨fun t c q p s => ⟨?starts, fun hs _ _ => execRequestSafetyFunction_notEnabled rfl hs⟩, fun t kt a s => ?acknowledge⟩
  case starts =>
    intro hs hlo hhi hsome hmask hzero hen hss1 hbrakes
    exact execRequestSafetyFunction_starts rfl hs ⟨hlo, hhi, hsome, hmask, hzero, hen, hss1, hbrakes⟩
  case acknowledge =>
    exact ⟨execSafeAckPress_timed rfl, execSafeAckStuck_notes rfl, execSafeAckRelease_stuck rfl, execSafeAckRelease_long rfl,
      execSafeAckRelease_moving rfl, execSafeAckRelease_acknowledges rfl⟩

end Sys2Proof.Proofs
end

section
/-! SUPPORT. What the supervision of the drive's safety leaves alone: the tick, and who attached a debugger (R418). The Kingpost's position
channel asks for the debugger after the envelope was judged (R395), a check line for the tick after the Kingpost's safe state (R171). -/
namespace Sys2Proof.Machine

variable {s t : State}

/-- The tick and the debugger's flag. -/
def State.timeDebug (s : State) : Tick × Bool := (s.time, s.safety.debug)

theorem State.timeDebug_congr (ht : s.time = t.time) (hd : s.safety.debug = t.safety.debug) : s.timeDebug = t.timeDebug :=
  congrArg₂ Prod.mk ht hd

/-! ### Tick and debugger: records, occurrences and the array -/

theorem State.ite_timeDebug (p : Prop) [Decidable p] :
    (if p then s else t).timeDebug = if p then s.timeDebug else t.timeDebug := apply_ite State.timeDebug p s t

theorem State.timeDebug_of_withRecords {v r : State} (h : v.withRecords r = s.withRecords r) : v.timeDebug = s.timeDebug :=
  State.timeDebug_congr (congrArg State.time h :) (congrArg (fun v => v.safety.debug) h :)

theorem State.post_timeDebug (code cls lv o b) : (s.post code cls lv o b).timeDebug = s.timeDebug := by
  rw [State.timeDebug_of_withRecords (s.post_withRecords (r := s) code cls lv o b)]

theorem State.info_timeDebug (code lv o b) : (s.info code lv o b).timeDebug = s.timeDebug := by
  rw [State.timeDebug_of_withRecords (s.info_withRecords (r := s) code lv o b)]

theorem State.stageRoom_timeDebug (e f) : (s.stageRoom e f).timeDebug = s.timeDebug := by unfold State.stageRoom; split <;> rfl
theorem State.setFaultObj_timeDebug (o) : (s.setFaultObj o).timeDebug = s.timeDebug := rfl
theorem State.modFaults_timeDebug (f) : (s.modFaults f).timeDebug = s.timeDebug := rfl
theorem State.bumpOcc_timeDebug (c) : (s.bumpOcc c).timeDebug = s.timeDebug := rfl

theorem State.lapse_timeDebug (b c) : (s.lapse b c).timeDebug = s.timeDebug := by
  simp only [State.lapse, State.ite_timeDebug, State.stageRoom_timeDebug, State.post_timeDebug, State.setFaultObj_timeDebug, State.bumpOcc_timeDebug,
    State.modFaults_timeDebug, ite_self]

theorem State.stage_timeDebug (e l) : (s.stage e l).timeDebug = s.timeDebug := by
  simp only [State.stage, State.ite_timeDebug, State.stageRoom_timeDebug, State.lapse_timeDebug, ite_self]

theorem State.faultLasting_timeDebug (k c l o) : (s.faultLasting k c l o).timeDebug = s.timeDebug := by
  simp only [State.faultLasting, State.ite_timeDebug, State.stage_timeDebug, State.post_timeDebug, State.setFaultObj_timeDebug, ite_self]

theorem State.hold_timeDebug (k c) : (s.hold k c).timeDebug = s.timeDebug := by
  simp only [State.hold, State.ite_timeDebug, State.setFaultObj_timeDebug, ite_self]

theorem State.occur_timeDebug (c l o b p) : (s.occur c l o b p).st.timeDebug = s.timeDebug := by
  simp only [State.occur, apply_ite Occ.st, State.ite_timeDebug, State.post_timeDebug, State.stage_timeDebug, State.faultLasting_timeDebug, State.hold_timeDebug,
    State.setFaultObj_timeDebug, State.bumpOcc_timeDebug, ite_self]

theorem State.modStack_timeDebug (k f) : (s.modStack k f).timeDebug = s.timeDebug := rfl
theorem State.modObs_timeDebug (m f) : (s.modObs m f).timeDebug = s.timeDebug := rfl
theorem State.modMotion_timeDebug (f) : (s.modMotion f).timeDebug = s.timeDebug := rfl
theorem State.modAxis_timeDebug (n f) : (s.modAxis n f).timeDebug = s.timeDebug := rfl
theorem State.modBrake_timeDebug (n f) : (s.modBrake n f).timeDebug = s.timeDebug := rfl
theorem State.setBrake_timeDebug (n) : (s.setBrake n).timeDebug = s.timeDebug := rfl
theorem State.openBrake_timeDebug (n) : (s.openBrake n).timeDebug = s.timeDebug := rfl
theorem State.kpLines_timeDebug (k) : (s.kpLines k).timeDebug = s.timeDebug := rfl
theorem State.driveGates_timeDebug : s.driveGates.timeDebug = s.timeDebug := by
  rw [State.driveGates]
  exact State.timeDebug_congr rfl rfl
theorem State.modFn_timeDebug (f g) : (s.modFn f g).timeDebug = s.timeDebug := rfl

theorem State.unswitch_timeDebug (k) : (s.unswitch k).timeDebug = s.timeDebug := by
  simp only [State.unswitch, State.ite_timeDebug, State.modStack_timeDebug, ite_self]

theorem State.settleGates_timeDebug : s.settleGates.timeDebug = s.timeDebug := by
  rw [State.settleGates, State.driveGates_timeDebug]
  exact foldl_kept (g := State.timeDebug) (fun v k => by rw [State.unswitch_timeDebug, State.kpLines_timeDebug]) _ _

theorem State.settleBrake_timeDebug (n) : (s.settleBrake n).timeDebug = s.timeDebug := by
  simp only [State.settleBrake, State.ite_timeDebug, State.setBrake_timeDebug, State.modBrake_timeDebug, State.openBrake_timeDebug, ite_self]

theorem State.setObs_timeDebug (m n st) : (s.setObs m n st).timeDebug = s.timeDebug := by
  simp only [State.setObs, State.ite_timeDebug, State.info_timeDebug, State.modObs_timeDebug, ite_self]

theorem State.obsSettle_timeDebug (m) : (s.obsSettle m).timeDebug = s.timeDebug := by
  simp only [State.obsSettle, State.ite_timeDebug, State.setObs_timeDebug, State.modObs_timeDebug, State.occur_timeDebug, ite_self]

theorem State.settle_timeDebug : s.settle.timeDebug = s.timeDebug := by
  rw [State.settle, foldl_kept (g := State.timeDebug) (fun v m => by rw [State.obsSettle_timeDebug])]
  rw [State.settleBrakes, State.settleBrake_timeDebug, State.settleBrake_timeDebug, State.settleGates_timeDebug]

/-! ### Tick and debugger: reactions -/

theorem State.stopEvent_timeDebug (k kind c) : (s.stopEvent k kind c).timeDebug = s.timeDebug := by
  rw [State.stopEvent, State.info_timeDebug]

theorem State.stopReact_timeDebug (k kind c) : (s.stopReact k kind c).timeDebug = s.timeDebug := by
  simp only [State.stopReact, State.ite_timeDebug, State.stopEvent_timeDebug, State.settle_timeDebug, State.modStack_timeDebug, ite_self]

theorem State.setAx_timeDebug (n new) : (s.setAx n new).timeDebug = s.timeDebug := by
  simp only [State.setAx, State.ite_timeDebug, State.info_timeDebug, State.modAxis_timeDebug, ite_self]

theorem State.homeDone_timeDebug (n res raw) : (s.homeDone n res raw).timeDebug = s.timeDebug := by
  rw [State.homeDone, State.info_timeDebug, State.modAxis_timeDebug]

theorem State.stopAxis_timeDebug (n r) : (s.stopAxis n r).timeDebug = s.timeDebug := by
  simp only [State.stopAxis, State.ite_timeDebug, State.setAx_timeDebug, State.modAxis_timeDebug, State.homeDone_timeDebug, ite_self]

theorem State.releaseAxes_timeDebug : s.releaseAxes.timeDebug = s.timeDebug :=
  foldl_kept (g := State.timeDebug) (fun v n => v.stopAxis_timeDebug n true) _ _

theorem State.setDev_timeDebug (new) : (s.setDev new).timeDebug = s.timeDebug := by
  have hdev (v : State) : ({ v with dev := new } : State).timeDebug = v.timeDebug := rfl
  simp only [State.setDev, State.ite_timeDebug, State.releaseAxes_timeDebug, State.info_timeDebug, State.modMotion_timeDebug, hdev, ite_self]

theorem State.enterFault_timeDebug (c) : (s.enterFault c).timeDebug = s.timeDebug := by
  unfold State.enterFault
  split
  case h_6 => rfl
  all_goals
    refine (foldl_kept (g := State.timeDebug) (fun v k => ?_) _ _).trans (s.setDev_timeDebug .fault)
    simp only [State.ite_timeDebug, State.modFaults_timeDebug, State.stopReact_timeDebug, ite_self]

/-- An event of class 12 has no reaction of its own, one of class 14 withdraws guarantees and enters FAULT (R429). -/
theorem State.raise_timeDebug {code : Nat} {b : Bytes} (h : evClass code s.dev b = 12 ∨ evClass code s.dev b = 14) (lv o) :
    (s.raise code lv o b).timeDebug = s.timeDebug := by
  have hreact (v : State) (l k) : (v.react code (evClass code s.dev b) l k b).timeDebug = v.timeDebug := by
    rcases h with h | h <;> rw [h]
    · rfl
    · rw [State.react, State.enterFault_timeDebug, State.lapse_timeDebug]
  simp only [State.raise, State.raiseV, apply_ite Prod.snd, State.ite_timeDebug, State.enterFault_timeDebug, hreact, State.occur_timeDebug, ite_self]

theorem State.setBrakesCh_timeDebug (ch ns) : (s.setBrakesCh ch ns).timeDebug = s.timeDebug :=
  foldl_kept (g := State.timeDebug) (fun v n => by
    simp only [State.setBrakeCh, State.ite_timeDebug, State.setBrake_timeDebug, State.modBrake_timeDebug, ite_self]) _ _

theorem State.completeFn_timeDebug (f) : (s.completeFn f).timeDebug = s.timeDebug := by
  rw [State.completeFn, State.settle_timeDebug, State.fnEvent, State.info_timeDebug, State.modFn_timeDebug]

theorem State.ss1Complete_timeDebug (f) : (s.ss1Complete f).timeDebug = s.timeDebug := by
  unfold State.ss1Complete
  dsimp only
  split
  · exact s.completeFn_timeDebug f
  · rw [foldl_kept (g := State.timeDebug) fun v g => by rw [State.completeFn_timeDebug]]
    exact s.completeFn_timeDebug f

theorem evClass_ss1Envelope (d : DevState) (b : Bytes) : evClass 0x8504 d b = 12 := by
  unfold evClass
  simp

theorem State.ss1Check_timeDebug (ch now n) : (s.ss1Check ch now n).timeDebug = s.timeDebug :=
  foldl_kept (g := State.timeDebug) (fun v f => by
    have h12 : ∀ (w : State) (b : Bytes), (w.raise 0x8504 2 0 b).timeDebug = w.timeDebug := fun w b =>
      State.raise_timeDebug (.inl (evClass_ss1Envelope ..)) 2 0
    dsimp only
    simp only [State.ite_timeDebug, State.ss1Complete_timeDebug, State.setBrakesCh_timeDebug, h12, State.modFn_timeDebug, ite_self]) _ _

theorem State.setBrakes_timeDebug (ns) : (s.setBrakes ns).timeDebug = s.timeDebug :=
  foldl_kept (g := State.timeDebug) (fun v n => v.setBrake_timeDebug n) _ _

theorem evClass_kpSafe (d : DevState) (b : Bytes) : evClass 0x850A d b = 14 := by
  unfold evClass
  simp

theorem State.kpSafe_timeDebug (c) : (s.kpSafe c).timeDebug = s.timeDebug := by
  have hin : ((s.modSafety fun x => { x with kpState := 3, cause := c }).settle.setBrakes [0, 1]).timeDebug = s.timeDebug := by
    rw [State.setBrakes_timeDebug, State.settle_timeDebug]; rfl
  unfold State.kpSafe
  dsimp only
  split
  · rfl
  · split
    · rw [State.raise_timeDebug (.inr (evClass_kpSafe ..)), hin]
    · exact hin

theorem State.kpSafe_time (c) : (s.kpSafe c).time = s.time := congrArg Prod.fst (s.kpSafe_timeDebug c)

/-- Judging the envelope attaches no debugger and detaches none. -/
theorem State.ss1Check_debug (ch now n) : (s.ss1Check ch now n).safety.debug = s.safety.debug := congrArg Prod.snd (s.ss1Check_timeDebug ch now n)

end Sys2Proof.Machine

namespace Sys2Proof.Machine

/-! ### SS1 and the Kingpost's position channel (R383 to R395) -/

section
variable {s u : State} {t : Tick} {kt : Nat} (hu : (s.upTo t).upKt kt = u)
include hu

theorem exec_ss1EnvelopeCheck_kingpost (h : kt % 4000 = 0) :
    exec (.ss1EnvelopeCheck t kt .kingpost) s = .next (u.ss1Check .kingpost kt (u.kpSpeedAt kt)) := by
  subst hu
  exact congrArg Host.Outcome.next (if_pos h)

theorem exec_ss1EnvelopeCheck_drivePair (h : u.safety.dpSpeedAt = u.time) :
    exec (.ss1EnvelopeCheck t kt .drivePair) s = .next (u.ss1Check .drivePair u.time (absR u.safety.dpSpeed)) := by
  subst hu
  exact congrArg Host.Outcome.next (if_pos h)

theorem exec_ss1End {f : SafeFn} {z : Tick} (hfs : u.safety.fns = [f]) (hfn : f.fn = 2) (hph : f.phase = 0) (hslow : f.slow = some z)
    (hz : z + chMs f.channel (u.cu 0x0F02 20 2) ≤ u.chNow f.channel kt) : exec (.ss1End t kt f.channel) s = .next (u.ss1Finish f) := by
  change execSs1End t kt f.channel s = _
  have hone : (u.safety.fns.filter fun g => g.fn == 2 && g.channel == f.channel && g.phase == 0) = [f] := by simp [hfs, hfn, hph]
  simp only [execSs1End, hu, hone, List.foldl_cons, List.foldl_nil, hslow, if_pos hz]

theorem exec_ss1Timeout {f : SafeFn} (hf : f ∈ u.safety.fns) (hfn : f.fn = 2) (hph : f.phase = 0) (hch : f.channel = .kingpost)
    (hlate : f.t0 + msKt (u.cu 0x0F02 14 2) < kt) :
    exec (.ss1Timeout t kt) s = .next (
      let v := u.raise 0x8505 2 0 (zeros 4 ++ le 1 1)
      (v.safety.fns.filter fun g => g.fn == 2 && g.phase == 0).foldl (fun (v : State) g => (v.setBrakesCh g.channel (v.brakesOf g.mask)).completeFn g) v) := by
  subst hu
  exact congrArg Host.Outcome.next (if_pos (List.any_eq_true.2 ⟨f, hf, by simp [hfn, hph, hch, hlate]⟩))

omit hu in
/-- Where no debugger is attached none is found after the envelope was judged (R395). -/
theorem State.stoAll_unless_debug (h : u.safety.debug = false) {ch : Channel} {now : Nat} {n : Rat} {b : Bool} :
    (if (u.ss1Check ch now n).safety.debug && b then (u.ss1Check ch now n).stoAll else u.ss1Check ch now n) = u.ss1Check ch now n :=
  if_neg (by rw [State.ss1Check_debug, h]; exact Bool.false_ne_true)

omit hu in
theorem kpPosition_watched (hB : u.archB = true) (hsrc : u.kpSrc ≠ 0) (hdev : u.dev ≠ .watch) :
    (!(u.archB && u.kpSrc != 0) || u.dev == .watch) = false := by simp [hB, hsrc, hdev]

theorem exec_kpPositionEdge_first (hB : u.archB = true) (hsrc : u.kpSrc ≠ 0) (hdev : u.dev ≠ .watch) (hl : u.safety.kpLast = none)
    (hdbg : u.safety.debug = false) : exec (.kpPositionEdge t kt) s =
      .next ((u.modSafety fun x => { x with kpEdges := none, kpLast := some kt, kpSpeed := 0 }).ss1Check .kingpost kt 0) := by
  have hw : u.modSafety (fun x => { x with kpEdges := x.kpLast.map fun l => (l, kt), kpLast := some kt, kpSpeed := 0 }) =
      u.modSafety fun x => { x with kpEdges := none, kpLast := some kt, kpSpeed := 0 } := State.modSafety_congr (by simp only [hl, Option.map_none])
  change execKpPositionEdge t kt s = _
  simp only [execKpPositionEdge, hu, kpPosition_watched hB hsrc hdev, Bool.false_eq_true, if_false, hl, hw]
  refine congrArg Host.Outcome.next (State.stoAll_unless_debug ?_)
  exact hdbg

theorem exec_kpPositionEdge_next {l : Nat} (hB : u.archB = true) (hsrc : u.kpSrc ≠ 0) (hdev : u.dev ≠ .watch) (hl : u.safety.kpLast = some l)
    (hlt : l < kt) (hcu : 0 < u.cu 0x0F00 4 4) (hdbg : u.safety.debug = false) : exec (.kpPositionEdge t kt) s = .next (
      let v : Rat := 40000000000 / ((u.cu 0x0F00 4 4 : Rat) * ((kt - l : Nat) : Rat))
      (u.modSafety fun x => { x with kpEdges := some (l, kt), kpLast := some kt, kpSpeed := v }).ss1Check .kingpost kt v) := by
  have hne : (u.cu 0x0F00 4 4 : Rat) * ((kt - l : Nat) : Rat) ≠ 0 :=
    mul_ne_zero (Nat.cast_ne_zero.2 hcu.ne') (Nat.cast_ne_zero.2 (Nat.sub_ne_zero_of_lt hlt))
  have hw (v : Rat) : u.modSafety (fun x => { x with kpEdges := x.kpLast.map fun l => (l, kt), kpLast := some kt, kpSpeed := v }) =
      u.modSafety fun x => { x with kpEdges := some (l, kt), kpLast := some kt, kpSpeed := v } :=
    State.modSafety_congr (by simp only [hl, Option.map_some])
  change execKpPositionEdge t kt s = _
  simp only [execKpPositionEdge, hu, kpPosition_watched hB hsrc hdev, Bool.false_eq_true, if_false, hl, if_pos hlt, quot_of_ne hne, hw]
  refine congrArg Host.Outcome.next (State.stoAll_unless_debug ?_)
  exact hdbg

theorem exec_kpSpeedTimeout {l : Nat} (hl : u.safety.kpLast = some l) (hB : u.archB = true) (ht : l + msKt (u.cu 0x0F00 28 2) < kt) :
    exec (.kpSpeedTimeout t kt) s =
      .next ((u.modSafety fun x => { x with kpSpeed := 0, kpLast := none, kpEdges := none }).ss1Check .kingpost kt 0) := by
  change execKpSpeedTimeout t kt s = _
  simp only [execKpSpeedTimeout, hu, hl, if_pos (And.intro hB ht)]

/-- A position fault of cause `d` of the Kingpost's channel: a loss of the signal, or an edge rate that is seen (R391). -/
theorem exec_kpPositionFault {cs : KpPositionCause} {d : Nat} (hB : u.archB = true) (hsrc : u.kpSrc ≠ 0) (hdev : u.dev ≠ .watch)
    (hcs : cs = .signalLoss ∧ d = 0 ∨ cs = .edgeRate ∧ d = 1 ∧ ∃ a b, u.safety.kpEdges = some (a, b) ∧ b < a + 80) :
    exec (.kpPositionFault t kt cs) s = .next (
      let v := (u.modSafety fun x => { x with posFault := true, posGoodAt := kt }).raise 0x8508 2 0 (le 1 d)
      (v.requestFn 2 v.enMask 9).modSafety fun x => { x with
        fns := x.fns.map fun f => if f.fn == 2 && f.channel == .kingpost && f.source == 9 && f.phase == 0 then { f with tmaxOnly := true } else f }) := by
  subst hu
  rcases hcs with ⟨rfl, rfl⟩ | ⟨rfl, rfl, a, b, hab, hlt⟩
  · exact congrArg Host.Outcome.next (if_neg (by simp [hB, hsrc, hdev]))
  · exact congrArg Host.Outcome.next (if_neg (by simp [hB, hsrc, hdev, hab, hlt]))

theorem exec_commissioningGrantExpiry {a : Nat} (ha : u.safety.commUntil = some a) (hlt : a < kt) :
    exec (.commissioningGrantExpiry t kt) s =
      .next ((u.modSafety fun x => { x with commMask := 0, commUntil := none }).settle.requestFn 1 u.enMask 9) := by
  change execCommissioningGrantExpiry t kt s = _
  simp only [execCommissioningGrantExpiry, hu, ha, if_pos hlt]

end

end Sys2Proof.Machine

namespace Sys2Proof.Proofs
open Sys2Proof.Machine

/-- Settles O49: the debugger is asked for after the envelope was judged, which leaves its flag alone; every other row by its tests. -/
theorem safeStopsProceed : Obligations.SafeStopsProceed := by
  intro t kt cs s
  dsimp only
  refine ⟨exec_ss1EnvelopeCheck_kingpost rfl, exec_ss1EnvelopeCheck_drivePair rfl, fun f z => exec_ss1End rfl,
    fun f hf h1 h2 h3 h4 => exec_ss1Timeout rfl hf h1 h2 h3 h4, exec_kpPositionEdge_first rfl,
    fun l => exec_kpPositionEdge_next rfl, fun l => exec_kpSpeedTimeout rfl, fun h1 h2 h3 h4 => ?_,
    fun a => exec_commissioningGrantExpiry rfl⟩
  cases cs with
  | signalLoss => exact exec_kpPositionFault rfl h1 h2 h3 (.inl ⟨rfl, rfl⟩)
  | edgeRate => exact exec_kpPositionFault rfl h1 h2 h3 (.inr ⟨rfl, rfl, h4.resolve_left KpPositionCause.noConfusion⟩)

end Sys2Proof.Proofs
end

section
/-! SUPPORT. The brakes: when one opens, and what its events and its time do. -/

namespace Sys2Proof.Machine

/-! ### The brakes (R385 to R387) -/

section
variable {s u : State} {t : Tick} {n : Fin 2} {a : Tick}

theorem State.brakeGranted_of_mask (h : ∀ k < 4, (BitVec.ofNat 4 (u.cu 0x0F03 (16 * n) 1)).getLsbD k = true → u.kpGrants k = true) :
    u.brakeGranted n = true := by
  refine List.all_eq_true.2 fun k hk => ?_
  have hk4 : k < 4 := by simp only [List.mem_cons, List.not_mem_nil, or_false] at hk; omega
  cases hb : (u.cu 0x0F03 (16 * n) 1).testBit k with
  | false => rfl
  | true => exact h k hk4 (by rw [BitVec.getLsbD_ofNat, hb, decide_eq_true hk4]; rfl)

theorem State.brakeFree_of_mask (h : ∀ f ∈ u.safety.fns, f.mask &&& BitVec.ofNat 4 (u.cu 0x0F03 (16 * n) 1) = 0) : u.brakeFree n = true :=
  List.all_eq_true.2 fun f hf => beq_iff_eq.2 (h f hf)

/-- A brake that is asked for, granted and free opens (R386). -/
theorem State.settleBrake_opens {b : Brake} (hb : vget u.safety.brakes n {} = b) (hreq : b.request = true) (hhigh : b.high = false)
    (hlow : b.low = false) (hdev : u.dev = .run) (hgrant : u.brakeGranted n = true) (hfree : u.brakeFree n = true) :
    u.settleBrake n = u.openBrake n := by
  simp [State.settleBrake, hb, hreq, hhigh, hlow, hdev, hgrant, hfree]

theorem State.openBrake_drives (w : State) : (vget (w.openBrake n).safety.brakes n {}).high = true ∧
    (vget (w.openBrake n).safety.brakes n {}).low = true ∧ (vget (w.openBrake n).safety.brakes n {}).relAt = some w.time := by
  have h : vget (w.openBrake n).safety.brakes n {} = _ := vget_vmod_self w.safety.brakes n.isLt _ _
  rw [h]
  exact ⟨rfl, rfl, rfl⟩

section
variable (hu : s.upTo t = u)
include hu

theorem exec_brakeReleaseRequest (hhold : u.motion.brakeHold = some a) (hdev : u.dev = .run) (huse : n.val ∈ u.brakesInUse)
    (hpre : a + msTicks (u.cu 0x0F03 (16 * n + 6) 2) ≤ u.time) (hreq : (vget u.safety.brakes n {}).request = false)
    (hhigh : (vget u.safety.brakes n {}).high = false) (hlow : (vget u.safety.brakes n {}).low = false) (hgrant : u.brakeGranted n = true)
    (hfree : u.brakeFree n = true) :
    exec (.brakeReleaseRequest t n) s = .next ((u.modBrake n fun b => { b with request := true }).openBrake n) := by
  change execBrakeReleaseRequest t n s = _
  have hgate : u.dev = .run ∧ u.brakesInUse.contains n.val = true ∧ a + msTicks (u.cu 0x0F03 (16 * n + 6) 2) ≤ u.time ∧
      (!(vget u.safety.brakes n {}).request) = true := ⟨hdev, List.contains_iff_mem.2 huse, hpre, by rw [hreq]; rfl⟩
  simp only [execBrakeReleaseRequest, hu, hhold, if_pos hgate]
  exact congrArg Host.Outcome.next (State.settleBrake_opens (vget_vmod_self u.safety.brakes n.isLt _ _) rfl hhigh hlow hdev hgrant hfree)

theorem exec_brakeReleaseComplete (hhold : u.motion.brakeHold = some a) (huse : u.brakesInUse = [n.val])
    (hrel : a + msTicks (u.cu 0x0F03 (16 * n + 6) 2 + u.cu 0x0F03 (16 * n + 4) 2) ≤ u.time) :
    exec (.brakeReleaseComplete t n) s = .next (u.modMotion fun m => { m with brakeHold := none }) := by
  change execBrakeReleaseComplete t n s = _
  simp [execBrakeReleaseComplete, hu, hhold, huse, hrel]

theorem exec_brakeTestPulse_low (hrel : u.released n = true) (hdue : (vget u.safety.brakes n {}).testDue .low u.time = true) :
    exec (.brakeTestPulse t n .low false) s =
        .next ((u.modBrake n fun b => { b with badLow := true, testAt := some u.time, testHigh := false }).brakeFault n 1) ∧
      exec (.brakeTestPulse t n .low true) s = .next (u.modBrake n fun b => { b with badLow := false, testAt := some u.time, testHigh := false }) := by
  subst hu
  exact ⟨congrArg Host.Outcome.next ((if_neg (by rw [hrel]; decide)).trans (if_neg (by rw [hdue]; decide))),
    congrArg Host.Outcome.next ((if_neg (by rw [hrel]; decide)).trans (if_neg (by rw [hdue]; decide)))⟩

theorem exec_brakeTestPulse_high (hrel : u.released n = true) (hdue : (vget u.safety.brakes n {}).testDue .high u.time = true) :
    exec (.brakeTestPulse t n .high false) s =
        .next ((u.modBrake n fun b => { b with badHigh := true, testAt := some u.time, testHigh := true }).brakeFault n 0) ∧
      exec (.brakeTestPulse t n .high true) s = .next (u.modBrake n fun b => { b with badHigh := false, testAt := some u.time, testHigh := true }) := by
  subst hu
  exact ⟨congrArg Host.Outcome.next ((if_neg (by rw [hrel]; decide)).trans (if_neg (by rw [hdue]; decide))),
    congrArg Host.Outcome.next ((if_neg (by rw [hrel]; decide)).trans (if_neg (by rw [hdue]; decide)))⟩

theorem exec_brakeTestPulse_set {off : Bool} (hrel : u.released n = false) :
    exec (.brakeTestPulse t n .low off) s = .next (u.modBrake n fun b => { b with badLow := !off }) := by
  subst hu
  exact congrArg Host.Outcome.next (if_pos (by rw [hrel]; rfl))

theorem exec_brakeOvercurrent (hrel : u.released n = true) : exec (.brakeOvercurrent t n) s = .next ((u.setBrake n).brakeFault n 3) := by
  subst hu
  exact congrArg Host.Outcome.next (if_pos hrel)

theorem exec_vbrkLow (hrel : u.released n = true) : exec (.vbrkLow t n) s = .next (u.brakeFault n 4) := by
  subst hu
  exact congrArg Host.Outcome.next (if_pos hrel)

theorem exec_brakeCoilCurrentLow (hrel : u.released n = true) (hat : (vget u.safety.brakes n {}).relAt = some a)
    (ht : a + msTicks (u.cu 0x0F03 (16 * n + 4) 2) ≤ u.time) : exec (.brakeCoilCurrentLow t n) s = .next (u.brakeFault n 2) := by
  change execBrakeCoilCurrentLow t n s = _
  simp only [execBrakeCoilCurrentLow, hu, hat, if_pos (And.intro hrel ht)]

end

section
variable {kt : Nat} (hu : (s.upTo t).upKt kt = u)
include hu

/-- A brake that is set for its time, with no function that waits for it, completes the stop, or takes the torque before (R386). -/
theorem exec_brakeSetTimeEnd_drivePair {d : DriveStop} {z : Tick} (hset : (vget u.safety.brakes n {}).setAtDp = some a)
    (ht : a + u.brkSet n ≤ u.time) (hfns : u.safety.fns = []) (hstop : u.motion.stop = some d) (hz : d.brakeAt = some z) (hdev : u.dev = .run) :
    exec (.brakeSetTimeEnd ⟨t, kt⟩ .drivePair n) s = .next (if z ≤ u.time then u.stopDone
      else u.dropStacks (u.enStacks.filter fun k => (u.cu 0x0F03 (16 * n) 1).testBit k)) := by
  change execBrakeSetTimeEnd ⟨t, kt⟩ .drivePair n s = _
  have hpast : u.brakeSetPast .drivePair kt n = true := by simp only [State.brakeSetPast, hset]; exact decide_eq_true ht
  simp [execBrakeSetTimeEnd, hu, hpast, hfns, hstop, hz, hdev]

theorem exec_brakeSetTimeEnd_kingpost (hset : (vget u.safety.brakes n {}).setAtKp = none) :
    exec (.brakeSetTimeEnd ⟨t, kt⟩ .kingpost n) s = .next u := by
  change execBrakeSetTimeEnd ⟨t, kt⟩ .kingpost n s = _
  have hpast : u.brakeSetPast .kingpost kt n = false := by
    cases hdp : (vget u.safety.brakes n {}).setAtDp <;> simp only [State.brakeSetPast, hset, hdp]
  simp only [execBrakeSetTimeEnd, hu, hpast, Bool.not_false, if_true]

end
end

end Sys2Proof.Machine

namespace Sys2Proof.Proofs
open Sys2Proof.Machine

/-- Settles O50: a brake that is granted and free opens; the rows by the brake's flags and times. -/
theorem brakesFollow : Obligations.BrakesFollow := by
  intro t kt n a off s
  dsimp only
  refine ⟨fun hhold hdev huse hpre hreq hhigh hlow hgrant hfree => exec_brakeReleaseRequest rfl hhold hdev huse hpre hreq hhigh hlow
      (State.brakeGranted_of_mask hgrant) (State.brakeFree_of_mask hfree),
    State.openBrake_drives, exec_brakeReleaseComplete rfl, exec_brakeTestPulse_low rfl, exec_brakeTestPulse_high rfl, exec_brakeTestPulse_set rfl,
    fun h => ⟨exec_brakeOvercurrent rfl h, exec_vbrkLow rfl h⟩, fun h => exec_brakeCoilCurrentLow rfl h, fun d z h1 h2 h3 h4 h5 h6 => ?_,
    fun h => exec_brakeSetTimeEnd_kingpost rfl h⟩
  have h := exec_brakeSetTimeEnd_drivePair (s := s) (t := t) (kt := kt) rfl h1 h2 h3 h4 h5 h6
  exact ⟨fun hz => h.trans (congrArg Host.Outcome.next (if_pos hz)), fun hz => h.trans (congrArg Host.Outcome.next (if_neg (Nat.not_le.2 hz)))⟩

end Sys2Proof.Proofs
end

section
/-! SUPPORT. Lock-step, debug, the scrubber's burst of clean words and the parity alert. -/
namespace Sys2Proof.Machine

variable {s u : State} {t : Tick}

theorem State.dev_of_up (h : u.up = true) : u.dev ≠ .off ∧ u.dev ≠ .inReset ∧ u.clockRuns = true := by
  cases hd : u.dev <;> simp_all [State.up, State.awake, State.clockRuns]

/-- Of the marks of `k + 1` words, those of the first word go and then those of the `k` that follow it. -/
theorem marks_succ (code off k : Nat) (l : List (Nat × Nat × BitVec 8)) :
    (l.filter fun m => m.1 != code || m.2.1 != off).filter (fun m => m.1 != code || !((List.range k).any fun i => m.2.1 == off + 8 + 8 * i)) =
      l.filter fun m => m.1 != code || !((List.range (k + 1)).any fun i => m.2.1 == off + 8 * i) := by
  rw [List.filter_filter]
  refine List.filter_congr fun m _ => ?_
  have hshift : ((List.range k).map Nat.succ).any (fun i => m.2.1 == off + 8 * i) = (List.range k).any fun i => m.2.1 == off + 8 + 8 * i := by
    rw [List.any_map]
    exact congrArg (List.range k).any (funext fun i => by rw [Function.comp_apply, Nat.mul_succ]; congr 1; omega)
  rw [List.range_succ_eq_map, List.any_cons, hshift, Nat.mul_zero, Nat.add_zero, Bool.not_or, Bool.or_and_distrib_left, Bool.and_comm]
  rfl

/-- The marks that a pass leaves of those of `k` clean words from a byte offset up (R422). -/
theorem State.scrubWords_clean (code : Nat) (k : Nat) : ∀ (off : Nat) (v : State), v.scrubWords true code off (List.replicate k .clean) =
    v.modInteg fun x => { x with marks := x.marks.filter fun m => m.1 != code || !((List.range k).any fun i => m.2.1 == off + 8 * i) } := by
  induction k with
  | zero => exact fun off v => by simp [State.scrubWords, State.modInteg]
  | succ k ih =>
    intro off v
    rw [List.replicate_succ]
    change (v.unmarkWord code off).scrubWords true code (off + 8) (List.replicate k .clean) = _
    rw [ih (off + 8)]
    exact congrArg (fun l => v.modInteg fun x => { x with marks := l }) (marks_succ code off k v.integ.marks)

theorem State.scrubWords_clean_early (code : Nat) (k : Nat) : ∀ (off : Nat), u.scrubWords false code off (List.replicate k .clean) = u := by
  induction k with
  | zero => exact fun _ => rfl
  | succ k ih => exact fun off => ih (off + 8)

section
variable (hu : s.upTo t = u)
include hu

theorem exec_lockstepMismatch_debug {e : Engine} {pc : BitVec 32} (h : u.safety.debug = true) : exec (.lockstepMismatch t e pc) s = .next u := by
  change execLockstepMismatch t e pc s = _
  simp [execLockstepMismatch, hu, h]

theorem exec_lockstepMismatch {e : Engine} {pc : BitVec 32} (hup : u.up = true) (hdbg : u.safety.debug = false)
    (hrun : vget u.integ.halted (engineIx e) true = false) {lv o : Nat}
    (he : (∃ k, e = .field k ∧ lv = 1 ∧ o = k.val) ∨ (∀ k, e ≠ .field k) ∧ lv = 2 ∧ o = 0) :
    exec (.lockstepMismatch t e pc) s = .next (let w := u.checkLine (engineIx e)
      if w.up then w.raise 0x8113 lv o (le 1 (min (engineIx e) 2) ++ zeros 3 ++ le 4 pc.toNat) else w) := by
  have hgate : (!u.clockRuns || u.safety.debug || vget u.integ.halted (engineIx e) true) = false := by
    rw [(State.dev_of_up hup).2.2, hdbg, hrun]; rfl
  change execLockstepMismatch t e pc s = _
  simp only [execLockstepMismatch, hu, hgate, Bool.false_eq_true, if_false]
  rcases he with ⟨k, rfl, rfl, rfl⟩ | ⟨hne, rfl, rfl⟩
  · cases (u.checkLine (engineIx (.field k))).up <;> rfl
  · cases e with
    | field k => exact absurd rfl (hne k)
    | drivePair => cases (u.checkLine (engineIx .drivePair)).up <;> rfl
    | linkPair => cases (u.checkLine (engineIx .linkPair)).up <;> rfl

theorem exec_debugAttached (hup : u.up = true) (hdbg : u.safety.debug = false) :
    exec (.debugAttached t) s =
      .next (let w := ((u.modSafety fun x => { x with debug := true, commMask := 0, commUntil := none }).setBrakes [0, 1]).settle
        if w.up then w.info 0x8114 2 0 (le 1 w.dev.code) else w) := by
  obtain ⟨hoff, hreset, -⟩ := State.dev_of_up hup
  change execDebugAttached t s = _
  simp only [execDebugAttached, hu, hdbg, Bool.false_eq_true, or_false, if_neg (not_or_intro hoff hreset)]

theorem exec_scrubBurst_early {r : MemRegion} {b : Nat} {rw : Bool} (hclk : u.clockRuns = true) (hb : b < regionSize r / 64)
    (hpass : u.scrubPass r b = false) : exec (.scrubBurst t r b (List.replicate 8 .clean) rw) s = .next u := by
  change execScrubBurst t r b (List.replicate 8 .clean) rw s = _
  have hgate : (!u.clockRuns || decide (regionSize r / 64 ≤ b)) = false := by simp [hclk, hb]
  simp only [execScrubBurst, hu, hgate, hpass, Bool.false_eq_true, if_false]
  exact congrArg Host.Outcome.next (State.scrubWords_clean_early _ 8 _)

theorem exec_scrubBurst_pass {r : MemRegion} {b : Nat} {rw : Bool} (hclk : u.clockRuns = true) (hb : b < regionSize r / 64)
    (hpass : u.scrubPass r b = true) : exec (.scrubBurst t r b (List.replicate 8 .clean) rw) s = .next (u.modInteg fun x => { x with
        scrub := vmod x.scrub (regionCode r) fun _ => (b + 1) % (regionSize r / 64), scrubAt := vmod x.scrubAt (regionCode r) fun _ => some u.time
        marks := x.marks.filter fun m => m.1 != regionCode r || !((List.range 8).any fun i => m.2.1 == 64 * b + 8 * i) }) := by
  change execScrubBurst t r b (List.replicate 8 .clean) rw s = _
  have hgate : (!u.clockRuns || decide (regionSize r / 64 ≤ b)) = false := by simp [hclk, hb]
  simp only [execScrubBurst, hu, hgate, hpass, Bool.false_eq_true, if_false, if_true]
  exact congrArg Host.Outcome.next (State.scrubWords_clean (regionCode r) 8 (64 * b) _)

theorem exec_alertN {a : Nat} (hclk : u.clockRuns = true) : exec (.alertN t a false) s = .next (u.modInteg fun x => { x with alert := some a }) := by
  subst hu
  exact congrArg Host.Outcome.next ((if_neg (by simp [hclk])).trans (if_pos rfl))

theorem exec_alertN_again {a : Nat} (hclk : u.clockRuns = true) (ha : u.integ.alert = some a) :
    exec (.alertN t a true) s = .next ((u.modInteg fun x => { x with alert := none }).uncorrectable 10 a 2) := by
  subst hu
  exact congrArg Host.Outcome.next (((if_neg (by simp [hclk])).trans (if_neg (by decide))).trans (if_pos ha))

end

end Sys2Proof.Machine

namespace Sys2Proof.Proofs
open Sys2Proof.Machine

/-- Settles O17: a burst of clean words takes the marks of its words, and a check line keeps the tick at which the drivers are released. -/
theorem integrityUnitReacts : Obligations.IntegrityUnitReacts := by
  refine ⟨fun t e pc s => ?_, fun t r b a rw s => ?_⟩
  · refine ⟨exec_lockstepMismatch_debug rfl, fun h1 h2 h3 => ?_, by rw [State.checkLine, State.kpSafe_time]; rfl, exec_debugAttached rfl⟩
    cases e with
    | field k => exact exec_lockstepMismatch rfl h1 h2 h3 (.inl ⟨k, rfl, rfl, rfl⟩)
    | drivePair => exact exec_lockstepMismatch rfl h1 h2 h3 (.inr ⟨fun _ h => Engine.noConfusion h, rfl, rfl⟩)
    | linkPair => exact exec_lockstepMismatch rfl h1 h2 h3 (.inr ⟨fun _ h => Engine.noConfusion h, rfl, rfl⟩)
  · exact ⟨exec_scrubBurst_early rfl, fun hclk hb hpass => ⟨_, exec_scrubBurst_pass rfl hclk hb hpass, rfl⟩, exec_alertN rfl, exec_alertN_again rfl⟩

end Sys2Proof.Proofs
end

section
/-! SUPPORT. The DMA engine: memory outside a store, the channel that is served next, and each of the engine's rows. -/
namespace Sys2Proof.Machine

/-! ### Memory outside a store -/

/-- A byte string written to memory leaves every address outside it. -/
theorem Memory.read_writeN_of_outside {m : List Host.Cell} {a x : Nat} {b : Bytes} (h : Memory.wf m = true) (hx : x < a ∨ a + b.length ≤ x) :
    Memory.read (Memory.writeN m a b) x = Memory.read m x := by
  induction b generalizing m a with
  | nil => rfl
  | cons v r ih =>
    rw [List.length_cons] at hx
    rw [Memory.writeN, ih (Memory.wf_write a v h) (by omega), Memory.read_write h, if_neg (by omega)]

variable {s u v : State} {t : Tick}

theorem State.read_storePa_of_outside {a x : Nat} {b : Bytes} (h : Memory.wf v.mem = true) (hx : x < a ∨ a + b.length ≤ x) :
    Memory.read (v.storePa a b).mem x = Memory.read v.mem x := Memory.read_writeN_of_outside h hx

/-- A changed DMA channel reads changed. -/
theorem State.dmaCh_modCh {n : Nat} (hn : n < 16) (f : DmaCh → DmaCh) : (u.modCh n f).dmaCh n = f (u.dmaCh n) := vget_vmod_self u.dma.ch hn f _

/-! ### The channel that is served next (R455) -/

/-- What the search for the channel that is served next has after the channels of a list: none of them is queued, or one that is, of the
highest level among them. -/
def State.Serves (s : State) (l : List Nat) : Option Nat → Prop
  | none => ∀ m ∈ l, (s.dmaCh m).state ≠ 1
  | some n => n ∈ l ∧ (s.dmaCh n).state = 1 ∧ ∀ m ∈ l, (s.dmaCh m).state = 1 → s.chLevel m ≤ s.chLevel n

/-- One step of the search. -/
def State.serveStep (s : State) (b : Option Nat) (n : Nat) : Option Nat :=
  if (s.dmaCh n).state ≠ 1 then b else match b with
  | none => some n
  | some m => if s.chLevel m < s.chLevel n ∨ (s.chLevel m = s.chLevel n ∧ (s.dmaCh n).queuedAt < (s.dmaCh m).queuedAt) then some n else b

theorem State.nextCh_eq : u.nextCh = (List.range 16).foldl u.serveStep none := rfl

theorem State.Serves.skip {l : List Nat} {b : Option Nat} {n : Nat} (h : u.Serves l b) (hn : (u.dmaCh n).state ≠ 1) : u.Serves (l ++ [n]) b := by
  cases b with
  | none => exact List.forall_mem_append.2 ⟨h, List.forall_mem_singleton.2 hn⟩
  | some m =>
    obtain ⟨hmem, hq, hmax⟩ := h
    exact ⟨List.mem_append_left _ hmem, hq, List.forall_mem_append.2 ⟨hmax, List.forall_mem_singleton.2 fun h1 => absurd h1 hn⟩⟩

theorem State.Serves.keep {l : List Nat} {m n : Nat} (h : u.Serves l (some m)) (hn : u.chLevel n ≤ u.chLevel m) : u.Serves (l ++ [n]) (some m) := by
  obtain ⟨hmem, hq, hmax⟩ := h
  exact ⟨List.mem_append_left _ hmem, hq, List.forall_mem_append.2 ⟨hmax, List.forall_mem_singleton.2 fun _ => hn⟩⟩

theorem State.Serves.take {l : List Nat} {n : Nat} (hn : (u.dmaCh n).state = 1) (h : ∀ m ∈ l, (u.dmaCh m).state = 1 → u.chLevel m ≤ u.chLevel n) :
    u.Serves (l ++ [n]) (some n) :=
  ⟨List.mem_append_right _ (List.mem_singleton_self n), hn, List.forall_mem_append.2 ⟨h, List.forall_mem_singleton.2 fun _ => le_rfl⟩⟩

theorem State.Serves.step {l : List Nat} {b : Option Nat} (h : u.Serves l b) (n : Nat) : u.Serves (l ++ [n]) (u.serveStep b n) := by
  unfold State.serveStep
  split
  case isTrue hn => exact h.skip hn
  case isFalse hn =>
    have hn := not_not.1 hn
    cases b with
    | none => exact State.Serves.take hn fun m hm hq => absurd hq (h m hm)
    | some m =>
      dsimp only
      split
      case isTrue hless => exact State.Serves.take hn fun j hj hq => (h.2.2 j hj hq).trans (by omega)
      case isFalse hless => exact h.keep (by omega)

theorem State.serves_foldl (l : List Nat) : u.Serves l (l.foldl u.serveStep none) := by
  induction l using List.reverseRecOn with
  | nil => exact fun m hm => absurd hm List.not_mem_nil
  | append_singleton l n ih =>
    rw [List.foldl_append]
    exact ih.step n

/-- The channel that is served next is queued and of the highest level. -/
theorem State.nextCh_serves {n : Nat} (h : u.nextCh = some n) :
    n < 16 ∧ (u.dmaCh n).state = 1 ∧ ∀ m, m < 16 → (u.dmaCh m).state = 1 → u.chLevel m ≤ u.chLevel n := by
  have hs := u.serves_foldl (List.range 16)
  rw [← State.nextCh_eq, h] at hs
  obtain ⟨hmem, hq, hmax⟩ := hs
  exact ⟨List.mem_range.1 hmem, hq, fun m hm => hmax m (List.mem_range.2 hm)⟩

/-! ### Commands, records, slots and invalidations -/

section
variable (hu : s.upTo t = u)
include hu

section
variable {n : Fin 16}

theorem exec_dmaCmdStart (hup : u.up = true) (h0 : (u.dmaCh n).state = 0) :
    exec (.dmaCmdStart t n) s = .next ((u.modDma fun d => { d with order := d.order + 1 }).modCh n fun c =>
      { c with
        desc := c.head, done := 0, completed := 0, fetched := false, saving := false, prio := 0, point := 0, state := 1,
               queuedAt := u.dma.order }) := by
  subst hu
  exact congrArg Host.Outcome.next ((if_pos hup).trans (if_pos h0))

theorem exec_dmaCmdStart_busy (hup : u.up = true) (h0 : (u.dmaCh n).state ≠ 0) : exec (.dmaCmdStart t n) s = .next u := by
  subst hu
  exact congrArg Host.Outcome.next ((if_pos hup).trans (if_neg h0))

theorem exec_dmaCmdAbort (hup : u.up = true) (h0 : (u.dmaCh n).state ≠ 0) :
    exec (.dmaCmdAbort t n) s = .next ((u.modCh n fun c => { c with state := 0, fetched := false, saving := false }).freeSlot n) := by
  subst hu
  exact congrArg Host.Outcome.next ((if_pos hup).trans (if_neg h0))

omit hu in
theorem State.postRecord_none (hr : (u.dmaCh n).record = none) : u.postRecord n = u := by simp only [State.postRecord, hr]

theorem exec_dmaCmdResume (hup : u.up = true) (h3 : (u.dmaCh n).state = 3) (hr : (u.dmaCh n).record = none) (hs : (u.dmaCh n).saving = false) :
    exec (.dmaCmdResume t n) s = .next ((u.modDma fun d => { d with order := d.order + 1 }).modCh n fun c =>
      { c with point := 0, fetched := c.resumeAt != 0, state := 1, queuedAt := u.dma.order }) := by
  have hresume : u.dmaResume n = u.queueCh n fun c => { c with point := 0, fetched := c.resumeAt != 0 } := by
    simp [State.dmaResume, h3, State.postRecord_none hr, hr, hs]
  subst hu
  exact congrArg Host.Outcome.next ((if_pos hup).trans hresume)

theorem exec_dmaCmdResume_unfaulted (hup : u.up = true) (h3 : (u.dmaCh n).state ≠ 3) : exec (.dmaCmdResume t n) s = .next u := by
  have hresume : u.dmaResume n = u := by simp [State.dmaResume, h3]
  subst hu
  exact congrArg Host.Outcome.next ((if_pos hup).trans hresume)

theorem exec_faultRecordPost {r : Bytes} (hup : u.up = true) (hr : (u.dmaCh n).record = some r) (hlen : r.length = 46)
    (hroom : (u.dma.fqWrite + 256 - u.dma.fqRead) % 256 ≠ 64) :
    exec (.faultRecordPost t n) s = .next ((u.modDma fun d =>
      { d with
        fq := vmod d.fq (d.fqWrite % 64) fun _ => le 2 d.fqSeq ++ r, fqWrite := (d.fqWrite + 1) % 256, fqSeq := (d.fqSeq + 1) % 65536,
               irqFq := true }).modCh n fun c => { c with record := none }) := by
  change execFaultRecordPost t n s = _
  have hrest : r.drop 46 = [] := List.drop_eq_nil_of_le hlen.le
  have hall : r.take 46 = r := List.take_of_length_le hlen.le
  simp only [execFaultRecordPost, hu, if_pos hup, State.postRecord, hr, if_neg hroom, hrest, hall, if_true]

theorem exec_faultRecordPost_full {r : Bytes} (hup : u.up = true) (hr : (u.dmaCh n).record = some r)
    (hfull : (u.dma.fqWrite + 256 - u.dma.fqRead) % 256 = 64) : exec (.faultRecordPost t n) s = .next u := by
  change execFaultRecordPost t n s = _
  simp only [execFaultRecordPost, hu, if_pos hup, State.postRecord, hr, if_pos hfull]

end

section
variable {n w i : Nat}

theorem exec_dmaSlotGrant_free (hup : u.up = true) (hn : u.nextCh = some n) (hi : u.emptySlot = some i) :
    exec (.dmaSlotGrant t) s = .next ((u.modDma fun d => { d with order := d.order + 1, slots := vmod d.slots i fun _ => some (n, u.dma.order) }).modCh n
      fun c => { c with state := 2 }) := by
  change execDmaSlotGrant t s = _
  simp only [execDmaSlotGrant, hu, hup, hn, hi, Bool.not_true, Bool.false_eq_true, if_false]
  rfl

theorem exec_dmaSlotGrant_outranked (hup : u.up = true) (hn : u.nextCh = some n) (hi : u.emptySlot = none) (hr : u.outranks n = false) :
    exec (.dmaSlotGrant t) s = .next u := by
  change execDmaSlotGrant t s = _
  simp only [execDmaSlotGrant, hu, hup, hn, hi, hr, Bool.not_true, Bool.not_false, Bool.false_eq_true, if_false, if_true]
  cases u.victim <;> rfl

theorem exec_dmaSlotGrant_yields (hup : u.up = true) (hn : u.nextCh = some n) (hi : u.emptySlot = none) (hw : u.victim = some w)
    (hr : u.outranks n = true) (hf : (u.dmaCh w).fetched = false) (hfree : ((u.freeSlot w).queueCh w id).emptySlot = some i) :
    exec (.dmaSlotGrant t) s = .next (((u.freeSlot w).queueCh w id).grant i n) := by
  change execDmaSlotGrant t s = _
  simp only [execDmaSlotGrant, hu, hup, hn, hi, hw, hr, hf, hfree, Bool.not_true, Bool.false_eq_true, if_false]

end

theorem exec_dtuInval {x : BitVec 32} (hup : u.up = true) :
    exec (.dtuInval t x) s = .next (u.modDma fun d => { d with inval := bitsN x.toNat 17 0 + bitsN x.toNat 31 31 * 2147483648 }) := by
  subst hu
  exact congrArg Host.Outcome.next (if_pos hup)

theorem exec_dtuInvalComplete (hgo : u.dma.inval.testBit 31 = true) :
    exec (.dtuInvalComplete t) s =
      .next (u.modDma fun d => { d with tlb := d.tlb.filter (invalKeeps d.inval d.invalVa), inval := d.inval % 2147483648 }) := by
  subst hu
  exact congrArg Host.Outcome.next (if_pos hgo)

/-! ### Descriptors and beats (R451, R456, R458) -/

section
variable {n : Fin 16} {a : Nat}

omit hu in
theorem fetch_runs (hup : u.up = true) (h2 : (u.dmaCh n).state = 2) (hf : (u.dmaCh n).fetched = false) :
    (!u.up || (u.dmaCh n).state != 2 || (u.dmaCh n).fetched) = false := by rw [hup, h2, hf]; rfl

theorem exec_dmaDescriptorFetch_stop (hup : u.up = true) (h2 : (u.dmaCh n).state = 2) (hf : (u.dmaCh n).fetched = false)
    (hacc : u.access n (u.dmaCh n).desc 64 false = (.at_ a, v)) (hal : (u.dmaCh n).desc % 64 = 0) (hgo : getN (Memory.readN v.mem a 64) 0 1 % 2 = 0) :
    exec (.dmaDescriptorFetch t n) s = .next ((v.modCh n fun c => { c with state := 0 }).freeSlot n) := by
  change execDmaDescriptorFetch t n s = _
  simp only [execDmaDescriptorFetch, hu, fetch_runs hup h2 hf, hacc, Bool.false_eq_true, if_false, hal, hgo, ne_eq, not_true_eq_false, if_true]

theorem exec_dmaDescriptorFetch_valid {d : Bytes} (hd : Memory.readN v.mem a 64 = d) (hup : u.up = true) (h2 : (u.dmaCh n).state = 2)
    (hf : (u.dmaCh n).fetched = false) (hacc : u.access n (u.dmaCh n).desc 64 false = (.at_ a, v)) (hal : (u.dmaCh n).desc % 64 = 0)
    (hgo : getN d 0 1 % 2 = 1) (hok : badDesc d = false) (hnew : getN d 3 1 ≠ 3) :
    exec (.dmaDescriptorFetch t n) s = .next (v.modCh n fun c =>
      { c with
        fetched := true, ctrl := getN d 0 2, prio := getN d 2 1 % 4, len := getN d 4 4, src := getN d 8 8, dst := getN d 16 8,
               nextD := getN d 24 8, done := 0 }) := by
  change execDmaDescriptorFetch t n s = _
  simp only [execDmaDescriptorFetch, hu, fetch_runs hup h2 hf, hacc, hd, Bool.false_eq_true, if_false, hal, hgo, hok, hnew, ne_eq, not_true_eq_false,
    one_ne_zero]

/-- The bytes of a pattern from DONE on (R456). -/
def DmaCh.patternBytes (c : DmaCh) (len : Nat) : Bytes := (List.range len).map fun i => BitVec.ofNat 8 (c.src / 256 ^ ((c.done + i) % 8))

omit hu in
theorem State.beat_pattern {c : DmaCh} {va len : Nat} (hc : u.dmaCh n = c) (hva : c.dst + c.done = va) (hlen : min (64 - va % 64) (c.len - c.done) = len)
    (hpat : c.ctrl.testBit 3 = true) (hacc : u.access n va len true = (.at_ a, v)) :
    u.beat n = (v.storePa a (c.patternBytes len)).modCh n fun c => { c with done := c.done + len } := by
  subst hc hva hlen
  simp only [State.beat, hpat, if_true, hacc]
  rfl

theorem exec_dmaBeat_pattern {c : DmaCh} {va len : Nat} (hc : u.dmaCh n = c) (hva : c.dst + c.done = va)
    (hlen : min (64 - va % 64) (c.len - c.done) = len) (hup : u.up = true) (h2 : c.state = 2) (hf : c.fetched = true)
    (hthr : 10 ≤ n.val ∨ u.throttled = false) (hpat : c.ctrl.testBit 3 = true) (hmore : c.done + len < c.len)
    (hacc : u.access n va len true = (.at_ a, v)) (hv : v.dmaCh n = c) :
    exec (.dmaBeat t n) s = .next ((v.storePa a (c.patternBytes len)).modCh n fun c => { c with done := c.done + len }) := by
  have hgate : (!u.up || c.state != 2 || !c.fetched || (decide (n.val < 10) && u.throttled)) = false := by
    rw [hup, h2, hf]
    rcases hthr with h | h
    · rw [decide_eq_false (Nat.not_lt.2 h)]; rfl
    · rw [h, Bool.and_false]; rfl
  have hch : ((v.storePa a (c.patternBytes len)).modCh n fun c => { c with done := c.done + len }).dmaCh n = { c with done := c.done + len } :=
    (State.dmaCh_modCh n.isLt _).trans (congrArg (fun c : DmaCh => { c with done := c.done + len }) hv)
  change execDmaBeat t n s = _
  simp only [execDmaBeat, hu, hc, hgate, Bool.false_eq_true, if_false, if_pos (show c.done < c.len by omega), State.beat_pattern hc hva hlen hpat hacc, hch]
  exact congrArg Host.Outcome.next (if_neg fun h => absurd h.2 (Nat.not_le.2 hmore))

end
end

end Sys2Proof.Machine

namespace Sys2Proof.Proofs
open Sys2Proof.Machine

/-- Settles O23: a beat writes its bytes and nothing else of memory. -/
theorem dmaDescriptorsAndBeats : Obligations.DmaDescriptorsAndBeats := by
  intro t n a v s
  dsimp only
  refine ⟨exec_dmaDescriptorFetch_stop rfl, exec_dmaDescriptorFetch_valid rfl rfl, fun h1 h2 h3 h4 h5 h6 h7 h8 =>
    ⟨exec_dmaBeat_pattern rfl rfl rfl rfl h1 h2 h3 h4 h5 h6 h7 h8, fun x hwf hx => State.read_storePa_of_outside hwf ?_⟩⟩
  rwa [List.length_map, List.length_range]

/-- Settles O22: the channel that is served next by the search through all of them, the rest by their rows. -/
theorem dmaChannelsAndSlots : Obligations.DmaChannelsAndSlots := by
  refine ⟨fun t n s => ?_, fun t x s => ?_⟩
  · exact ⟨exec_dmaCmdStart rfl, exec_dmaCmdStart_busy rfl, exec_dmaCmdAbort rfl, exec_dmaCmdResume rfl, exec_dmaCmdResume_unfaulted rfl,
      fun r => exec_faultRecordPost rfl, fun r => exec_faultRecordPost_full rfl⟩
  · exact ⟨fun n i => exec_dmaSlotGrant_free rfl, fun n => exec_dmaSlotGrant_outranked rfl, fun n w i => exec_dmaSlotGrant_yields rfl,
      fun n => State.nextCh_serves, exec_dtuInval rfl, exec_dtuInvalComplete rfl⟩

end Sys2Proof.Proofs
end

section
/-! SUPPORT. The bridle link: what it sends, what it receives, and what its loss takes with it. -/
namespace Sys2Proof.Machine

variable {s u : State} {t : Tick} {f : Bytes}

theorem State.up_of_pairOn (h : u.pairOn = true) : u.up = true ∧ u.linkHalted = false := by
  simp only [State.pairOn, Bool.and_eq_true, Bool.not_eq_true'] at h
  exact h.1.1

/-- A check that is due, or that none was sent before (R476). -/
theorem all_lasted {o : Option Tick} {d d' now : Tick} (hd : d' = d) (h : ∀ a, o = some a → a + d ≤ now) :
    (o.all fun u => decide (u + d' ≤ now)) = true := by
  cases o with
  | none => rfl
  | some a => exact decide_eq_true (hd ▸ h a rfl)

/-! ### Heartbeats and the link (R471, R472, R474) -/

section
variable (hu : s.upTo t = u)
include hu

theorem exec_heartbeatSend (hon : u.pairOn = true) (ht : u.time % 2000 = 0) :
    exec (.heartbeatSend t) s =
      .next (((u.modPair fun p => { p with out := [] }).sendBridle 0x48 0 (u.modPair fun p => { p with out := [] }).hbData)) := by
  obtain ⟨hup, hlink⟩ := State.up_of_pairOn hon
  subst hu
  refine congrArg Host.Outcome.next (if_pos ?_)
  change ((s.upTo t).up && !(s.upTo t).linkHalted && ((s.upTo t).pairOn || (s.upTo t).pair.leaving) && (s.upTo t).time % 2000 == 0) = true
  rw [hup, hlink, hon, ht]
  rfl

theorem exec_heartbeatSend_between (ht : u.time % 2000 ≠ 0) : exec (.heartbeatSend t) s = .next (u.modPair fun p => { p with out := [] }) := by
  subst hu
  refine congrArg Host.Outcome.next (if_neg ?_)
  rw [Bool.and_eq_true, beq_iff_eq]
  exact fun h => ht h.2

omit hu in
/-- A frame that the link in a pair hears and that is whole. -/
theorem bridle_heard (hon : u.pairOn = true) (hl : u.pair.link = true) : ¬((!(u.pairOn && u.pair.link)) = true) := by rw [hon, hl]; decide

theorem exec_heartbeat (hon : u.pairOn = true) (hl : u.pair.link = true) (hok : bridleOk 0x48 f = true) (hlen : f.length = 28) :
    exec (.heartbeat t f) s = .next (u.hbRx (bridleData f)) := by
  subst hu
  exact congrArg Host.Outcome.next ((if_neg (bridle_heard hon hl)).trans (if_neg (by rw [hok, hlen]; decide)))

theorem exec_heartbeat_bad (hon : u.pairOn = true) (hl : u.pair.link = true) (hok : bridleOk 0x48 f = false) :
    exec (.heartbeat t f) s = .next (u.modPair fun p => { p with frameErr := satN 4 (p.frameErr + 1) }) := by
  subst hu
  exact congrArg Host.Outcome.next ((if_neg (bridle_heard hon hl)).trans (if_pos (by rw [hok]; rfl)))

theorem exec_bridleLinkUp (hon : u.pairOn = true) : exec (.bridleLinkUp t) s = .next (u.modPair fun p => { p with link := true }) := by
  subst hu
  exact congrArg Host.Outcome.next (if_pos hon)

theorem exec_bridleLinkDown (hl : u.pair.link = true) (hses : u.upd.session ≠ 3) :
    exec (.bridleLinkDown t) s = .next (u.modPair fun p => { p with link := false, part := [], relayIn := [], bulkQ := [] }) := by
  subst hu
  exact congrArg Host.Outcome.next ((if_neg (by rw [hl]; decide)).trans (if_neg hses))

theorem exec_bridleLinkDown_relay (hl : u.pair.link = true) (hses : u.upd.session = 3) :
    exec (.bridleLinkDown t) s =
      .next ((u.modPair fun p => { p with link := false, part := [], relayIn := [], bulkQ := [] }).loseRelay 0) := by
  subst hu
  exact congrArg Host.Outcome.next ((if_neg (by rw [hl]; decide)).trans (if_pos hses))

theorem exec_pairCheckSend (hon : u.pairOn = true) (h1 : u.pair.state = 1) (hdue : ∀ a, u.pair.checkAt = some a → a + 100000 ≤ u.time) :
    exec (.pairCheckSend t) s = .next (((u.modPair fun p => { p with out := [] }).modPair fun p => { p with checkAt := some u.time }).sendBridle 0x4D 0xFFFF
      (u.modPair fun p => { p with out := [] }).checkData) := by
  have hms : msTicks 1 = 100000 := rfl
  have hall := all_lasted hms hdue
  subst hu
  refine congrArg Host.Outcome.next (if_pos ?_)
  change ((s.upTo t).pairOn && (s.upTo t).pair.state == 1 && (s.upTo t).pair.checkAt.all fun u => decide (u + msTicks 1 ≤ (s.upTo t).time)) = true
  rw [hon, h1, hall]
  rfl

/-! ### The mirror, its acknowledgement and BULK frames (R476, R478, R472) -/

theorem exec_mirrorFrame_check (hon : u.pairOn = true) (hl : u.pair.link = true) (hok : bridleOk 0x4D f = true) (hseg : getN f 6 2 = 0xFFFF) :
    exec (.mirrorFrame t f) s = .next ((u.modPair fun p => { p with out := [] }).checkRx (bridleData f)) := by
  subst hu
  exact congrArg Host.Outcome.next (((if_neg (bridle_heard hon hl)).trans (if_neg (by rw [hok]; decide))).trans (if_pos hseg))

theorem exec_mirrorFrame_segment (hon : u.pairOn = true) (hl : u.pair.link = true) (hok : bridleOk 0x4D f = true) (hseg : getN f 6 2 ≠ 0xFFFF)
    (h6 : getN f 6 2 % 256 ≤ 6) :
    exec (.mirrorFrame t f) s =
      .next ((u.modPair fun p => { p with out := [] }).mirrorRx (getN f 6 2 / 256) (getN f 6 2 % 256) (bridleData f)) := by
  subst hu
  exact congrArg Host.Outcome.next (((if_neg (bridle_heard hon hl)).trans (if_neg (by rw [hok]; decide))).trans
    ((if_neg hseg).trans ((if_neg (by omega)).trans (if_pos h6))))

theorem exec_mirrorFrame_queue (hon : u.pairOn = true) (hl : u.pair.link = true) (hok : bridleOk 0x4D f = true) (h7 : getN f 6 2 % 256 = 7) :
    exec (.mirrorFrame t f) s = .next (((u.modPair fun p => { p with out := [] }).modPair fun p =>
      { p with queues := vmod p.queues 0 fun _ => bridleData f }).sendBridle 0x41 0 (le 2 (getN f 2 2) ++ zeros 2)) := by
  subst hu
  refine congrArg Host.Outcome.next (((if_neg (bridle_heard hon hl)).trans (if_neg (by rw [hok]; decide))).trans
    ((if_neg (by omega)).trans ((if_pos (by omega)).trans ?_)))
  rw [h7]

theorem exec_mirrorAck (hon : u.pairOn = true) (hl : u.pair.link = true) (hok : bridleOk 0x41 f = true) :
    exec (.mirrorAck t f) s = .next (u.modPair fun p => { p with slowDue := p.slowDue.filter fun x => x.2 != some (getN f 8 2) }) := by
  subst hu
  exact congrArg Host.Outcome.next ((if_neg (bridle_heard hon hl)).trans (if_neg (by rw [hok]; decide)))

theorem exec_bulkFrame_part (hon : u.pairOn = true) (hl : u.pair.link = true) (hok : bridleOk 0x55 f = true) (hseg : getN f 6 2 = 0)
    (hlen : (bridleData f).length < 12) : exec (.bulkFrame t f) s = .next (u.modPair fun p => { p with relayIn := bridleData f }) := by
  change execBulkFrame t f s = _
  simp only [execBulkFrame, hu, if_neg (bridle_heard hon hl), hok, hseg, Bool.not_true, Bool.false_eq_true, if_false, if_true, List.length_nil, Nat.mul_zero,
    ne_eq, not_true_eq_false, List.nil_append, hlen, true_or]

theorem exec_bulkFrame_packet (hon : u.pairOn = true) (hl : u.pair.link = true) (hok : bridleOk 0x55 f = true) (hseg : getN f 6 2 = 0)
    (hall : 12 + getN (bridleData f) 6 2 ≤ (bridleData f).length) (hlen : 12 ≤ (bridleData f).length) (hhead : (bridleData f).head? = some 0xB5#8) :
    exec (.bulkFrame t f) s = .next ((u.modPair fun p => { p with relayIn := [], out := [] }).runRelayed (bridleData f)) := by
  have hwhole : ¬((bridleData f).length < 12 ∨ (bridleData f).length < 12 + getN (bridleData f) 6 2) := by omega
  change execBulkFrame t f s = _
  simp only [execBulkFrame, hu, if_neg (bridle_heard hon hl), hok, hseg, Bool.not_true, Bool.false_eq_true, if_false, if_true, List.length_nil, Nat.mul_zero,
    ne_eq, not_true_eq_false, List.nil_append, hwhole, hhead]

end

end Sys2Proof.Machine

namespace Sys2Proof.Proofs
open Sys2Proof.Machine

/-- Settles O30: each frame by its type and segment, each timer by its deadline. -/
theorem bridleFrames : Obligations.BridleFrames := by
  refine ⟨fun t f s => ?_, fun t f s => ?_⟩
  · exact ⟨exec_heartbeatSend rfl, exec_heartbeatSend_between rfl, exec_heartbeat rfl, exec_heartbeat_bad rfl, exec_bridleLinkUp rfl,
      exec_bridleLinkDown rfl, exec_bridleLinkDown_relay rfl, exec_pairCheckSend rfl⟩
  · exact ⟨exec_mirrorFrame_check rfl, exec_mirrorFrame_segment rfl, exec_mirrorFrame_queue rfl, exec_mirrorAck rfl, exec_bulkFrame_part rfl,
      exec_bulkFrame_packet rfl⟩

end Sys2Proof.Proofs
end

section
/-! SUPPORT. The network's commands, its frames and the timers of its ports. -/
namespace Sys2Proof.Machine

variable {s u : State} {t : Tick}

/-! ### ALCIA_SEND and NETWORK_STATUS (R504, R526) -/

@[simp] theorem State.charged_alcia (c : Source) : (s.charged c).alcia = s.alcia := by rw [s.charged_eq c]
@[simp] theorem State.charged_alPort (c : Source) (p : Nat) : (s.charged c).alPort p = s.alPort p := by
  rw [State.alPort, State.charged_alcia, State.alPort]
@[simp] theorem State.charged_alAddr (c : Source) : (s.charged c).alAddr = s.alAddr := by
  rw [State.alAddr, State.nodeB, State.charged_blockOr, State.alAddr, State.nodeB]

/-- A user frame whose fields are legal (R504): neither a system code nor class, and a length of R495. -/
structure UserFrame (b : Bytes) : Prop where
  addr : getN b 0 4 % 4096 = 0
  id : getN b 0 4 < 2 ^ 29
  low : 0x100 ≤ identCode (getN b 0 4)
  high : identCode (getN b 0 4) < 0x800
  cls : 2 ≤ identClass (getN b 0 4)
  len : dlOk (getN b 6 2) = true

/-- A legal FD frame to the active port 0, which has room, is queued there under the next handle (R504). -/
theorem opAlciaSend_queues {c : Source} {b : Bytes} (hb : UserFrame b) (hfl : getN b 4 2 = 5) (h1 : (s.alPort 0).state = 1)
    (hroom : ((s.alPort 0).tx.filter (·.kind == 0)).length < 32) :
    opAlciaSend c b s = .ok ((s.modAlcia fun a => { a with handle := (a.handle + 1) % 4294967296 }).alPut 0
      { ident := getN b 0 4 + s.alAddr, kind := 0, src := some c, fdf := true, brs := false, data := b.drop 8, handle := s.alcia.handle % 4294967296 })
      (le 4 s.alcia.handle) := by
  obtain ⟨haddr, hid, hlow, hhigh, hcls, hlen⟩ := hb
  have hports : ([0, 1].filter fun p => Nat.testBit 1 p) = [0] := by decide
  have h1' : ((s.modAlcia fun a => { a with handle := (a.handle + 1) % 4294967296 }).alPort 0).state = 1 := h1
  have hbrs : Nat.testBit 5 1 = false := by decide
  have hid' : ¬536870912 ≤ getN b 0 4 := by omega
  have hcls' : ¬identClass (getN b 0 4) ≤ 1 := by omega
  simp [opAlciaSend, hfl, haddr, hid', Nat.not_lt.2 hlow, hcls', hlen, hports, Nat.not_le.2 hhigh, h1, Nat.not_le.2 hroom, h1', hbrs]

theorem opAlciaSend_reserved {c : Source} {b : Bytes} (h : getN b 0 4 % 4096 ≠ 0) : opAlciaSend c b s = .no s eRange := if_pos (.inl h)

theorem opNetworkStatus_eq {b : Bytes} (h : getN b 0 1 ≤ 1) : ∃ d : Bytes, opNetworkStatus b s = .ok s d ∧
    d.take 1 = le 1 (s.alPort (getN b 0 1)).state ∧ (d.drop 4).take 2 = le 2 s.alAddr := by
  refine ⟨_, if_neg (Nat.not_lt.2 h), ?_, ?_⟩
  · simp only [List.append_assoc]
    rfl
  · simp only [List.append_assoc]
    rfl

section
variable (hu : s.upTo t = u) {c : Source} {q : Nat} {p : Bytes}
include hu

theorem execAlciaSend_queues (hs : u.takes c 0x0805 p) (hb : UserFrame p) (hfl : getN p 4 2 = 5) (h1 : (u.alPort 0).state = 1)
    (hroom : ((u.alPort 0).tx.filter (·.kind == 0)).length < 32) : exec (.alciaSend t c q p) s =
      .next ((((u.charged c).modAlcia fun a => { a with handle := (a.handle + 1) % 4294967296 }).alPut 0
        { ident := getN p 0 4 + u.alAddr, kind := 0, src := some c, fdf := true, brs := false, data := p.drop 8, handle := u.alcia.handle % 4294967296 }).answered
          c q (le 4 u.alcia.handle)) := by
  subst hu
  have hop := opAlciaSend_queues (s := (s.upTo t).charged c) (c := c) hb hfl (by simpa using h1) (by simpa using hroom)
  rw [State.charged_alAddr, State.charged_alcia] at hop
  exact runOp_of_ok (h := opAlciaSend c p) hs hop ((State.alPut_held (State.modAlcia_held (State.Keeps.held _))).credits_le c)

theorem execAlciaSend_reserved (hs : u.takes c 0x0805 p) (h : getN p 0 4 % 4096 ≠ 0) :
    exec (.alciaSend t c q p) s = .next ((u.charged c).reject c q eRange) := by
  subst hu
  exact runOp_of_no (h := opAlciaSend c p) hs (opAlciaSend_reserved h) (by decide)

theorem execNetworkStatus_answers (hs : u.takes c 0x0804 p) (h : getN p 0 1 ≤ 1) : ∃ d : Bytes,
    exec (.networkStatus t c q p) s = .next ((u.charged c).answered c q d) ∧
      d.take 1 = le 1 (u.alPort (getN p 0 1)).state ∧ (d.drop 4).take 2 = le 2 u.alAddr := by
  subst hu
  obtain ⟨d, hop, hst, had⟩ := opNetworkStatus_eq (s := (s.upTo t).charged c) h
  rw [State.charged_alPort] at hst
  rw [State.charged_alAddr] at had
  exact ⟨d, runOp_of_ok (h := opNetworkStatus p) hs hop (Nat.le_refl _), hst, had⟩

end

/-! ### Frames and errors of a port, at the state with the next reply segment in its buffer (R495, R496, R505) -/

section
variable (hu : (s.upTo t).alPump = u) {p : Fin 2}
include hu

theorem exec_alciaFrameRx {f : CanFrame} (hon : u.alOn = true) (h0 : (u.alPort p).state ≠ 0) (h3 : (u.alPort p).state ≠ 3)
    (herr : (u.alPort p).rxErr ≤ 127) (hext : f.extended = true) (hrem : f.remote = false) :
    exec (.alciaFrameRx t p f) s = .next ((((u.modAl p fun x => { x with rxErr := x.rxErr - 1 }).modAl p fun x =>
      { x with rxN := (x.rxN + 1) % 4294967296 }).frameRx p f).alPump) := by
  have hgate : (!u.alOn || (u.alPort p).state == 0 || (u.alPort p).state == 3) = false := by simp [hon, h0, h3]
  change execAlciaFrameRx t p f s = _
  simp only [execAlciaFrameRx, hu, hgate, Bool.false_eq_true, if_false, if_neg (Nat.not_lt.2 herr), hext, hrem, Bool.not_true, Bool.or_false]

theorem exec_alciaFrameRx_inactive {f : CanFrame} (h0 : (u.alPort p).state = 0) : exec (.alciaFrameRx t p f) s = .next u := by
  subst hu
  exact congrArg Host.Outcome.next (if_pos (by rw [h0, beq_self_eq_true, Bool.or_true, Bool.true_or]))

theorem exec_alciaFrameTxDone {g : TxFrame} {sof : Tick} (hon : u.alOn = true) (hg : u.alHead p sof = some g) (hk : g.kind = 0) (hb : g.brs = false) :
    exec (.alciaFrameTxDone t p sof) s =
      .next ((((u.modHead p sof fun _ => none).modAl p fun x =>
        { x with tec := x.tec - 1, txN := (x.txN + 1) % 4294967296, tx := restart x.tx }).txDone p { g with attempts := g.attempts + 1 } 0 sof)) := by
  change execAlciaFrameTxDone t p sof s = _
  simp only [execAlciaFrameTxDone, hu, hon, hg, hk, hb, Bool.not_true, Bool.false_eq_true, false_and, if_false]

theorem exec_alciaFrameTxDone_none {sof : Tick} (hon : u.alOn = true) (hg : u.alHead p sof = none) :
    exec (.alciaFrameTxDone t p sof) s = .next u := by
  change execAlciaFrameTxDone t p sof s = _
  simp only [execAlciaFrameTxDone, hu, hon, hg, Bool.not_true, Bool.false_eq_true, if_false]

/-- A receive error raises the receive error counter alone: the port keeps its transmit error counter, so it is not bus-off (R496, R518). -/
theorem exec_alciaTxError_receive {dom : Bool} {sof : Tick} (hon : u.alOn = true) (h0 : (u.alPort p).state ≠ 0) (h3 : (u.alPort p).state ≠ 3)
    (htec : (u.alPort p).tec ≤ 255) : exec (.alciaTxError t p ⟨.receive dom, sof⟩) s =
      .next ((u.modAl p fun x => { x with errors := (x.errors + 1) % 4294967296 }).modAl p fun x =>
        { x with rxErr := min 255 (x.rxErr + if dom then 8 else 1) }) := by
  have hgate : ¬((!u.alOn || (u.alPort p).state == 0 || (u.alPort p).state == 3) = true) := by simp [hon, h0, h3]
  subst hu
  refine congrArg Host.Outcome.next ((if_neg hgate).trans (if_neg ?_))
  rw [State.alPort_modAl _ p.isLt, if_pos rfl, State.alPort_modAl _ p.isLt, if_pos rfl]
  exact fun h => absurd h.1 (Nat.not_lt.2 htec)

end

/-! ### The timers of a port (R517, R518, R520) -/

section
variable (hu : s.upTo t = u) {p : Fin 2}
include hu

theorem exec_busOffRecovery (hon : u.alOn = true) (h3 : (u.alPort p).state = 3) (ht : (u.alPort p).busOffAt + 1408 * u.nomQ p * 5 / 4 ≤ u.time) :
    exec (.busOffRecovery t p) s = .next ((u.modAl p fun x => { x with tec := 0, rxErr := 0, tx := restart x.tx }).setAl p 1) := by
  subst hu
  exact congrArg Host.Outcome.next (if_pos (by rw [hon, h3, decide_eq_true ht]; rfl))

theorem exec_busOffRecovery_on (h3 : (u.alPort p).state ≠ 3) : exec (.busOffRecovery t p) s = .next u := by
  subst hu
  exact congrArg Host.Outcome.next (if_neg (by rw [beq_false_of_ne h3, Bool.and_false]; exact Bool.false_ne_true))

theorem exec_probeSend (hon : u.alOn = true) (h2 : (u.alPort p).state = 2) (hnone : ∀ f ∈ (u.alPort p).tx, identCode f.ident ≠ 0x0FF)
    (ht : (u.alPort p).probeAt + 1000000 ≤ u.time) :
    exec (.probeSend t p) s = .next ((u.modAl p fun x => { x with probeAt := u.time }).alPut p
      { ident := mkIdent 31 0x0FF u.alAddr, kind := 1, data := [] }) := by
  have hms : msTicks 10 = 1000000 := rfl
  have hany : ((u.alPort p).tx.any fun f => identCode f.ident == 0x0FF) = false := by
    rw [List.any_eq_false]
    exact fun f hf => by rw [beq_iff_eq]; exact hnone f hf
  subst hu
  exact congrArg Host.Outcome.next (if_pos (by rw [hon, h2, hany, hms, decide_eq_true ht]; rfl))

theorem exec_addrClaimSend (hon : u.alOn = true) (hc : u.alcia.claiming = true) (hsent : u.alcia.claimSent = none)
    (ht : u.alcia.claimAt + (msTicks 1 + serialNo / 2 ^ (10 * u.alcia.claimK) % 1024 * usTicks 100) ≤ u.time) (h0 : (u.alPort 0).state = 4)
    (htx : (u.alPort 0).tx = []) : exec (.addrClaimSend t) s =
      .next (let v := u.alPut 0 { ident := mkIdent 1 0x007 (u.alSeg * 64), kind := 1, data := le 2 u.alAddr ++ le 2 0 ++ Config.serial.toList }
        if (v.alPort 1).state = 4 ∧ !((v.alPort 1).tx.any fun f => identCode f.ident == 0x007) then
          v.alPut 1 { ident := mkIdent 1 0x007 (v.alSeg * 64), kind := 1, data := le 2 v.alAddr ++ le 2 0 ++ Config.serial.toList } else v) := by
  change execAddrClaimSend t s = _
  simp only [execAddrClaimSend, hu, hon, hc, hsent, decide_eq_true ht, Option.isNone_none, Bool.and_true, if_true, List.foldl_cons, List.foldl_nil, h0, htx,
    List.any_nil, Bool.not_false, and_self]

theorem exec_addrClaimDecision {a : Tick} (hon : u.alOn = true) (hc : u.alcia.claiming = true) (hsent : u.alcia.claimSent = some a) (ht : a + 5000100 ≤ t) :
    exec (.addrClaimDecision t) s = .next (u.claimEnd (!u.alcia.claimLow)) := by
  have hms : msTicks 50 = 5000000 := rfl
  have hdue : due (a + msTicks 50) t = true := by rw [due_iff, hms]; omega
  change execAddrClaimDecision t s = _
  simp only [execAddrClaimDecision, hu, hon, hc, hsent, hdue, Bool.and_true, if_true]

end

end Sys2Proof.Machine

namespace Sys2Proof.Proofs
open Sys2Proof.Machine

/-- Settles O34: a legal user frame to port 0 passes every check of its opcode; the status is read off the state. -/
theorem networkCommands : Obligations.NetworkCommands := by
  intro t c q p s
  exact ⟨fun hs haddr hid hfl hlow hhigh hcls hlen => execAlciaSend_queues rfl hs ⟨haddr, hid, hlow, hhigh, hcls, hlen⟩ hfl,
    execAlciaSend_reserved rfl, execNetworkStatus_answers rfl⟩

/-- Settles O35: each row by the state of its port; a receive error leaves the transmit error counter that decides bus-off. -/
theorem networkPortsAndFrames : Obligations.NetworkPortsAndFrames := by
  refine ⟨fun t p f sof dom s => ?_, fun t p s => ?_⟩
  · exact ⟨exec_alciaFrameRx rfl, exec_alciaFrameRx_inactive rfl, fun g => exec_alciaFrameTxDone rfl, exec_alciaFrameTxDone_none rfl,
      exec_alciaTxError_receive rfl⟩
  · exact ⟨exec_busOffRecovery rfl, exec_busOffRecovery_on rfl, exec_probeSend rfl,
      fun hon hc hsent ht h0 _ htx => exec_addrClaimSend rfl hon hc hsent ht h0 htx, fun a => exec_addrClaimDecision rfl⟩

end Sys2Proof.Proofs
end

section
/-! SUPPORT. An update session: its offer, its data, the verdict on its image and its end. -/
namespace Sys2Proof.Machine

variable {s u : State} {t : Tick} {c : Source} {op q : Nat} {p : Bytes}

/-! ### The opcodes on a state (R538 to R540) -/

/-- An offer without options opens a session and empties the slot of its kind (R539). -/
theorem opUpdateOffer_opens (h0 : getN p 0 4 = 0) (hh : hdrOk (p.drop 4) = true) :
    opUpdateOffer 4 q p s = .ok (((s.modUpd fun x => { x with
      session := 1, holder := 4, kind := getN p 8 1, header := p.drop 4, body := [], erased := 0, lastAt := s.stamp, late := false
      baudNext := none, offerAt := none }).modUpd fun x => { x with slots := x.emptied }).sessionEvent 0) := by
  have hk : getN (p.drop 4) 4 1 = getN p 8 1 := by simp [getN]
  simp [opUpdateOffer, optsOk, h0, hh, hk]

theorem opUpdateData_appends (h0 : getN p 4 4 = 0) (hoff : getN p 0 4 = 512 + s.upd.body.length)
    (hlen : 512 + s.upd.body.length + (p.drop 8).length ≤ hdrSize s.upd.header) :
    opUpdateData p s = .ok (s.modUpd fun x => { x with body := x.body ++ p.drop 8 }) (le 4 (512 + s.upd.body.length + (p.drop 8).length)) :=
  (if_neg (not_not.2 h0)).trans ((if_neg (not_not.2 hoff)).trans (if_neg (Nat.not_lt.2 hlen)))

theorem opUpdateVerify_passes (h : s.verdict = 0) :
    opUpdateVerify s = .ok ((s.modUpd fun x => { x with
      session := 2
      slots := vmod x.slots (2 * s.upd.kind + (1 - s.bootRec.bit s.upd.kind)) fun _ => some { header := s.upd.header, body := s.upd.body } }).sessionEvent 1) :=
  if_neg (not_not.2 h)

theorem opUpdateVerify_fails (h : s.verdict ≠ 0) : opUpdateVerify s = .no (s.modUpd fun x => { x with session := 1, body := [] }) s.verdict := if_pos h

/-! ### Packets of a session -/

@[simp] theorem State.charged_body (c : Source) : (s.charged c).upd.body = s.upd.body := by rw [s.charged_eq c]
@[simp] theorem State.charged_verdict (c : Source) : (s.charged c).verdict = s.verdict := by rw [s.charged_eq c]; rfl

/-- A packet to which nothing is objected meets no session of another holder (R538). -/
theorem State.updBusy_of_objection (h : s.objection op c p = none) (hlo : 0x0902 ≤ op) : s.updBusy op 4 = none := by
  have hbusy : s.busyFor op c p = s.updBusy op 4 := by
    have h7 : (op == 0x0700 || (op == 0x0704 && getN p 0 1 == 1)) = false := by
      rw [beq_false_of_ne (by omega : op ≠ 0x0700), beq_false_of_ne (by omega : op ≠ 0x0704)]; rfl
    rw [State.busyFor, h7, Bool.and_false, if_neg Bool.false_ne_true, if_neg (by rw [beq_iff_eq]; omega)]
  rw [← hbusy]
  cases hb : s.busyFor op c p with
  | none => rfl
  | some d =>
    unfold State.objection at h
    simp only [hb] at h
    repeat' split at h
    all_goals exact nomatch h

/-- An offer that is admitted ends no relayed session of the same tick: none is open (R543). -/
theorem State.offerTie_of_objection (h : s.objection 0x0902 c p = none) : s.offerTie = s := by
  have hbusy := State.updBusy_of_objection h le_rfl
  unfold State.offerTie
  split
  · refine if_neg fun ⟨_, h1, h5⟩ => ?_
    simp [State.updBusy, State.updOther, h1, h5] at hbusy
  · rfl

/-- An admitted packet of the service port that no relay takes is carried out by its opcode. -/
theorem State.submitUpd_of_takes (hs : s.takes c op p) (hr : ¬(s.upd.session = 3 ∧ 0x0903 ≤ op)) (hodd : ¬(op = 0x0902 ∧ getN p 0 4 % 2 = 1)) :
    s.submitUpd c op q p =
      let r := opUpdate op 4 q p (s.charged c)
      let v := (r.st.queueReply c { status := r.status, seq := q, data := r.data }).lastUpd r.status
      if r.status = 0 then v else v.countReject := by
  obtain ⟨hl, hc, hn⟩ := hs
  have hk : (s.countPacket.port c).credits ≠ 0 := Nat.ne_of_gt hc
  have hf : ¬(c = .service ∧ (s.countPacket.takeCredit c).upd.session = 3 ∧ 0x0903 ≤ op) := fun h => hr h.2
  have hw : (s.countPacket.takeCredit c).noteRecv c = s.charged c := rfl
  have htie : (if op = 0x0902 then (s.charged c).offerTie else s.charged c) = s.charged c := by
    split
    case isTrue ho => subst ho; exact State.offerTie_of_objection ((s.charged_admit c c _ p).trans hn)
    case isFalse => rfl
  simp only [State.submitUpd, hl, hk, State.carryUpd, if_neg hf, hw, htie, s.charged_admit c, hn, hodd, Bool.not_true, Bool.false_eq_true, if_false]

section
variable (hu : s.upTo t = u)
include hu

theorem execUpdateOffer_opens (hs : u.takes .service 0x0902 p) (h0 : getN p 0 4 = 0) (hh : hdrOk (p.drop 4) = true) :
    exec (.updateOffer t .service q p) s = .next (((((u.charged .service).modUpd fun x => { x with
      session := 1, holder := 4, kind := getN p 8 1, header := p.drop 4, body := [], erased := 0, lastAt := u.stamp, late := false
      baudNext := none, offerAt := none }).modUpd fun x => { x with slots := x.emptied }).sessionEvent 0 |>.answered .service q).lastUpd 0) := by
  subst hu
  have hop := (opUpdate_offer (q := q) 4).trans (opUpdateOffer_opens (s := (s.upTo t).charged .service) (q := q) h0 hh)
  rw [State.charged_stamp] at hop
  refine congrArg Host.Outcome.next ((State.submitUpd_of_takes hs (fun h => absurd h.2 (by decide)) (fun h => ?_)).trans ?_)
  · rw [h0] at h
    exact absurd h.2 (by decide)
  · rw [hop]
    rfl

theorem execUpdateData_appends (hs : u.takes .service 0x0903 p) (hr : u.upd.session ≠ 3) (h0 : getN p 4 4 = 0)
    (hoff : getN p 0 4 = 512 + u.upd.body.length) (hlen : 512 + u.upd.body.length + (p.drop 8).length ≤ hdrSize u.upd.header) :
    exec (.updateData t .service q p) s = .next ((((u.charged .service).modUpd fun x => { x with body := x.body ++ p.drop 8 }).answered .service q
      (le 4 (512 + u.upd.body.length + (p.drop 8).length))).lastUpd 0) := by
  subst hu
  have hop := opUpdateData_appends (s := (s.upTo t).charged .service) h0 (by simpa only [State.charged_body] using hoff)
    (by simpa only [State.charged_body, State.charged_header] using hlen)
  rw [State.charged_body] at hop
  exact congrArg Host.Outcome.next (State.submitUpd_of_ok hs hr (by decide) hop)

theorem execUpdateData_relayed (hl : u.listens = true) (hc : 0 < (u.port .service).credits) (h3 : u.upd.session = 3) :
    exec (.updateData t .service q p) s = .next ((u.charged .service).forward 0x0903 q p) := by
  subst hu
  refine congrArg Host.Outcome.next ((if_neg (by rw [hl]; decide)).trans ((if_neg (Nat.ne_of_gt hc)).trans (if_pos ?_)))
  exact ⟨rfl, h3, le_rfl⟩

theorem execUpdateVerify_passes (hs : u.takes .service 0x0904 p) (hr : u.upd.session ≠ 3) (hv : u.verdict = 0) :
    exec (.updateVerify t .service q p) s = .next (((((u.charged .service).modUpd fun x => { x with
      session := 2
      slots := vmod x.slots (2 * x.kind + (1 - u.bootRec.bit x.kind)) fun _ => some { header := x.header, body := x.body } }).sessionEvent 1).answered
        .service q).lastUpd 0) := by
  subst hu
  have hop := opUpdateVerify_passes (s := (s.upTo t).charged .service) (by simpa only [State.charged_verdict] using hv)
  rw [State.charged_bootRec] at hop
  exact congrArg Host.Outcome.next (State.submitUpd_of_ok hs hr (by decide) hop)

theorem execUpdateVerify_fails (hs : u.takes .service 0x0904 p) (hr : u.upd.session ≠ 3) (hv : u.verdict ≠ 0) :
    exec (.updateVerify t .service q p) s = .next (((((u.charged .service).modUpd fun x => { x with session := 1, body := [] }).queueReply .service
      { status := u.verdict, seq := q }).lastUpd u.verdict).countReject) := by
  subst hu
  have hop := opUpdateVerify_fails (s := (s.upTo t).charged .service) (by simpa only [State.charged_verdict] using hv)
  rw [State.charged_verdict] at hop
  have hop' : opUpdate 0x0904 4 q p ((s.upTo t).charged .service) = _ := hop
  refine congrArg Host.Outcome.next ((State.submitUpd_of_takes hs (fun h => hr h.1) (fun h => absurd h.1 (by decide))).trans ?_)
  rw [hop']
  exact if_neg hv

theorem execUpdateAbort_closes (hs : u.takes .service 0x0906 p) (hr : u.upd.session ≠ 3) :
    exec (.updateAbort t .service q p) s =
      .next (((((u.charged .service).sessionEvent 2).closeSession false).answered .service q).lastUpd 0) := by
  subst hu
  exact congrArg Host.Outcome.next (State.submitUpd_of_ok hs hr (by decide) rfl)

end

end Sys2Proof.Machine

namespace Sys2Proof.Proofs
open Sys2Proof.Machine

/-- Settles O32: no packet of a session that is admitted meets another session, and each is carried out by its opcode. -/
theorem updateSession : Obligations.UpdateSession := by
  intro t q p s
  exact ⟨execUpdateOffer_opens rfl, execUpdateData_appends rfl, execUpdateVerify_passes rfl, execUpdateVerify_fails rfl, execUpdateAbort_closes rfl,
    execUpdateData_relayed rfl⟩

end Sys2Proof.Proofs
end
